-- ==== Sys2Proof/Word.lean ====
section
/-! DEFINITION. Words, bytes and sparse tables of the KY9632 model. -/
namespace Sys2Proof

/-- A 32-bit word of the direct window, of a mailbox message or of a keep word (R107, R118, R586). -/
abbrev Word := BitVec 32

/-- A byte of a wire format. -/
abbrev Byte := BitVec 8

/-- A sparse table: pairs of an index and an entry, indices rising. An index that is not listed has
the table's default entry. -/
abbrev Table (α : Type) := List (Nat × α)

end Sys2Proof
end

