-- ==== Sys2Proof/Syntax.lean ====
section
/-! DEFINITION. The commands of the block: one constructor of Instr for each row of spec/opcode_table.json,
with the operands that the spec's rules give the step. -/
namespace Sys2Proof

/-- A mailbox message as it stands in MSG0 to MSG15 of a channel (R118, R119): the channel, SEQ, the
reserved bits [7:5] of MSG0, LEN, and the words from word 1 on. The opcode is the row's own. On channel 3, `slot`
and `counter` are those of the payload that brought it (R137). -/
structure Msg where
  chan    : Nat
  seq     : Nat
  rsv     : Nat
  len     : Nat
  args    : List Word
  slot    : Nat
  counter : Nat
deriving DecidableEq, Repr

/-- The ports that write registers: MSP and SSP reach the direct window (R107, R116); the JTAG debug port,
the two complexes and the skim engine reach only their own mailbox channel. -/
inductive Port where
  | msp | ssp | debug | internal | skim
deriving DecidableEq, Repr

/-- A slot header or image header of the boot flash as it is read (R91, R100). `bodySha` is the SHA-256 of
the body as read, used for a firmware slot only (R92). -/
structure Header where
  magic   : Word
  version : Word
  sv      : Nat
  bodyLen : Nat
  sha     : BitVec 256
  pubKey  : BitVec 512
  sig     : BitVec 512
  bodySha : BitVec 256
deriving DecidableEq, Repr

/-- A Buruigus image: its header and its messages, each a list of words MSG0, MSG1, ... (R100). -/
structure Image where
  hdr  : Header
  msgs : List (List Word)
deriving DecidableEq, Repr

/-- What the boot flash answers (R87, R90): `answers` is false for a silent flash; `timely` is false when a
read does not complete within 10 ms (R103). -/
structure Flash where
  answers : Bool
  timely  : Bool
  slotA   : Option Header
  slotB   : Option Header
  area0   : Option Image
  area1   : Option Image
deriving DecidableEq, Repr

/-- What the boot ROM finds at the clock sources (R87, R509): XA running within 5 ms, XA running within 9.5 ms,
XB running within 9.5 ms, the count of XB edges over 4,096 FIO cycles, and whether TEST_EN is high. -/
structure BootClocks where
  xaBy5    : Bool
  xaBy95   : Bool
  xbBy95   : Bool
  xbCount  : Nat
deriving DecidableEq, Repr

/-- A channel 3 payload (R137). `tail` holds the last 4 of the 68 WORDS bytes. -/
structure PeerPayload where
  path    : Nat
  slot    : Nat
  dir     : Nat
  counter : Nat
  words   : List Word
  tail    : Word
  tag     : BitVec 128
deriving DecidableEq, Repr

/-- An 802.1Q tag as received. -/
structure Tag where
  vid : Nat
  pcp : Nat
  dei : Bool
deriving DecidableEq, Repr

/-- The fabric header of an encapsulated frame (R438). -/
structure FabHeader where
  ver      : Nat
  type     : Nat
  ttl      : Nat
  sc       : Nat
  plane    : Nat
  seqValid : Bool
  src      : Nat
  dst      : Nat
  handle   : Nat
  seq      : Nat
  epoch    : Nat
deriving DecidableEq, Repr

/-- A frame: addresses, tag, frame bytes, and the bytes behind the tag as far as the environment names them.
`fab` is its fabric header when it arrives encapsulated (R437); `da`, `sa`, `tag` and `len` are then those of
the carried frame, `outer` its length on the link. `secured` tells that it came through a verified MACsec
secure channel. -/
structure Frame where
  da      : Nat
  sa      : Nat
  tag     : Option Tag
  len     : Nat
  outer   : Nat
  fab     : Option FabHeader
  secured : Bool
  body    : List Byte
deriving DecidableEq, Repr

/-- How a frame comes off a port (R22, R219, R473): FCS check, and MACsec verification; and the forwarding entries, by address and
VID, that are found to hold an uncorrectable error at that time (R379). -/
structure Arrival where
  fcsOk    : Bool
  macsecOk : Bool
  fdbBad   : List (Nat × Nat)
deriving DecidableEq, Repr

/-- One reflection of a cable measurement: distance in 0.1 m, return loss in 0.5 dB, reflection coefficient in
thousandths (R235), and for a trunk whether its return loss varied by more than 3 dB (R324). -/
structure Reflection where
  dist   : Nat
  rl     : Nat
  rho    : Int
  varies : Bool
deriving DecidableEq, Repr

/-- What a Clause 98 exchange brought (R147 to R150): the partner's standard modes in ADV bit order, its
Halonny ability word when it sent one, its role bits, and which end wins a tie of preferences. -/
structure AnExchange where
  std      : Nat
  hal      : Option Nat
  forced   : Bool
  slave    : Bool
  weMaster : Bool
  eee      : Bool
deriving DecidableEq, Repr

/-- What happens on a channel in modes 0x1 to 0x5 (R143, R183, R219, R224): the training of its clause completes, with EEE
negotiated or not and the precoder that the partner's receiver requests, or fails; its partner's low-power idle starts or
ends; a wake error; FEC codewords decoded, with the symbols corrected and the uncorrectable codewords; a PHY OAM message. -/
inductive StdEvent where
  | trained (eee : Bool) (prec : Nat) | trainFail | lpiStart | lpiEnd | wakeError | fec (cw corr uncorr : Nat)
  | oam (body : List Byte)
deriving DecidableEq, Repr

/-- The wires of one trunk control record (R309). -/
inductive TrunkRecord where
  | status (ackBase : Nat) (map : List Bool)
  | ident (serial tick turn tr : Nat) (follower : Bool)
  | load (set : Nat) (codes : List Nat)
  | cls (c : Nat)
  | frame (at_ split : Nat) (aligned long : Bool) (c : Nat)
  | time (locked : Bool)
  | sound
  | reflect (at_ : Nat)
deriving DecidableEq, Repr

/-- A trunk link unit as it is handed to or taken from a codeword (R308). A DATA unit carries the frames that
end in it; `start` is START, 0xFFFF where no frame header begins in it; `carry` tells that the first of `frames` began in an
earlier unit. Bit k of `bad` tells that the k-th of `frames` fails its FCS check (R22). -/
structure Tlu where
  seq     : Nat
  kind    : Nat
  good    : Bool
  start   : Nat
  carry   : Bool
  frames  : List Frame
  records : List TrunkRecord
  bad     : Nat
deriving DecidableEq, Repr

/-- A received burst (R258, R288): slots, the set its pilots indicate, whether it is a training pair, measured
offset, SNR and up to 64 segment SNRs, clipping, and its TLUs. `rt` is RT of R299 in 1/64 sample. -/
structure Burst where
  slots   : Nat
  set     : Nat
  sound   : Bool
  freq    : Int
  snrAvg  : Int
  segSnr  : List Int
  clipped : Nat
  rt      : Nat
  tlus    : List Tlu
deriving DecidableEq, Repr

/-- A declared preamble (R281 to R284): the classes declared in the slot, arrival in 1/64 sample, offset in Hz,
frozen gain, whether a burst is being demodulated, whether it is a probe (a burst of one slot). -/
structure Preamble where
  classes : List Nat
  delay   : Int
  offset  : Int
  gain    : Nat
  inBurst : Bool
  probe   : Bool
deriving DecidableEq, Repr

/-- A set of training blocks received on the 8 lanes of a group (R332): per-lane LANE number, inversion and
skew, the stage, RX_READY, the partner's tap request, its status for the own request, and whether the CRCs are good. `tuned` tells
that the own receiver has finished TUNE on all 8 lanes. -/
structure LaneBlocks where
  crcOk   : Bool
  lanes   : List Nat
  invert  : List Bool
  skew    : List Nat
  stage   : Nat
  rxReady : Bool
  tuned   : Bool
  reqLane : Nat
  reqPre  : Nat
  reqPost : Nat
  preset  : Bool
  stLane  : Nat
  stPre   : Nat
  stPost  : Nat
deriving DecidableEq, Repr

/-- A lane packet as sent or received (R338). `frameBad` tells that the frame inside it fails its own FCS check (R22). -/
structure LanePacket where
  hcrcOk   : Bool
  crcOk    : Bool
  type     : Nat
  sc       : Nat
  evid     : Bool
  replay   : Bool
  len      : Nat
  seq      : Nat
  ackType  : Nat
  ackSeq   : Nat
  crSc     : Nat
  crGrant  : Nat
  port     : Nat
  spoolSeq : Nat
  frame    : Option Frame
  words    : List Word
  frameBad : Bool
deriving DecidableEq, Repr

/-- One adjacency in a TOPO record (R450). -/
structure TopoLink where
  peer     : Nat
  port     : Nat
  peerPort : Nat
  boundary : Nat
  h        : Nat
deriving DecidableEq, Repr

/-- A TOPO record (R450). -/
structure TopoRec where
  serial : Nat
  seq    : Nat
  epoch  : Nat
  digest : Nat
  links  : List TopoLink
deriving DecidableEq, Repr

/-- The body of a HELLO (R448). -/
structure Hello where
  serial   : Nat
  fabricId : Nat
  digest   : Nat
  epoch    : Nat
  tick     : Nat
  port     : Nat
  boundary : Nat
  locked   : Bool
  macsec   : Bool
  h        : Nat
deriving DecidableEq, Repr

/-- A replicated-stream entry of the fabric configuration (R469, FABRIC_STAGE). -/
structure RepEntry where
  handle  : Nat
  src     : Nat
  dst     : Nat
  sc      : Nat
  history : Nat
  entry   : Nat
  reset   : Nat
deriving DecidableEq, Repr

/-- A fabric configuration: the POLICY word and the replicated-stream entries in rising HANDLE (R463). -/
structure FabConfig where
  policy  : Word
  entries : List RepEntry
deriving DecidableEq, Repr

/-- One line of a device's route table (R453): level 1 to 4, member index, plane, local egress root. -/
structure Route where
  level : Nat
  index : Nat
  plane : Nat
  root  : Nat
deriving DecidableEq, Repr

/-- What a ROUTE record brings one device (R454): its serial, path, tables, tree links, epoch, digest, T_c. -/
structure RouteRec where
  serial : Nat
  path   : Nat
  routes : List Route
  tree   : List Nat
  epoch  : Nat
  digest : Nat
  tc     : Nat
deriving DecidableEq, Repr

/-- A ROUTE record with the fabric link by which it comes (R454). -/
structure RouteIn where
  root : Nat
  route : RouteRec
deriving DecidableEq, Repr

/-- A KEY record but for the wrapped key: the fabric link by which it comes, the level, and the device for which it is (R474). -/
structure KeyIn where
  root   : Nat
  level  : Nat
  serial : Nat
deriving DecidableEq, Repr

/-- By which fabric link a PREPARE comes, with SRC_PATH and DST_PATH of its header (R438, R466). -/
structure PrepareIn where
  root : Nat
  src  : Nat
  dst  : Nat
deriving DecidableEq, Repr

/-- A COMMIT: the fabric link by which it comes, and its epoch (R466). -/
structure CommitIn where
  root  : Nat
  epoch : Nat
deriving DecidableEq, Repr

/-- An ABORT: the fabric link by which it comes, its epoch, and the return code with the path of the device that refused
(R466; log 21). -/
structure AbortIn where
  root    : Nat
  epoch   : Nat
  code    : Nat
  refuser : Nat
deriving DecidableEq, Repr

/-- A Sync with its Follow_Up (R457, R458): the fabric link by which it comes; the grandmaster's time at which it set out and the
correction added on the way, in ns; the rate of the grandmaster's clock against the sender's, in 0.005 ppm; and the place of
its event in the present tick, in ns. -/
structure SyncIn where
  root   : Nat
  origin : Int
  corr   : Int
  rate   : Int
  phase  : Nat
deriving DecidableEq, Repr

/-- What a peer-delay exchange measures (R458): the link delay in ns and the neighbour's rate against the own in 0.005 ppm. -/
structure PeerDelay where
  delay : Nat
  rate  : Int
deriving DecidableEq, Repr

/-- What an MKA frame says (R472, R473): the sender's SCI, and the key that it distributes, if any. -/
structure MkaIn where
  sci : Nat
  sak : Option Nat
deriving DecidableEq, Repr

/-- Where an uncorrectable error lies (R419), with its page: in the data of a stored frame, in a page that nothing uses,
or in the header of a spool entry. -/
inductive UeSite where
  | frame (id page : Nat)
  | free (page : Nat)
  | header (id page : Nat)
deriving DecidableEq, Repr

/-- A received training frame (R172): whether its delimiter is the mode's own, the 16 InfoField bytes and their 2 CRC
bytes, and what the own receiver found: converged on PAM2 (R175), equaliser done. -/
structure TrainingFrame where
  delimOk : Bool
  bytes   : List Byte
  eqDone  : Bool
  pamConv : Bool
deriving DecidableEq, Repr

/-- An access of one word by an SPI port (R110). -/
inductive SpiAccess where
  | read (addr : Nat)
  | write (addr : Nat) (data : Word)
deriving DecidableEq, Repr

/-- A word written in a transaction, and the access that the other SPI port makes in the same core cycle (R111). -/
structure RegWrite where
  data  : Word
  other : Option SpiAccess
deriving DecidableEq, Repr

/-- The commands of the block: one constructor for each row of spec/opcode_table.json, in its order, those
without operands last. Rows that are
mailbox commands take the message that brings them; event rows take what the environment supplies. -/
inductive Instr where
  | railReset (rails : Nat)  -- R55
  | bootRom (ck : BootClocks) (fl : Flash)  -- R87
  | cellarPhase (trained : Bool) (fl : Flash)  -- R94
  | tickOverrun (engine : Nat) (die : Nat) (finish : Nat)  -- R32
  | registerWrite (p : Port) (addr : Nat) (w : RegWrite)  -- R107, R111
  | tickLoRead (p : Port)  -- R112
  | mailboxGo (ch : Nat) (ctrl : Word)  -- R120
  | mailboxCancel (ch : Nat) (ctrl : Word)  -- R123
  | ackClr (ch : Nat) (data : Word)  -- R118
  | dbStatusClear (mask : Word) (events : Word)  -- R131
  | dbMaskWrite (mask : Word)  -- R132
  | dbTest (data : Word)  -- R130
  | clkoutChange (data : Word)  -- R526
  | messageSelect (south : Bool) (cancelLands : Bool) (fl : Flash)  -- R122
  | peerMessage (p : PeerPayload)  -- R138
  | echo (m : Msg)  -- R140
  | eventRead (m : Msg)  -- R134
  | stewardMove (m : Msg)  -- R36
  | deviceReset (m : Msg)  -- R82
  | peerKeySet (m : Msg)  -- R138
  | configLoad (m : Msg) (fl : Flash)  -- R103
  | rollbackAdvance (m : Msg)  -- R104
  | powerDomainSet (m : Msg)  -- R482
  | domainPowered (dom : Nat)  -- R484
  | powerEnter (m : Msg)  -- R495
  | wakeConfig (m : Msg)  -- R501
  | powerStatus (m : Msg)  -- R502
  | bankedResume (sleep : Nat)  -- R503
  | emberWake (sleep : Nat)  -- R504
  | hostLaneWakeDetect (g : Nat)  -- R501
  | clockPlan (m : Msg)  -- R516
  | clockStatus (m : Msg)  -- R518
  | clockGate (m : Msg)  -- R522
  | ppsConfig (m : Msg)  -- R529
  | pllLock (loop : Nat)  -- R511
  | pllUnlock (loop : Nat)  -- R519
  | clockStopDetect (src : Nat) (running : Bool) (xbCount : Nat)  -- R518
  | refDeviation (ppm : Int)  -- R519
  | ppsInCapture (cycle : Nat) (offset : Int)  -- R530
  | lineConfig (m : Msg)  -- R142
  | lineStatus (m : Msg)  -- R177
  | lineRetrain (m : Msg)  -- R178
  | lineOamSend (m : Msg)  -- R170
  | lineOamRead (m : Msg)  -- R187
  | bundleConfig (m : Msg)  -- R203
  | bundleStatus (m : Msg)  -- R205
  | rxAdaptConfig (m : Msg)  -- R197
  | rxStatus (m : Msg)  -- R199
  | rxTapsRead (m : Msg)  -- R199
  | lineCounters (m : Msg)  -- R221
  | lineQuality (m : Msg)  -- R223
  | lineWatchConfig (m : Msg)  -- R224
  | lineTdr (m : Msg)  -- R233
  | tdrComplete (ch : Nat) (partner : Bool) (refl : List Reflection)  -- R235
  | cableHealth (m : Msg)  -- R236
  | baselineCapture (ch : Nat)  -- R237
  | anPageRx (ch : Nat) (x : AnExchange)  -- R149
  | trainingFrameRx (ch : Nat) (f : TrainingFrame)  -- R173
  | lineTrainingTimeout (ch : Nat)  -- R177
  | bundleSurvey (bg : Nat)  -- R207
  | surveyComplete (bg : Nat) (noise : Int) (coupling : List Nat)  -- R208
  | joinSoftStartEnd (ch : Nat)  -- R210
  | sfmRx (ch : Nat) (markErr : Nat) (bytes : List Byte) (bad : Nat) (corr : Nat)  -- R159
  | oamMessageRx (ch : Nat) (blocks : List (Bool × List Byte))  -- R170
  | precoderSwitch (ch : Nat) (sf : Nat)  -- R171
  | precoderUpdate (ch : Nat) (later : Nat)  -- R193
  | resumeTimeout (ch : Nat)  -- R178
  | blwSaturation (ch : Nat)  -- R190
  | lpiEntry (ch : Nat)  -- R229
  | lpiRefresh (ch : Nat)  -- R179
  | lpiWake (ch : Nat)  -- R230
  | linkSleep (ch : Nat)  -- R180
  | wakeToneDetect (ch : Nat)  -- R182
  | lineWakeDetect (ch : Nat)  -- R232
  | linkDrop (ch : Nat) (criterion : Nat)  -- R224
  | lineChannelFault (ch : Nat) (code : Nat)  -- R226
  | quietPeriodEnd (root : Nat)  -- R535
  | dropConfig (m : Msg)  -- R241
  | dropStatus (m : Msg)  -- R247
  | dropCounters (m : Msg)  -- R250
  | plcaBeacon (ds : Nat)  -- R242
  | plcaOpportunityTimeout (ds : Nat)  -- R242
  | dropFrameRx (ds : Nat) (id : Nat) (collision : Bool) (arr : Arrival) (f : Frame)  -- R246
  | foreignBeaconRx (ds : Nat)  -- R248
  | coordConflictClear (ds : Nat)  -- R248
  | dropChannelFault (ds : Nat) (code : Nat)  -- R251
  | dropWakeDetect (ds : Nat)  -- R252
  | trunkSignalConfig (m : Msg)  -- R292
  | trunkSignalStatus (m : Msg)  -- R288
  | trunkLoadingRead (m : Msg)  -- R274
  | trunkSignalCounters (m : Msg)  -- R294
  | trunkConfig (m : Msg)  -- R301
  | trunkStatus (m : Msg)  -- R304
  | bypassSetPolicy (m : Msg)  -- R317
  | trunkKindle (m : Msg)  -- R322
  | kindlePatternSend (tr : Nat)  -- R321
  | trunkReflect (m : Msg)  -- R324
  | reflectComplete (tr : Nat) (echoes : Nat) (refl : List Reflection)  -- R324
  | trunkProbe (tr : Nat) (bit : Bool)  -- R302
  | relaySettleEnd (tr : Nat)  -- R319
  | preambleDetect (tr : Nat) (p : Preamble)  -- R281
  | halfPreamble (tr : Nat)  -- R285
  | missedBurst (tr : Nat)  -- R286
  | trunkBurstRx (tr : Nat) (b : Burst)  -- R289
  | trunkBurstTx (tr : Nat)  -- R310
  | loadingCompute (tr : Nat) (snr : List Int)  -- R274
  | classEvaluation (tr : Nat)  -- R306
  | soundRequest (tr : Nat)  -- R311
  | tluGapTimeout (tr : Nat)  -- R313
  | frameActivation (tr : Nat)  -- R298
  | trunkTrainingTimeout (tr : Nat)  -- R304
  | trunkLinkDrop (tr : Nat)  -- R314
  | trunkChannelFault (tr : Nat) (code : Nat)  -- R315
  | kindleEnergy (tr : Nat) (dbm : Int)  -- R323
  | kindleDetect (tr : Nat) (matched : Nat) (dbm : Int)  -- R323
  | kindleCorrelateTimeout (tr : Nat)  -- R323
  | hostConfig (m : Msg)  -- R334
  | hostStatus (m : Msg)  -- R342
  | hostCounters (m : Msg)  -- R352
  | hostPrbs (m : Msg)  -- R353
  | hostTrainingBlock (g : Nat) (b : LaneBlocks)  -- R334
  | hostTrainingTimeout (g : Nat)  -- R334
  | lanePacketRx (g : Nat) (p : LanePacket)  -- R340
  | nakRepeat (g : Nat)  -- R340
  | laneResend (g : Nat)  -- R341
  | hostRetrain (g : Nat) (cause : Nat)  -- R342
  | electricalIdleEntry (g : Nat)  -- R336
  | electricalIdleExit (g : Nat)  -- R337
  | sidebandPacket (g : Nat) (ctrl : Word) (words : List Word)  -- R347
  | spoolAck (g : Nat) (n : Nat)  -- R348
  | hostLaneFault (g : Nat) (code : Nat)  -- R349
  | frameArrival (port : Nat) (arr : Arrival) (f : Frame)  -- R20
  | frerRecoveryReset (handle : Nat)  -- R470
  | schedulerSelect (root : Nat)  -- R373
  | frameDeparture (root corrected : Nat)  -- R21
  | portBridgeConfig (m : Msg)  -- R358
  | vlanSet (m : Msg)  -- R355
  | fdbConfig (m : Msg)  -- R362
  | fdbEntry (m : Msg)  -- R359
  | fdbStatus (m : Msg)  -- R381
  | streamSet (m : Msg)  -- R364
  | nodeSet (m : Msg)  -- R370
  | queueSet (m : Msg)  -- R378
  | queueFlush (m : Msg)  -- R377
  | queueStats (m : Msg)  -- R381
  | rootSet (m : Msg)  -- R390
  | shaperSet (m : Msg)  -- R387
  | shaperRead (m : Msg)  -- R388
  | policerSet (m : Msg)  -- R393
  | policerStats (m : Msg)  -- R396
  | gateListWrite (m : Msg)  -- R397
  | gateListCommit (m : Msg)  -- R399
  | guaranteeSet (m : Msg)  -- R402
  | guaranteeStatus (m : Msg)  -- R401
  | spoolConfig (m : Msg)  -- R416
  | spoolStatus (m : Msg)  -- R428
  | spoolReplay (m : Msg)  -- R429
  | spoolReplayStart (g : Nat)  -- R429
  | replayPlace (g : Nat)  -- R430
  | cellarStatus (m : Msg)  -- R420
  | cellarUe (site : UeSite)  -- R419
  | patrolScrub (pages : Nat) (corrected : Nat) (bad : Option UeSite)  -- R421
  | fabricSetIdentity (m : Msg)  -- R436
  | fabricLinkSet (m : Msg)  -- R435
  | fabricStatus (m : Msg)  -- R596
  | fabricStage (m : Msg)  -- R463
  | fabricPrepare (m : Msg)  -- R466
  | frerStatus (m : Msg)  -- R470
  | helloSend (root : Nat)  -- R448
  | helloRx (root : Nat) (h : Hello)  -- R449
  | adjacencyExpiry (root : Nat)  -- R449
  | topoRx (root : Nat) (r : TopoRec)  -- R450
  | routeRx (r : RouteIn)  -- R454
  | keyRx (k : KeyIn) (wrapped : BitVec 320)  -- R474
  | syncRx (y : SyncIn)  -- R459
  | prepareRx (epoch : Nat) (digest : Nat) (act : Nat) (origin : PrepareIn) (cfg : FabConfig)  -- R466
  | prepAckRx (path : Nat) (code : Nat)  -- R466
  | commitRx (c : CommitIn)  -- R466
  | abortRx (a : AbortIn)  -- R466
  | catchupReqRx (root : Nat)  -- R467
  | catchupRx (epoch : Nat) (digest : Nat) (cfg : FabConfig)  -- R467
  | mkaFrameRx (root : Nat) (ckn : Word) (icvOk : Bool) (k : MkaIn)  -- R473
  | fatalFault (code : Nat) (unit : Nat) (detail : Word)  -- R541
  | faultStatus (m : Msg)  -- R538
  | faultClear (m : Msg)  -- R540
  | faultConfig (m : Msg)  -- R535
  | faultInject (m : Msg)  -- R599
  | thermalSet (m : Msg)  -- R552
  | thermalStatus (m : Msg)  -- R549
  | temperatureReading (readings : List (Option Int))  -- R548
  | thermalWarnConfirm (sensor : Nat)  -- R551
  | thermalWarnClear (sensor : Nat)  -- R549
  | thermalDamp (sensor : Nat)  -- R549
  | sensorLost (sensor : Nat)  -- R553
  | sensorRecover (sensor : Nat)  -- R553
  | dinConfig (m : Msg)  -- R559
  | dinStatus (m : Msg)  -- R556
  | dinSample (a : Nat) (b : Nat)  -- R555
  | dinChange (i : Nat)  -- R556
  | dinDiscrepancy (i : Nat)  -- R557
  | dinDiscrepancyClear (i : Nat)  -- R558
  | dinHearthSample (a : Nat) (b : Nat)  -- R560
  | referenceSlice (vref : List Int) (rset : List Int)  -- R563
  | calSlice (unit : Nat) (aborted : Bool) (trims : BitVec 16) (temp : Int)  -- R565
  | calStale (unit : Nat)  -- R569
  | calConfig (m : Msg)  -- R567
  | calStatus (m : Msg)  -- R569
  | calCommit (m : Msg)  -- R593
  | selftestRun (m : Msg)  -- R575
  | selftestUnitEnd (unit : Nat) (check : Nat)  -- R573
  | selftestResult (m : Msg)  -- R573
  | skimConfig (m : Msg)  -- R578
  | skimStatus (m : Msg)  -- R579
  | skimSlice (unit : Nat) (aborted : Bool) (check : Nat)  -- R578
  | skimOverdue (unit : Nat)  -- R579
  | keepWrite (m : Msg)  -- R589
  | keepStatus (m : Msg)  -- R591
  | lifecycleTokenLoad (m : Msg)  -- R583
  | lifecycleAdvance (m : Msg)  -- R584
  | fuseInstruction (hash : BitVec 256)  -- R582
  | standardTraining (ch : Nat) (e : StdEvent)  -- R143
  | peerDelayExchange (root : Nat) (d : PeerDelay)  -- R458
  | powerOnReset  -- R82
  | vdde18Collapse  -- R56
  | pinReset  -- R64
  | hearthBrownout  -- R82
  | resetRelease  -- R80
  | configReplay  -- R102
  | trainingPhase  -- R96
  | readinessPhase  -- R94
  | tickEdge  -- R23
  | tickCommit  -- R25
  | clkoutChangeEnd  -- R527
  | powerEntryStep  -- R495
  | emberRailFail  -- R504
  | sioTimerWake  -- R501
  | refSwitchComplete  -- R515
  | forcedFailover  -- R520
  | nmiHandler  -- R521
  | ppsPulse  -- R529
  | ppsPulseEnd  -- R529
  | frameClassify  -- R20
  | topoSend  -- R450
  | leaderElection  -- R452
  | routeSend  -- R454
  | fabricCommitTick  -- R454
  | syncSend  -- R457
  | prepareDeadline  -- R466
  | fabricConfigActivate  -- R466
  | catchupApply  -- R467
  | selftestGroupStart  -- R572
  | keepWordComplete  -- R589
  | steeringStop  -- R530
deriving DecidableEq, Repr

end Sys2Proof
end

