-- ==== Sys2Proof/Machine/Bits.lean ====
section
/-! DEFINITION. Bit fields, two's complement and byte order (R4, R5). -/
namespace Sys2Proof
namespace Machine

/-- The field of `w` bits that starts at bit `lo`. -/
def fld (x lo w : Nat) : Nat := (x >>> lo) % 2 ^ w

/-- Bit `i` of `x`. -/
def bit (x i : Nat) : Bool := fld x i 1 == 1

/-- 1 for true. -/
def b2n (b : Bool) : Nat := cond b 1 0

/-- A number as a 32-bit word. -/
def w32 (n : Nat) : Word := BitVec.ofNat 32 n

/-- Fields put together from bit 0 upwards, each a width and a value. -/
def pack : List (Nat × Nat) → Nat
  | [] => 0
  | (w, v) :: t => v % 2 ^ w + 2 ^ w * pack t

/-- The fields of the given widths, from bit 0 upwards. -/
def unpack : List Nat → Nat → List Nat
  | [], _ => []
  | w :: ws, n => n % 2 ^ w :: unpack ws (n / 2 ^ w)

/-- A word put together from fields. -/
def packW (l : List (Nat × Nat)) : Word := w32 (pack l)

/-- Bits [31:0] and [63:32] of a 64-bit value, low word first (R5). -/
def lohi (n : Nat) : List Word := [w32 n, w32 (n >>> 32)]

/-- A 64-bit value from its two words. -/
def ofLohi (lo hi : Word) : Nat := lo.toNat + 2 ^ 32 * hi.toNat

/-- A signed value in two's complement of `w` bits. -/
def ofInt (w : Nat) (x : Int) : Nat := (x % (2 ^ w : Nat)).toNat

/-- The signed value of a two's complement field of `w` bits. -/
def toInt (w n : Nat) : Int :=
  if n % 2 ^ w < 2 ^ (w - 1) then (n % 2 ^ w : Nat) else (n % 2 ^ w : Nat) - (2 ^ w : Nat)

/-- Division rounding up. -/
def ceilDiv (a b : Nat) : Nat := (a + b - 1) / b

/-- Saturation at a largest value. -/
def satTo (m n : Nat) : Nat := if n ≤ m then n else m

/-- A 16-bit counter that saturates. -/
def sat16 (n : Nat) : Nat := satTo 0xFFFF n

/-- A 32-bit counter that saturates. -/
def sat32 (n : Nat) : Nat := satTo 0xFFFFFFFF n

/-- A 64-bit counter that wraps. -/
def wrap64 (n : Nat) : Nat := n % 2 ^ 64

/-- A 32-bit counter that wraps. -/
def wrap32 (n : Nat) : Nat := n % 2 ^ 32

/-- The `k` bytes of a number, least significant first. -/
def leBytes : Nat → Nat → List Byte
  | 0, _ => []
  | k + 1, n => BitVec.ofNat 8 n :: leBytes k (n >>> 8)

/-- The number whose bytes, least significant first, are given. -/
def ofLe : List Byte → Nat
  | [] => 0
  | b :: t => b.toNat + 256 * ofLe t

/-- The `k` bytes of a number, most significant first. -/
def beBytes (k n : Nat) : List Byte := (leBytes k n).reverse

/-- The number whose bytes, most significant first, are given. -/
def ofBe (l : List Byte) : Nat := ofLe l.reverse

/-- Bytes packed into words, lowest byte first. -/
def bytesToWords : Nat → List Byte → List Word
  | 0, _ => []
  | n + 1, l => match l with
    | [] => []
    | _ :: _ => w32 (ofLe (l.take 4)) :: bytesToWords n (l.drop 4)

/-- Bytes packed into exactly `n` words, lowest byte first. -/
def padWords : Nat → List Byte → List Word
  | 0, _ => []
  | n + 1, l => w32 (ofLe (l.take 4)) :: padWords n (l.drop 4)

/-- A mask with the listed bits set. -/
def maskOf : List Nat → Nat
  | [] => 0
  | i :: t => (2 ^ i) ||| maskOf t

/-- The mask of the indices at which a list holds true. -/
def maskBits : List Bool → Nat
  | [] => 0
  | b :: t => b2n b + 2 * maskBits t

/-- The set bits of a mask below `n`, rising. -/
def bitsOf (n x : Nat) : List Nat := (List.range n).filter (fun i => bit x i)

/-- Bit `i` of a mask set or cleared. -/
def setBit (x i : Nat) (v : Bool) : Nat :=
  if bit x i == v then x else if v then x + 2 ^ i else x - 2 ^ i

/-- How many bits below `n` are set. -/
def popCount (n x : Nat) : Nat := (bitsOf n x).length

end Machine
end Sys2Proof
end

