-- ==== Sys2Proof/Config.lean ====
section
/-! DEFINITION. What an implementation fixes and what the spec leaves open: every constant here is opaque, so a
claim holds whatever it is. A measured value depends on the unit and on the plain stamp that State keeps. -/
namespace Sys2Proof
namespace Config

/-- The correlation of the slicer error with a tap's input, averaged over the symbols of a tick, in 2^-30 (R195; log 6):
channel, tap set (0 echo, 1 FFE, 2 DFE, 3 to 6 the bundle section of aggressor 0 to 3), index, tick. -/
opaque corr : Nat → Nat → Nat → Nat → Int

/-- The slicer SNR that a Clause 149 precoder gives in training, in 0.1 dB (R194; log 6): channel, precoder, tick. -/
opaque stdPrecSnr : Nat → Nat → Nat → Int

/-- The slicer SNR of a line channel in a tick, in 0.1 dB (R222, RX_STATUS; log 6). -/
opaque lineSnr : Nat → Nat → BitVec 16

/-- The received frequency offset of a line channel, in 0.01 ppm (RX_STATUS; log 6). -/
opaque lineFreq : Nat → Nat → BitVec 16

/-- The baseline wander correction of a line channel (RX_STATUS; log 6). -/
opaque lineBlw : Nat → Nat → BitVec 16

/-- The PGA gain set at the start of a training, in 0.25 dB (R189; log 6). -/
opaque linePga : Nat → Nat → Fin 97

/-- The receive sampling phase of a line channel, in 1/64 UI (RX_STATUS; log 6). -/
opaque linePhase : Nat → Nat → BitVec 6

/-- The peaks that a search finds in echo taps (R236; log 6), from the mode, the echo and FFE taps and the PGA gain: the
position in 1/256 symbol, interpolated between taps, the return loss in 0.5 dB, corrected for the cable's loss, and the
reflection coefficient in 1/1000. -/
opaque echoPeaks : Nat → List Int → List Int → Nat → List (Nat × Nat × Int)

/-- The present cancellation depth of a bundle section, in 0.5 dB (BUNDLE_STATUS; log 6): group, victim,
aggressor, stamp. -/
opaque bundleDepth : Nat → Nat → Nat → Nat → BitVec 8

/-- The bits that the lanes of a group bring in STATE TEST: group, number of the test, lane, bit (R353; log 15). -/
opaque prbsRx : Nat → Nat → Nat → Nat → Bool

/-- The bytes of a frame that the environment does not name: the frame and the place in it (log 15). -/
opaque frameRest : Frame → Nat → Byte

/-- ECDSA P-256 verification: public key, SHA-256 of the message, signature (R92, R583; log 7). -/
opaque ecdsaVerify : BitVec 512 → BitVec 256 → BitVec 512 → Bool

/-- AES key unwrap of RFC 3394 under a 256-bit key: none where its integrity check fails (R474; log 7). -/
opaque aesUnwrap : BitVec 256 → BitVec 320 → Option (BitVec 256)

/-- AES key wrap of RFC 3394 under a 256-bit key (R474; log 7). -/
opaque aesWrap : BitVec 256 → BitVec 256 → BitVec 320

/-- The secure association key that a key server generates (R473; log 68): egress root and tick. -/
opaque newSak : Nat → Nat → Nat

/-- The association number under which a key is used (R472; log 68). -/
opaque secAn : Nat → Fin 4

/-- GCM-AES-256 of IEEE 802.1AE (R472; log 7): key, packet number, SCI, what is authenticated only, what is enciphered, and the place
in the output, whose last 16 bytes are the ICV. -/
opaque gcmByte : Nat → Nat → List Byte → List Byte → List Byte → Nat → Byte

/-- The random session key that a leader generates (R474; log 7): level and the tick of the election. -/
opaque sessionKey : Nat → Nat → BitVec 256

/-- The value a keep word holds after a write that a loss of VDDE18 cut off: true is the new value (R589; log 8). -/
opaque keepCut : Nat → Bool

/-- The identifier a master chooses for a coefficient set (R176; log 6). -/
opaque resumeId : Nat → Nat → BitVec 16

/-- Whether a fuse blow that the spec lets fail does fail (R104, R584; log 8). -/
opaque fuseBlowFails : Nat → Bool

/-- How many bits a failed anti-rollback blow blows before it fails (R104; log 8). -/
opaque fuseBlown : Nat → Nat

/-- The place of a forwarding entry in the cyclic order of the aging engine (R362; log 16): address and VID. -/
opaque fdbSlot : Nat → Nat → Fin 131072

/-- The trims that a full calibration measures (R568; log 6): unit and edge. -/
opaque calTrim : Nat → Nat → BitVec 16

/-- The die temperature at a full calibration, in whole degrees C + 64 (R569; log 6): unit and edge. -/
opaque calTemp : Nat → Nat → BitVec 8

/-- The trims of the references that a reference slice measures (R563, R587; log 6): the tick. -/
opaque refTrim : Nat → BitVec 16

/-- The UNIT of CAL_WORD_BAD for a sensor's word, for which R588 gives none (log 28): the sensor. -/
opaque sensorUnit : Nat → BitVec 8

/-- The next request that the receiver of a lane group makes of its partner's taps (R333; log 15): group and number of the request;
the partner's lane, the two taps (0 hold, 1 increase, 2 decrease) and the preset. -/
opaque laneWant : Nat → Nat → Fin 8 × Fin 3 × Fin 3 × Bool

/-- What firmware answers to a PHY OAM message of a partner in modes 0x2 to 0x5, which the spec does not give (R143; log 88). -/
opaque oamAnswer : List (BitVec 8) → List (BitVec 8)

/-- A pad bit of a fill unit that holds no codeword (R271; log 86): its place. -/
opaque padBit : Nat → Bool

/-- The receive gain of a trunk whose gain loop runs, in 0.5 dB (R284; log 86): trunk and tick. -/
opaque agcGain : Nat → Nat → Fin 121

/-- The symbols in which the ADC of a trunk clips while its gain is frozen by a preamble whose burst is not demodulated (R284; log
86): trunk and tick. -/
opaque agcClips : Nat → Nat → Nat

end Config
end Sys2Proof
end

