-- ==== Sys2Proof/Machine/State.lean ====
section
/-! DEFINITION. The state of the block: every register, table, queue, counter, mode and pin that the spec gives it,
as plain data, and its reset state. The rules that name each field stand in INVENTORY.md under State. -/
namespace Sys2Proof
namespace Machine

/-! ## Tick, start-up and status -/

/-- The tick counter and where in the tick the device stands (R24, R27, R95). -/
structure TimeSt where
  tick      : Nat      -- 64-bit tick counter
  seq       : Bool     -- the tick sequencer has started
  committed : Bool     -- inside the commit window of the present tick
deriving DecidableEq, Repr

/-- DEV_STATUS.POWER_STATE (R85, R480), and COLD. -/
inductive Power where
  | boot | run | banked | ember | damped | cold
deriving DecidableEq, Repr

/-- DEV_STATUS.BOOT_STAGE (R85). -/
inductive Stage where
  | reset | romClock | romImage | fwStart | cellar | config | training | readiness | done | blankWait | bootFailed
deriving DecidableEq, Repr

/-- DEV_STATUS.CONFIG_STATE (R85). -/
inductive ConfigState where
  | none | complete | partialStop | replaying
deriving DecidableEq, Repr

/-- The causes of a reset (R82). -/
inductive Cause where
  | powerOn | pin | rail | brownout | emberWake | command
deriving DecidableEq, Repr

/-- RESET_CAUSE (R84). -/
structure ResetCause where
  cause      : Cause
  rail       : Nat
  wasDamped  : Bool
  recordKept : Bool
  warmCount  : Nat
deriving DecidableEq, Repr

/-- The return codes of R129. -/
inductive Code where
  | ok | busy | badArg | notPermitted | budget | conflict | cancelled | wrongState | noResource | authFail
  | endurance | timeout | internal
deriving DecidableEq, Repr

/-- Who is answered when a message ends after its selection: the channel, SEQ, and on channel 3 the peer's slot and
COUNTER (R124, R139). Channel 8 stands for a configuration image (log 29). -/
structure ReplyTo where
  chan    : Nat
  seq     : Nat
  slot    : Nat
  counter : Nat
deriving DecidableEq, Repr

/-- A configuration replay whose present message has started work and is not yet answered (R102): the messages executed
with OK, those after the present one, who is answered for a CONFIG_LOAD, and the present message's code once it is
known. -/
structure ReplayRun where
  done  : Nat
  rest  : List (List Word)
  reply : Option ReplyTo
  code  : Option Code
deriving DecidableEq, Repr

/-- Start-up and status of the device as a whole. -/
structure BootSt where
  held         : Bool             -- RESET_N low or the 50 us hold (R54, R80)
  cause        : ResetCause
  power        : Power
  stage        : Stage
  configArea   : Nat
  configState  : ConfigState
  slotB        : Bool
  slotFallback : Bool
  stewardSouth : Bool             -- the steward token (R34)
  tokenParity  : Bool             -- true while the token's parity is good (R545)
  ready        : Bool
  fwVersion    : Word
  runSv        : Nat              -- SV of the running image (R104)
  images       : List (Option Image)  -- areas 0 and 1 as read in the CELLAR phase, when valid (R101)
  halted       : Bool             -- kill lines asserted (R541)
  replaying    : Bool             -- a configuration replay is in progress (R103)
  policy       : Nat              -- bypass policy in force, as keep word 457 lays it out (R317)
  stewardMove  : Option (Bool × Nat)  -- target and edge of a token move (R36)
  resetAt      : Option Nat       -- edge at which DEVICE_RESET begins
  replay       : Option ReplayRun -- a replay that waits for the work of its present message (R102)
deriving DecidableEq, Repr

/-- The fuses (R92, R113, R584): two bits for each life-cycle state MAKER, BENCH, FIELD, RETURN, two for
TEST_SEAL, the count of blown anti-rollback bits, the root key hash, the grade, and the serial. -/
structure Fuses where
  maker    : BitVec 2
  bench    : BitVec 2
  field    : BitVec 2
  ret      : BitVec 2
  testSeal : BitVec 2
  rollback : Nat
  rootHash : BitVec 256
  gradeX   : Bool
  serial   : Nat
deriving DecidableEq, Repr

/-- Life-cycle states (R115). -/
inductive Life where
  | blank | maker | bench | field | ret
deriving DecidableEq, Repr

/-- LIFECYCLE as it was read from the fuses before reset release (R115, R584), and the life-cycle command state. -/
structure LifeSt where
  state     : Life
  sealed    : Bool
  rollback  : Nat
  token     : Table Word     -- staged RETURN token words (R583)
  loaded    : Word           -- which token words are staged
  advanced  : Bool           -- a state advance has been made since the last reset
deriving DecidableEq, Repr

/-- A ball that may be high-impedance. -/
inductive Level where
  | low | high | hiZ
deriving DecidableEq, Repr

/-- A PWREN output (R51): low, rising (low for the first 50 us after VDDE18's threshold, then high), or high. -/
inductive Pwren where
  | low | rising | high
deriving DecidableEq, Repr

/-- The output balls that are state of their own (R54, R80, R317, R529). INT_N and CLKOUT are derived. -/
structure Pins where
  pwrenCore : Pwren
  pwrenAna  : Pwren
  pwrenIo   : Pwren
  byp       : Level
  ppsOut    : Level
  tdo       : Level
  bfCsN     : Level
deriving DecidableEq, Repr

/-! ## Mailboxes, doorbells, events -/

/-- The ACK register of a mailbox channel (R118). -/
structure Ack where
  valid : Bool
  late  : Bool
  code  : Nat
  seq   : Nat
  rlen  : Nat
deriving DecidableEq, Repr

/-- One mailbox channel (R118): MSG0 to MSG15, BUSY, CANCEL, ACK, RET0 to RET15; whether its message has been
selected (R123); on channel 1 the lane group the message came on (R346). -/
structure Chan where
  msg      : List Word
  busy     : Bool
  cancel   : Bool
  selected : Bool
  ack      : Ack
  ret      : List Word
  hg       : Nat
deriving DecidableEq, Repr

/-- A message that one complex has passed to the other over channel 4 (R19): its words, who is answered, whether it went to
South, and whether that complex's dispatcher has selected it. -/
structure Passed where
  words    : List Word
  rt       : ReplyTo
  south    : Bool
  selected : Bool
deriving DecidableEq, Repr

/-- A channel 3 message waiting (R139). -/
structure PeerMsg where
  slot    : Nat
  counter : Nat
  words   : List Word
deriving DecidableEq, Repr

/-- An answer to a fabric peer (R137, R138): slot, COUNTER, ACK word, return words. -/
structure PeerAck where
  slot    : Nat
  counter : Nat
  ack     : Word
  ret     : List Word
  tag     : BitVec 128
deriving DecidableEq, Repr

/-- A record of the event ring (R135). -/
structure Event where
  tick24 : Nat
  type   : Nat
  source : Nat
  data   : Nat
deriving DecidableEq, Repr

/-- Mailboxes, doorbells, the TICK_HI shadows and the event ring (R107 to R139). -/
structure MbxSt where
  chans    : List Chan
  lastNorth : Nat                 -- channel that the dispatcher of North selected last (R122)
  lastSouth : Nat                 -- and that of South
  fourSouth : Bool                -- the message on channel 4 goes to South's end (R116, R122)
  peerIn   : List PeerMsg
  peerOut  : List PeerAck
  dbStatus : Word
  dbMask   : Word
  shadow   : List (Option Word)   -- per port MSP, SSP: TICK_HI held in the open transaction
  ring     : List Event
  ringLost : Nat
  deferred : List Event           -- notice and wake records waiting for firmware (R538, R502)
  far      : List Passed          -- messages passed over channel 4 and not yet answered (R19)
deriving DecidableEq, Repr

/-- A peer key slot (R138). -/
structure PeerSlot where
  key     : BitVec 256
  path    : Nat
  counter : Nat
deriving DecidableEq, Repr

/-- A quiet period (R535): the edge at which it starts and its length in ticks. -/
structure Quiet where
  start : Nat
  len   : Nat
deriving DecidableEq, Repr

/-! ## Line channels (05, 06, 07) -/

/-- LINE_CONFIG settings (R142, opcode 0x1000). -/
structure LineCfg where
  enable  : Bool
  neg     : Bool
  role    : Nat
  mode    : Nat
  lpiEn   : Bool
  sleepEn : Bool
  userEn  : Bool
  resumeEn : Bool
  backoff : Nat
  adv     : Nat
deriving DecidableEq, Repr

/-- STATE of LINE_STATUS. -/
inductive LineState where
  | disabled | negotiating | training | up | lpi | asleep | waiting
deriving DecidableEq, Repr

/-- RX_ADAPT_CONFIG settings (R196, R197): training and tracking codes of echo, FFE, DFE and bundle. -/
structure LineAdapt where
  echoT : Nat
  echoD : Nat
  ffeT  : Nat
  ffeD  : Nat
  dfeT  : Nat
  dfeD  : Nat
  bunT  : Nat
  bunD  : Nat
  frzEcho : Bool
  frzFfe  : Bool
  frzDfe  : Bool
  frzBun  : Bool
  frzPre  : Bool
  preUpd  : Nat
deriving DecidableEq, Repr

/-- LINE_WATCH_CONFIG settings. -/
structure LineWatch where
  uncorrLimit : Nat
  dropMargin  : Nat
  lpiIdle     : Nat
  nvp         : Nat
  delta       : Nat
  reflRl      : Nat
  traceOfs    : Nat
deriving DecidableEq, Repr

/-- The counters of R219 but RECOVERIES. -/
structure LineCnt where
  rxFrames : Nat
  rxBytes  : Nat
  rxFcsErr : Nat
  rxLenErr : Nat
  txFrames : Nat
  txBytes  : Nat
  fecCw    : Nat
  fecCorr  : Nat
  fecUncorr : Nat
  sfmCrcErr : Nat
  blwSat   : Nat
  linkDrops : Nat
  lpiTxEnt : Nat
  lpiRxEnt : Nat
  lpiTxTicks : Nat
  lpiRxTicks : Nat
  wakeErr  : Nat
deriving DecidableEq, Repr

/-- A set of precoder coefficients: its number and the 12-bit coefficients (R166, R172). -/
structure CoefSet where
  set   : Nat
  coefs : List (BitVec 12)
deriving DecidableEq, Repr

/-- Consecutive ticks in which a tap set took an adaptation step with one MU code (R195). -/
structure TapRun where
  first : Nat
  last  : Nat
  mu    : Nat
deriving DecidableEq, Repr

/-- The adaptation steps of a tap set since it was cleared, newest first. A tap's value is the sum of its steps. -/
abbrev TapHist := List TapRun

/-- The coefficient bank of a channel (R216): whether it holds the link's values, the mode and RESUME_ID of the
last link, whether the partner sent RESUME_ABLE, the die temperature at the last tick UP, the precoder sets in
use and last sent, and for each tap set (0 echo, 1 FFE, 2 DFE, 3 to 6 bundle of aggressor 0 to 3) the ticks in
which it has adapted since it was last cleared, with the amounts that precoder updates took out of the DFE taps
(R193, in 2^-12). `resumeAble` tells that both ends sent RESUME_ABLE in the link's training; `pgaStamp` is the edge at
which the gain was last set (R189), `clkStamp` the edge at which timing recovery last ran (R191, R198). -/
structure LineBank where
  kept       : Bool
  mode       : Nat
  resumeId   : BitVec 16
  resumeAble : Bool
  temp       : Int
  txSet      : CoefSet
  rxSet      : CoefSet
  taps       : List TapHist
  folded     : List Int
  pgaStamp   : Nat
  clkStamp   : Nat
  slave      : Bool      -- the role of the last link, in which a retained die resumes it (R105)
deriving DecidableEq, Repr

/-- The receiver of a channel as it stood at the edge that began the tick (R199): the bank, whether the receiver was
locked, PRE_UPDATES, the mask of tap sets that do not adapt, and the tick that ended with the edge. -/
structure RxView where
  bank   : LineBank
  locked : Bool
  preUpdates : Nat
  held   : Nat
  tick   : Nat
  slave  : Bool
deriving DecidableEq, Repr

/-- Progress of an LR10 training or resume (R172 to R178): what each end has sent and received. -/
structure LineTrain where
  stage      : Nat       -- 0 to 5, 7 resume
  stageStart : Nat       -- tick at which the stage began
  lockOwn    : Bool
  lockPeer   : Bool
  capsSeen   : Bool
  typeSeen   : Nat       -- last TYPE received and how often in a row (R172 ACK)
  typeCount  : Nat
  ackPeer    : Bool
  eqOwn      : Bool
  eqPeer     : Bool
  pamOwn     : Bool
  pamPeer    : Bool
  pam4       : Bool      -- own training data is PAM4 (R175)
  indexes    : List (Nat × List (BitVec 12))   -- PRECODER INDEX values received
  ntaps      : Nat
  countSeen  : Option Nat
  resumeSeen : Nat       -- RESUME frames received with the own RESUME_ID
  backoffReq : Nat       -- backoff that the partner's CAPS request (R174)
  fresh      : Bool      -- the edge that starts it has still to decide between survey and join (R206)
  dataRx     : Bool      -- the partner's data mode has begun (R176, R192)
  pgaTicks   : Nat       -- ticks in which the PGA gain is still set (R189)
deriving DecidableEq, Repr

/-- SFM reception (R157 to R159, R173 stage 5, R224). -/
structure LineSfm where
  lock     : Bool
  lost     : Bool        -- lock has been lost and not regained
  hits     : Nat
  misses   : Nat
  good     : Nat         -- consecutive superframes with RX_OK both ways
  remFault : Nat         -- consecutive superframes with REM_FAULT
  okOwn    : Nat         -- superframes until the last uncorrectable codeword is 64 superframes old
  lastSf   : Nat
  peerRxOk : Bool
  coefSet  : Nat         -- COEF_SET the partner reports
  blind    : Nat         -- superframes since a quiet period whose SFM could not be read (R179, R219)
  heard    : Bool        -- a superframe has come in the present tick
deriving DecidableEq, Repr

/-- Low-power idle of one direction (R179, R229): not in it; entering, refreshing or waking, with the superframes of that which
have begun or been received; quiet, with the first tick that is quiet as a whole. -/
inductive Lpi where
  | active | entering (n : Nat) | quiet (since : Nat) | refresh (n : Nat) | waking (n : Nat)
deriving DecidableEq, Repr

/-- The link sleep handshake and wake tone (R180 to R183): none; waking from low-power idle first; asserting the
standard's LPI first; sending SLEEP_REQ, with DOWNCOUNT of the next SFM; silent; sending the tone up to an edge. -/
inductive Sleep where
  | none | waking | lpi | sending (down : Nat) | silent | tone (endTick : Nat)
deriving DecidableEq, Repr

/-- A TDR under way (R233, R234) and who is answered. -/
structure TdrJob where
  start   : Nat
  reduced : Bool
  reply   : Option ReplyTo
  resume  : Bool    -- the channel trains when the TDR ends
  fast    : Bool    -- it was a fast resume that the TDR stopped
deriving DecidableEq, Repr

/-- A line channel. -/
structure Line where
  cfg      : LineCfg
  state    : LineState
  mode     : Nat
  slave    : Bool
  eee      : Bool
  attempts : Nat
  attemptStart : Nat
  attemptsDone : Nat      -- attempts ended since training began (R94, R96)
  lastFail : Nat
  resumed  : Bool
  peerStd  : Nat
  peerHal  : Nat
  peerSeed : Nat
  peerSnr  : Nat
  upTick   : Nat
  train    : LineTrain
  sfm      : LineSfm
  bank     : LineBank
  coefTx   : Option (CoefSet × Nat)   -- COEF update to take over at SF_COUNT ACT (R171)
  coefRx   : Option (CoefSet × Nat × List Int)   -- COEF update for the partner, its ACT, and what it folds (R193)
  coefDue  : Bool         -- its COEF message has still to be sent (R170, R171)
  coefLater : Nat         -- by how much more than 64 superframes the device lets ACT lie ahead (R171)
  adapt    : LineAdapt
  preUpdates : Nat
  preRun   : List Nat     -- per DFE tap: edges in a row at or above PRE_UPD (R193)
  blwEnd   : Int          -- end of its range at which the baseline wander correction stands: -1, 0 (none), 1 (R190)
  blwRun   : Nat          -- ticks in a row at that end
  view     : RxView
  txBackoff : Nat         -- backoff applied on the partner's request (R174)
  asJoiner : Bool         -- its next training is a join (R226)
  sfTx     : Option Nat   -- SF_COUNT of the own superframe that begins next, in data mode (R157)
  sfPhase  : Nat          -- nanoseconds from the edge until it begins
  oamOut   : List (List Byte)   -- OAM blocks of the message being sent
  oamSeqTx : Nat          -- SEQ of the next OAM block sent (R169)
  statAge  : Nat          -- superframes since the last STATUS was sent (R170)
  statCorr : Nat          -- corrected symbols and uncorrectable codewords since then
  statUncorr : Nat
  statSnap : Int × Nat    -- SNR_AVG and SQI at the snapshot before the present superframes (R223)
  slpAsked : Bool         -- the partner has sent SLEEP_REQ (R180)
  slpAcked : Bool         -- the partner has sent SLEEP_ACK
  stdPrec  : Nat          -- Clause 149 precoder that the partner's receiver requested (R143)
  stdReq   : Nat          -- and the one that the own receiver requests (R194)
  stdOam   : Option (List Byte)   -- firmware's answer to the partner's last PHY OAM message (R143)
  oamTx    : List (List Byte)
  oamRx    : List (List Byte)
  oamLost  : Nat
  oamSeq   : Option Nat   -- last OAM SEQ received
  cnt      : LineCnt
  cntTick  : LineCnt      -- counts of the present tick
  recoveries : Nat
  snrHist  : List Int     -- per-tick SNR of the last 40 ticks with a receive signal
  snrMin   : Int
  avgHist  : List Int     -- SNR_AVG at the last 40 snapshots of the link (R224)
  uncorrHist : List Nat   -- uncorrectable codewords of the last 40 ticks
  partStat : Option (Int × Nat × Nat)   -- MSE, SQI, tick of the partner's last STATUS
  watch    : LineWatch
  lpiTx    : Lpi
  wakeReq  : Bool         -- a wake trigger has come in the present tick (R230)
  lpiRx    : Lpi
  idle     : Nat          -- idle ticks of R229
  sleep    : Sleep
  quietP   : Option Quiet   -- quiet period under way (R535)
  tdr      : Option TdrJob
  baseline : Option (Nat × List Reflection)  -- the mode it was taken in, and the profile (R237)
  reconf   : Bool         -- a LINE_CONFIG may have changed the mode in use since the link was last up (R237)
  isolated : Bool
  joinStart : Option Nat  -- a soft start at -9.0 dB began (R210)
  joining  : Option Nat   -- a join that has not yet converged began (R211)
  heldSurvey : Bool       -- silent until the survey of its group ends (R208)
  clr : Nat               -- pages of counters to be reduced at commit step 6 (R221)
deriving DecidableEq, Repr

/-- A bundle group (R200 to R211). -/
structure Bundle where
  enabled : Bool
  mode    : Nat
  valid   : List Bool           -- taps valid for position 0 to 3
  survey  : Nat                 -- 0 never, 1 running, 2 complete
  surveyStart : Nat
  surveyPos : List Nat          -- positions with a slot in the survey
  surveyOut : List Nat          -- those of them that left it before their burst was over
  coupling : List Nat
  noise   : Int
  surveyTick : Nat
deriving DecidableEq, Repr

/-! ## Drops (08) -/

/-- DROP_CONFIG's PLCA values (R244). -/
structure Plca where
  nodeCount : Nat
  toTimer   : Nat
  maxBc     : Nat
  burstTmr  : Nat
deriving DecidableEq, Repr

/-- DROP_CONFIG settings. -/
structure DropCfg where
  termEn : Bool
  wakeEn : Bool
  enable : Bool
  plca   : Plca
deriving DecidableEq, Repr

/-- STATE of DROP_STATUS. -/
inductive DropState where
  | disabled | up | waiting | off
deriving DecidableEq, Repr

/-- The counters of R250 but RECOVERIES. -/
structure DropCnt where
  rxFrames : Nat
  rxBytes  : Nat
  txFrames : Nat
  txBytes  : Nat
  rxFcsErr : Nat
  collisions : Nat
  foreign  : Nat
  cycles   : Nat
  nodeFrames : List Nat
deriving DecidableEq, Repr

/-- A drop segment. -/
structure Drop where
  cfg      : DropCfg
  plca     : Plca              -- in force since the last beacon
  state    : DropState
  upTick   : Nat
  heard    : Nat               -- mask of IDs heard since the last DROP_STATUS
  heardUp  : Nat               -- mask of IDs heard since the drop became UP
  dup      : Nat               -- mask of IDs reported DUPLICATE
  streak   : List Nat          -- per ID: consecutive transmitting cycles with a collision
  collided : Nat               -- IDs that collided in this cycle
  clean    : Nat               -- IDs received clean in this cycle
  conflict : Bool
  foreignCyc : Bool            -- a foreign beacon came in this cycle
  foreignRun : Nat             -- consecutive cycles with one
  cleanRun : Nat               -- consecutive cycles without one
  opp      : Option Nat        -- ID whose opportunity is open
  taken    : Bool              -- its owner has taken it (R242)
  burstLeft : Nat              -- frames the device may still send in its own opportunity: the oldest of its transmit buffer
  badFrames : Nat              -- frames discarded that no counter of the spec names (R22; the model's own)
  cnt      : DropCnt
  cntTick  : DropCnt
  recoveries : Nat
  quietP   : Option Quiet   -- quiet period under way (R535)
  isolated : Bool
  clr : Nat               -- pages of counters to be reduced at commit step 6 (R221)
deriving DecidableEq, Repr

/-! ## Trunks (09, 10) -/

/-- TRUNK_SIGNAL_CONFIG settings. -/
structure SigCfg where
  atten  : Nat
  range  : Nat
  margin : Nat
  maxB   : Nat
  mask   : Nat
deriving DecidableEq, Repr

/-- TRUNK_CONFIG settings. -/
structure TrunkCfg where
  kindleFwd : Bool
  pair      : Nat
  slow      : Nat
  fast      : Nat
  split     : Nat
  enable    : Bool
  nvp       : Nat
deriving DecidableEq, Repr

/-- STATE of TRUNK_STATUS. -/
inductive TrunkState where
  | off | seek | training | up | waiting | bypassed
deriving DecidableEq, Repr

/-- The counters of R294. -/
structure SigCnt where
  burstsRx : Nat
  burstsTx : Nat
  cwRx     : Nat
  cwFail   : Nat
  half     : Nat
  missed   : Nat
  foreign  : List Nat  -- per class (R283)
  ofsReject : Nat
  agcClip  : Nat
deriving DecidableEq, Repr

/-- A TLU waiting for its acknowledgement (R312): how often it has been sent, whether it has failed, and the tick of the burst it was
last sent in. -/
structure TxTlu where
  tlu   : Tlu
  sends : Nat
  failed : Bool
  tick  : Nat
deriving DecidableEq, Repr

/-- A FRAME announcement waiting for its activation frame (R298). -/
structure FrameAnn where
  at_     : Nat
  split   : Nat
  aligned : Bool
  long    : Bool
  cls     : Nat
deriving DecidableEq, Repr

/-- A kindle detector (R323). -/
inductive Kindle where
  | rest | correlating (since : Nat) | resting (since : Nat)
deriving DecidableEq, Repr

/-- A trunk. -/
structure Trunk where
  sig      : SigCfg
  attenNow : Nat
  rangeNow : Nat
  classRx  : Nat
  agcGain  : Nat
  agcUntil : Option Nat     -- edge at which the frozen gain is released
  freqOfs  : Option Int
  delayRx  : Int
  snrAvg   : Int
  rxSet    : Nat
  txSet    : Nat
  burstTick : Nat
  preTick  : Option Nat     -- tick of the last declared preamble (R322)
  trackTick : Option Nat    -- tick of the partner's previous burst (R289)
  taken    : Bool           -- a preamble was taken and its burst awaits demodulation
  carried  : Bool           -- that burst goes on with the tracking of the partner's previous burst (R289)
  missTick : Option Nat     -- tick of the last burst counted as missed (R286)
  halfTick : Option Nat     -- tick of the last half-preamble (R285)
  txLoad   : List Nat       -- loading in use for transmission, 64 codes (class F)
  rxLoad   : List Nat       -- loading last computed for reception
  rxSent   : Nat            -- set of the last LOAD record sent
  sentLoad : List Nat       -- and its loading
  useSet   : Nat            -- set in use for reception: that of the last LOAD record whose set a burst has shown (R275, R277)
  useLoad  : List Nat       -- and its loading
  rxPos    : Nat            -- the partner's data slots since the class came into force (R272)
  copies   : Nat            -- copies received of the unique symbol under way (R272)
  combine  : Bool           -- a unique symbol with received copies has ended in a burst that gave none (R272)
  lateRx   : Bool           -- the last preamble taken came one slot late, behind a guard slot (R292)
  segSnr   : Option (List Int)
  loadWait : Option (Nat × List Nat × Nat)   -- received LOAD record and the tick it was decoded in (R276)
  sigCnt   : SigCnt
  sigTick  : SigCnt
  cfg      : TrunkCfg
  state    : TrunkState
  stage    : Nat
  stageStart : Nat
  attempts : Nat
  attemptsDone : Nat
  lastFail : Nat
  follower : Bool
  split    : Nat
  cls      : Nat
  long     : Bool
  aligned  : Bool
  delay    : Nat
  peerSerial : Nat
  upTick   : Nat
  choice   : Nat            -- own class choice (R305)
  peerChoice : Option Nat
  qualify  : List Nat       -- per class, consecutive evaluations in which it has qualified as a faster one (R306)
  loadDue  : Nat            -- tick at which the next computation of R274 is due
  evalDue  : Nat            -- tick at which the next evaluation of R306 is due
  soundDue : Nat            -- tick at which the next request of R311 is due
  peerOfs  : Int            -- partner's tick counter less the own, from its ID record (R309)
  idRx     : Bool
  idAcked  : Bool
  soundTx  : Nat            -- training pairs sent in SOUND
  classTx  : Bool
  startRx  : Bool
  startTx  : Bool
  startSeq : Nat            -- SEQ of the first TLU sent in the link class (R301)
  ann      : Option FrameAnn
  missFrames : Nat          -- R314
  abandonFrames : Nat
  abandonNow : Bool
  txq      : List TxTlu
  txPart   : Option (Frame × Nat)  -- a frame begun in an earlier TLU, and its bytes still to be sent (R308)
  txSeq    : Nat
  txTick   : Option Nat     -- tick of the last burst or probe of this end
  drawTick : Option Nat     -- tick of the last frame for which a random bit was drawn (R302)
  txSpan   : Option (Nat × Nat) -- samples, from that of tick 0, from the start of the last ramp-up to the end of its ramp-down
  txRefl   : Bool           -- the last burst sent carried a reflectometry slot (R324)
  txPos    : Nat            -- data slots sent since the class came into force (R272)
  txBurst  : List Tlu       -- TLUs of the last fill unit sent
  txPair   : Bool           -- the last burst sent carried a training pair (R279, R311)
  rxExpect : Nat
  rxSync   : Bool           -- rxExpect has been set by a received TLU of this link
  rxSkip   : Bool           -- after a given-up SEQ: the next TLU with a START is awaited (R313)
  rxGot    : List (Nat × Tlu) -- received beyond a gap, with the tick of reception (R313)
  retx     : Nat
  tluDrop  : Nat
  frameLost : Nat
  badFrames : Nat           -- frames discarded that no counter of the spec names (R22; the model's own)
  ctl      : List TrunkRecord   -- control records waiting to be sent (R309)
  statusFor : List (Nat × Bool) -- SEQs of the partner's last burst and whether each was good
  soundReq : Bool           -- the partner asked for a training pair (R311)
  peerLocked : Bool         -- partner's TIME_LOCKED
  quietP   : Option Quiet   -- quiet period under way (R535)
  recoveries : Nat
  kindle   : Option (Nat × Nat)  -- edge of the next repetition, repetitions left (R321)
  relayEnd : Option Nat     -- end of the relay wait (R319)
  reflect  : Option (Nat × Option ReplyTo)  -- start edge and who is answered (R324)
  reflAt   : Nat            -- frame at which its slots begin in an L class (R324)
  detector : Kindle
  isolated : Bool
  clr : Nat               -- pages of counters to be reduced at commit step 6 (R221)
deriving DecidableEq, Repr

/-! ## Host lanes (11) -/

/-- HOST_CONFIG settings. -/
structure HostCfg where
  eiIdle : Nat
  eiEn   : Bool
  sideEn : Bool
  enable : Bool
  cred   : List Nat
deriving DecidableEq, Repr

/-- STATE of HOST_STATUS. -/
inductive HostState where
  | off | disabled | training | up | test | waiting
deriving DecidableEq, Repr

/-- Training stages of a lane group (R334). -/
inductive HostStage where
  | clock | align | tune | check
deriving DecidableEq, Repr

/-- The counters of R352 but RECOVERIES. -/
structure HostCnt where
  txFrames : Nat
  rxFrames : Nat
  txResends : Nat
  nakSent  : Nat
  hcrcErr  : Nat
  crcErr   : Nat
  hunts    : Nat
  txDiscard : Nat
  fastExits : Nat
  fastFail : Nat
  spoolBad : Nat
  credViol : Nat
deriving DecidableEq, Repr

/-- The request that the own training blocks carry (R333): the partner's lane, what is asked of its two taps (0 hold, 1 increase,
2 decrease), the preset, and whether the request has been answered and hold is sent in its place. -/
structure LaneReq where
  lane   : Nat
  pre    : Nat
  post   : Nat
  preset : Bool
  hold   : Bool
deriving DecidableEq, Repr

/-- A sequenced packet not yet acknowledged (R341): SEQ, bytes in the replay buffer, class, what it is, and the header and payload that
the replay buffer holds. -/
structure LaneTx where
  seq   : Nat
  bytes : Nat
  sc    : Nat
  side  : Option (List Word)   -- a SIDEBAND packet's words
  frame : Option Nat           -- the stored frame of a FRAME packet
  spool : Nat
  head  : LanePacket           -- its header as it was last sent (R338)
  body  : List Byte            -- its payload
deriving DecidableEq, Repr

/-- HOST_PRBS test (R353). -/
structure Prbs where
  pattern : Nat
  gen     : Bool
  check   : Bool
  stamp   : Nat      -- tests started so far
  start   : Nat      -- tick in which the checkers began
  clear   : Nat      -- tick in which BITS and ERRORS were last cleared
deriving DecidableEq, Repr

/-- A host lane group. -/
structure LaneGroup where
  cfg      : HostCfg
  credUp   : List Nat       -- CRED in force since the last entry into UP
  state    : HostState
  stage    : HostStage
  stageStart : Nat
  retrain  : Bool
  retrainFails : Nat
  attempts : Nat
  attemptsDone : Nat
  lastFail : Nat
  txEidle  : Bool
  rxEidle  : Bool
  coefValid : Bool
  pol      : Nat
  reversed : Bool
  skew     : List Nat
  coefPre  : List Nat
  coefPost : List Nat
  stPre    : List Nat       -- request status per lane (R333): 0 not updated, 1 updated, 2 at limit
  stPost   : List Nat
  stLane   : Nat            -- the lane of the partner's last request (R332)
  rxReady  : Bool           -- the own receiver has finished TUNE on all 8 lanes
  req      : LaneReq        -- the own request (R333)
  reqNum   : Nat            -- requests made so far, for the choice of the next one
  checkGood : Nat           -- consecutive good packets in CHECK
  upTick   : Nat
  upsSinceReset : Nat
  txSeq    : Nat
  ackedSeq : Option Nat     -- last SEQ acknowledged by the partner since UP
  unacked  : List LaneTx
  sideWait : List (List Word)
  rxExpect : Nat
  nakOwed  : Bool
  nakSentAt : Option Nat
  lastNakSeq : Option Nat   -- ACK_SEQ of the last NAK acted on, or a later one acknowledged since
  crTurn   : Nat            -- CR_SC of the next header (R343)
  resends  : Nat
  hunting  : Bool
  huntOne  : Bool           -- in hunt, one header with a good HCRC has been found (R339)
  grantIn  : List Nat       -- last CR_GRANT received per class
  grantEdge : List Nat      -- the same as it was at the edge that began the tick (R344)
  usedOut  : List Nat       -- credits consumed per class since UP
  grantOut : List Nat       -- credits granted to the partner per class since UP
  usedIn   : List Nat       -- credits the partner has consumed
  grantDue : List Nat       -- credits to be returned at the commit of this tick (R345)
  owes     : Bool           -- an ACK or a credit change has not yet been sent (R337)
  idle     : Nat
  still    : Bool           -- no sequenced packet has been unacknowledged in this tick (R336)
  prbs     : Prbs
  badFrames : Nat           -- frames discarded that no counter of the spec names (R22; the model's own)
  cnt      : HostCnt
  cntTick  : HostCnt
  recoveries : Nat
  quietP   : Option Quiet   -- quiet period under way (R535)
  isolated : Bool
  spoolAcked : Nat          -- last N accepted (R348)
  spoolSent : Nat           -- highest SPOOL_SEQ sent
  ackNext  : Option Nat     -- N to be passed to the spool at the next edge (R348)
  clr : Nat               -- pages of counters to be reduced at commit step 6 (R221)
deriving DecidableEq, Repr

/-! ## Bridge, queues, rates (12, 13) -/

/-- PORT_BRIDGE_CONFIG settings (R358). -/
structure BridgePort where
  pvid     : Nat
  untag    : Bool
  learn    : Bool
  acceptUn : Bool
  defPcp   : Nat
  pcpMap   : Nat
deriving DecidableEq, Repr

/-- A forwarding database entry (R359, R442): key, and a learned port with LAST and the fabric path behind it, or
a static mask of ports. -/
structure FdbEntry where
  mac  : Nat
  vid  : Nat
  static : Bool
  port : Nat
  last : Int          -- LAST; after a step back of fabric time it may lie before tick 0 (R460)
  path : Nat
  mask : Nat
deriving DecidableEq, Repr

/-- A stream entry (R364, R365). -/
structure Stream where
  sa      : Bool
  mac     : Nat
  vid     : Nat
  polEn   : Bool
  policer : Nat
  scEn    : Bool
  sc      : Nat
  qEn     : Bool
  queue   : Nat
deriving DecidableEq, Repr

/-- The counters of FDB_STATUS. -/
structure BridgeCnt where
  learnFull : Nat
  aged      : Nat
  vlanDrop  : Nat
  filtered  : Nat
  noQueue   : Nat
  streamHits : Nat
deriving DecidableEq, Repr

/-- A source lookup that step 1 of the commit will enter (R360, R442). -/
structure Learn where
  mac  : Nat
  vid  : Nat
  port : Nat
  path : Nat
deriving DecidableEq, Repr

/-- The bridge (R354 to R368). -/
structure BridgeSt where
  ports   : Table BridgePort
  vlans   : Table Nat          -- member masks of the VIDs that differ from reset
  fdb     : List FdbEntry
  learns  : List Learn
  ageTime : Nat
  slice   : Nat
  agePos  : Nat
  streams : Table Stream
  cnt     : BridgeCnt
  cntTick : BridgeCnt
  clr : Nat               -- pages of counters to be reduced at commit step 6 (R221)
deriving DecidableEq, Repr

/-- A two-bucket shaper (R387): tokens in 1/64 byte. -/
structure Shaper where
  enabled : Bool
  cir : Nat
  pir : Nat
  cbs : Nat
  pbs : Nat
  tokC : Int
  tokP : Int
  remC : Nat
  remP : Nat
  edgeC : Int     -- tokens at the last edge, as SHAPER_READ returns them
  edgeP : Int
deriving DecidableEq, Repr

/-- The parent of a queue or node (R369). -/
structure Parent where
  isRoot : Bool
  id     : Nat
deriving DecidableEq, Repr

/-- A descriptor in a queue (R21, R430, R437): the stored frame, the first edge at which it is eligible, the frame
bytes it counts at its root (R439), whether it was taken from the spool or by a replay, its spool sequence, and the
fabric header it is sent with. -/
structure Desc where
  id     : Nat
  elig   : Nat
  len    : Nat
  evid   : Bool
  replay : Bool
  spool  : Nat
  fab    : Option FabHeader
deriving DecidableEq, Repr

/-- Settings of QUEUE_SET. -/
structure QueueCfg where
  parent : Parent
  level  : Nat
  weight : Nat
  limit  : Nat
  defEn  : Bool
  defSc  : Nat
deriving DecidableEq, Repr

/-- A queue (R369, R375, QUEUE_STATS). -/
structure Queue where
  conf   : Bool
  cfg    : QueueCfg
  shaper : Shaper
  held   : List Desc
  tagS   : BitVec 48
  tagF   : BitVec 48
  elig   : Bool              -- eligible at the last edge
  enqFrames : Nat
  enqBytes  : Nat
  deqFrames : Nat
  deqBytes  : Nat
  dropLimit : Nat
  dropFlush : Nat
  heldOver  : Nat
  tkEnqFrames : Nat          -- counts of the present tick
  tkEnqBytes  : Nat
  tkDeqFrames : Nat
  tkDeqBytes  : Nat
  tkDropLimit : Nat
  tkDropFlush : Nat
  tkHeldOver  : Nat
  leaving   : Nat            -- frame bytes sent in this tick, which leave the occupancy at the next edge (R372)
  clr : Nat               -- pages of counters to be reduced at commit step 6 (R221)
deriving DecidableEq, Repr

/-- A scheduling node (R369). -/
structure Node where
  conf   : Bool
  parent : Parent
  level  : Nat
  weight : Nat
  shaper : Shaper
  tagS   : BitVec 48
  tagF   : BitVec 48
  elig   : Bool
deriving DecidableEq, Repr

/-- A virtual time of a pair of parent and level (R375). -/
structure VTime where
  parent : Parent
  level  : Nat
  v      : BitVec 48
deriving DecidableEq, Repr

/-- A gate list entry (R397). -/
structure GateEntry where
  gates : Nat
  ticks : Nat
deriving DecidableEq, Repr

/-- A gate list in force or waiting, with the tick at which it becomes operational (R398, R399). An empty list
with `act` stands for gating disabled from `act`. `run` tells that an admission run is due at `act` (R404). -/
structure GateList where
  entries : List GateEntry
  act     : Nat
  run     : Bool
deriving DecidableEq, Repr

/-- A frame that a root has selected and not yet sent (R243, R357, R437): its descriptor, the frame as it leaves,
the queue it came from, and the tick of selection. -/
structure Sending where
  desc  : Desc
  frame : Frame
  queue : Nat
  tick  : Nat
deriving DecidableEq, Repr

/-- An egress root (R382, R390, R397). -/
structure Root where
  rate  : Nat
  ovh   : Nat
  tok   : Int
  rem   : Nat
  oper  : Option GateList
  wait  : Option GateList
  admin : Table GateEntry
  sending : List Sending      -- oldest first
deriving DecidableEq, Repr

/-- A policer (R393). -/
structure Policer where
  conf   : Bool
  mode1  : Bool        -- RFC 4115
  aware  : Bool
  yellowDrop : Bool
  ovh    : Nat
  cir    : Nat
  pir    : Nat
  cbs    : Nat
  pbs    : Nat
  tokC   : Int
  tokP   : Int
  remC   : Nat
  remP   : Nat
  gf : Nat
  gb : Nat
  yf : Nat
  yb : Nat
  rf : Nat
  rb : Nat
  tkGf : Nat
  tkGb : Nat
  tkYf : Nat
  tkYb : Nat
  tkRf : Nat
  tkRb : Nat
  clr : Nat               -- counters to be reduced at commit step 6 (R221)
deriving DecidableEq, Repr

/-- A guarantee (R401, GUARANTEE_STATUS). -/
structure Guarantee where
  rate   : Nat
  burst  : Nat
  target : Nat
  yieldQ : Nat
  seq    : Nat
  yielded : Bool
  cause  : Nat
  yields : Nat
  precedence : Nat     -- precedence and BOUND in force since the last edge (R404)
  bound  : Nat
deriving DecidableEq, Repr

/-- Queues, nodes, roots, policers, guarantees (12, 13). -/
structure SchedSt where
  queues  : Table Queue
  nodes   : Table Node
  vtimes  : List VTime
  roots   : Table Root
  policers : Table Policer
  guars   : Table Guarantee
  nextSeq : Nat
  flushes : List Nat        -- queues to be flushed at step 3 of this tick (R377)
  enqueues : List (Nat × Desc)  -- enqueues that commit at step 4 of this tick
  runCauses : List Nat      -- triggers of an admission run at the next edge: 0 set, 1 reroute, 2 port rate, 3 reconfig
  runHeld : List Nat      -- triggers of the run of the edge that began this tick, while it still waits for one of them (R404)
  active : List Nat       -- roots with a frame classified or selected in this tick (R229, R230, R337)
  picked : List Nat       -- roots with a frame selected in this tick (R336)
deriving DecidableEq, Repr

/-! ## Frames and cellar (01, 14) -/

/-- A frame that has completed arrival (R20). -/
structure Arrived where
  port  : Nat
  frame : Frame
  tick  : Nat
  hostSc : Option Nat       -- class and credits of a frame from a host lane group (R345)
  hostCr : Nat
deriving DecidableEq, Repr

/-- A stored frame (R21): the frame, ingress port, class, VLAN, PCP, DEI as marked, pages, descriptors
that keep it, and whether its pages are of the spool. -/
structure Stored where
  frame : Frame
  port  : Nat
  sc    : Nat
  vid   : Nat
  pcp   : Nat
  dei   : Bool
  pages : Nat
  refs  : Nat
  inSpool : Bool
deriving DecidableEq, Repr

/-- An entry of the evidential spool (R424 to R427). -/
structure SpoolEntry where
  id     : Nat           -- stored frame
  seqs   : List Nat      -- SEQ0 to SEQ3
  len    : Nat
  port   : Nat
  groups : Nat
  tick   : Nat
  pages  : Nat
  acked  : Nat           -- groups whose entry has been acknowledged or given up
  passed : Nat           -- groups whose entry was overwritten
  removed : Bool         -- header lost to an uncorrectable error
deriving DecidableEq, Repr

/-- A lane group's side of the spool (R425 to R430). -/
structure SpoolGroup where
  lastSeq : Nat
  acked   : Nat
  rqEn    : Bool
  replayQ : Nat
  replaying : Bool
  startDue : Option Nat   -- edge at which a replay begins
  todo    : List Nat      -- entries (stored frame ids) still to be placed
  spooled : Nat
  fullDrop : Nat
  overwritten : Nat
  replayed : Nat
  tkSpooled : Nat
  tkFullDrop : Nat
  tkOverwritten : Nat
  tkReplayed : Nat
  clr : Nat               -- counters to be reduced at commit step 6 (R221)
deriving DecidableEq, Repr

/-- The cellar (14). -/
structure CellarSt where
  trained : Bool
  size    : Nat
  overwrite : Bool
  scrubHours : Nat
  store   : Table Stored
  nextId  : Nat
  used    : Nat            -- pages of the frame partition in use
  retired : List Nat       -- retired pages
  ce : Nat
  ue : Nat
  noPage : Nat
  tkCe : Nat
  tkUe : Nat
  tkNoPage : Nat
  scrubTick : Nat
  scrubPos : Nat            -- pages that the present pass has read (R421)
  scrubFrom : Nat           -- tick at which its period began
  spool   : List SpoolEntry  -- oldest first
  groups  : List SpoolGroup
  armed80 : Bool           -- doorbell 14 may be set again (R428)
  armed95 : Bool
  selfRefresh : Bool
  clr : Nat               -- pages of counters to be reduced at commit step 6 (R221)
deriving DecidableEq, Repr

/-! ## Fabric (15) -/

/-- A fabric link (R435, R444, R472). -/
structure FabLink where
  designated : Bool
  macsec     : Bool
  boundary   : Nat
  hop        : Nat            -- measured link delay in ns (R458)
  rate       : Int            -- the neighbour's rate against the own, measured with it, in 0.005 ppm (R458)
  sak        : Option Nat     -- installed secure association key (R473)
  pn         : Nat            -- the next packet number under it (R473)
  partner    : Option Nat     -- SCI of the partner, from its MKA frames (R472)
deriving DecidableEq, Repr

/-- An adjacency (R449, R468). -/
structure Adj where
  root    : Nat
  hello   : Hello
  rxTick  : Nat
deriving DecidableEq, Repr

/-- The body of a control frame, or what an 802.1AS or MKA frame says (R437, R438, R457, R473). -/
inductive FabBody where
  | hello (h : Hello)
  | topo (r : TopoRec)
  | route (r : RouteRec)
  | key (level : Nat) (serial : Nat) (wrapped : BitVec 320)
  | prepare (epoch digest act : Nat) (cfg : FabConfig)
  | prepAck (path code : Nat)
  | commit (epoch : Nat)
  | abort (epoch code refuser : Nat)
  | catchupReq
  | catchup (epoch digest : Nat) (cfg : FabConfig)
  | sync
  | followUp (origin corr rate : Int)
  | mka (sak : Nat)
deriving DecidableEq, Repr

/-- A frame of the fabric engine on its link: the fabric header unless it is an 802.1AS or MKA frame (R437, R438). -/
structure FabCtl where
  root : Nat
  head : Option FabHeader
  body : FabBody
deriving DecidableEq, Repr

/-- A Sync that is to be passed on: from which tick; what it carried, with the link it came by added; and its arrival in ns (R457,
R458). -/
structure SyncHeld where
  due    : Nat
  origin : Int
  corr   : Int
  rate   : Int
  rx     : Int
deriving DecidableEq, Repr

/-- A commit being run or awaited (R466). `leader` is true on the device that runs it. -/
structure Prepare where
  leader  : Bool
  epoch   : Nat
  digest  : Nat
  act     : Nat
  reach   : Nat              -- e of R466
  cfg     : FabConfig
  answers : List (Nat × Nat) -- path and return code of each answer
  committed : Bool
  reply   : Option ReplyTo  -- who is answered for the FABRIC_PREPARE
deriving DecidableEq, Repr

/-- The counters of FRER_STATUS. -/
structure RecCnt where
  passed  : Nat
  discarded : Nat
  outOfOrder : Nat
  rogue   : Nat
  lost    : Nat
  resets  : Nat
deriving DecidableEq, Repr

/-- A sequence recovery function of a replicated stream (R470). -/
structure Recovery where
  start   : Bool             -- the next frame is taken whatever its number
  last    : Nat
  history : List Bool
  passTick : Nat
  cnt     : RecCnt           -- counters at the edge, and the counts of the present tick (R219)
  cntTick : RecCnt
  clr     : Nat              -- counters to be reduced at commit step 6 (R221)
deriving DecidableEq, Repr

/-- FABRIC_STATUS.STATE. -/
inductive FabState where
  | alone | inaugurating | running
deriving DecidableEq, Repr

/-- The counters of FABRIC_STATUS. -/
structure FabCnt where
  noRoute : Nat
  ttlDrop : Nat
  badType : Nat
  tooBig  : Nat
  foreign : Nat
  macsecDrop : Nat
  helloLost : Nat
deriving DecidableEq, Repr

/-- The fabric engine (15). -/
structure FabricSt where
  started : Bool
  fid     : Nat              -- FABRIC_ID and FABRIC_KEY as loaded (R436, R94)
  fkey    : BitVec 256
  state   : FabState
  links   : Table FabLink
  adjs    : List Adj
  topo    : Table TopoRec    -- records held, by serial
  topoTick : List Nat        -- per level 1 to 4: tick of the last change of the own group's topology (R452)
  elect   : List Bool        -- per level: the leader has been recognised since
  elected : Option Nat       -- T_e of the own election as top leader
  topoDue : Bool             -- the own adjacencies have changed since the last TOPO (R450)
  topoSent : Nat
  ownSeq  : Nat
  helloSent : Table Nat      -- per link: tick of the last HELLO
  helloExtra : Table Nat     -- links due an extra HELLO, and the tick from which it is due (R448)
  path    : Nat
  leads   : Nat              -- mask of the levels led
  leadsTc : Nat              -- that mask at the last T_c (R477)
  routesSent : Bool
  routes  : List Route
  tree    : List Nat
  pendRoute : Option RouteRec
  paths   : Table Nat        -- paths by serial, from the ROUTE records heard (R454)
  pathsTc : Table Nat        -- those in force since the last T_c
  routeRecs : Table RouteRec -- the ROUTE record last heard for each serial (R454)
  hellos  : Table Hello      -- per link: the partner's last HELLO, held while the link is in UP (R468)
  excl    : Nat              -- level at which the device was excluded at the last T_c, 0 when it was not (R447, R477)
  keySeen : List (Nat × Nat × BitVec 320)  -- the KEY record last heard for each level and serial (R474)
  cmpWith : Table (Nat × Nat)  -- per serial: own epoch and digest when its record was last compared (R465)
  tc      : Nat
  d       : Nat
  members : List (Nat × Nat × Nat)  -- lowest serial, path and level of the members of the own groups at the last T_c
  epoch   : Nat
  cfg     : FabConfig
  digest  : Nat              -- own digest (R463)
  prevEpoch : Nat            -- epoch and digest before the last activation, and its tick (R468)
  prevDigest : Nat
  actTick : Nat
  staged  : FabConfig
  prep    : Option Prepare
  catchup : Option (Nat × FabConfig × Nat)   -- epoch, configuration, edge at which it is applied
  locked  : Bool
  syncs   : Nat              -- consecutive Syncs within 50 ns
  adjust  : Int              -- core cycles to add to the commit window of this tick
  owed    : Int              -- core cycles by which later ticks are still to be lengthened (R459)
  step    : Option Nat       -- tick number to step to at the next edge (R460)
  steer   : Nat              -- PPS_IN edges in step so far (R530)
  steering : Bool
  syncNext : Nat             -- index of the next multiple of 2^-8 s (R457)
  syncPass : Option SyncHeld  -- a Sync to be passed on (R457)
  keys    : List (Nat × BitVec 256)   -- session keys received, by level
  recov   : Table Recovery
  seqGen  : Table Nat        -- sequence generation per HANDLE (R469)
  cnt     : FabCnt
  cntTick : FabCnt
  outbox  : List FabCtl      -- frames of the fabric engine sent in this tick
  ctlCounted : Nat           -- how many of them the counters have taken (R219)
  clr : Nat               -- pages of counters to be reduced at commit step 6 (R221)
deriving DecidableEq, Repr

/-! ## Power and clocks (16, 17) -/

/-- WAKE_CONFIG settings. -/
structure WakeCfg where
  kindle : Nat
  din    : Nat
  host   : Nat
  go0    : Bool
  go2    : Bool
  timer  : Nat
deriving DecidableEq, Repr

/-- A wake source that fired: cause code of POWER_STATUS and SOURCE (R502). -/
structure Wake where
  cause  : Nat
  source : Nat
deriving DecidableEq, Repr

/-- An entry into BANKED or EMBER under way (R495): requested state, selections, tick n, steps done (0 none,
1 A1, 2 A2, 3 A3, 4 A4), a wake latched (R496), a privileged wake that abandons it (R497). -/
structure Entry where
  ember : Bool
  hubBanks : Nat
  lineKeep : Nat
  lineWake : Nat
  start : Nat
  steps : Nat
  closed : Nat          -- unit domains this entry has closed
  latched : Option Wake
  abandon : Option Wake
  abandonAt : Nat       -- the tick in which that wake fired (R497)
deriving DecidableEq, Repr

/-- A change of a unit domain under way (R482, R484). -/
structure DomJob where
  dom   : Nat
  on    : Bool
  start : Nat
  reply : Option ReplyTo        -- who is answered
deriving DecidableEq, Repr

/-- A 24-byte power record of a trace bank (R505). -/
structure TraceRec where
  type  : Nat
  state : Nat
  south : Bool
  tick  : Nat
  sleep : Nat
deriving DecidableEq, Repr

/-- Power states and domains (16). -/
structure PowerSt where
  on      : Nat           -- mask of domains that are on
  jobs    : List DomJob
  entry   : Option Entry
  wake    : WakeCfg
  lastState : Nat
  aborted : Bool
  latched : Bool
  cause   : Nat
  source  : Nat
  sleep   : Nat
  lost    : Nat           -- BANKED_LOST
  banked  : Option Entry  -- the selections held while in BANKED or EMBER
  railsOk : Bool          -- comparison of the switched rails is in force (R55)
  waking  : Bool          -- PWREN driven high after an EMBER wake, rails awaited (R504)
  fired   : Option Wake   -- the wake cause of this sleep, once one has fired (R502)
  railFail : Bool         -- RAIL_FAIL recorded for this sleep
  trace   : List TraceRec
  tail    : List TraceRec -- the tails copied into the hearth (R506)
deriving DecidableEq, Repr

/-- The reference in use (R510). -/
inductive Ref where
  | xa | xb | fio
deriving DecidableEq, Repr

/-- A change of CLKOUT_CTRL (R524): ENABLE, DIV, SRC. -/
structure ClkoutSet where
  enable : Bool
  div    : Nat
  src    : Nat
deriving DecidableEq, Repr

/-- PPS_CONFIG settings. -/
structure PpsCfg where
  width : Nat
  discipline : Bool
  inEn  : Bool
  outEn : Bool
deriving DecidableEq, Repr

/-- Clocks (17). -/
structure ClockSt where
  ref     : Ref
  p       : Nat
  q       : Nat
  runXa   : Bool
  runXb   : Bool
  runFio  : Bool
  runSio  : Bool
  xbFreq  : Nat
  locked  : Nat
  first   : Nat           -- loops that first locked in this power-up of their domain
  switch  : Option Ref    -- switch of the reference in progress
  switchLost : Option Nat -- lost source when the NMI handler started the switch (R521)
  failovers : Nat
  ppm     : Option Int
  gates   : Nat
  nmi     : Option Nat    -- lost source for the NMI handler
  pps     : PpsCfg
  ppsEnd  : Option Nat    -- edge at which the pulse in progress ends
  capture : Option (Nat × Nat)   -- tick and core cycle of the last PPS_IN capture
  clkout  : ClkoutSet     -- CLKOUT_CTRL as written
  clkNow  : ClkoutSet     -- the setting in force; while `changing`, the output is low on its way to it
  changing : Bool
  clkHeld : Option ClkoutSet -- the last write during a change, or from A4 of an entry until the resume
  clkWait : Bool          -- the source in force runs again, and the output is still held low under step 2 of R526
deriving DecidableEq, Repr

/-! ### Frequencies (R508, R510 to R512, R524) -/

/-- Nominal frequency of a reference in Hz; XB as the hearth found it (R508, R509). -/
def ClockSt.hz (c : ClockSt) : Ref → Nat
  | .xa => 25000000
  | .xb => if c.xbFreq = 2 then 156250000 else 25000000
  | .fio => 100000000

/-- The division by which the multiplexer makes the common reference of 6.25 MHz (R510). -/
def ClockSt.refDiv (c : ClockSt) : Ref → Nat
  | .xa => 4
  | .xb => if c.xbFreq = 2 then 25 else 4
  | .fio => 16

/-- How far a source may be off, in ppm: the crystals as R72, FIO 5 % (R508). -/
def Ref.tolerance : Ref → Nat
  | .xa | .xb => 20
  | .fio => 50000

/-- SIO: 32.768 kHz, up to 10 % off (R508). -/
def sioHz : Nat := 32768

/-- The multiplier of a loop over the common reference (R511). -/
def loopMult (loop : Nat) : Nat :=
  match loop with
  | 0 => 800
  | 1 | 2 | 3 | 4 => 1800
  | 5 | 6 => 2560
  | 7 => 512
  | _ => 1024

/-- The VCO of a loop in Hz (R510, R511). -/
def ClockSt.vco (c : ClockSt) (loop : Nat) : Nat := c.hz c.ref / c.refDiv c.ref * loopMult loop

/-- What a loop gives CLKOUT, as a division of its VCO (R511, R524): CORE 1.25 GHz, symbol clocks 5.625 GHz, lane clocks
16.0 GHz, the trunks' sample clock 400 MHz, the cellar's clock 3.2 GHz. -/
def loopDiv (loop : Nat) : Nat :=
  match loop with
  | 0 => 4
  | 1 | 2 | 3 | 4 => 2
  | 5 | 6 => 1
  | 7 => 8
  | _ => 2

/-- The nominal rate of a source of CLKOUT as a frequency in Hz and a divisor: PBUS is CORE divided by P, and CBUS is PBUS
divided by Q (R512, R524); the tick is 31,250 cycles of CORE. -/
def ClockSt.srcRate (c : ClockSt) (src : Nat) : Nat × Nat :=
  match src with
  | 0 => (c.hz .xa, 1)
  | 1 => (c.hz .xb, 1)
  | 2 => (c.hz .fio, 1)
  | 3 => (sioHz, 1)
  | 4 => (c.vco 0 / loopDiv 0, 1)
  | 5 => (c.vco 0 / loopDiv 0, c.p)
  | 6 => (c.vco 0 / loopDiv 0, c.p * c.q)
  | 15 => (c.vco 0 / loopDiv 0, 31250)
  | n => (c.vco (n - 6) / loopDiv (n - 6), 1)

/-! ## Faults, temperature, inputs (18) -/

/-- A latched notice (R538). -/
structure Notice where
  code  : Nat
  count : Nat
  unit  : Nat
deriving DecidableEq, Repr

/-- A ring entry of the fault record (R547). -/
structure FaultRec where
  code : Nat
  unit : Nat
  tick : Nat
deriving DecidableEq, Repr

/-- The fault record (R546, R547). -/
structure Record where
  ring  : List FaultRec      -- oldest first, at most 60
  next  : Nat
  fatal : Option FaultRec
  detail : Word
  total : Nat
deriving DecidableEq, Repr

/-- Quiet periods of FAULT_CONFIG. -/
structure QuietCfg where
  line  : Nat
  drop  : Nat
  trunk : Nat
  lane  : Nat
  din   : Nat
deriving DecidableEq, Repr

/-- Faults (18). -/
structure FaultSt where
  notices : List Notice
  conds   : List (Nat × Nat)  -- condition notices whose condition holds: code and unit (R539)
  raised  : List Nat          -- event notices raised in the present tick (R539)
  latchFull : Nat
  record  : Record
  quiet   : QuietCfg
  dampedDue : Bool            -- DAMPED is entered at the next edge (R541)
  parityA : Bool              -- the parity of the first and of the second copy of the collector's registers is good (R544)
  parityB : Bool
  same    : Bool              -- the two copies agree (R544)
deriving DecidableEq, Repr

/-- A temperature sensor (R549, R553). -/
structure Sensor where
  reading : Int
  warnUp  : Nat
  warnDn  : Nat
  dampUp  : Nat
  dampDn  : Nat
  warn    : Bool
  damp    : Bool
  lost    : Bool
  invalid : Nat
  validRun : Nat
  offset  : Int
deriving DecidableEq, Repr

/-- Temperature supervision. -/
structure ThermalSt where
  warn    : Int
  damp    : Int
  sensors : List Sensor
  pendClear : List Nat       -- sensors whose WARN was confirmed when supervision was suspended (R554)
deriving DecidableEq, Repr

/-- DIN_CONFIG settings. -/
structure DinCfg where
  filter : Nat
  invB : Nat
  enA  : Nat
  enB  : Nat
  d    : List Nat
deriving DecidableEq, Repr

/-- A discrete input (R555 to R560). -/
structure Din where
  a      : Bool
  b      : Bool
  value  : Bool
  cand   : Bool           -- the value the filter is counting
  filt   : Nat
  run    : Nat
  fault  : Bool
  quiet  : Nat
  quietNeed : Nat         -- QUIET in force when the quiet period started (R535)
  recoveries : Nat
  hearth : Nat            -- consecutive hearth samples that agree on a new value
deriving DecidableEq, Repr

/-- Discrete inputs. -/
structure DinSt where
  cfg    : DinCfg
  inputs : List Din
deriving DecidableEq, Repr

/-! ## Calibration, test, keep-store (19) -/

/-- CAL_CONFIG settings. -/
structure CalCfg where
  line  : Nat
  drop  : Nat
  trunk : Nat
  lane  : Nat
deriving DecidableEq, Repr

/-- Calibration of a unit (R565, R569). -/
structure CalUnit where
  progress : Nat
  ever   : Bool
  doneTick : Nat
  stale  : Bool
  trim   : BitVec 16
  temp   : Nat             -- whole degrees C + 64
  txSide : Nat             -- transmit-side slices done in the present cycle of a trunk
  next   : Option (BitVec 16 × Nat)  -- trims and temperature of this tick's slice, in effect at the next edge
deriving DecidableEq, Repr

/-- Calibration (19). -/
structure CalSt where
  cfg    : CalCfg
  served : List Nat        -- units served in this tick
  last   : List Nat        -- unit last served per class
  units  : Table CalUnit
  vrefBad : Bool
  rsetBad : Bool
  vrefGood : Nat
  rsetGood : Nat
  refTrim : BitVec 16
deriving DecidableEq, Repr

/-- Result of a unit's self-test (R573, SELFTEST_RESULT). -/
structure TestRes where
  result : Nat
  check  : Nat
  endTick : Nat
deriving DecidableEq, Repr

/-- The full self-test (R571 to R576): state 0 never, 1 running, 2 complete; groups still to run, the units of the
present group still under test, its start. -/
structure TestSt where
  state  : Nat
  groups : List (List Nat)
  total  : Nat
  done   : Nat
  active : List Nat
  start  : Nat
  results : Table TestRes
deriving DecidableEq, Repr

/-- Skim of a unit (R578, R579). -/
structure SkimUnit where
  due    : Nat             -- edge at which the present skim became or becomes due
  next   : Nat             -- the due edge after it
  slices : Option Nat      -- slices done of a skim under way
  ran    : Option Nat      -- the failed check, or 0, of a slice that has run in this tick
  bad    : Nat             -- check that has failed in the skim under way, or 0
  result : Nat
  check  : Nat
  tick   : Nat
  passes : Nat
  fails  : Nat
  overdues : Nat
  abandoned : Nat
  tkPasses : Nat
  tkFails : Nat
  tkOverdues : Nat
  tkAbandoned : Nat
  clr : Nat               -- counters to be reduced at commit step 6 (R221)
deriving DecidableEq, Repr

/-- The skim test. -/
structure SkimSt where
  period : Nat
  enable : Bool
  count  : Nat
  units  : Table SkimUnit
deriving DecidableEq, Repr

/-- A keep-store command under way (R589): the words still to be written, each with its value; whether the first
has begun; the channel and SEQ to be answered; which command it is. -/
structure KeepJob where
  words : List (Nat × Word)
  all   : List Nat
  reply : Option ReplyTo
  op    : Nat
  extra : Nat              -- life-cycle: target and seal; otherwise 0
deriving DecidableEq, Repr

/-- The keep-store (R586 to R591): the non-zero words, the non-zero wear counters, the hearth's keep cache. -/
structure KeepSt where
  words : Table Word
  wear  : Table Nat
  cache : Table Word
  job   : Option KeepJob
deriving DecidableEq, Repr

/-! ## Configuration waiting for its edge (R26) -/

/-- One accepted change of configuration, applied at commit step 8 in the order of acceptance. -/
inductive Cfg where
  | line (ch : Nat) (c : LineCfg)
  | lineRetrain (ch : Nat) (full : Bool)
  | lineAdapt (ch : Nat) (c : LineAdapt)
  | lineWatch (ch : Nat) (c : LineWatch)
  | lineTdr (ch : Nat) (job : TdrJob)
  | bundle (bg : Nat) (enable : Bool) (mode : Nat)
  | drop (ds : Nat) (c : DropCfg)
  | trunkSig (tr : Nat) (c : SigCfg)
  | trunk (tr : Nat) (c : TrunkCfg)
  | trunkKindle (tr : Nat)
  | bypass
  | host (g : Nat) (c : HostCfg) (retune : Bool)
  | hostPrbs (g : Nat) (p : Prbs)
  | port (p : Nat) (c : BridgePort)
  | vlan (vid : Nat) (mask : Nat)
  | fdbCfg (age slice : Nat)
  | fdbAdd (mac vid mask : Nat)
  | fdbDel (mac vid : Nat)
  | streamSet (i : Nat) (e : Stream)
  | streamDel (i : Nat)
  | nodeSet (n : Nat) (parent : Parent) (level weight : Nat)
  | nodeDel (n : Nat)
  | queueSet (q : Nat) (c : QueueCfg)
  | queueDel (q : Nat)
  | root (r rate ovh : Nat)
  | shaper (node : Bool) (id : Nat) (enable : Bool) (cir pir cbs pbs : Nat)
  | policer (i : Nat) (enable mode1 aware yd : Bool) (ovh cir pir cbs pbs : Nat)
  | gates (r : Nat) (l : GateList)
  | guar (i : Nat) (rate burst target yieldQ : Nat)
  | guarDel (i : Nat)
  | run (cause : Nat)      -- an admission run at the edge (R404)
  | spool (size : Nat) (overwrite : Bool) (hours : Nat) (rq : List (Bool × Nat))
  | spoolReplay (g : Nat)
  | identity
  | fabLink (root : Nat) (fabric macsec : Bool) (boundary : Nat)
  | wake (c : WakeCfg)
  | clockPlan (p q : Nat) (ref : Ref)
  | clockGate (en : Nat)
  | pps (c : PpsCfg)
  | quiet (c : QuietCfg)
  | thermal (warn damp : Int)
  | din (c : DinCfg)
  | cal (c : CalCfg)
  | selftest (groups : List (List Nat)) (skipped : List Nat)
  | skim (period : Nat) (enable : Bool) (count : Nat)
deriving DecidableEq, Repr

/-- What waits for the edge that ends the present tick: a line link to be dropped (R224), a trunk link to be dropped
(R314), a lane group to retrain (R342), and a unit that a channel-level fault silences (R535), with its root and the
fault's code. -/
inductive EdgeAct where
  | relink (ch : Nat)
  | trunkDrop (tr : Nat)
  | hostRetrain (g : Nat)
  | silence (root code : Nat)
deriving DecidableEq, Repr

/-! ## The whole state -/

/-- The state of the block. -/
structure State where
  time    : TimeSt
  boot    : BootSt
  fuses   : Fuses
  life    : LifeSt
  pins    : Pins
  mbx     : MbxSt
  peers   : Table PeerSlot
  cfgq    : List Cfg            -- configuration accepted and not yet in effect (R26)
  cfgDue  : Nat                 -- how many of its entries the commit has taken for the next edge (R25, R26)
  edgeq   : List EdgeAct        -- what happens at the next edge
  lines   : Table Line
  bundles : Table Bundle
  drops   : Table Drop
  trunks  : Table Trunk
  hosts   : Table LaneGroup
  bridge  : BridgeSt
  sched   : SchedSt
  arrived : List Arrived        -- frames that completed arrival and are not yet classified
  cellar  : CellarSt
  fabric  : FabricSt
  power   : PowerSt
  clock   : ClockSt
  faults  : FaultSt
  thermal : ThermalSt
  din     : DinSt
  cal     : CalSt
  test    : TestSt
  skim    : SkimSt
  keep    : KeepSt
  pending : List Instr          -- commands waiting, first in first out (the model's own)
deriving DecidableEq, Repr


/-! ## Stops -/

/-- Why a command stops the model. -/
inductive Fault where
  /-- Raised by TICK_EDGE while clock ratios that R513 does not allow are in force: the device has a core clock
  that R513 calls undefined, so no tick can be given an effect. Safe: the model stops where the device goes on in
  a way the spec does not give. -/
  | clockRatiosUndefined
deriving DecidableEq, Repr

/-- Why a command is refused. -/
inductive Refusal where
  /-- Answered by an arm of exec whose command has no meaning yet. Safe: nothing runs. -/
  | notModelled (mnemonic : String)
deriving DecidableEq, Repr

/-! ## Reset values: every field of a unit right after reset -/

/-- LINE_CONFIG after reset: channel disabled (R80, LINE_CONFIG). -/
def LineCfg.reset : LineCfg :=
  ⟨false, false, 0, 0, false, false, false, false, 0, 0⟩

/-- RX_ADAPT_CONFIG after reset (06 RX_ADAPT_CONFIG): echo 2/8, FFE 3/9, DFE 3/9, bundle 2/8, PRE_UPD 3. -/
def LineAdapt.reset : LineAdapt :=
  ⟨2, 8, 3, 9, 3, 9, 2, 8, false, false, false, false, false, 3⟩

/-- LINE_WATCH_CONFIG after reset. -/
def LineWatch.reset : LineWatch := ⟨128, 6, 40, 700, 12, 30, 0⟩

/-- Line counters after reset (R220). -/
def LineCnt.zero : LineCnt := ⟨0, 0, 0, 0, 0, 0, 0, 0, 0, 0, 0, 0, 0, 0, 0, 0, 0⟩

/-- The empty coefficient set. -/
def CoefSet.none : CoefSet := ⟨0, []⟩

/-- An empty coefficient bank. -/
def LineBank.empty : LineBank :=
  ⟨false, 0, 0, false, 0, CoefSet.none, CoefSet.none, List.replicate 7 [], [], 0, 0, false⟩

/-- No training in progress. -/
def LineTrain.idle : LineTrain :=
  ⟨0, 0, false, false, false, 0, 0, false, false, false, false, false, false, [], 0, Option.none, 0, 0, false, false, 0⟩

/-- No SFM reception. -/
def LineSfm.idle : LineSfm := ⟨false, false, 0, 0, 0, 0, 0, 0, false, 0, 0, false⟩

/-- A line channel after reset. -/
def Line.reset : Line where
  cfg := LineCfg.reset
  state := .disabled
  mode := 0
  slave := false
  eee := false
  attempts := 0
  attemptStart := 0
  attemptsDone := 0
  lastFail := 0
  resumed := false
  peerStd := 0
  peerHal := 0
  peerSeed := 0
  peerSnr := 0xFFFF
  upTick := 0
  train := LineTrain.idle
  sfm := LineSfm.idle
  bank := LineBank.empty
  coefTx := Option.none
  coefRx := Option.none
  coefDue := false
  coefLater := 0
  adapt := LineAdapt.reset
  preUpdates := 0
  preRun := List.replicate 16 0
  blwEnd := 0
  blwRun := 0
  view := ⟨LineBank.empty, false, 0, 0x1F, 0, false⟩
  txBackoff := 0
  asJoiner := false
  sfTx := Option.none
  sfPhase := 0
  oamOut := []
  oamSeqTx := 0
  statAge := 0
  statCorr := 0
  statUncorr := 0
  statSnap := (0, 0)
  slpAsked := false
  slpAcked := false
  stdPrec := 0
  stdReq := 0
  stdOam := Option.none
  oamTx := []
  oamRx := []
  oamLost := 0
  oamSeq := Option.none
  cnt := LineCnt.zero
  cntTick := LineCnt.zero
  recoveries := 0
  snrHist := []
  snrMin := 0x7FFF
  avgHist := []
  uncorrHist := []
  partStat := Option.none
  watch := LineWatch.reset
  lpiTx := .active
  wakeReq := false
  lpiRx := .active
  idle := 0
  sleep := .none
  quietP := Option.none
  tdr := Option.none
  baseline := Option.none
  reconf := false
  isolated := false
  joinStart := Option.none
  joining := Option.none
  heldSurvey := false
  clr := 0

/-- A bundle group after reset. -/
def Bundle.reset : Bundle where
  enabled := false
  mode := 0
  valid := [false, false, false, false]
  survey := 0
  surveyStart := 0
  surveyPos := []
  surveyOut := []
  coupling := List.replicate 12 0xFF
  noise := 0
  surveyTick := 0

/-- The PLCA values of DROP_CONFIG after reset. -/
def Plca.reset : Plca := ⟨14, 32, 0, 128⟩

/-- Drop counters after reset. -/
def DropCnt.zero : DropCnt := ⟨0, 0, 0, 0, 0, 0, 0, 0, List.replicate 15 0⟩

/-- A drop segment after reset. -/
def Drop.reset : Drop where
  cfg := ⟨true, false, false, Plca.reset⟩
  plca := Plca.reset
  state := .disabled
  upTick := 0
  heard := 0
  heardUp := 0
  dup := 0
  streak := List.replicate 15 0
  collided := 0
  clean := 0
  conflict := false
  foreignCyc := false
  foreignRun := 0
  cleanRun := 0
  opp := Option.none
  taken := false
  burstLeft := 0
  badFrames := 0
  cnt := DropCnt.zero
  cntTick := DropCnt.zero
  recoveries := 0
  quietP := Option.none
  isolated := false
  clr := 0

/-- Signal counters after reset. -/
def SigCnt.zero : SigCnt := ⟨0, 0, 0, 0, 0, 0, [0, 0, 0, 0], 0, 0⟩

/-- A trunk after reset: released, since BYPA and BYPB are low (R318). -/
def Trunk.reset : Trunk where
  sig := ⟨0, 0, 12, 7, 0⟩
  attenNow := 0
  rangeNow := 0
  classRx := 0
  agcGain := 0
  agcUntil := Option.none
  freqOfs := Option.none
  delayRx := 0
  snrAvg := 0
  rxSet := 0
  txSet := 0
  burstTick := 0
  preTick := Option.none
  trackTick := Option.none
  taken := false
  carried := false
  missTick := Option.none
  halfTick := Option.none
  txLoad := List.replicate 64 0
  rxLoad := List.replicate 64 0
  rxSent := 0
  sentLoad := List.replicate 64 0
  useSet := 0
  useLoad := List.replicate 64 0
  rxPos := 0
  copies := 0
  combine := false
  lateRx := false
  segSnr := Option.none
  loadWait := Option.none
  sigCnt := SigCnt.zero
  sigTick := SigCnt.zero
  cfg := ⟨true, 0, 3, 0, 4, false, 660⟩
  state := .bypassed
  stage := 0
  stageStart := 0
  attempts := 0
  attemptsDone := 0
  lastFail := 0
  follower := false
  split := 4
  cls := 3
  long := false
  aligned := false
  delay := 0
  peerSerial := 0
  upTick := 0
  choice := 3
  peerChoice := Option.none
  qualify := []
  loadDue := 0
  evalDue := 0
  soundDue := 0
  peerOfs := 0
  idRx := false
  idAcked := false
  soundTx := 0
  classTx := false
  startRx := false
  startTx := false
  startSeq := 0
  ann := Option.none
  missFrames := 0
  abandonFrames := 0
  abandonNow := false
  txq := []
  txPart := Option.none
  txSeq := 0
  txTick := Option.none
  drawTick := Option.none
  txSpan := Option.none
  txRefl := false
  txPos := 0
  txBurst := []
  txPair := false
  rxExpect := 0
  rxSync := false
  rxSkip := false
  rxGot := []
  retx := 0
  tluDrop := 0
  frameLost := 0
  badFrames := 0
  ctl := []
  statusFor := []
  soundReq := false
  peerLocked := false
  quietP := Option.none
  recoveries := 0
  kindle := Option.none
  relayEnd := Option.none
  reflect := Option.none
  reflAt := 0
  detector := .rest
  isolated := false
  clr := 0

/-- Lane group counters after reset. -/
def HostCnt.zero : HostCnt := ⟨0, 0, 0, 0, 0, 0, 0, 0, 0, 0, 0, 0⟩

/-- HOST_CONFIG after reset. -/
def HostCfg.reset : HostCfg := ⟨40, false, true, false, List.replicate 8 32⟩

/-- Eight zeros: a value per lane or per class. -/
def zeros8 : List Nat := List.replicate 8 0

/-- A host lane group after reset, in state DISABLED. -/
def LaneGroup.reset : LaneGroup where
  cfg := HostCfg.reset
  credUp := List.replicate 8 32
  state := .disabled
  stage := .clock
  stageStart := 0
  retrain := false
  retrainFails := 0
  attempts := 0
  attemptsDone := 0
  lastFail := 0
  txEidle := true
  rxEidle := true
  coefValid := false
  pol := 0
  reversed := false
  skew := zeros8
  coefPre := zeros8
  coefPost := zeros8
  stPre := zeros8
  stPost := zeros8
  stLane := 0
  rxReady := false
  req := ⟨0, 0, 0, false, true⟩
  reqNum := 0
  checkGood := 0
  upTick := 0
  upsSinceReset := 0
  txSeq := 0
  ackedSeq := Option.none
  unacked := []
  sideWait := []
  rxExpect := 0
  nakOwed := false
  nakSentAt := Option.none
  lastNakSeq := Option.none
  crTurn := 0
  resends := 0
  hunting := false
  huntOne := false
  grantIn := zeros8
  grantEdge := zeros8
  usedOut := zeros8
  grantOut := zeros8
  usedIn := zeros8
  grantDue := zeros8
  owes := false
  idle := 0
  still := true
  prbs := ⟨0, false, false, 0, 0, 0⟩
  badFrames := 0
  cnt := HostCnt.zero
  cntTick := HostCnt.zero
  recoveries := 0
  quietP := Option.none
  isolated := false
  spoolAcked := 0
  spoolSent := 0
  ackNext := Option.none
  clr := 0

/-- Bridge settings of a port after reset (R358). -/
def BridgePort.reset : BridgePort := ⟨1, true, true, true, 0, 0x00FAC688⟩

/-- Bridge counters after reset. -/
def BridgeCnt.zero : BridgeCnt := ⟨0, 0, 0, 0, 0, 0⟩

/-- The bridge after reset: every port in VLAN 1 (R358). -/
def BridgeSt.reset : BridgeSt where
  ports := []
  vlans := [(1, 2 ^ 136 - 1)]
  fdb := []
  learns := []
  ageTime := 30000
  slice := 8192
  agePos := 0
  streams := []
  cnt := BridgeCnt.zero
  cntTick := BridgeCnt.zero
  clr := 0

/-- A disabled shaper (R385). -/
def Shaper.off : Shaper := ⟨false, 0, 0, 0, 0, 0, 0, 0, 0, 0, 0⟩

/-- A queue that is not configured (R369). -/
def Queue.reset : Queue where
  conf := false
  cfg := ⟨⟨true, 0⟩, 0, 1, 0, false, 0⟩
  shaper := Shaper.off
  held := []
  tagS := 0
  tagF := 0
  elig := false
  enqFrames := 0
  enqBytes := 0
  deqFrames := 0
  deqBytes := 0
  dropLimit := 0
  dropFlush := 0
  heldOver := 0
  tkEnqFrames := 0
  tkEnqBytes := 0
  tkDeqFrames := 0
  tkDeqBytes := 0
  tkDropLimit := 0
  tkDropFlush := 0
  tkHeldOver := 0
  leaving := 0
  clr := 0

/-- A node that is not configured. -/
def Node.reset : Node := ⟨false, ⟨true, 0⟩, 0, 1, Shaper.off, 0, 0, false⟩

/-- A policer that is not configured (R393). -/
def Policer.reset : Policer :=
  ⟨false, false, false, false, 0, 0, 0, 0, 0, 0, 0, 0, 0, 0, 0, 0, 0, 0, 0, 0, 0, 0, 0, 0, 0, 0⟩

/-- The cellar's side of a lane group after reset. -/
def SpoolGroup.reset : SpoolGroup := ⟨0, 0, false, 0, false, Option.none, [], 0, 0, 0, 0, 0, 0, 0, 0, 0⟩

/-- The cellar after reset (14). -/
def CellarSt.reset : CellarSt where
  trained := false
  size := 0
  overwrite := false
  scrubHours := 4
  store := []
  nextId := 0
  used := 0
  retired := []
  ce := 0
  ue := 0
  noPage := 0
  tkCe := 0
  tkUe := 0
  tkNoPage := 0
  scrubTick := 0
  scrubPos := 0
  scrubFrom := 0
  spool := []
  groups := [SpoolGroup.reset, SpoolGroup.reset, SpoolGroup.reset, SpoolGroup.reset]
  armed80 := true
  armed95 := true
  selfRefresh := false
  clr := 0

/-- Fabric counters after reset. -/
def FabCnt.zero : FabCnt := ⟨0, 0, 0, 0, 0, 0, 0⟩

/-- Recovery counters after reset. -/
def RecCnt.zero : RecCnt := ⟨0, 0, 0, 0, 0, 0⟩

/-- A sequence recovery function right after a reset of it (R470): the next frame is taken. -/
def Recovery.reset : Recovery := ⟨true, 0, [], 0, RecCnt.zero, RecCnt.zero, 0⟩

/-- A link of which nothing has been set (R435, R444, R472). -/
def FabLink.reset : FabLink := ⟨false, false, 0, 0, 0, none, 1, none⟩

/-- The fabric engine after reset: a device alone, path 1.1.1.1, POLICY 0x0029CB6D. -/
def FabricSt.reset : FabricSt where
  started := false
  fid := 0
  fkey := 0
  state := .alone
  links := []
  adjs := []
  topo := []
  topoTick := [0, 0, 0, 0]
  elect := [false, false, false, false]
  elected := Option.none
  topoDue := false
  topoSent := 0
  ownSeq := 0
  helloSent := []
  helloExtra := []
  path := 0x1111
  leads := 0xF
  leadsTc := 0xF
  routesSent := false
  routes := []
  tree := []
  pendRoute := Option.none
  paths := []
  pathsTc := []
  routeRecs := []
  hellos := []
  excl := 0
  keySeen := []
  cmpWith := []
  tc := 0
  d := 0
  members := []
  epoch := 0
  cfg := ⟨0x0029CB6D#32, []⟩
  digest := 0
  prevEpoch := 0
  prevDigest := 0
  actTick := 0
  staged := ⟨0x0029CB6D#32, []⟩
  prep := Option.none
  catchup := Option.none
  locked := true
  syncs := 0
  adjust := 0
  owed := 0
  step := Option.none
  steer := 0
  steering := false
  syncNext := 0
  syncPass := Option.none
  keys := []
  recov := []
  seqGen := []
  cnt := FabCnt.zero
  cntTick := FabCnt.zero
  outbox := []
  ctlCounted := 0
  clr := 0

/-- The fabric engine after a reset with a FABRIC_ID kept: with one that is not 0 it holds no path and leads nothing (R596). -/
def FabricSt.withId (fid : Nat) : FabricSt :=
  if fid = 0 then FabricSt.reset
  else { FabricSt.reset with state := .inaugurating, path := 0, leads := 0, leadsTc := 0, locked := false }

/-- The power system after reset. Every unit domain is on (log 1). -/
def PowerSt.reset : PowerSt where
  on := 0x3FFF
  jobs := []
  entry := Option.none
  wake := ⟨0, 0, 0, true, true, 0⟩
  lastState := 0
  aborted := false
  latched := false
  cause := 0
  source := 0
  sleep := 0
  lost := 0
  banked := Option.none
  railsOk := true
  waking := false
  fired := Option.none
  railFail := false
  trace := []
  tail := []

/-- The clock system after reset: running on FIO (R511), P 4 and Q 2 (R512). -/
def ClockSt.reset : ClockSt where
  ref := .fio
  p := 4
  q := 2
  runXa := false
  runXb := false
  runFio := false
  runSio := true
  xbFreq := 0
  locked := 0
  first := 0
  switch := Option.none
  switchLost := Option.none
  failovers := 0
  ppm := Option.none
  gates := 0x1F
  nmi := Option.none
  pps := ⟨4000, false, false, false⟩
  ppsEnd := Option.none
  capture := Option.none
  clkout := ⟨false, 0, 0⟩
  clkNow := ⟨false, 0, 0⟩
  changing := false
  clkHeld := Option.none
  clkWait := false

/-- The empty fault record (R546). -/
def Record.empty : Record := ⟨[], 0, Option.none, 0, 0⟩

/-- A sensor after reset. -/
def Sensor.reset : Sensor := ⟨0, 0, 0, 0, 0, false, false, false, 0, 0, 0⟩

/-- A discrete input after reset. -/
def Din.reset : Din := ⟨false, false, false, false, 0, 0, false, 0, 0, 0, 0⟩

/-- A calibration unit after reset. -/
def CalUnit.reset : CalUnit := ⟨0, false, 0, false, 0x8208, 0, 0, Option.none⟩

/-- A skim unit after reset. -/
def SkimUnit.reset : SkimUnit := ⟨0, 0, Option.none, Option.none, 0, 0, 0, 0, 0, 0, 0, 0, 0, 0, 0, 0, 0⟩

/-- A mailbox channel after reset. -/
def Chan.reset : Chan where
  msg := List.replicate 16 0
  busy := false
  cancel := false
  selected := false
  ack := ⟨false, false, 0, 0, 0⟩
  ret := List.replicate 16 0
  hg := 0

/-- Mailboxes and doorbells after reset (R118, R130). -/
def MbxSt.reset : MbxSt where
  chans := List.replicate 8 Chan.reset
  lastNorth := 6
  lastSouth := 6
  fourSouth := false
  peerIn := []
  peerOut := []
  dbStatus := 0
  dbMask := 0
  shadow := [Option.none, Option.none]
  ring := []
  ringLost := 0
  deferred := []
  far := []

/-- Unblown fuses: life-cycle state BLANK, no anti-rollback bit, root key hash 0, grade E, serial 0 (log 1). -/
def Fuses.unblown : Fuses := ⟨0, 0, 0, 0, 0, 0, 0, false, 0⟩

/-- The block at the start of a power-on reset: RESET_N low or its 50 us hold still running (R54, R82). -/
def State.reset : State where
  time := ⟨0, false, false⟩
  boot :=
    { held := true
      cause := ⟨.powerOn, 0, false, false, 0⟩
      power := .boot
      stage := .reset
      configArea := 0
      configState := .none
      slotB := false
      slotFallback := false
      stewardSouth := false
      tokenParity := true
      ready := false
      fwVersion := 0
      runSv := 0
      images := [Option.none, Option.none]
      halted := false
      replaying := false
      policy := 0
      stewardMove := Option.none
      resetAt := Option.none
      replay := Option.none }
  fuses := Fuses.unblown
  life := ⟨.blank, false, 0, [], 0, false⟩
  pins := ⟨.rising, .rising, .rising, .low, .low, .hiZ, .hiZ⟩
  mbx := MbxSt.reset
  peers := []
  cfgq := []
  cfgDue := 0
  edgeq := []
  lines := []
  bundles := []
  drops := []
  trunks := []
  hosts := []
  bridge := BridgeSt.reset
  sched :=
    { queues := []
      nodes := []
      vtimes := []
      roots := []
      policers := []
      guars := []
      nextSeq := 0
      flushes := []
      enqueues := []
      runCauses := []
      runHeld := []
      active := []
      picked := [] }
  arrived := []
  cellar := CellarSt.reset
  fabric := FabricSt.reset
  power := PowerSt.reset
  clock := ClockSt.reset
  faults :=
    { notices := []
      raised := []
      conds := []
      latchFull := 0
      record := Record.empty
      quiet := ⟨4000, 4000, 4000, 4000, 4000⟩
      dampedDue := false
      parityA := true
      parityB := true
      same := true }
  thermal := ⟨100, 112, List.replicate 10 Sensor.reset, []⟩
  din := ⟨⟨1, 0, 0, 0, List.replicate 4 2000⟩, List.replicate 4 Din.reset⟩
  cal :=
    { cfg := ⟨8, 2, 3, 2⟩
      served := []
      last := [0, 0, 0, 0]
      units := []
      vrefBad := false
      rsetBad := false
      vrefGood := 0
      rsetGood := 0
      refTrim := 0 }
  test := ⟨0, [], 0, 0, [], 0, []⟩
  skim := ⟨36000, false, 2, []⟩
  keep := ⟨[], [], [], Option.none⟩
  pending := []

end Machine
end Sys2Proof
end

