-- ==== Sys2Proof/Machine/Ops.lean ====
section
/-! DEFINITION. The named operations that every family shares: sparse tables, access to one unit, time, doorbells,
the event ring, the fault record, notices, FATAL faults, and power domains. -/
namespace Sys2Proof
namespace Machine

/-! ## Sparse tables -/

/-- The entry of a table at an index, or the default. -/
def tget {α : Type} (d : α) : Table α → Nat → α
  | [], _ => d
  | (k, v) :: t, i => if k = i then v else tget d t i

/-- The entry of a table at an index, if one is listed. -/
def tfind {α : Type} : Table α → Nat → Option α
  | [], _ => none
  | (k, v) :: t, i => if k = i then some v else tfind t i

/-- A table with the entry at `i` replaced or listed. Indices stay rising. -/
def tset {α : Type} : Table α → Nat → α → Table α
  | [], i, x => [(i, x)]
  | (k, v) :: t, i, x =>
    if i < k then (i, x) :: (k, v) :: t
    else if i = k then (i, x) :: t
    else (k, v) :: tset t i x

/-- A table without the entry at `i`. -/
def tdel {α : Type} (t : Table α) (i : Nat) : Table α := t.filter (fun e => e.1 != i)

/-- A table with the entry at `i` changed. -/
def tmod {α : Type} (d : α) (t : Table α) (i : Nat) (f : α → α) : Table α := tset t i (f (tget d t i))

/-- Every listed entry changed. -/
def tmap {α : Type} (f : Nat → α → α) : Table α → Table α
  | [] => []
  | (k, v) :: t => (k, f k v) :: tmap f t

/-- Indices rise strictly. -/
def tsorted {α : Type} : Table α → Bool
  | [] => true
  | [_] => true
  | (a, _) :: (b, y) :: t => decide (a < b) && tsorted ((b, y) :: t)

/-- The lowest index below `n` that a table does not list, searching upwards from `i`. -/
def tfree {α : Type} (t : Table α) (i : Nat) : Nat → Option Nat
  | 0 => none
  | n + 1 => match tfind t i with
    | none => some i
    | some _ => tfree t (i + 1) n

/-- An element of a list changed. -/
def lmod {α : Type} (l : List α) (i : Nat) (f : α → α) : List α :=
  match l, i with
  | [], _ => []
  | a :: t, 0 => f a :: t
  | a :: t, i + 1 => a :: lmod t i f

/-- The last `n` elements of a list. -/
def lastN {α : Type} (n : Nat) (l : List α) : List α := l.drop (l.length - n)

/-! ## Units -/

/-- Line channel `ch`. -/
def State.line (s : State) (ch : Nat) : Line := tget Line.reset s.lines ch
/-- Line channel `ch` changed. -/
def State.modLine (s : State) (ch : Nat) (f : Line → Line) : State :=
  { s with lines := tmod Line.reset s.lines ch f }
/-- Bundle group `bg`. -/
def State.bundle (s : State) (bg : Nat) : Bundle := tget Bundle.reset s.bundles bg
/-- Bundle group `bg` changed. -/
def State.modBundle (s : State) (bg : Nat) (f : Bundle → Bundle) : State :=
  { s with bundles := tmod Bundle.reset s.bundles bg f }
/-- Drop segment `ds`. -/
def State.drop (s : State) (ds : Nat) : Drop := tget Drop.reset s.drops ds
/-- Drop segment `ds` changed. -/
def State.modDrop (s : State) (ds : Nat) (f : Drop → Drop) : State :=
  { s with drops := tmod Drop.reset s.drops ds f }
/-- Trunk `tr`. -/
def State.trunk (s : State) (tr : Nat) : Trunk := tget Trunk.reset s.trunks tr
/-- Trunk `tr` changed. -/
def State.modTrunk (s : State) (tr : Nat) (f : Trunk → Trunk) : State :=
  { s with trunks := tmod Trunk.reset s.trunks tr f }
/-- Host lane group `g`. -/
def State.host (s : State) (g : Nat) : LaneGroup := tget LaneGroup.reset s.hosts g
/-- Host lane group `g` changed. -/
def State.modHost (s : State) (g : Nat) (f : LaneGroup → LaneGroup) : State :=
  { s with hosts := tmod LaneGroup.reset s.hosts g f }
/-- Mailbox channel `n`. -/
def State.chan (s : State) (n : Nat) : Chan := s.mbx.chans.getD n Chan.reset
/-- Mailboxes changed. -/
def State.modMbx (s : State) (f : MbxSt → MbxSt) : State := { s with mbx := f s.mbx }
/-- Mailbox channel `n` changed. -/
def State.modChan (s : State) (n : Nat) (f : Chan → Chan) : State :=
  s.modMbx (fun m => { m with chans := lmod m.chans n f })
/-- Start-up status changed. -/
def State.modBoot (s : State) (f : BootSt → BootSt) : State := { s with boot := f s.boot }
/-- Output balls changed. -/
def State.modPins (s : State) (f : Pins → Pins) : State := { s with pins := f s.pins }
/-- Power state changed. -/
def State.modPower (s : State) (f : PowerSt → PowerSt) : State := { s with power := f s.power }
/-- Clocks changed. -/
def State.modClock (s : State) (f : ClockSt → ClockSt) : State := { s with clock := f s.clock }
/-- Faults changed. -/
def State.modFaults (s : State) (f : FaultSt → FaultSt) : State := { s with faults := f s.faults }
/-- Bridge changed. -/
def State.modBridge (s : State) (f : BridgeSt → BridgeSt) : State := { s with bridge := f s.bridge }
/-- Queues, nodes, roots changed. -/
def State.modSched (s : State) (f : SchedSt → SchedSt) : State := { s with sched := f s.sched }
/-- Cellar changed. -/
def State.modCellar (s : State) (f : CellarSt → CellarSt) : State := { s with cellar := f s.cellar }
/-- Fabric engine changed. -/
def State.modFabric (s : State) (f : FabricSt → FabricSt) : State := { s with fabric := f s.fabric }
/-- Keep-store changed. -/
def State.modKeep (s : State) (f : KeepSt → KeepSt) : State := { s with keep := f s.keep }

/-! ## Time -/

/-- The present tick. -/
def State.now (s : State) : Nat := s.time.tick

/-- The edge at which a command that completes now takes effect (R26): the next edge, or the one after it when the
command completes within the commit window. -/
def State.nextEdge (s : State) : Nat := if s.time.committed then s.now + 2 else s.now + 1

/-- The edge of the counter snapshot that a command returns (R219): the edge that began the tick it counts in. -/
def State.snapEdge (s : State) : Nat := s.nextEdge - 1

/-- The object that a change writes, as its kind and its number, where of two changes of one object and one tick only the later
takes effect: LINE_CONFIG (R185), DROP_CONFIG (R254), TRUNK_SIGNAL_CONFIG (R293), TRUNK_CONFIG (R326), HOST_CONFIG (R351), and the
entries of bridge, tree, rates and guarantees (R380, R414). -/
def Cfg.target : Cfg → Option (Nat × Nat)
  | .line ch _ => some (0, ch)
  | .drop ds _ => some (1, ds)
  | .trunkSig tr _ => some (2, tr)
  | .trunk tr _ => some (3, tr)
  | .host g _ _ => some (4, g)
  | .port p _ => some (5, p)
  | .vlan vid _ => some (6, vid)
  | .fdbCfg _ _ => some (7, 0)
  | .fdbAdd mac vid _ | .fdbDel mac vid => some (8, 4096 * mac + vid)
  | .streamSet i _ | .streamDel i => some (9, i)
  | .nodeSet n .. | .nodeDel n => some (10, n)
  | .queueSet q _ | .queueDel q => some (11, q)
  | .root r _ _ => some (12, r)
  | .shaper node id .. => some (if node then 13 else 14, id)
  | .policer i .. => some (15, i)
  | .gates r _ => some (16, r)
  | .guar i .. | .guarDel i => some (17, i)
  | .lineRetrain .. | .lineAdapt .. | .lineWatch .. | .lineTdr .. | .bundle .. | .trunkKindle .. | .bypass | .hostPrbs ..
  | .run .. | .spool .. | .spoolReplay .. | .identity | .fabLink .. | .wake .. | .clockPlan ..
  | .clockGate .. | .pps .. | .quiet .. | .thermal .. | .din .. | .cal .. | .selftest .. | .skim .. => none

/-- An accepted change never takes effect beside a later one of the same object and edge. -/
def Cfg.gives (old new : Cfg) : Bool := old.target.isSome && old.target == new.target

/-- Configuration accepted now waits for its edge, behind what the commit has taken already (R26). -/
def State.accept (s : State) (c : Cfg) : State :=
  { s with cfgq := s.cfgq.take s.cfgDue ++ (s.cfgq.drop s.cfgDue).filter (fun e => !e.gives c) ++ [c] }

/-! ## Whether firmware and engines run -/

/-- BOOT_STAGE is FW_START or later, and no failure stage. -/
def Stage.fw : Stage → Bool
  | .fwStart | .cellar | .config | .training | .readiness | .done => true
  | .reset | .romClock | .romImage | .blankWait | .bootFailed => false

/-- An entry into BANKED or EMBER has passed A4: both complexes have saved their state (R495). -/
def State.saved (s : State) : Bool :=
  match s.power.entry with
  | some e => decide (4 ≤ e.steps)
  | none => false

/-- Firmware runs (R128, R139, R480, R495, R541). -/
def State.fwRuns (s : State) : Bool :=
  !s.boot.held && !s.boot.halted && s.boot.stage.fw && (s.boot.power == .run || s.boot.power == .boot) && !s.saved

/-- Units and engines work: firmware runs and the tick sequencer has started. -/
def State.live (s : State) : Bool := s.fwRuns && s.time.seq

/-- The engines of R28 do the work of the tick: its work window has not ended (R24). -/
def State.working (s : State) : Bool := s.live && !s.time.committed

/-- VDDE18 is present and no reset is held. -/
def State.awake (s : State) : Bool := !s.boot.held && s.boot.power != .cold

/-! ## Doorbells and the event ring (R130 to R136) -/

/-- A doorbell bit is set by its source event (R131). -/
def State.doorbell (s : State) (b : Nat) : State :=
  s.modMbx (fun m => { m with dbStatus := m.dbStatus ||| w32 (2 ^ b) })

/-- A record goes onto the ring; doorbell 3 when the ring was empty (R133). -/
def ringPut (m : MbxSt) (e : Event) : MbxSt :=
  { m with ring := m.ring ++ [e]
           dbStatus := if m.ring.isEmpty then m.dbStatus ||| w32 8 else m.dbStatus }

/-- The RING_LOST record is written when the ring has space again (R136). -/
def ringFlush (now : Nat) (m : MbxSt) : MbxSt :=
  if m.ringLost > 0 ∧ m.ring.length < 1024 then
    { ringPut m ⟨now % 2 ^ 24, 0x3F, 0, sat16 m.ringLost⟩ with ringLost := 0 }
  else m

/-- A new event record: written, or discarded and counted when the ring is full (R136). -/
def ringAdd (now : Nat) (m : MbxSt) (e : Event) : MbxSt :=
  let m := ringFlush now m
  if m.ring.length < 1024 then ringPut m e else { m with ringLost := m.ringLost + 1 }

/-- An event record written by the firmware; none while no firmware runs (R134, R543). -/
def State.record (s : State) (type source data : Nat) : State :=
  if s.fwRuns then
    s.modMbx (fun m => ringAdd s.now m ⟨s.now % 2 ^ 24, type, source % 2 ^ 16, data % 2 ^ 16⟩)
  else s

/-- The event behind doorbell bit `type`: the doorbell and its record (R133, R135). -/
def State.event (s : State) (type source data : Nat) : State := (s.doorbell type).record type source data

/-- Records that waited for firmware are written in the order in which they were latched (R538, R502). -/
def State.flushDeferred (s : State) : State :=
  s.modMbx (fun m => m.deferred.foldl (fun m e => ringAdd s.now m e) { m with deferred := [] })

/-- A record that waits for firmware when none runs (R538, R502). -/
def State.recordLater (s : State) (type source data : Nat) : State :=
  if s.fwRuns then s.record type source data
  else s.modMbx (fun m =>
    { m with deferred := m.deferred ++ [⟨s.now % 2 ^ 24, type, source % 2 ^ 16, data % 2 ^ 16⟩] })

/-! ## The fault record and notices (R538 to R547) -/

/-- The level of a fault code (R532). -/
def levelOf (code : Nat) : Nat := fld code 12 4

/-- The subsystem of a fault code (R532). -/
def subsysOf (code : Nat) : Nat := fld code 8 4

/-- The ring of the fault record with one more entry: 60 entries, the oldest overwritten (R546). -/
def Record.push (r : Record) (e : FaultRec) : Record :=
  { r with ring := if r.ring.length < 60 then r.ring ++ [e] else r.ring.set r.next e
           next := (r.next + 1) % 60
           total := sat32 (r.total + 1) }

/-- A fault enters the fault record: the first FATAL or collector-level one also the summary words (R546). -/
def Record.add (r : Record) (e : FaultRec) (detail : Word) : Record :=
  let r := r.push e
  if (levelOf e.code = 0 ∨ levelOf e.code = 3) ∧ r.fatal.isNone then
    { r with fatal := some e, detail := detail }
  else r

/-- The collector writes a fault to the fault record (R546). -/
def State.recordFault (s : State) (code unit : Nat) (detail : Word := 0) : State :=
  s.modFaults (fun f => { f with record := f.record.add ⟨code, unit, s.now⟩ detail })

/-- The notices whose cause is an event: present only in the tick in which they are raised (R539, R573, R579, R588). -/
def eventNotices : List Nat := [0x2601, 0x2801, 0x2901, 0x2A01, 0x2E03, 0x2E04, 0x2E05]

/-- A notice whose cause is an event is present in the tick in which it is raised (R539). -/
def FaultSt.raise (f : FaultSt) (code : Nat) : FaultSt :=
  if eventNotices.contains code && !f.raised.contains code then { f with raised := f.raised ++ [code] } else f

/-- A notice is recorded and latched with its count, or only counted (R538, R539). -/
def State.notice (s : State) (code unit : Nat) : State :=
  let s := (s.recordFault code unit).modFaults (fun f => f.raise code)
  if s.faults.notices.any (fun n => n.code == code) then
    s.modFaults (fun f => { f with notices := f.notices.map (fun n =>
      if n.code = code then { n with count := sat16 (n.count + 1) } else n) })
  else if s.faults.notices.length ≥ 64 then
    s.modFaults (fun f => { f with latchFull := sat16 (f.latchFull + 1) })
  else
    ((s.modFaults (fun f => { f with notices := f.notices ++ [⟨code, 1, unit⟩] })).doorbell 4).recordLater 4 code unit

/-- The condition of a condition notice starts or ends (R539). -/
def State.condition (s : State) (code unit : Nat) (present : Bool) : State :=
  s.modFaults (fun f =>
    { f with conds := let r := f.conds.filter (fun c => c != (code, unit))
                      if present then r ++ [(code, unit)] else r })

/-! ## Roots and domains (R12, R17, R481) -/

/-- The domain code of the unit behind a root (R481). -/
def domOfRoot (r : Nat) : Nat :=
  if r < 96 then 4 + r / 24
  else if r < 128 then 4 + (r - 96) / 8
  else if r < 132 then 8 + (r - 128) / 2
  else if r < 136 then 10 + (r - 132) / 2
  else if r = 136 then 2 else 3

/-- The domain is on. -/
def State.domOn (s : State) (d : Nat) : Bool := bit s.power.on d

/-- The domain is closing: its abort point A1 has passed and it is not yet off (R482). -/
def State.domClosing (s : State) (d : Nat) : Bool :=
  s.power.jobs.any (fun j => j.dom == d && !j.on && decide (j.start ≤ s.now)) ||
    (match s.power.entry with
     | some e => decide (e.start < s.now) && decide (4 ≤ d) && decide (d ≤ 11)
     | none => false)

/-- The unit behind a root is powered and passes frames: engines work, its domain is on and not closing. -/
def State.unitOn (s : State) (r : Nat) : Bool :=
  s.live && s.domOn (domOfRoot r) && !s.domClosing (domOfRoot r)

/-- The unit behind a root is powered. -/
def State.powered (s : State) (r : Nat) : Bool := s.live && s.domOn (domOfRoot r)

/-- In DAMPED a channel-level fault of a unit whose domain is on is only recorded (R541, R543, R546). -/
def State.dampedFault (s : State) (code r : Nat) : State :=
  if s.awake && s.boot.halted && s.domOn (domOfRoot r) then s.recordFault code r else s

/-- A channel-level fault waits for the next edge to silence the unit behind a root. -/
def State.silencePending (s : State) (root : Nat) : Bool :=
  s.edgeq.any (fun a => match a with
    | .silence r _ => r == root
    | .relink _ | .trunkDrop _ | .hostRetrain _ => false)

/-- The unit behind a root is isolated for self-test (R572). -/
def State.isolatedUnit (s : State) (r : Nat) : Bool :=
  if r < 96 then (s.line r).isolated
  else if r < 128 then (s.drop (r - 96)).isolated
  else if r < 132 then (s.trunk (r - 128)).isolated
  else (s.host (r - 132)).isolated

/-! ## Quiet periods (R535 to R537) -/

/-- Something is left for the next edge, once. -/
def State.atEdge (s : State) (a : EdgeAct) : State :=
  if s.edgeq.contains a then s else { s with edgeq := s.edgeq ++ [a] }

/-- The quiet period has ended. -/
def Quiet.done (q : Quiet) (now : Nat) : Bool := decide (q.start + q.len ≤ now)

/-! ## Admission runs (R404) -/

/-- An admission run is due at the next edge: 0 GUARANTEE_SET, 1 re-route, 2 port rate, 3 any other trigger (R404, R406). -/
def State.runDue (s : State) (cause : Nat) : State :=
  s.modSched (fun d => if d.runCauses.contains cause then d else { d with runCauses := d.runCauses ++ [cause] })

/-! ## The mode that a line channel's rate goes by (R392) -/

/-- The slowest mode set in ADV; 0 when none is. -/
def slowestMode (adv : Nat) : Nat :=
  match bitsOf 6 adv with
  | [] => 0
  | i :: _ => i + 1

/-- The mode in force, and otherwise the forced one or the slowest advertised (R392). -/
def Line.rateMode (l : Line) : Nat :=
  if l.mode ≠ 0 then l.mode else if l.cfg.neg then slowestMode l.cfg.adv else l.cfg.mode

/-! ## Outcomes -/

/-- A step that goes on. -/
abbrev Res := Host.Outcome State Fault Refusal

end Machine
end Sys2Proof
end

