-- ==== Sys2Proof/Machine/LaneTx.lean ====
section
/-! DEFINITION. The transmit side of a host lane group that other units use (11): credits, the replay buffer, and
SIDEBAND packets. -/
namespace Sys2Proof
namespace Machine

/-- The credits that a sequenced packet needs (R343). -/
def creditNeed (len : Nat) : Nat := ceilDiv (len + 20) 64

/-- Grants leave room for a packet beside the credits consumed (R343). -/
def LaneGroup.creditBy (g : LaneGroup) (grants : List Nat) (sc len : Nat) : Bool :=
  decide ((grants.getD sc 0 + 2 ^ 17 - (g.usedOut.getD sc 0 + creditNeed len)) % 2 ^ 16 < 2 ^ 15)

/-- A group has credit for a packet, by the last grant received (R343). -/
def LaneGroup.credit (g : LaneGroup) (sc len : Nat) : Bool := g.creditBy g.grantIn sc len

/-- The scheduler has credit for a frame: by the grants at the edge that began the tick (R344). -/
def LaneGroup.creditEdge (g : LaneGroup) (sc len : Nat) : Bool := g.creditBy g.grantEdge sc len

/-- Bytes in a group's replay buffer (R341). -/
def LaneGroup.buffered (g : LaneGroup) : Nat := (g.unacked.map LaneTx.bytes).foldl (· + ·) 0

/-- A group can take one more sequenced packet (R341). -/
def LaneGroup.room (g : LaneGroup) (len : Nat) : Bool :=
  decide (g.unacked.length < 2048) && decide (g.buffered + len + 20 ≤ 262144)

/-- Credits granted at the entry into UP: CRED x 128 for each class (R345). -/
def firstGrants (cred : List Nat) : List Nat := (List.range 8).map (fun c => (128 * cred.getD c 0) % 2 ^ 16)

/-- A header as a group sends it (R334, R338, R340, R343): it acknowledges the last packet accepted, or asks for a resend, and grants
the class whose turn it is; before UP it carries the initial grants. -/
def LaneGroup.fill (x : LaneGroup) (nak : Bool) (p : LanePacket) : LanePacket :=
  { p with
    ackType := if nak then 2 else 1
    ackSeq := (x.rxExpect + 4095) % 4096
    crSc := x.crTurn % 8
    crGrant := (if x.state == .up then x.grantOut else firstGrants x.cfg.cred).getD (x.crTurn % 8) 0 }

/-- An IDLE packet (R338); an EIDLE packet has TYPE 4. -/
def idlePacket : LanePacket := ⟨true, true, 0, 0, false, false, 0, 0, 0, 0, 0, 0, 0, 0, none, [], false⟩

/-- A FRAME packet before SEQ, acknowledgement and grant are set (R338): its ingress port, and for a frame from the spool EVID and its
sequence, with REPLAY where it is resent. -/
def framePacket (sc len port spool : Nat) (evid replay : Bool) : LanePacket :=
  { idlePacket with type := 1, sc := sc % 8, evid := evid, replay := replay, len := len, port := port
                    spoolSeq := if evid then spool else 0 }

/-- A SIDEBAND packet to the host: class 7, the ACK word and the return words in 68 bytes (R338, R346). -/
def sidePacket (words : List Word) : LanePacket := { idlePacket with type := 2, sc := 7, len := 68, words := words }

/-- A header has gone out: the next one grants the next class (R343). -/
def LaneGroup.turned (g : LaneGroup) : LaneGroup := { g with crTurn := (g.crTurn + 1) % 8 }

/-- A sequenced packet takes the next SEQ and its credits, and the replay buffer keeps its header and payload (R340, R341, R343). -/
def LaneGroup.send (g : LaneGroup) (p : LanePacket) (body : List Byte) (side : Option (List Word)) (frame : Option Nat) : LaneGroup :=
  let head := g.fill false { p with seq := g.txSeq }
  { g.turned with
    unacked := g.unacked ++ [⟨g.txSeq, p.len + 20, p.sc, side, frame, p.spoolSeq, head, body⟩]
    txSeq := (g.txSeq + 1) % 4096
    usedOut := lmod g.usedOut p.sc (fun n => (n + creditNeed p.len) % 2 ^ 16)
    idle := 0, still := false }

/-- A packet goes out again with the acknowledgement and the grant of the present (R340, R341, R343). -/
def LaneTx.again (x : LaneTx) (g : LaneGroup) : LaneTx := { x with head := g.fill false x.head }

/-- Everything after ACK_SEQ goes out again, oldest first (R341). -/
def LaneGroup.sendAgain (g : LaneGroup) : LaneGroup :=
  let r := g.unacked.foldl (fun (a : LaneGroup × List LaneTx) x => (a.1.turned, a.2 ++ [x.again a.1])) (g, [])
  { r.1 with unacked := r.2 }

/-- SIDEBAND packets that wait are sent as far as credit and buffer allow; each has class 7 and 68 bytes (R338, R346). -/
def LaneGroup.flushSide (g : LaneGroup) : Nat → LaneGroup
  | 0 => g
  | k + 1 =>
    match g.sideWait with
    | [] => g
    | w :: rest =>
      if g.state == .up && !g.txEidle && g.credit 7 68 && g.room 68 then
        (({ g with sideWait := rest } : LaneGroup).send (sidePacket w) (w.flatMap (fun x => leBytes 4 x.toNat)) (some w) none).flushSide k
      else g

/-- SIDEBAND packets of a group are sent as far as they may be. -/
def State.flushSide (s : State) (g : Nat) : State := s.modHost g (fun x => x.flushSide x.sideWait.length)

/-- A device-to-host SIDEBAND packet: the ACK word and the return words (R346). -/
def State.sideSend (s : State) (g : Nat) (ack : Word) (ret : List Word) : State :=
  (s.modHost g (fun x => { x with sideWait := x.sideWait ++ [ack :: ret] })).flushSide g

end Machine
end Sys2Proof
end

