-- ==== Sys2Proof/Machine/Wake.lean ====
section
/-! DEFINITION. The firing of a wake source (R496, R497, R501, R502), shared by every unit that can wake the device. -/
namespace Sys2Proof
namespace Machine

/-- The die of a line domain is held for wake by the entry. -/
def Entry.holds (e : Entry) (d : Nat) : Bool := !e.ember && decide (4 ≤ d) && decide (d < 8) && bit e.lineWake (d - 4)

/-- The DATA of a TYPE 0x15 record (R502). -/
def wakeData (cause : Nat) (latched : Bool) : Nat := cause + 256 * b2n latched

/-- A wake source fires in RUN outside an entry: doorbell 21 and a record, nothing else (R501, R502). -/
def State.firedInRun (s : State) (w : Wake) : State := s.event 21 w.source (wakeData w.cause false)

/-- A wake source fires during an entry (R496, R497): a privileged source fires for the next abort point after this tick, while
one is left; any other source, and a privileged one from A4 on, is latched. The first source counts (R502). -/
def State.firedInEntry (s : State) (e : Entry) (w : Wake) (privileged : Bool) : State :=
  if privileged && decide (e.steps < 4) && decide (s.now < e.start + 6) then
    if e.abandon.isSome then s
    else (s.doorbell 21).modPower (fun p => { p with entry := some { e with abandon := some w, abandonAt := s.now } })
  else if e.latched.isSome || e.abandon.isSome then s
  else (s.doorbell 21).modPower (fun p => { p with entry := some { e with latched := some w } })

/-- An EMBER wake drives the PWREN outputs high and the rails are compared again (R55, R504). -/
def State.pwrenHigh (s : State) : State :=
  (s.modPins (fun p => { p with pwrenCore := .high, pwrenAna := .high, pwrenIo := .high })).modPower (fun p =>
    { p with waking := true, railsOk := true })

/-- A wake source fires in BANKED or EMBER: the first becomes the wake cause, later ones are ignored (R502). After a
RAIL_FAIL the cause reads so, with the source of the later wake. -/
def State.firedAsleep (s : State) (w : Wake) : State :=
  if s.power.fired.isSome then s
  else
    let s := (s.modPower (fun p =>
      { p with fired := some w, cause := if p.railFail then 0x08 else w.cause, source := w.source, latched := false })).doorbell 21
    if s.boot.power == .ember then s.pwrenHigh else s

/-- A wake source fires (R501): what it does depends on the state of the device. -/
def State.fireWake (s : State) (w : Wake) (privileged : Bool) : State :=
  match s.boot.power with
  | .run =>
    match s.power.entry with
    | some e => if privileged || decide (e.start < s.now) then s.firedInEntry e w privileged else s.firedInRun w
    | none => s.firedInRun w
  | .banked | .ember => s.firedAsleep w
  | .boot | .damped | .cold => s

/-- A GO accepted on channel 0 or 2 is a privileged wake source where GO_WAKE is set: in BANKED, in EMBER and during an
entry, and not in RUN (R497, R501). -/
def State.goWake (s : State) (ch : Nat) : State :=
  let armed := (ch == 0 && s.power.wake.go0) || (ch == 2 && s.power.wake.go2)
  if armed && (s.boot.power == .banked || s.boot.power == .ember || s.power.entry.isSome) then
    s.fireWake ⟨0x06, ch⟩ true
  else s

end Machine
end Sys2Proof
end

