-- ==== Sys2Proof/Machine/Mailbox.lean ====
section
/-! DEFINITION. Mailbox channels: submitting, the checks of R595, answering (R116 to R129), and the shape that every
mailbox command's meaning has. -/
namespace Sys2Proof

/-- Word `k` of a message, k from 1. -/
def Msg.word (m : Msg) (k : Nat) : Nat := (m.args.getD (k - 1) 0).toNat

/-- Field of `w` bits from bit `lo` of word `k`. -/
def Msg.get (m : Msg) (k lo w : Nat) : Nat := Machine.fld (m.word k) lo w

/-- Bit `i` of word `k`. -/
def Msg.flag (m : Msg) (k i : Nat) : Bool := Machine.bit (m.word k) i

/-- Some reserved bit of word `k` is set: a bit outside the mask of defined bits (R6). -/
def Msg.stray (m : Msg) (k mask : Nat) : Bool := m.word k &&& (0xFFFFFFFF - mask) != 0

/-- MSG0 of a message with the given opcode (R119). -/
def Msg.word0 (m : Msg) (op : Nat) : Word := Machine.packW [(5, m.len), (3, m.rsv), (8, m.seq), (16, op)]

namespace Machine

/-- The number of a return code (R129). -/
def Code.num : Code → Nat
  | .ok => 0x00 | .busy => 0x01 | .badArg => 0x02 | .notPermitted => 0x03 | .budget => 0x04 | .conflict => 0x05
  | .cancelled => 0x06 | .wrongState => 0x07 | .noResource => 0x08 | .authFail => 0x09 | .endurance => 0x0A
  | .timeout => 0x0B | .internal => 0xFF

/-- What a command's body answers: executed with return words and a new state; refused, changing nothing; refused with
return words that the command's result table gives all the same; started, its ACK following later; or no ACK. -/
inductive Reply where
  | ok (ret : List Word) (s : State)
  | err (c : Code)
  | part (c : Code) (ret : List Word) (s : State)
  | later (s : State)
  | silent (s : State)
deriving DecidableEq, Repr

/-- A cause of a command's list of return codes (R595, check 6): where it holds, its code is given. -/
def Reply.unless (cause : Bool) (c : Code) (k : Reply) : Reply := cond cause (.err c) k

/-- What the dispatcher must know of a command before it executes it (R126, R33, R595): its opcode, the values that
LEN may have, and whether the message is a write that R33 reserves to the steward. -/
structure Cmd where
  op      : Nat
  lens    : List Nat
  steward : Bool
deriving DecidableEq, Repr

/-- The opcode group is accepted on the channel (R116). Channel 8 stands for a configuration image, whose messages have
the rights of channel 0 (R102). -/
def groupOk (ch op : Nat) : Bool :=
  if ch = 3 then (op / 256 == 0x00 && op != 0x0004 && op != 0x0005) || op / 256 == 0x30 || op / 256 == 0x40
  else if ch = 5 then op / 256 == 0x41
  else decide (ch < 7) || ch == 8

/-- Of group 0x40xx, channel 3 takes the three status commands only (R561). -/
def peerBars (ch op : Nat) : Bool := ch == 3 && op / 256 == 0x40 && op != 0x4000 && op != 0x4004 && op != 0x4006

/-- The word count fits what the message itself says of it, in the commands whose tables count words so: FDB_ENTRY by OP,
KEEP_WRITE, LIFECYCLE_TOKEN_LOAD and GATE_LIST_WRITE by COUNT, LINE_OAM_SEND by LEN (R126). -/
def lenFits (op : Nat) (m : Msg) : Bool :=
  if op = 0x2003 then m.len == (if m.get 1 30 2 = 1 then 8 else 3)
  else if op = 0x4200 then m.len == m.get 1 8 4 + 2
  else if op = 0x4202 then m.len == m.get 1 0 4 + 2
  else if op = 0x2105 then m.len == m.get 1 16 8 + 2
  else if op = 0x1003 then m.len == 2 + ceilDiv (m.get 1 8 8) 4
  else true

/-- Groups executed before READY (R99). -/
def earlyGroup (op : Nat) : Bool := op / 256 == 0x00 || op / 256 == 0x01 || op / 256 == 0x40

/-- A message comes from the complex that does not hold the token: on channel 4, one that goes to the holder's end (R33, R37). -/
def State.tokenless (s : State) (m : Msg) : Bool := m.chan == 4 && s.mbx.fourSouth == s.boot.stewardSouth

/-- The checks 1 to 5 of R595, in their order. `known` is none for an opcode that is not defined. -/
def State.check (s : State) (known : Option Cmd) (op : Nat) (m : Msg) : Option Code :=
  if m.len = 0 ∨ 16 < m.len ∨ m.rsv ≠ 0 then some .badArg
  else if !groupOk m.chan op then some .notPermitted
  else match known with
    | none => some .badArg
    | some c =>
      if !c.lens.contains m.len || !lenFits op m then some .badArg
      else if !s.boot.ready && !earlyGroup op && m.chan != 8 then some .wrongState
      else if peerBars m.chan op || (c.steward && s.tokenless m) then some .notPermitted
      else none

/-- Who is answered for a message (R124). -/
def State.replyTo (_s : State) (m : Msg) : Option ReplyTo := some ⟨m.chan, m.seq, m.slot, m.counter⟩

/-! ## Owners (R16 to R19) -/

/-- The complex that owns the unit behind a root: South for line dies L2 and L3 with their drops, TB0, TB1, HG2, HG3 and its
own root; North for the others (R15, R17). -/
def ownerSouth (root : Nat) : Bool :=
  if root < 96 then decide (48 ≤ root)
  else if root < 128 then decide (112 ≤ root)
  else if root < 132 then decide (130 ≤ root)
  else if root < 136 then decide (134 ≤ root)
  else root == 137

/-- The root of the unit that a command concerns: line channels and bundle groups (0x10xx), drops (0x11xx), trunks (0x12xx,
but the bypass policy) and lane groups (0x13xx). Every other group belongs to the steward (R16, R19, R33). -/
def unitOf (op : Nat) (m : Msg) : Option Nat :=
  if op = 0x1010 ∨ op = 0x1011 then some (4 * m.get 1 0 5)
  else if op / 256 = 0x10 then some (m.get 1 0 7)
  else if op / 256 = 0x11 then some (96 + m.get 1 0 5)
  else if op / 256 = 0x12 ∧ op ≠ 0x1212 then some (128 + m.get 1 0 2)
  else if op / 256 = 0x13 then some (132 + m.get 1 0 2)
  else none

/-- The message is for a unit of the complex without the token: the steward passes it over channel 4 (R18, R19). One that
came over channel 4 is executed where it arrived. -/
def State.foreign (s : State) (op : Nat) (m : Msg) : Bool :=
  m.chan != 4 && (match unitOf op m with
    | some u => ownerSouth u != s.boot.stewardSouth
    | none => false)

/-- The words of a list, filled up to 16 with zeros. -/
def fill16 (l : List Word) : List Word := (l ++ List.replicate 16 0).take 16

/-- The ACK word (R118). -/
def Ack.word (a : Ack) : Word :=
  packW [(5, a.rlen), (3, 0), (8, a.seq), (8, a.code), (6, 0), (1, b2n a.late), (1, b2n a.valid)]

/-- The bytes that a channel 3 TAG covers (R137): PEER_PATH, SLOT, DIR, COUNTER and WORDS, most significant byte first. -/
def peerBytes (path slot dir counter : Nat) (words : List Word) : List Byte :=
  beBytes 2 path ++ beBytes 1 slot ++ beBytes 1 dir ++ beBytes 4 counter ++
    words.flatMap (fun w => beBytes 4 w.toNat)

/-- The TAG of a channel 3 payload under a key (R137, R597). -/
def peerTag (key : BitVec 256) (path slot dir counter : Nat) (words : List Word) : BitVec 128 :=
  BitVec.ofNat 128 (ofBe ((hmac256 (beBytes 32 key.toNat) (peerBytes path slot dir counter words)).take 16))

/-- An answer to a fabric peer (R137 to R139). -/
def State.answerPeer (s : State) (slot counter : Nat) (ack : Word) (ret : List Word) : State :=
  match tfind s.peers slot with
  | none => s
  | some k => s.modMbx (fun m => { m with peerOut := m.peerOut ++
      [⟨slot, counter, ack, fill16 ret, peerTag k.key s.fabric.path slot 2 counter (ack :: fill16 ret)⟩] })

/-- The answer to a message (R124, R346): the return words, then ACK with VALID, BUSY and CANCEL cleared, and the doorbell of
channel 0, 1 or 2. CANCEL_LATE is set when a CANCEL landed at or after selection (R123). A message of a configuration
image tells its replay the code (R102). -/
def State.ackWrite (s : State) (rt : ReplyTo) (c : Code) (ret : List Word) : State :=
  let s := s.modMbx (fun m => { m with far := m.far.filter (fun p => p.rt != rt) })
  if rt.chan = 8 then
    s.modBoot (fun b => { b with replay := b.replay.map (fun r => { r with code := some c }) })
  else if rt.chan = 3 then
    s.answerPeer rt.slot rt.counter (Ack.word ⟨true, false, c.num, rt.seq, ret.length⟩) ret
  else
    let s := s.modChan rt.chan (fun ch =>
      { ch with busy := false, cancel := false, selected := false, ret := fill16 ret
                ack := ⟨true, ch.cancel && c != .cancelled, c.num, rt.seq, ret.length⟩ })
    let s := if rt.chan = 1 then s.sideSend (s.chan 1).hg (s.chan 1).ack.word (s.chan 1).ret else s
    if rt.chan < 3 then s.doorbell rt.chan else s

/-- The end of a message: INTERNAL raises FW_INTERNAL (R129, R534), and the message is answered. -/
def State.ack (s : State) (rt : ReplyTo) (c : Code) (ret : List Word) : State :=
  (if c = .internal then s.notice 0x2A01 0xFF else s).ackWrite rt c ret

/-- The end of a message whose ACK was left for later. -/
def State.ackLater (s : State) (rt : Option ReplyTo) (c : Code) (ret : List Word) : State :=
  match rt with
  | none => s
  | some t => s.ack t c ret

/-- What a reply does for a message that was selected (R124). -/
def State.settle (s : State) (rt : ReplyTo) : Reply → State
  | .ok ret s' => s'.ack rt .ok ret
  | .err c => s.ack rt c []
  | .part c ret s' => s'.ack rt c ret
  | .later s' => s'
  | .silent s' => s'

/-- Execution of a selected message: the checks, then the body (R595). -/
def State.execute (s : State) (known : Option Cmd) (op : Nat) (m : Msg) (body : Msg → State → Reply) : Reply :=
  match s.check known op m with
  | some c => .err c
  | none => body m s

/-- GO is accepted (R120): ACK and RET cleared, BUSY set, the message held. -/
def Chan.go (c : Chan) (words : List Word) : Chan :=
  { c with msg := fill16 words, busy := true, cancel := false, selected := false
           ack := ⟨false, false, 0, 0, 0⟩, ret := List.replicate 16 0 }

/-- The message waits on its channel, not yet selected. -/
def State.waits (s : State) (op : Nat) (m : Msg) : Bool :=
  if m.chan = 3 then
    match s.mbx.peerIn with
    | p :: _ => p.slot == m.slot && p.counter == m.counter && p.words == fill16 (m.word0 op :: m.args)
    | [] => false
  else
    let c := s.chan m.chan
    c.busy && !c.selected && c.msg == fill16 (m.word0 op :: m.args)

/-- The registers of channel 6 take writes: the clock of the debug bridge, its only path, is on (R116, R522). -/
def State.bridged (s : State) (ch : Nat) : Bool := ch != 6 || bit s.clock.gates 2

/-- The channel takes a message from its owner: it is not BUSY, it has an owner, and channel 6 only in BENCH and with the
debug bridge clocked (R116, R117, R120, R522). -/
def State.accepts (s : State) (ch : Nat) : Bool :=
  decide (ch < 7) && ch != 3 && !(s.chan ch).busy && (ch != 6 || s.life.state == .bench) && s.bridged ch

/-- The channel that the dispatcher of a complex selected last (R122). -/
def State.lastChan (s : State) (south : Bool) : Nat := if south then s.mbx.lastSouth else s.mbx.lastNorth

/-- The dispatcher of a complex has selected a channel. -/
def State.setLast (s : State) (south : Bool) (ch : Nat) : State :=
  s.modMbx (fun m => if south then { m with lastSouth := ch } else { m with lastNorth := ch })

/-- The complex whose dispatcher serves the message on a channel: that at whose end of channel 4 it stands, otherwise the
steward (R122). -/
def State.serverOf (s : State) (ch : Nat) : Bool := if ch = 4 then s.mbx.fourSouth else s.boot.stewardSouth

/-- The message is selected (R123): it leaves the queue of channel 3, or its channel marks it; the round robin of R122
goes on after this channel. -/
def State.select (s : State) (ch : Nat) : State :=
  let s := s.setLast (s.serverOf ch) ch
  if ch = 3 then s.modMbx (fun m => { m with peerIn := m.peerIn.tail })
  else s.modChan ch (fun c => { c with selected := true })

/-- A GO on channel 4 comes from the complex without the token, and its message goes to the holder's end (R116, R122; log 9). -/
def State.aim (s : State) (ch : Nat) : State :=
  if ch = 4 then s.modMbx (fun m => { m with fourSouth := s.boot.stewardSouth }) else s

/-- A message is submitted on its channel, unless it waits there already (R120). Its GO may be a wake (R501). A message sent
in COLD or while a reset is held is lost: the channel registers stand at their reset values (R128; log 47). -/
def State.submit (s : State) (op : Nat) (m : Msg) : State :=
  if s.awake && s.accepts m.chan then ((s.modChan m.chan (fun c => c.go (m.word0 op :: m.args))).aim m.chan).goWake m.chan else s

/-- A channel has a message pending. -/
def State.isPending (s : State) (ch : Nat) : Bool :=
  if ch = 3 then !s.mbx.peerIn.isEmpty else (s.chan ch).busy && !(s.chan ch).selected

/-- The message passed over channel 4 that waits at a complex's end for its dispatcher (R19, R122). -/
def State.farFor (s : State) (south : Bool) : Option Passed := s.mbx.far.find? (fun p => !p.selected && p.south == south)

/-- A message that the steward passed waits for the other complex's dispatcher (R122). -/
def State.farWaits (s : State) : Bool := (s.farFor (!s.boot.stewardSouth)).isSome

/-- The channel that the steward's dispatcher selects: its end of channel 4 first, otherwise round robin after the one that it
selected last (R122). A message passed to it goes before them; while one that it passed waits at the other end of channel 4
it selects from that channel only (log 9). -/
def State.nextChan (s : State) : Option Nat :=
  if (s.farFor s.boot.stewardSouth).isSome then none
  else if s.isPending 4 && s.mbx.fourSouth == s.boot.stewardSouth then some 4
  else if s.farWaits then none
  else
    let l := [0, 1, 2, 3, 5, 6]
    let k := s.lastChan s.boot.stewardSouth
    (l.filter (fun c => decide (k < c)) ++ l.filter (fun c => decide (c ≤ k))).find? s.isPending

/-- The dispatcher that serves a channel takes its message next: the steward's by its order, the other complex's from its end
of channel 4, unless a passed message waits there (R122); neither acts on a token whose parity is bad (R545). -/
def State.turn (s : State) (ch : Nat) : Bool :=
  s.boot.tokenParity && if s.serverOf ch == s.boot.stewardSouth then s.nextChan == some ch else (s.farFor (s.serverOf ch)).isNone

/-- A message passes over channel 4 to the complex that owns its unit (R18, R19); `selected` tells that the other
complex's dispatcher takes it at once. -/
def State.passOver (s : State) (op : Nat) (m : Msg) (selected : Bool) : State :=
  s.modMbx (fun x => { x with far := x.far ++
    [⟨fill16 (m.word0 op :: m.args), ⟨m.chan, m.seq, m.slot, m.counter⟩, !s.boot.stewardSouth, selected⟩] })

/-- Where a selected message is executed: by the steward, or passed to the other complex, which takes it (R19). -/
def State.passOn (s : State) (op : Nat) (m : Msg) : State := if s.foreign op m then s.passOver op m true else s

/-- The row of a mailbox command: the message is submitted where its channel accepts it; while firmware runs and the
dispatcher comes to it, it is selected, passed to the complex that executes it, checked, and executed or answered
(R19, R120 to R124, R595). Otherwise it stays pending (R122, R128). A CANCEL that landed before the selection ends it
unexecuted (R123). -/
def State.mailbox (s : State) (cmd : Cmd) (m : Msg) (body : Msg → State → Reply) : State :=
  let s := s.submit cmd.op m
  if s.fwRuns && s.waits cmd.op m && s.turn m.chan then
    let cancelled := m.chan != 3 && (s.chan m.chan).cancel
    let s := s.select m.chan
    if cancelled then s.ack ⟨m.chan, m.seq, m.slot, m.counter⟩ .cancelled []
    else
      let s := s.passOn cmd.op m
      s.settle ⟨m.chan, m.seq, m.slot, m.counter⟩ (s.execute (some cmd) cmd.op m body)
  else s

end Machine
end Sys2Proof
end

