-- ==== Sys2Proof/Machine/CellarOps.lean ====
section
/-! DEFINITION. Shared operations of the cellar (14): pages and partitions, stored frames, the evidential spool, its
acknowledgements and its tail. -/
namespace Sys2Proof
namespace Machine

/-! ## Pages and partitions (R415, R416, R420) -/

/-- Pages of a GB. -/
def gbPages : Nat := 4194304

/-- Pages of the cellar (R415). -/
def allPages : Nat := 67108864

/-- The DRAM die in which a page lies: D0 or D1 (R415). -/
def pageDie (page : Nat) : Nat := page % 2

/-- The first page of the spool partition; it takes the last pages of the cellar (log 17). -/
def CellarSt.border (c : CellarSt) : Nat := allPages - c.size * gbPages

/-- Retired pages of the frame partition. -/
def CellarSt.retiredFrames (c : CellarSt) : Nat := (c.retired.filter (fun p => decide (p < c.border))).length

/-- CAP_PAGES: capacity of the spool (R420). -/
def CellarSt.cap (c : CellarSt) : Nat := c.size * gbPages - (c.retired.length - c.retiredFrames)

/-- FREE_PAGES: free pages of the frame partition (R420). -/
def CellarSt.free (c : CellarSt) : Nat := c.border - c.retiredFrames - c.used

/-- Occupancy of the spool: the pages from the tail to the head (R426). -/
def CellarSt.occ (c : CellarSt) : Nat := (c.spool.map SpoolEntry.pages).foldl (· + ·) 0

/-- Pages of a frame that is not spooled (R415). -/
def framePages (len : Nat) : Nat := ceilDiv len 256

/-- Pages of a spooled frame (R424). -/
def spoolPages (len : Nat) : Nat := ceilDiv (len + 32) 256

/-! ## Stored frames (R21) -/

/-- A frame's stored form. -/
def State.stored (s : State) (id : Nat) : Option Stored := tfind s.cellar.store id

/-- The groups for which an entry is neither acknowledged, nor overwritten, nor removed (R426, R427, R419). -/
def SpoolEntry.open (e : SpoolEntry) : List Nat :=
  if e.removed then [] else (bitsOf 4 e.groups).filter (fun g => !bit e.acked g && !bit e.passed g)

/-- Descriptors of a stored frame. -/
def refsOf (st : Table Stored) (id : Nat) : Nat := (tget ⟨⟨0, 0, none, 0, 0, none, false, []⟩, 0, 0, 0, 0, false, 0, 0, false⟩ st id).refs

/-- The tail advances over the entries whose frames are free in both senses (R426). -/
def spoolTail : List SpoolEntry → Table Stored → List SpoolEntry × Table Stored
  | [], st => ([], st)
  | e :: t, st => if e.open.isEmpty && refsOf st e.id == 0 then spoolTail t (tdel st e.id) else (e :: t, st)

/-- The spool's tail advances as far as it may (R426). -/
def State.spoolAdvance (s : State) : State :=
  s.modCellar (fun c => let r := spoolTail c.spool c.store
                        { c with spool := r.1, store := r.2 })

/-- The pages of a stored frame are freed when no descriptor and no spool entry holds it (R21, R426). -/
def State.freeIf (s : State) (id : Nat) : State :=
  match s.stored id with
  | none => s
  | some st =>
    if st.inSpool then s.spoolAdvance
    else if st.refs = 0 then s.modCellar (fun c => { c with store := tdel c.store id, used := c.used - st.pages })
    else s

/-- A descriptor of a stored frame has gone (R21). -/
def State.unref (s : State) (id : Nat) : State :=
  (match s.stored id with
   | none => s
   | some st => s.modCellar (fun c => { c with store := tset c.store id { st with refs := st.refs - 1 } })).freeIf id

/-- A stored frame has one more descriptor (R21). -/
def State.ref (s : State) (id : Nat) : State :=
  match s.stored id with
  | none => s
  | some st => s.modCellar (fun c => { c with store := tset c.store id { st with refs := st.refs + 1 } })

/-- A frame takes its place in the cellar under the next number. -/
def State.keepFrame (s : State) (st : Stored) : State :=
  s.modCellar (fun c => { c with store := tset c.store c.nextId st, nextId := c.nextId + 1
                                 used := if st.inSpool then c.used else c.used + st.pages })

/-! ## Entering the spool (R423 to R427) -/

/-- A lane group's side of the spool changed. -/
def State.modSpool (s : State) (g : Nat) (f : SpoolGroup → SpoolGroup) : State :=
  s.modCellar (fun c => { c with groups := lmod c.groups g f })

/-- A lane group's side of the spool. -/
def State.spoolGroup (s : State) (g : Nat) : SpoolGroup := s.cellar.groups.getD g SpoolGroup.reset

/-- Entries that are no longer open leave the replays; a replay with nothing left to place has ended (R430). -/
def CellarSt.prune (c : CellarSt) : CellarSt :=
  { c with groups := (List.range 4).map (fun g =>
      let k := c.groups.getD g SpoolGroup.reset
      let todo := k.todo.filter (fun id => c.spool.any (fun e => e.id == id && e.open.contains g))
      { k with todo := todo, replaying := k.replaying && !todo.isEmpty }) }

/-- The oldest entry gives up its hold for the groups that it is still open for; each counts it (R427). -/
def State.overwriteOldest (s : State) : State :=
  match s.cellar.spool with
  | [] => s
  | e :: t =>
    let s := e.open.foldl (fun s g => s.modSpool g (fun k => { k with tkOverwritten := k.tkOverwritten + 1 })) s
    (s.modCellar (fun c => CellarSt.prune { c with spool := { e with passed := e.passed ||| maskOf e.open } :: t })).spoolAdvance

/-- Room for `need` pages in the spool, made under OVERWRITE_OLDEST from the oldest entries whose frames no destination
still waits for (R427). -/
def State.spoolRoom (s : State) (need : Nat) : Nat → State × Bool
  | 0 => (s, decide (s.cellar.occ + need ≤ s.cellar.cap))
  | k + 1 =>
    if s.cellar.occ + need ≤ s.cellar.cap then (s, true)
    else if !s.cellar.overwrite then (s, false)
    else match s.cellar.spool with
      | [] => (s, false)
      | e :: _ => if refsOf s.cellar.store e.id = 0 then s.overwriteOldest.spoolRoom need k else (s, false)

/-- A frame enters the spool for `groups` and is stored there; each group numbers it (R423 to R425). -/
def State.spoolPut (s : State) (st : Stored) (groups : List Nat) : State :=
  let seqs := (List.range 4).map (fun g =>
    if groups.contains g then ((s.spoolGroup g).lastSeq + 1) % 2 ^ 32 else 0)
  let pages := spoolPages st.frame.len
  let id := s.cellar.nextId
  let s := s.keepFrame { st with pages := pages, inSpool := true }
  let s := s.modCellar (fun c => { c with spool := c.spool ++
    [⟨id, seqs, st.frame.len, st.port, maskOf groups, s.now, pages, 0, 0, false⟩] })
  groups.foldl (fun s g => s.modSpool g (fun k =>
    { k with lastSeq := seqs.getD g 0, tkSpooled := k.tkSpooled + 1 })) s

/-! ## Acknowledgement (R348, R426, R430) -/

/-- `a` is not after `b` in serial order of 32 bits. -/
def serialLe (a b : Nat) : Bool := decide ((b + 2 ^ 32 - a) % 2 ^ 32 < 2 ^ 31)

/-- N takes effect on the spool of group `g` at an edge (R348, R426). -/
def State.spoolPass (s : State) (g n : Nat) : State :=
  ((s.modSpool g (fun k => { k with acked := n })).modCellar (fun c =>
    CellarSt.prune { c with spool := c.spool.map (fun e =>
      if bit e.groups g && serialLe (e.seqs.getD g 0) n then { e with acked := e.acked ||| 2 ^ g } else e) })).spoolAdvance

/-- Some entry of the spool is unacknowledged (R433). -/
def CellarSt.unacked (c : CellarSt) : Bool := c.spool.any (fun e => !e.open.isEmpty)

/-! ## Integrity (R419, R420) -/

/-- Occupancy in units of 0.1 % of capacity (R428). -/
def CellarSt.permille (c : CellarSt) : Nat := if c.cap = 0 then 0 else sat16 (c.occ * 1000 / c.cap)

/-- Occupancy has reached `pct` % of capacity. -/
def CellarSt.atLeast (c : CellarSt) (pct : Nat) : Bool := decide (0 < c.cap) && decide (pct * c.cap ≤ 100 * c.occ)

/-- Doorbells 14 and 15 at an edge (R428). -/
def State.watermarks (s : State) : State :=
  let c := s.cellar
  let s := if c.atLeast 80 && c.armed80 then s.event 14 0 c.permille else s
  let s := if c.atLeast 95 && c.armed95 then s.event 15 0 c.permille else s
  s.modCellar (fun c =>
    { c with armed80 := if c.atLeast 80 then false else c.armed80 || !c.atLeast 75
             armed95 := if c.atLeast 95 then false else c.armed95 || !c.atLeast 90 })

/-- SPOOL_CONFIG takes effect (R416). -/
def State.applySpool (s : State) (size : Nat) (overwrite : Bool) (hours : Nat) (rq : List (Bool × Nat)) : State :=
  s.modCellar (fun c => { c with size := size, overwrite := overwrite, scrubHours := hours
                                 groups := (List.range 4).map (fun g =>
                                   let k := c.groups.getD g SpoolGroup.reset
                                   { k with rqEn := (rq.getD g (false, 0)).1, replayQ := (rq.getD g (false, 0)).2 }) })

/-! ## Counters (R434) -/

/-- The counter snapshot of the cellar at commit step 6. -/
def CellarSt.snapshot (c : CellarSt) : CellarSt :=
  let f := fun (x y : Nat) => sat32 ((if bit c.clr 0 then 0 else x) + y)
  { c with ce := f c.ce c.tkCe, ue := f c.ue c.tkUe, noPage := f c.noPage c.tkNoPage, tkCe := 0, tkUe := 0, tkNoPage := 0
           clr := 0
           groups := c.groups.map (fun k =>
             let h := fun (x : Nat) => if bit k.clr 0 then 0 else x
             { k with spooled := wrap64 (h k.spooled + k.tkSpooled), fullDrop := sat32 (h k.fullDrop + k.tkFullDrop)
                      overwritten := sat32 (h k.overwritten + k.tkOverwritten)
                      replayed := sat32 (h k.replayed + k.tkReplayed)
                      tkSpooled := 0, tkFullDrop := 0, tkOverwritten := 0, tkReplayed := 0, clr := 0 }) }

end Machine
end Sys2Proof
end

