-- ==== Sys2Proof/Machine/TrunkSig.lean ====
section
/-! DEFINITION. The Nadjamen chirp multiplex in numbers (09, 10): segments, loading codes, loading computation, class
choice, bursts of the TDD frame and the TLUs that they hold. Classes are numbered 0 F, 1 L4, 2 L16, 3 L64. -/
namespace Sys2Proof
namespace Machine

/-! ## Segments and codes (R255, R264) -/

/-- N_j: the data cells of a segment. -/
def segCells (j : Nat) : Nat := if j = 63 then 22 else 63

/-- The bits per cell of a loading code (R264). -/
def codeBits (c : Nat) : Nat := if c ≤ 1 then c else 2 * (c - 1)

/-- The required SNR of a loading code above 0, in 0.1 dB (R264). -/
def codeSnr (c : Nat) : Int := if c = 1 then 40 else 70 + 60 * ((c : Int) - 2)

/-- The bits that a loading puts into one data symbol (R271). -/
def loadBits (codes : List Nat) : Nat :=
  ((List.range 64).map (fun j => segCells j * codeBits (codes.getD j 0))).foldl (· + ·) 0

/-- The fixed loading of the classes L4, L16 and L64 (R273). -/
def fixedCode (cls j : Nat) : Nat :=
  match cls, j / 8 with
  | 1, 0 => 5 | 1, 1 => 5 | 1, 2 => 4 | 1, 3 => 4 | 1, 4 => 3 | 1, 5 => 3 | 1, _ => 2
  | 2, 0 => 5 | 2, 1 => 5 | 2, 2 => 4 | 2, 3 => 4 | 2, 4 => 2 | 2, 5 => 2 | 2, _ => 0
  | 3, 0 => 5 | 3, 1 => 4 | 3, 2 => 3 | 3, 3 => 2 | 3, _ => 0
  | _, _ => 0

/-- The fixed loading as a table. -/
def fixedLoad (cls : Nat) : List Nat := (List.range 64).map (fixedCode cls)

/-! ## The preamble of a class (R280, R281) -/

/-- The coarse timing accuracy of a class in 0.5 ns (R280). -/
def classAccuracy (cls : Nat) : Nat := match cls with | 0 => 5 | 1 => 20 | 2 => 80 | _ => 320

/-- The highest segment that the band of a class's chirp covers (R280). -/
def classCovers (cls : Nat) : Nat := match cls with | 0 => 63 | 1 => 15 | 2 => 3 | _ => 0

/-- An up-chirp and a down-chirp of a class that begin at these times in 0.5 ns declare its preamble: the second 10.24 us
after the first, within its accuracy and 0.15 us (R281). -/
def preambleDeclared (cls up down : Nat) : Bool :=
  decide (up + 20480 ≤ down + classAccuracy cls + 300) && decide (down ≤ up + 20480 + classAccuracy cls + 300)

/-! ## Transmit power (R290) -/

/-- The mean power of a transmitted slot in 0.1 dBm into 100 Ohm, typical, for a RANGE and an ATTEN (R267, R290). -/
def trunkPower (range atten : Nat) : Int := -90 * range - 5 * atten

/-- The frequency offset in Hz, at 200 MHz, of a timing error that changes by `steps` of 1/64 sample from one symbol to
the next, 10,000 samples later (R288): 20,000 Hz a sample. -/
def timingOffset (steps : Int) : Int := steps * 625 / 2

/-! ## Loading of class F (R274) -/

/-- A code is allowed in a segment at an SNR: MAX_B, SEG_MASK, and required SNR plus MARGIN plus `extra` (R274). -/
def codeFits (sig : SigCfg) (j : Nat) (snr extra : Int) (c : Nat) : Bool :=
  c == 0 || (decide (c ≤ sig.maxB) && !bit sig.mask j && decide (codeSnr c + 5 * sig.margin + extra ≤ snr))

/-- The largest code that fits. -/
def codeFit (sig : SigCfg) (j : Nat) (snr extra : Int) : Nat :=
  ((List.range 8).filter (codeFits sig j snr extra)).foldl Nat.max 0

/-- The first loading after training (R274). -/
def firstLoad (sig : SigCfg) (snr : List Int) (extra : Int) : List Nat :=
  (List.range 64).map (fun j => codeFit sig j (snr.getD j (-200)) extra)

/-- A segment's code at a later computation (R274): raised with 1.0 dB to spare, lowered at once. -/
def nextCode (sig : SigCfg) (j : Nat) (snr : Int) (present : Nat) : Nat :=
  if codeFits sig j snr 0 present then Nat.max present (codeFit sig j snr 10) else codeFit sig j snr 0

/-- A later computation of the loading (R274). -/
def nextLoad (sig : SigCfg) (snr : List Int) (present : List Nat) : List Nat :=
  (List.range 64).map (fun j => nextCode sig j (snr.getD j (-200)) (present.getD j 0))

/-- SET of the next LOAD record (R275). -/
def nextSet (n : Nat) : Nat := if 15 ≤ n then 1 else n + 1

/-! ## Class choice (R305) -/

/-- The repetition of a class. -/
def classRep (cls : Nat) : Nat := match cls with | 1 => 4 | 2 => 16 | 3 => 64 | _ => 1

/-- The repetition gain of a class in 0.1 dB (R305). -/
def classGain (cls : Nat) : Int := match cls with | 1 => 60 | 2 => 120 | 3 => 181 | _ => 0

/-- A class qualifies at the segment SNRs, with `extra` above its thresholds (R305, R306). -/
def classFits (sig : SigCfg) (snr : List Int) (extra : Int) (cls : Nat) : Bool :=
  if cls = 0 then decide (4860 ≤ loadBits (firstLoad sig snr extra))
  else (List.range 64).all (fun j =>
    fixedCode cls j == 0 ||
      decide (codeSnr (fixedCode cls j) + 5 * sig.margin + extra ≤ snr.getD j (-200) + classGain cls))

/-- The fastest qualifying class between two limits, the faster first (R305). -/
def classPick (sig : SigCfg) (snr : List Int) (extra : Int) (fast slow : Nat) : Option Nat :=
  (List.range 4).find? (fun c => decide (fast ≤ c) && decide (c ≤ slow) && classFits sig snr extra c)

/-! ## The TDD frame (R296, R297) -/

/-- S as a mode uses it (R297). -/
def splitUse (aligned long : Bool) (s : Nat) : Nat :=
  if aligned && long then (if s < 2 then 2 else if 6 < s then 6 else s) else s

/-- The slots of an end's burst (R296). -/
def burstSlots (aligned long follower : Bool) (s : Nat) : Nat :=
  let u := splitUse aligned long s
  if !aligned then 3
  else if long then (if follower then 7 - u else u - 1)
  else if follower then 8 - u else u

/-- The first slot of an end's burst in an aligned frame. -/
def burstStart (long follower : Bool) (s : Nat) : Nat := if follower then splitUse true long s else 0

/-- The slots of a trunk's own bursts, and of its partner's. -/
def Trunk.slots (t : Trunk) : Nat := burstSlots t.aligned t.long t.follower t.split
def Trunk.peerSlots (t : Trunk) : Nat := burstSlots t.aligned t.long (!t.follower) t.split

/-- P of R411: the period of a unique symbol in ticks. -/
def symbolPeriod (cls dataSlots : Nat) : Nat := 8 * ceilDiv (classRep cls) (Nat.max 1 dataSlots)

/-- The codewords in a fill unit (R271): of class F, a burst with `d` data slots; of the others, a unique symbol. -/
def unitCodewords (cls d : Nat) (load : List Nat) : Nat :=
  if cls = 0 then d * loadBits load / 1944 else loadBits (fixedLoad cls) / 1944

/-- The unique symbols that begin in the next `d` data slots, `pos` having been sent (R272); a burst of class F is one
unit. -/
def unitsBegun (cls pos d : Nat) : Nat :=
  if cls = 0 then 1
  else ((List.range d).filter (fun k => (pos + k) % classRep cls == 0)).length

/-- The link-layer rate of a direction in kb/s (R307, R392). -/
def linkRate (cls d bits : Nat) : Nat :=
  if cls = 0 then d * bits / 1944 * 8100
  else d * 5 * (loadBits (fixedLoad cls) / 1944) * 1620 / classRep cls

/-- U of R392 for a trunk. While it is not UP, class F counts with the 4,860 bits that qualify it. -/
def Trunk.rate (t : Trunk) : Nat :=
  if t.state == .up then linkRate t.cls (t.slots - 1) (loadBits t.txLoad)
  else linkRate t.cfg.slow (burstSlots true true t.follower t.cfg.split - 1) 4860

/-- Payload bytes of a TLU (R308). -/
def tluRoom : Nat := 198

end Machine
end Sys2Proof
end

