-- ==== Sys2Proof/Machine/SchedOps.lean ====
section
/-! DEFINITION. Shared operations of the queue tree (12, 13): roots, queues, nodes, gates, eligibility, tags, selection,
and the departure of a frame. -/
namespace Sys2Proof
namespace Machine

/-! ## Roots, queues and nodes (R369, R371, R391) -/

/-- ROOT_RATE after reset (R391). -/
def rootRate (r : Nat) : Nat :=
  if r < 96 then 10000000 else if r < 128 then 10000 else if r < 132 then 1200000
  else if r < 136 then 245760000 else 2500000

/-- The size of a root bucket in 1/64 byte (R390). -/
def rootSize : Int := 9279 * 64

/-- An egress root after reset: its bucket full, no gating, nothing sent (R390, R391, R397). -/
def Root.default (r : Nat) : Root := ⟨rootRate r, 0, rootSize, 0, none, none, [], []⟩

/-- Egress root `r`. -/
def State.root (s : State) (r : Nat) : Root := tget (Root.default r) s.sched.roots r
/-- Egress root `r` changed. -/
def State.modRoot (s : State) (r : Nat) (f : Root → Root) : State :=
  s.modSched (fun d => { d with roots := tset d.roots r (f (tget (Root.default r) d.roots r)) })

/-- A queue after reset: queue 8r + c is the default queue of root r and class c (R371). -/
def Queue.default (q : Nat) : Queue :=
  if q < 1104 then
    { Queue.reset with conf := true, cfg := ⟨⟨true, q / 8⟩, q % 8, 1, 4096, true, q % 8⟩ }
  else Queue.reset

/-- Queue `q`. -/
def State.queue (s : State) (q : Nat) : Queue := tget (Queue.default q) s.sched.queues q
/-- Queue `q` changed. -/
def State.modQueue (s : State) (q : Nat) (f : Queue → Queue) : State :=
  s.modSched (fun d => { d with queues := tset d.queues q (f (tget (Queue.default q) d.queues q)) })
/-- Node `n`. -/
def State.node (s : State) (n : Nat) : Node := tget Node.reset s.sched.nodes n
/-- Node `n` changed. -/
def State.modNode (s : State) (n : Nat) (f : Node → Node) : State :=
  s.modSched (fun d => { d with nodes := tmod Node.reset d.nodes n f })

/-- The nodes from a parent up to its root, nearest first, and the root, or none when the way up is broken. -/
def SchedSt.climb (d : SchedSt) : Nat → Parent → List Nat × Option Nat
  | 0, _ => ([], none)
  | k + 1, p =>
    if p.isRoot then ([], some p.id)
    else
      let n := tget Node.reset d.nodes p.id
      if n.conf then
        let up := d.climb k n.parent
        (p.id :: up.1, up.2)
      else ([], none)

/-- The nodes on the way up from a parent. -/
def State.nodesUp (s : State) (p : Parent) : List Nat := (s.sched.climb (s.sched.nodes.length + 1) p).1
/-- The root above a parent. -/
def State.rootOf (s : State) (p : Parent) : Option Nat := (s.sched.climb (s.sched.nodes.length + 1) p).2
/-- The root above a configured queue. -/
def State.queueRoot (s : State) (q : Nat) : Option Nat :=
  if (s.queue q).conf then s.rootOf (s.queue q).cfg.parent else none

/-- Queues that the table lists under a parent, rising. -/
def State.kidQueues (s : State) (p : Parent) : List Nat :=
  (s.sched.queues.filter (fun e => e.2.conf && e.2.cfg.parent == p)).map Prod.fst
/-- Nodes under a parent, rising. -/
def State.kidNodes (s : State) (p : Parent) : List Nat :=
  (s.sched.nodes.filter (fun e => e.2.conf && e.2.parent == p)).map Prod.fst
/-- Every queue under a parent, the default queues that no command has touched among them. -/
def State.allKidQueues (s : State) (p : Parent) : List Nat :=
  (if p.isRoot && decide (p.id < 138) then
    ((List.range 8).map (fun c => 8 * p.id + c)).filter (fun q => (tfind s.sched.queues q).isNone)
   else []) ++ s.kidQueues p

/-- Frame bytes that a queue holds (R372, R439). -/
def Queue.bytes (q : Queue) : Nat := (q.held.map Desc.len).foldl (· + ·) 0

/-! ## Fabric links (R435, R468) -/

/-- Fabric settings of a root. -/
def State.fabLink (s : State) (root : Nat) : FabLink := tget FabLink.reset s.fabric.links root

/-- The root is a fabric link: an enabled trunk, or a designated line channel (R435). -/
def State.isFabric (s : State) (root : Nat) : Bool :=
  if root < 96 then (s.fabLink root).designated
  else decide (128 ≤ root) && decide (root < 132) && (s.trunk (root - 128)).cfg.enable

/-- The adjacency of a fabric link (R449). -/
def State.adj (s : State) (root : Nat) : Option Adj := s.fabric.adjs.find? (fun a => a.root == root)

/-- A fabric link is mismatched (R468): by the partner's last HELLO, unless that went out before the last activation tick with the
values of before. -/
def State.mismatched (s : State) (root : Nat) : Bool :=
  match tfind s.fabric.hellos root with
  | none => false
  | some h =>
    (h.epoch != s.fabric.epoch || h.digest != s.fabric.digest) &&
      (decide (s.fabric.actTick ≤ h.tick) || h.epoch != s.fabric.prevEpoch || h.digest != s.fabric.prevDigest)

/-- A secured link for which no key is installed: it carries MKA and 802.1AS frames only (R472). -/
def State.unkeyed (s : State) (root : Nat) : Bool :=
  s.isFabric root && (s.fabLink root).macsec && (s.fabLink root).sak.isNone

/-! ## How a frame leaves (R357, R396, R439) -/

/-- Bridge settings of a port. -/
def State.port (s : State) (p : Nat) : BridgePort := tget BridgePort.reset s.bridge.ports p

/-- The frame bytes that encapsulation adds on a link (R439). -/
def State.encap (s : State) (root : Nat) : Nat := if (s.fabLink root).macsec then 62 else 30

/-- A frame as it leaves a port: tagged or untagged (R357), DEI as its colour left it (R396), and with the fabric header
of its descriptor (R437). On trunks, fabric links and the roots of the complexes the tag is kept; a control frame carries no
frame and gets none. -/
def State.leaving (s : State) (root : Nat) (st : Stored) (d : Desc) : Frame :=
  let f := st.frame
  let control := match d.fab with
    | some h => h.type != 0
    | none => false
  let plain := d.fab.isNone && (decide (root < 128) || (decide (132 ≤ root) && decide (root < 136)))
  let untag := plain && (s.port root).untag && st.vid == (s.port root).pvid
  let was := if f.tag.isSome then 4 else 0
  let tag : Option Tag := if control then f.tag else if untag then none else some ⟨st.vid, st.pcp, st.dei⟩
  let len := f.len - was + (if tag.isSome then 4 else 0)
  { f with tag := tag, len := len, fab := d.fab, outer := if d.fab.isSome then len + s.encap root else len }

/-! ## Gates (R397, R398) -/

/-- CYCLE of a list. -/
def gateCycle (l : List GateEntry) : Nat := (l.map GateEntry.ticks).foldl (· + ·) 0

/-- The gates of the entry that holds a position. -/
def gatesAt : List GateEntry → Nat → Nat
  | [], _ => 0xFF
  | e :: t, pos => if pos < e.ticks then e.gates else gatesAt t (pos - e.ticks)

/-- The gates open in tick `t` under an operational list (R398). -/
def GateList.gates (g : GateList) (t : Nat) : Nat :=
  if gateCycle g.entries = 0 then 0xFF
  else gatesAt g.entries (((t : Int) - g.act) % (gateCycle g.entries : Int)).toNat

/-- The gate of class `c` is open at a root in tick `t`. -/
def Root.gateOpen (r : Root) (c t : Nat) : Bool :=
  match r.oper with
  | some g => bit (g.gates t) c
  | none => true

/-- Gate control lists due at edge `edge` become operational (R25 step 7, R399). -/
def Root.gateStep (r : Root) (edge : Nat) : Root :=
  match r.wait with
  | some w => if w.act ≤ edge then { r with oper := if w.entries.isEmpty then none else some w, wait := none } else r
  | none => r

/-! ## Eligibility (R374, R388, R344) -/

/-- A shaper allows (R388). -/
def Shaper.allows (h : Shaper) : Bool := !h.enabled || (decide (0 ≤ h.tokC) && decide (0 ≤ h.tokP))

/-- The class of a frame at a queue: that of its fabric header, or its own (R356, R365, R438). -/
def Desc.sc (d : Desc) (f : Stored) : Nat :=
  match d.fab with
  | some h => h.sc
  | none => f.sc

/-- A queue's head frame is eligible, its shapers aside (R20, R374, R398, R344, R468). -/
def State.headOk (s : State) (root : Nat) (q : Queue) : Bool :=
  match q.held with
  | [] => false
  | d :: _ =>
    match s.stored d.id with
    | none => false
    | some f =>
      decide (d.elig ≤ s.now) && (s.root root).gateOpen (d.sc f) s.now &&
        (d.sc f == 7 || !(s.isFabric root && s.mismatched root)) && !s.unkeyed root &&
        (decide (root < 132) || decide (135 < root) || (s.host (root - 132)).creditEdge (d.sc f) (s.leaving root f d).len)

/-- The shapers of the nodes on a queue's path allow (R374). -/
def State.pathAllows (s : State) (q : Queue) : Bool := (s.nodesUp q.cfg.parent).all (fun n => (s.node n).shaper.allows)

/-- A queue is eligible (R374). -/
def State.queueElig (s : State) (root q : Nat) : Bool :=
  let x := s.queue q
  x.conf && x.shaper.allows && s.pathAllows x && s.headOk root x

/-- A node is eligible: its shaper allows and a child is eligible (R369). -/
def State.nodeElig (s : State) (root : Nat) : Nat → Nat → Bool
  | 0, _ => false
  | k + 1, n =>
    let x := s.node n
    x.conf && x.shaper.allows &&
      ((s.kidQueues ⟨false, n⟩).any (s.queueElig root) || (s.kidNodes ⟨false, n⟩).any (s.nodeElig root k))

/-- A node can be selected from: its shaper allows, and a child that was eligible at the edge still is (R369, R375). -/
def State.nodeReady (s : State) (root : Nat) : Nat → Nat → Bool
  | 0, _ => false
  | k + 1, n =>
    let x := s.node n
    x.conf && x.shaper.allows &&
      ((s.kidQueues ⟨false, n⟩).any (fun q => (s.queue q).elig && s.queueElig root q) ||
        (s.kidNodes ⟨false, n⟩).any (fun m => (s.node m).elig && s.nodeReady root k m))

/-- The fuel for a walk down the tree. -/
def State.depthMax (s : State) : Nat := s.sched.nodes.length + 1

/-! ## Tags (R375, R376) -/

/-- Serial order of 48-bit tags. -/
def tagLt (a b : BitVec 48) : Bool := a != b && decide ((b - a).toNat < 2 ^ 47)
/-- The later of two tags. -/
def tagMax (a b : BitVec 48) : BitVec 48 := if tagLt a b then b else a

/-- V of a parent and level; 0 for a new pair (R376). -/
def State.vtime (s : State) (p : Parent) (level : Nat) : BitVec 48 :=
  match s.sched.vtimes.find? (fun v => v.parent == p && v.level == level) with
  | some v => v.v
  | none => 0
/-- V of a parent and level set. -/
def State.setV (s : State) (p : Parent) (level : Nat) (v : BitVec 48) : State :=
  s.modSched (fun d => { d with vtimes :=
    ⟨p, level, v⟩ :: d.vtimes.filter (fun x => !(x.parent == p && x.level == level)) })

/-- At an edge: a child that is eligible and was not takes S = max(V, F) (R375). -/
def State.wakeTags (s : State) : State :=
  let qs := tmap (fun i (q : Queue) =>
    let e := match s.queueRoot i with
      | some r => s.queueElig r i
      | none => false
    { q with elig := e, tagS := if e && !q.elig then tagMax (s.vtime q.cfg.parent q.cfg.level) q.tagF else q.tagS })
    s.sched.queues
  let ns := tmap (fun i (n : Node) =>
    let e := match s.rootOf ⟨false, i⟩ with
      | some r => s.nodeElig r s.depthMax i
      | none => false
    { n with elig := e, tagS := if e && !n.elig then tagMax (s.vtime n.parent n.level) n.tagF else n.tagS })
    s.sched.nodes
  s.modSched (fun d => { d with queues := qs, nodes := ns })

/-- A child that has stopped being eligible within the tick, whatever stopped it, is marked, so that it wakes under R375 when an
edge finds it eligible again. -/
def State.dropTags (s : State) : State :=
  let qs := tmap (fun i (q : Queue) => { q with elig := q.elig && (match s.queueRoot i with
    | some r => s.queueElig r i
    | none => false) }) s.sched.queues
  let s := s.modSched (fun d => { d with queues := qs })
  let ns := tmap (fun i (n : Node) => { n with elig := n.elig && (match s.rootOf ⟨false, i⟩ with
    | some r => s.nodeReady r s.depthMax i
    | none => false) }) s.sched.nodes
  s.modSched (fun d => { d with nodes := ns })

/-! ## Selection (R373, R375, R388, R390) -/

/-- A child in a selection: a node or a queue, its ID, level and start tag. -/
structure Kid where
  node  : Bool
  id    : Nat
  level : Nat
  tag   : BitVec 48
deriving DecidableEq, Repr

/-- The eligible children of a parent, queues before nodes, each rising (R373). A child that became able to send within
the tick waits for its edge. -/
def State.kids (s : State) (root : Nat) (p : Parent) : List Kid :=
  ((s.kidQueues p).filter (fun q => (s.queue q).elig && s.queueElig root q)).map (fun q =>
    ⟨false, q, (s.queue q).cfg.level, (s.queue q).tagS⟩) ++
  ((s.kidNodes p).filter (fun n => (s.node n).elig && s.nodeReady root s.depthMax n)).map (fun n =>
    ⟨true, n, (s.node n).level, (s.node n).tagS⟩)

/-- A child goes before another (R373). -/
def Kid.before (a b : Kid) : Bool := decide (b.level < a.level) || (a.level == b.level && tagLt a.tag b.tag)

/-- The child that goes first. -/
def firstKid : List Kid → Option Kid
  | [] => none
  | k :: t => match firstKid t with
    | none => some k
    | some b => if b.before k then some b else some k

/-- The descent from a parent to a queue: the children chosen, top first (R373). -/
def State.descend (s : State) (root : Nat) : Nat → Parent → List Kid
  | 0, _ => []
  | k + 1, p =>
    match firstKid (s.kids root p) with
    | none => []
    | some c => if c.node then c :: s.descend root k ⟨false, c.id⟩ else [c]

/-- F after a selection of charged length `len` (R375). -/
def tagAfter (tag : BitVec 48) (len weight : Nat) : BitVec 48 :=
  tag + BitVec.ofNat 48 (ceilDiv (len * 65536) (Nat.max 1 weight))

/-- Tokens taken from a shaper (R388). -/
def Shaper.charge (h : Shaper) (len : Nat) : Shaper :=
  if h.enabled then { h with tokC := h.tokC - 64 * len, tokP := h.tokP - 64 * len } else h

/-- A selection through a child: V, F and the shaper (R375, R388). -/
def State.chargeKid (s : State) (len : Nat) (k : Kid) : State :=
  if k.node then
    let n := s.node k.id
    (s.setV n.parent n.level n.tagS).modNode k.id (fun n =>
      { n with tagF := tagAfter n.tagS len n.weight, shaper := n.shaper.charge len })
  else
    let q := s.queue k.id
    (s.setV q.cfg.parent q.cfg.level q.tagS).modQueue k.id (fun q =>
      { q with tagF := tagAfter q.tagS len q.cfg.weight, shaper := q.shaper.charge len })

/-- After a selection: a child that is still eligible has S = F, one that is not waits for its edge (R375, R389). -/
def State.settleKid (s : State) (root : Nat) (k : Kid) : State :=
  if k.node then
    if s.nodeReady root s.depthMax k.id then s.modNode k.id (fun n => { n with tagS := n.tagF })
    else s.modNode k.id (fun n => { n with elig := false })
  else if s.queueElig root k.id then s.modQueue k.id (fun q => { q with tagS := q.tagF })
  else s.modQueue k.id (fun q => { q with elig := false })

/-! ## Which unit carries a root, and whether it can take a frame (R390, R316) -/

/-- The other trunk of an end. -/
def trunkMate (tr : Nat) : Nat := if tr % 2 = 0 then tr + 1 else tr - 1

/-- The main trunk of a paired end (R316). -/
def State.mainTrunk (s : State) (tr : Nat) : Nat := tr / 2 * 2 + ((s.trunk tr).cfg.pair - 1)

/-- The trunk is a standby link (R316). -/
def State.standby (s : State) (tr : Nat) : Bool := (s.trunk tr).cfg.pair != 0 && s.mainTrunk tr != tr

/-- The trunk whose bursts carry the frames of root 128 + `tr` (R316). -/
def State.carrier (s : State) (tr : Nat) : Nat :=
  if (s.trunk tr).cfg.pair = 0 then tr
  else if (s.trunk (s.mainTrunk tr)).state == .up then s.mainTrunk tr
  else trunkMate (s.mainTrunk tr)

/-- Bytes that the frames selected for a root and not yet sent take in TLUs. -/
def State.waitBytes (s : State) (root : Nat) : Nat :=
  ((s.root root).sending.map (fun x => x.frame.outer + 2)).foldl (· + ·) 0

/-- A trunk takes frames while those that wait for it are shorter than one fill unit (log 12). -/
def State.trunkTakes (s : State) (tr : Nat) : Bool :=
  let c := s.carrier tr
  let t := s.trunk c
  t.state == .up && decide (2 ≤ t.slots) &&
    decide (s.waitBytes (128 + c) + (if (s.trunk c).cfg.pair = 0 then 0 else s.waitBytes (128 + trunkMate c)) <
      tluRoom * unitCodewords t.cls (t.slots - 1) t.txLoad)

/-- The head frame of a queue, if one is stored. -/
def State.headFrame (s : State) (q : Nat) : Option Stored :=
  match (s.queue q).held with
  | [] => none
  | d :: _ => s.stored d.id

/-- The unit of a root can take a frame of `len` frame bytes (R390, R341, R343). -/
def State.unitTakes (s : State) (root len : Nat) : Bool :=
  if root < 96 then
    let l := s.line root
    s.unitOn root && (l.state == .up || l.state == .lpi) && l.lpiTx == .active && (s.root root).sending.isEmpty
  else if root < 128 then s.unitOn root && (s.drop (root - 96)).state == .up
  else if root < 132 then s.unitOn root && s.trunkTakes (root - 128)
  else if root < 136 then
    let g := s.host (root - 132)
    s.unitOn root && g.state == .up && !g.txEidle && (s.root root).sending.isEmpty &&
      decide (g.unacked.length < 2048) && decide (g.buffered + len + 20 ≤ 262144)
  else s.live

/-! ## Departure (R21) -/

/-- The unit of a root counts a frame sent (R219, R250, R352). -/
def State.countTx (s : State) (root len : Nat) : State :=
  if root < 96 then s.modLine root (fun l => { l with cntTick :=
    { l.cntTick with txFrames := l.cntTick.txFrames + 1, txBytes := l.cntTick.txBytes + len } })
  else if root < 128 then s.modDrop (root - 96) (fun d => { d with cntTick :=
    { d.cntTick with txFrames := d.cntTick.txFrames + 1, txBytes := d.cntTick.txBytes + len } })
  else if root < 132 then s
  else if root < 136 then s.modHost (root - 132) (fun g => { g with cntTick :=
    { g.cntTick with txFrames := g.cntTick.txFrames + 1 } })
  else s

/-- The next packet number of a link's key is that before which the key server distributes a new key (R473). -/
def FabLink.keyDue (l : FabLink) : Bool := l.sak.isSome && decide (0xC0000000 ≤ l.pn)

/-- The SCI of a secured link as a number: the outer source address followed by the egress root number (R437, R472). -/
def State.sciNum (s : State) (root : Nat) : Nat := (2 * 2 ^ 40 + s.fuses.serial % 2 ^ 40) * 2 ^ 16 + root

/-- The device is the key server of a link: of two MKA participants of equal priority the one with the lower SCI (R473; log 68). -/
def State.keyServer (s : State) (root : Nat) : Bool :=
  match (s.fabLink root).partner with
  | some p => decide (s.sciNum root < p)
  | none => false

/-- The key server distributes a new secure association key, and uses it from packet number 1 on (R473). -/
def State.newKey (s : State) (root : Nat) : State :=
  let k := Config.newSak root s.now
  s.modFabric (fun f =>
    { f with links := tmod FabLink.reset f.links root (fun l => { l with sak := some k, pn := 1 })
             outbox := f.outbox ++ [⟨root, none, .mka k⟩] })

/-- A frame goes through the controlled port of a secured link: it takes the next packet number (R472); a key whose numbers reach
their end gives way to a new one (R473). -/
def State.secureTx (s : State) (root : Nat) : State :=
  if (s.fabLink root).macsec && (s.fabLink root).sak.isSome then
    let s := s.modFabric (fun f => { f with links := tmod FabLink.reset f.links root (fun l => { l with pn := l.pn + 1 }) })
    if (s.fabLink root).keyDue && s.keyServer root then s.newKey root else s
  else s

/-- The oldest frame that a root is sending has been sent: counted, and its descriptor gone (R21). -/
def State.depart (s : State) (root : Nat) : State :=
  match (s.root root).sending with
  | [] => s
  | x :: rest =>
    (((s.modRoot root (fun r => { r with sending := rest })).countTx root x.frame.outer).secureTx root).unref x.desc.id

/-- Frames that a root has selected and not sent are discarded. -/
def State.dropSending (s : State) (root : Nat) : State :=
  let l := (s.root root).sending
  l.foldl (fun s x => s.unref x.desc.id) (s.modRoot root (fun r => { r with sending := [] }))

end Machine
end Sys2Proof
end

