-- ==== Sys2Proof/Machine/SchedCfg.lean ====
section
/-! DEFINITION. Queues and rates as the tick works on them (12, 13): entering a queue, flushes, token refill, and the
configuration of bridge, tree and rates as it takes effect or as later commands see it. -/
namespace Sys2Proof
namespace Machine

/-! ## Entering a queue (R367, R372, R483) -/

/-- The default queue of a root for a class, in force (R367, R371). -/
def State.defaultQueue (s : State) (root sc : Nat) : Option Nat :=
  if root < 138 ∧ (tfind s.sched.queues (8 * root + sc)).isNone then some (8 * root + sc)
  else ((s.sched.queues.filter (fun e => e.2.conf && e.2.cfg.defEn && e.2.cfg.defSc == sc &&
    s.rootOf e.2.cfg.parent == some root)).map Prod.fst).head?

/-- Frame bytes that the enqueues of this tick bring to a queue. -/
def State.incoming (s : State) (q : Nat) : Nat :=
  ((s.sched.enqueues.filter (fun e => e.1 == q)).map (fun e => e.2.len)).foldl (· + ·) 0

/-- Occupancy of a queue as R372 counts it. -/
def State.occupancy (s : State) (q : Nat) : Nat := (s.queue q).bytes + s.incoming q + (s.queue q).leaving

/-- A queue accepts a frame (R372). -/
def State.queueTakes (s : State) (q len : Nat) : Bool :=
  (s.queue q).conf && decide (s.occupancy q + len ≤ (s.queue q).cfg.limit * 64)

/-- The unit behind a root has a domain that is closing or off, or is isolated for self-test (R483, R572). -/
def State.rootHeld (s : State) (root : Nat) : Bool :=
  decide (root < 136) && (s.domClosing (domOfRoot root) || !s.domOn (domOfRoot root) || s.isolatedUnit root)

/-- A descriptor of a stored frame enters a queue at step 4 of this tick, or is refused and counted (R25, R372, R483). -/
def State.enqueue (s : State) (q : Nat) (d : Desc) : State :=
  if s.queueTakes q d.len then
    ((s.ref d.id).modSched (fun x => { x with enqueues := x.enqueues ++ [(q, d)] })).modQueue q (fun x =>
      { x with tkEnqFrames := x.tkEnqFrames + 1, tkEnqBytes := x.tkEnqBytes + d.len })
  else
    let away := match s.queueRoot q with
      | some r => s.rootHeld r
      | none => false
    s.modQueue q (fun x => if away then { x with tkHeldOver := x.tkHeldOver + 1 }
      else { x with tkDropLimit := x.tkDropLimit + 1 })

/-- A frame has a descriptor in some queue of a root (R429). -/
def State.queuedAt (s : State) (id root : Nat) : Bool :=
  s.sched.queues.any (fun e => e.2.held.any (fun d => d.id == id) && s.queueRoot e.1 == some root) ||
    s.sched.enqueues.any (fun e => e.2.id == id && s.queueRoot e.1 == some root)

/-- A frame leaves every queue, every enqueue of this tick and every root that has not yet sent it (R419). One that a drop's open
opportunity counts leaves that count too (R243). -/
def State.discardFrame (s : State) (id : Nat) : State :=
  let n := (s.sched.queues.map (fun e => (e.2.held.filter (fun d => d.id == id)).length)).foldl (· + ·) 0 +
    (s.sched.enqueues.filter (fun e => e.2.id == id)).length +
    (s.sched.roots.map (fun e => (e.2.sending.filter (fun x => x.desc.id == id)).length)).foldl (· + ·) 0
  let s := { s with drops := tmap (fun ds (d : Drop) =>
    let counted := ((s.root (96 + ds)).sending.take d.burstLeft).filter (fun (x : Sending) => x.desc.id == id)
    { d with burstLeft := d.burstLeft - counted.length }) s.drops }
  let s := s.modSched (fun d =>
    { d with queues := tmap (fun _ (q : Queue) => { q with held := q.held.filter (fun x => x.id != id) }) d.queues
             enqueues := d.enqueues.filter (fun e => e.2.id != id)
             roots := tmap (fun _ (r : Root) => { r with sending := r.sending.filter (fun x => x.desc.id != id) }) d.roots })
  (List.range n).foldl (fun s _ => s.unref id) s

/-- A queue is flushed: the frames that it holds and those that would enter it at step 4 are discarded and counted
(R377). -/
def State.flushQueue (s : State) (q : Nat) : State :=
  let gone := (s.queue q).held.map Desc.id ++ (s.sched.enqueues.filter (fun e => e.1 == q)).map (fun e => e.2.id)
  let s := (s.modSched (fun d => { d with enqueues := d.enqueues.filter (fun e => e.1 != q) })).modQueue q (fun x =>
    { x with held := [], elig := false, tkDropFlush := x.tkDropFlush + gone.length })
  gone.foldl State.unref s

/-- Step 3 of the commit: the flushes of this tick (R25, R377). -/
def State.commitFlushes (s : State) : State :=
  (s.sched.flushes.foldl State.flushQueue s).modSched (fun d => { d with flushes := [] })

/-- Step 4 of the commit: the enqueues of this tick, in order of classification (R25). -/
def State.commitEnqueues (s : State) : State :=
  (s.sched.enqueues.foldl (fun s e => s.modQueue e.1 (fun q => { q with held := q.held ++ [e.2] })) s).modSched (fun d =>
    { d with enqueues := [] })

/-! ## Refill (R384) -/

/-- One bucket at step 5. -/
def refill (rate size : Nat) (tok : Int) (rem : Nat) : Int × Nat :=
  (min (tok + ((rate + rem) / 5 : Nat)) ((size * 64 : Nat) : Int), (rate + rem) % 5)

/-- An enabled shaper at step 5. -/
def Shaper.refill (h : Shaper) : Shaper :=
  if h.enabled then
    { h with tokC := (Machine.refill h.cir h.cbs h.tokC h.remC).1, remC := (Machine.refill h.cir h.cbs h.tokC h.remC).2
             tokP := (Machine.refill h.pir h.pbs h.tokP h.remP).1, remP := (Machine.refill h.pir h.pbs h.tokP h.remP).2
             edgeC := (Machine.refill h.cir h.cbs h.tokC h.remC).1, edgeP := (Machine.refill h.pir h.pbs h.tokP h.remP).1 }
  else h

/-- A configured policer at step 5. -/
def Policer.refill (h : Policer) : Policer :=
  if h.conf then
    { h with tokC := (Machine.refill h.cir h.cbs h.tokC h.remC).1, remC := (Machine.refill h.cir h.cbs h.tokC h.remC).2
             tokP := (Machine.refill h.pir h.pbs h.tokP h.remP).1, remP := (Machine.refill h.pir h.pbs h.tokP h.remP).2 }
  else h

/-- A root's bucket at step 5 (R390). -/
def Root.refill (r : Root) : Root :=
  { r with tok := (Machine.refill r.rate 9279 r.tok r.rem).1, rem := (Machine.refill r.rate 9279 r.tok r.rem).2 }

/-- Step 5 of the commit: every enabled bucket is refilled (R25, R384). -/
def State.commitRefill (s : State) : State :=
  s.modSched (fun d =>
    { d with queues := tmap (fun _ (q : Queue) => { q with shaper := q.shaper.refill }) d.queues
             nodes := tmap (fun _ (n : Node) => { n with shaper := n.shaper.refill }) d.nodes
             policers := tmap (fun _ (p : Policer) => p.refill) d.policers
             roots := tmap (fun _ (r : Root) => r.refill) d.roots })

/-! ## Snapshots (R381, R414) -/

/-- The counter snapshot of a queue. -/
def Queue.snapshot (q : Queue) : Queue :=
  let h := fun (x : Nat) => if bit q.clr 0 then 0 else x
  { q with enqFrames := wrap64 (h q.enqFrames + q.tkEnqFrames), enqBytes := wrap64 (h q.enqBytes + q.tkEnqBytes)
           deqFrames := wrap64 (h q.deqFrames + q.tkDeqFrames), deqBytes := wrap64 (h q.deqBytes + q.tkDeqBytes)
           dropLimit := sat32 (h q.dropLimit + q.tkDropLimit), dropFlush := sat32 (h q.dropFlush + q.tkDropFlush)
           heldOver := sat32 (h q.heldOver + q.tkHeldOver)
           tkEnqFrames := 0, tkEnqBytes := 0, tkDeqFrames := 0, tkDeqBytes := 0, tkDropLimit := 0, tkDropFlush := 0
           tkHeldOver := 0, clr := 0 }

/-- The counter snapshot of a policer. -/
def Policer.snapshot (p : Policer) : Policer :=
  let h := fun (x y : Nat) => wrap64 ((if bit p.clr 0 then 0 else x) + y)
  { p with gf := h p.gf p.tkGf, gb := h p.gb p.tkGb, yf := h p.yf p.tkYf, yb := h p.yb p.tkYb, rf := h p.rf p.tkRf
           rb := h p.rb p.tkRb, tkGf := 0, tkGb := 0, tkYf := 0, tkYb := 0, tkRf := 0, tkRb := 0, clr := 0 }

/-- The counter snapshot of the bridge. -/
def BridgeSt.snapshot (b : BridgeSt) : BridgeSt :=
  let h := fun (x y : Nat) => sat32 ((if bit b.clr 0 then 0 else x) + y)
  let c := b.cnt
  let k := b.cntTick
  { b with cnt := ⟨h c.learnFull k.learnFull, h c.aged k.aged, h c.vlanDrop k.vlanDrop, h c.filtered k.filtered,
             h c.noQueue k.noQueue, h c.streamHits k.streamHits⟩
           cntTick := BridgeCnt.zero, clr := 0 }

/-- The counts of the bridge in the present tick changed. -/
def State.bridgeCount (s : State) (f : BridgeCnt → BridgeCnt) : State :=
  s.modBridge (fun b => { b with cntTick := f b.cntTick })

/-! ## Configuration as it takes effect (R26, R376, R378, R385, R386) -/

/-- A forwarding entry of a key. -/
def fdbFind (l : List FdbEntry) (mac vid : Nat) : Option FdbEntry := l.find? (fun e => e.mac == mac && e.vid == vid)

/-- The table without a key. -/
def fdbDrop (l : List FdbEntry) (mac vid : Nat) : List FdbEntry := l.filter (fun e => !(e.mac == mac && e.vid == vid))

/-- A child starts at a new place with S = F = V of it (R376). -/
def State.placeQueue (s : State) (q : Nat) (c : QueueCfg) : State :=
  let x := s.queue q
  let v := s.vtime c.parent c.level
  if x.conf ∧ x.cfg.parent = c.parent ∧ x.cfg.level = c.level then s.modQueue q (fun x => { x with cfg := c })
  else s.modQueue q (fun x => { x with conf := true, cfg := c, tagS := v, tagF := v, elig := false })

/-- A node starts at a new place (R376). -/
def State.placeNode (s : State) (n : Nat) (p : Parent) (level weight : Nat) : State :=
  let x := s.node n
  let v := s.vtime p level
  if x.conf ∧ x.parent = p ∧ x.level = level then s.modNode n (fun x => { x with weight := weight })
  else s.modNode n (fun x =>
    { x with conf := true, parent := p, level := level, weight := weight, tagS := v, tagF := v, elig := false })

/-- A shaper's settings: full when it is enabled, its tokens kept when it was (R385, R386). -/
def Shaper.set (h : Shaper) (enable : Bool) (cir pir cbs pbs : Nat) : Shaper :=
  if !enable then { h with enabled := false }
  else if h.enabled then { h with cir := cir, pir := pir, cbs := cbs, pbs := pbs }
  else ⟨true, cir, pir, cbs, pbs, (cbs * 64 : Nat), (pbs * 64 : Nat), 0, 0, (cbs * 64 : Nat), (pbs * 64 : Nat)⟩

/-- A policer's settings (R385, R386, R393). -/
def Policer.set (h : Policer) (enable mode1 aware yd : Bool) (ovh cir pir cbs pbs : Nat) : Policer :=
  if !enable then { h with conf := false }
  else
    let x := { h with conf := true, mode1 := mode1, aware := aware, yellowDrop := yd, ovh := ovh
                      cir := cir, pir := pir, cbs := cbs, pbs := pbs }
    if h.conf then x else { x with tokC := (cbs * 64 : Nat), tokP := (pbs * 64 : Nat), remC := 0, remP := 0 }

/-- One accepted change of bridge, tree, rates, spool or fabric link takes effect, at the edge after the present tick. Of a change of
a line channel or a trunk this does what the port rates and the checks of later commands depend on: its settings, its mode and its
state (R392, R414). Other changes are left as they are. -/
def State.applySched (s : State) : Cfg → State
  | .port p c => s.modBridge (fun b => { b with ports := tset b.ports p c })
  | .vlan vid mask => s.modBridge (fun b => { b with vlans := tset b.vlans vid mask })
  | .fdbCfg age slice => s.modBridge (fun b => { b with ageTime := age, slice := slice })
  | .fdbAdd mac vid mask => s.modBridge (fun b => { b with fdb := fdbDrop b.fdb mac vid ++ [⟨mac, vid, true, 0, 0, 0, mask⟩] })
  | .fdbDel mac vid => s.modBridge (fun b => { b with fdb := fdbDrop b.fdb mac vid })
  | .streamSet i e => s.modBridge (fun b => { b with streams := tset b.streams i e })
  | .streamDel i => s.modBridge (fun b => { b with streams := tdel b.streams i })
  | .nodeSet n p l w => s.placeNode n p l w
  | .nodeDel n => (s.modNode n (fun _ => Node.reset)).modSched (fun d =>
      { d with vtimes := d.vtimes.filter (fun v => v.parent != ⟨false, n⟩) })
  | .queueSet q c => s.placeQueue q c
  | .queueDel q => (s.flushQueue q).modQueue q (fun x => { x with conf := false, shaper := Shaper.off, elig := false })
  | .root r rate ovh => s.modRoot r (fun x => { x with rate := rate, ovh := ovh })
  | .shaper node id en a b c d =>
    if node then s.modNode id (fun x => { x with shaper := x.shaper.set en a b c d })
    else s.modQueue id (fun x => { x with shaper := x.shaper.set en a b c d })
  | .policer i en m1 aw yd ovh a b c d => s.modSched (fun x =>
      { x with policers := tmod Policer.reset x.policers i (fun p => p.set en m1 aw yd ovh a b c d) })
  | .gates r l => s.modRoot r (fun x => { x with wait := some l })
  | .guar i rate burst target y => s.modSched (fun d =>
      match tfind d.guars i with
      | some g => { d with guars := tset d.guars i { g with rate := rate, burst := burst, target := target, yieldQ := y } }
      | none => { d with guars := tset d.guars i ⟨rate, burst, target, y, d.nextSeq + 1, false, 0, 0, 0, 0⟩
                         nextSeq := d.nextSeq + 1 })
  | .guarDel i => s.modSched (fun d => { d with guars := tdel d.guars i })
  | .run cause => s.runDue cause
  | .spool size ow h rq => s.applySpool size ow h rq
  | .fabLink root fab mac bd => s.modFabric (fun f =>
      { f with links := tmod FabLink.reset f.links root (fun l =>
          { l with designated := fab, macsec := mac, boundary := bd }) })
  | .line ch c => s.modLine ch (fun l =>
      { l with cfg := c, mode := if c.enable && l.cfg.enable && c.mode == l.cfg.mode && c.role == l.cfg.role && c.neg == l.cfg.neg &&
                   (!c.neg || c.adv == l.cfg.adv) then l.mode else 0 })
  | .trunk tr c => (s.modTrunk (trunkMate tr) (fun t => { t with cfg := { t.cfg with pair := c.pair } })).modTrunk tr (fun t =>
      { t with cfg := c, state := if c.enable = t.cfg.enable then t.state else if c.enable then .seek else .off })
  | .lineRetrain .. | .lineAdapt .. | .lineWatch .. | .lineTdr .. | .bundle .. | .drop .. | .trunkSig ..
  | .trunkKindle .. | .bypass | .host .. | .hostPrbs .. | .spoolReplay .. | .identity | .wake .. | .clockPlan ..
  | .clockGate .. | .pps .. | .quiet .. | .thermal .. | .din .. | .cal .. | .selftest .. | .skim .. => s

/-- The bridge, tree and rates of the edge that a read reports: the present ones, with what the commit has taken already for the next
edge (R26, R219). -/
def State.schedEdge (s : State) : State := (s.cfgq.take s.cfgDue).foldl State.applySched s

/-- The configuration of bridge, tree and rates that every command completed so far has left, those that wait for their
edge included (R380, R414). -/
def State.schedProj (s : State) : State := s.cfgq.foldl State.applySched s

/-! ## Scheduler load (R29, R370) -/

/-- Depth of a queue or node whose parent is given: the nodes above it, and itself (R370). -/
def State.depthBelow (s : State) (p : Parent) : Nat := (s.nodesUp p).length + 1

/-- Depth of the deepest queue of each root that the table lists. -/
def State.listedDepth (s : State) (root : Nat) : Nat :=
  ((s.sched.queues.filter (fun e => e.2.conf && s.rootOf e.2.cfg.parent == some root)).map (fun e =>
    s.depthBelow e.2.cfg.parent)).foldl Nat.max 0

/-- D of R29 for a root. -/
def State.rootDepth (s : State) (root : Nat) : Nat :=
  Nat.max (if (List.range 8).any (fun c => (tfind s.sched.queues (8 * root + c)).isNone) then 1 else 0) (s.listedDepth root)

/-- LOAD of R29: F x D over all roots. -/
def State.schedLoad (s : State) : Nat :=
  ((List.range 138).map (fun r => ceilDiv (s.root r).rate 26880 * s.rootDepth r)).foldl (· + ·) 0

/-- The capacity of the scheduler (R28). -/
def schedCap : Nat := 1200000

end Machine
end Sys2Proof
end

