-- ==== Sys2Proof/Machine/Guarantee.lean ====
section
/-! DEFINITION. Guarantees (13): effective root rate, the latency bound, admission and its runs, GUARANTEE_SET and
GUARANTEE_STATUS. -/
namespace Sys2Proof
namespace Machine

/-! ## Effective root rate (R392) -/

/-- The MAC rate of a line mode in kb/s (R141). -/
def modeRate (mode : Nat) : Nat :=
  match mode with
  | 1 => 100000 | 2 => 1000000 | 3 => 2500000 | 4 => 5000000 | 5 => 10000000 | 6 => 10000000 | _ => 0

/-- U of R392: the rate of the unit of a root, in kb/s. -/
def State.unitRate (s : State) (root : Nat) : Nat :=
  if root < 96 then
    modeRate (s.line root).rateMode
  else if root < 128 then 10000
  else if root < 132 then (s.trunk (root - 128)).rate
  else 245760000

/-- R_port of R392. -/
def State.rPort (s : State) (root : Nat) : Nat :=
  let r := s.root root
  if 136 ≤ root then r.rate
  else if r.ovh < 20 then Nat.min r.rate (s.unitRate root * (64 + r.ovh) / 84)
  else Nat.min r.rate (s.unitRate root)

/-! ## Paths and siblings (R402, R409) -/

/-- An element of the tree: a node or a queue, and its ID. -/
structure Elem where
  node : Bool
  id   : Nat
deriving DecidableEq, Repr

/-- The elements on a queue's path, from the queue to the child of the root. -/
def State.path (s : State) (q : Nat) : List Elem :=
  ⟨false, q⟩ :: (s.nodesUp (s.queue q).cfg.parent).map (fun n => ⟨true, n⟩)

/-- The parent of an element. -/
def State.parentOf (s : State) (e : Elem) : Parent := if e.node then (s.node e.id).parent else (s.queue e.id).cfg.parent
/-- The LEVEL of an element. -/
def State.levelOf (s : State) (e : Elem) : Nat := if e.node then (s.node e.id).level else (s.queue e.id).cfg.level
/-- The shaper of an element. -/
def State.shaperOf (s : State) (e : Elem) : Shaper := if e.node then (s.node e.id).shaper else (s.queue e.id).shaper

/-- The siblings of an element. -/
def State.siblings (s : State) (e : Elem) : List Elem :=
  let p := s.parentOf e
  ((s.allKidQueues p).map (fun q => (⟨false, q⟩ : Elem)) ++ (s.kidNodes p).map (fun n => (⟨true, n⟩ : Elem))).filter (fun x => x != e)

/-- H(q) of R409: the siblings of each element of q's path at its LEVEL or above. -/
def State.rivals (s : State) (q : Nat) : List Elem :=
  (s.path q).flatMap (fun e => (s.siblings e).filter (fun x => decide (s.levelOf e ≤ s.levelOf x)))

/-! ## The bound (R402 condition 6, R409) -/

/-- For each tick of a list's cycle, whether class `c` is closed; a run of equal ticks is one pair. -/
def closedRuns (l : List GateEntry) (c : Nat) : List (Bool × Nat) := l.map (fun e => (!bit e.gates c, e.ticks))

/-- The longest run of closed ticks, `cur` ticks of a run having passed. -/
def longestRun : List (Bool × Nat) → Nat → Nat → Nat
  | [], _, best => best
  | (closed, n) :: t, cur, best =>
    if closed then longestRun t (cur + n) (Nat.max best (cur + n)) else longestRun t 0 best

/-- The longest unbroken run in which a gate is closed under a list; none when it never opens (R412). -/
def GateList.closedRun (g : GateList) (c : Nat) : Option Nat :=
  let r := closedRuns g.entries c
  if !r.isEmpty && r.all Prod.fst then none else some (longestRun (r ++ r) 0 0)

/-- T_gate of R402 in ticks: 0 while gating is disabled, none when some list never opens the gate. -/
def Root.gateTicks (r : Root) (c : Nat) : Option Nat :=
  let f := fun (g : Option GateList) => match g with
    | none => some 0
    | some g => g.closedRun c
  match r.oper, f r.oper, f r.wait with
  | none, _, _ => some 0
  | some _, some a, some b => some (Nat.max a b)
  | _, _, _ => none

/-- T_queue of R409 plus T_gate, rounded up to a whole microsecond; none when it is not bounded. -/
def State.bound (s : State) (q sc : Nat) : Option Nat :=
  match s.queueRoot q with
  | none => none
  | some r =>
    let h := s.rivals q
    if h.any (fun e => !(s.shaperOf e).enabled) then none
    else
      let b := (s.queue q).shaper.cbs + (h.map (fun e => (s.shaperOf e).cbs)).foldl (· + ·) 0
      let c := (h.map (fun e => (s.shaperOf e).cir)).foldl (· + ·) 0
      let p := s.rPort r
      if p ≤ c then none
      else match (s.root r).gateTicks sc with
        | none => none
        | some g =>
          some (ceilDiv (8000 * b * p + 8000 * (9216 + (s.root r).ovh) * (p - c)) (p * (p - c)) + 25 + 25 * g)

/-- BOUND as a result word. -/
def State.boundWord (s : State) (q sc : Nat) : Word :=
  match s.bound q sc with
  | some n => w32 (sat32 n)
  | none => 0xFFFFFFFF

/-! ## Admission (R401 to R403) -/

/-- Precedence in force of a class (R401, R463). -/
def precOf (policy : Word) (sc : Nat) : Nat := fld policy.toNat (3 * sc) 3

/-- The stream entry of an index, if one is configured. -/
def State.stream (s : State) (i : Nat) : Option Stream := tfind s.bridge.streams i

/-- A policer. -/
def State.policer (s : State) (i : Nat) : Policer := tget Policer.reset s.sched.policers i

/-- Conditions 1 and 7 of R402. -/
def State.guarFits (s : State) (g : Guarantee) (st : Stream) : Bool :=
  let p := s.policer st.policer
  st.qEn && st.scEn && st.polEn && p.conf && decide (p.cir ≤ g.rate) && decide (p.cbs ≤ g.burst) && p.yellowDrop &&
    (s.queueRoot st.queue).isSome && s.queueRoot g.yieldQ == s.queueRoot st.queue && g.yieldQ != st.queue

/-- The guarantees of a list that use an element. -/
def State.guarsUnder (s : State) (l : List (Nat × Guarantee)) (e : Elem) : List (Nat × Guarantee) :=
  l.filter (fun x => match s.stream x.1 with
    | some st => (s.path st.queue).contains e
    | none => false)

/-- Conditions 2 and 3 of R402 for one element of the path: CIR and CBS cover the guarantees that use it. -/
def State.covers (s : State) (l : List (Nat × Guarantee)) (e : Elem) : Bool :=
  let h := s.shaperOf e
  let u := s.guarsUnder l e
  if h.enabled then
    decide ((u.map (fun x => x.2.rate)).foldl (· + ·) 0 ≤ h.cir) && decide ((u.map (fun x => x.2.burst)).foldl (· + ·) 0 ≤ h.cbs)
  else e.node

/-- R402: a guarantee is admitted beside those already admitted in the run. -/
def State.admits (s : State) (done : List (Nat × Guarantee)) (i : Nat) (g : Guarantee) : Bool :=
  match s.stream i with
  | none => false
  | some st =>
    let h := s.rivals st.queue
    s.guarFits g st && (s.path st.queue).all (s.covers (done ++ [(i, g)])) &&
      h.all (fun e => (s.shaperOf e).enabled) &&
      (match s.queueRoot st.queue with
       | some r => decide ((s.queue st.queue).shaper.cir + (h.map (fun e => (s.shaperOf e).cir)).foldl (· + ·) 0 ≤ s.rPort r)
       | none => false) &&
      (g.target == 0 || (match s.bound st.queue st.sc with
        | some n => decide (n ≤ g.target)
        | none => false))

/-- The precedence of a guarantee: that of its stream's class. -/
def State.guarPrec (s : State) (i : Nat) : Nat :=
  precOf s.fabric.cfg.policy (match s.stream i with
    | some st => st.sc
    | none => 0)

/-- One guarantee goes before another in a run (R403). -/
def State.guarBefore (s : State) (a b : Nat × Guarantee) : Bool :=
  decide (s.guarPrec a.1 < s.guarPrec b.1) || (s.guarPrec a.1 == s.guarPrec b.1 && decide (a.2.seq ≤ b.2.seq))

/-- Insertion in the order of a run. -/
def State.guarInsert (s : State) (x : Nat × Guarantee) : List (Nat × Guarantee) → List (Nat × Guarantee)
  | [] => [x]
  | y :: t => if s.guarBefore x y then x :: y :: t else y :: s.guarInsert x t

/-- The guarantees that an admission run admits (R403). -/
def State.admitted (s : State) : List (Nat × Guarantee) :=
  (s.sched.guars.foldr s.guarInsert []).foldl (fun done x => if s.admits done x.1 x.2 then done ++ [x] else done) []

/-- DATA of a TYPE 0x0D record (R406). -/
def guarData (sc : Nat) (restored : Bool) (cause i : Nat) : Nat :=
  pack [(3, sc), (1, b2n restored), (2, cause), (2, i >>> 16)]

/-- The CAUSE of a run's yields (R406): the first of re-route, port rate, reconfiguration among its triggers. -/
def runCause (l : List Nat) : Nat := if l.contains 1 then 1 else if l.contains 2 then 2 else if l.contains 3 then 3 else 0

/-- One guarantee at the end of a run: it yields, is readmitted, or stays as it was (R405, R406). -/
def State.guarSettle (s : State) (done : List Nat) (cause i : Nat) : State :=
  match tfind s.sched.guars i with
  | none => s
  | some g =>
    let sc := match s.stream i with
      | some st => st.sc
      | none => 0
    if done.contains i then
      if g.yielded then
        (s.modSched (fun d => { d with guars := tmod g d.guars i (fun g => { g with yielded := false }) })).record 13 i (guarData sc true cause i)
      else s
    else if g.yielded then s
    else
      (s.modSched (fun d => { d with guars := tmod g d.guars i (fun g =>
        { g with yielded := true, cause := cause, yields := sat16 (g.yields + 1) }) })).event 13 i
        (guarData sc false cause i)

/-- The BOUND of a guarantee's stream as a number (R402, R409). -/
def State.guarBound (s : State) (i : Nat) : Nat :=
  match s.stream i with
  | some st => (s.boundWord st.queue st.sc).toNat
  | none => 0

/-- What an edge puts in force for each guarantee: its precedence and BOUND (R404). -/
def State.guarsEdge (s : State) : State :=
  s.modSched (fun d => { d with
    guars := tmap (fun i (g : Guarantee) => { g with precedence := s.guarPrec i, bound := s.guarBound i }) d.guars })

/-- The admission run of an edge, when it has triggers (R404). -/
def State.admissionRun (s : State) : State :=
  if s.sched.runHeld.isEmpty then s
  else
    let done := s.admitted.map Prod.fst
    let cause := runCause s.sched.runHeld
    ((s.sched.guars.map Prod.fst).foldl (fun s i => s.guarSettle done cause i) s).modSched (fun d => { d with runHeld := [] })

/-- The triggers of the tick that has ended become those of the edge (R404). -/
def State.runsEdge (s : State) : State :=
  s.modSched (fun d => { d with runHeld := d.runHeld ++ d.runCauses, runCauses := [] })

/-- The configuration that commands see, with the results that runs due at the edge will have (R404, R414). -/
def State.guarProj (s : State) : State :=
  let p := s.schedProj
  if p.sched.runCauses.isEmpty && p.sched.runHeld.isEmpty then p
  else
    let done := p.admitted.map Prod.fst
    p.modSched (fun d => { d with guars := tmap (fun i (g : Guarantee) => { g with yielded := !done.contains i }) d.guars })

/-- R407: a change leaves every admitted guarantee admitted. -/
def State.keepsGuars (p : State) (c : Cfg) : Bool :=
  let done := (p.applySched c).admitted.map Prod.fst
  p.sched.guars.all (fun e => e.2.yielded || done.contains e.1)

/-- Some guarantee is yielded, as it is in force (R404). -/
def State.anyYielded (s : State) : Bool := s.sched.guars.any (fun e => e.2.yielded)

/-- The elements on the paths of the guarantees, and their siblings (R404). -/
def State.watched (s : State) : List Elem :=
  s.sched.guars.flatMap (fun e => match s.stream e.1 with
    | some st => (s.path st.queue).flatMap (fun x => x :: s.siblings x)
    | none => [])

/-- A change is accepted, with an admission run at its edge where one is due. -/
def State.acceptRun (s : State) (c : Cfg) (due : Bool) (cause : Nat) : State :=
  if due then (s.accept c).accept (.run cause) else s.accept c

/-! ## GUARANTEE_SET (0x2107) -/

/-- GUARANTEE_SET without DELETE. -/
def cmdGuarAdd (m : Msg) (s : State) : Reply :=
  let i := m.get 1 0 18
  let p := s.guarProj
  let c : Cfg := .guar i (m.word 2) (m.word 3) (m.word 4) (m.word 5)
  .unless (m.stray 1 0x8003FFFF || m.stray 2 0x0FFFFFFF || m.stray 3 0x00FFFFFF || m.stray 5 0x000FFFFF ||
    m.word 2 == 0 || m.word 3 == 0) .badArg <|
  match p.stream i with
  | none => .err .wrongState
  | some st =>
    .unless (!((p.applySched c).admitted.map Prod.fst).contains i) .conflict <|
    .unless ((tfind p.sched.guars i).isNone && decide (65536 ≤ p.sched.guars.length)) .noResource <|
    .ok [1, (p.applySched c).boundWord st.queue st.sc] (s.acceptRun c true 0)

/-- GUARANTEE_SET with DELETE. -/
def cmdGuarDel (m : Msg) (s : State) : Reply :=
  let i := m.get 1 0 18
  .unless (m.stray 1 0x8003FFFF) .badArg <|
  .unless (s.schedProj.stream i).isNone .wrongState <|
  .ok [0, 0] (if (tfind s.schedProj.sched.guars i).isSome then s.acceptRun (.guarDel i) true 0 else s)

/-- GUARANTEE_SET. -/
def cmdGuaranteeSet (m : Msg) (s : State) : Reply := if m.flag 1 31 then cmdGuarDel m s else cmdGuarAdd m s

def guaranteeSetCmd : Cmd := ⟨0x2107, [6], true⟩
/-- GUARANTEE_SET admits, replaces or removes a guarantee (R402 to R407). -/
def execGuaranteeSet (m : Msg) (s : State) : Res := .next (s.mailbox guaranteeSetCmd m cmdGuaranteeSet)

/-! ## GUARANTEE_STATUS (0x2108) -/

/-- GUARANTEE_STATUS. -/
def cmdGuaranteeStatus (m : Msg) (s : State) : Reply :=
  let i := m.get 1 0 18
  .unless (m.stray 1 0x0003FFFF) .badArg <|
  match tfind s.sched.guars i, s.stream i with
  | some g, some st =>
    .ok [packW [(16, g.yields), (2, g.cause), (6, 0), (3, g.precedence), (3, st.sc), (2, if g.yielded then 2 else 1)],
         if g.yielded then 0xFFFFFFFF else w32 g.bound, w32 g.seq] s
  | _, _ => .ok [0, 0, 0] s

def guaranteeStatusCmd : Cmd := ⟨0x2108, [2], false⟩
/-- GUARANTEE_STATUS returns the state of a guarantee as it is in force (R401, R404). -/
def execGuaranteeStatus (m : Msg) (s : State) : Res := .next (s.mailbox guaranteeStatusCmd m cmdGuaranteeStatus)

end Machine
end Sys2Proof
end

