-- ==== Sys2Proof/Machine/Bridge.lean ====
section
/-! DEFINITION. The bridge (12): PORT_BRIDGE_CONFIG, VLAN_SET, FDB_CONFIG, FDB_ENTRY, FDB_STATUS, STREAM_SET, learning
and aging. -/
namespace Sys2Proof
namespace Machine

/-! ## PORT_BRIDGE_CONFIG (0x2000) and VLAN_SET (0x2001) -/

/-- PORT_BRIDGE_CONFIG. -/
def cmdPortBridgeConfig (m : Msg) (s : State) : Reply :=
  let p := m.get 1 0 8
  let pvid := m.get 1 20 12
  .unless (m.stray 1 0xFFFFC0FF || m.stray 2 0xFFFFFF || decide (135 < p) || pvid == 0 || pvid == 4095) .badArg <|
  .ok [] (s.accept (.port p ⟨pvid, m.flag 1 19, m.flag 1 18, m.flag 1 17, m.get 1 14 3, m.get 2 0 24⟩))

def portBridgeConfigCmd : Cmd := ⟨0x2000, [3], true⟩
/-- PORT_BRIDGE_CONFIG sets a port's VLAN and class settings at the next edge (R355 to R358). -/
def execPortBridgeConfig (m : Msg) (s : State) : Res := .next (s.mailbox portBridgeConfigCmd m cmdPortBridgeConfig)

/-- A mask of ports 0 to 135 from five words, the first of them word `k`. -/
def portMask (m : Msg) (k : Nat) : Nat := pack ((List.range 5).map (fun i => (32, m.word (k + i))))

/-- VLAN_SET. -/
def cmdVlanSet (m : Msg) (s : State) : Reply :=
  let vid := m.get 1 0 12
  let all := m.flag 1 12
  .unless (m.stray 1 0x1FFF || vid == 0 || vid == 4095 || (!all && m.stray 6 0xFF)) .badArg <|
  .ok [] (s.accept (.vlan vid (if all then 0 else portMask m 2)))

def vlanSetCmd : Cmd := ⟨0x2001, [7], true⟩
/-- VLAN_SET sets the members of a VID at the next edge (R355). -/
def execVlanSet (m : Msg) (s : State) : Res := .next (s.mailbox vlanSetCmd m cmdVlanSet)

/-! ## The forwarding database (R359 to R363) -/

/-- Entries that the database holds. -/
def fdbSize : Nat := 131072

/-- FDB_CONFIG. -/
def cmdFdbConfig (m : Msg) (s : State) : Reply :=
  let slice := m.get 1 0 14
  .unless (m.stray 1 0xFFFF3FFF || slice == 0 || decide (8192 < slice)) .badArg <|
  .ok [w32 (ceilDiv fdbSize slice)] (s.accept (.fdbCfg (m.get 1 16 16) slice))

def fdbConfigCmd : Cmd := ⟨0x2002, [2], true⟩
/-- FDB_CONFIG sets aging time and slice (R362). -/
def execFdbConfig (m : Msg) (s : State) : Res := .next (s.mailbox fdbConfigCmd m cmdFdbConfig)

/-- Places that accepted static adds hold in the table until their edge (R359). -/
def State.fdbReserved (s : State) : Nat :=
  ((s.cfgq.filterMap (fun c => match c with
    | .fdbAdd mac vid _ => if (fdbFind s.bridge.fdb mac vid).isNone then some (mac, vid) else none
    | _ => none)).eraseDups).length

/-- One source lookup is committed (R360, R442). -/
def State.learnOne (s : State) (l : Learn) : State :=
  match fdbFind s.bridge.fdb l.mac l.vid with
  | some e =>
    if e.static then s
    else s.modBridge (fun b => { b with fdb := b.fdb.map (fun x =>
      if x.mac = l.mac ∧ x.vid = l.vid then { x with port := l.port, last := s.now, path := l.path } else x) })
  | none =>
    if s.bridge.fdb.length + s.fdbReserved < fdbSize then
      s.modBridge (fun b => { b with fdb := b.fdb ++ [⟨l.mac, l.vid, false, l.port, s.now, l.path, 0⟩] })
    else s.bridgeCount (fun c => { c with learnFull := c.learnFull + 1 })

/-- Step 1 of the commit: the source lookups of this tick (R25, R360). -/
def State.commitLearns (s : State) : State :=
  (s.bridge.learns.foldl State.learnOne s).modBridge (fun b => { b with learns := [] })

/-- An entry is removed by the slice of this tick (R362). -/
def BridgeSt.ages (b : BridgeSt) (now : Nat) (e : FdbEntry) : Bool :=
  let k := (Config.fdbSlot e.mac e.vid).val
  !e.static && b.ageTime != 0 && decide (b.agePos ≤ k) && decide (k < b.agePos + b.slice) &&
    decide (((b.ageTime * 400 : Nat) : Int) ≤ now - e.last)

/-- Step 2 of the commit: the aging slice of this tick (R25, R362, R363). -/
def State.commitAging (s : State) : State :=
  s.modBridge (fun b =>
    let gone := (b.fdb.filter (b.ages s.now)).length
    { b with fdb := b.fdb.filter (fun e => !b.ages s.now e)
             agePos := if fdbSize ≤ b.agePos + b.slice then 0 else b.agePos + b.slice
             cntTick := { b.cntTick with aged := b.cntTick.aged + gone } })

/-- The result words of FDB_ENTRY for what a key held. -/
def fdbWords (now : Nat) : Option FdbEntry → List Word
  | none => List.replicate 7 0
  | some e =>
    if e.static then [packW [(30, 0), (2, 2)], 0] ++ (List.range 5).map (fun k => w32 (e.mask >>> (32 * k)))
    else [packW [(8, e.port), (22, 0), (2, 1)], w32 ((now : Int) - e.last).toNat] ++ List.replicate 5 0

/-- FDB_ENTRY. OP 0 reads; OP 1 and 2 write and are the steward's (R33). -/
def cmdFdbEntry (m : Msg) (s : State) : Reply :=
  let op := m.get 1 30 2
  let vid := m.get 1 16 12
  let mac := m.get 1 0 16 * 2 ^ 32 + m.word 2
  let ret := fdbWords s.now (fdbFind s.bridge.fdb mac vid)
  .unless (m.len != (if op = 1 then 8 else 3)) .badArg <|
  .unless (m.chan == 4 && (op == 1 || op == 2)) .notPermitted <|
  .unless (m.stray 1 0xCFFFFFFF || op == 3 || vid == 0 || vid == 4095 ||
    (op == 1 && (m.stray 7 0xFF || portMask m 3 == 0))) .badArg <|
  match op with
  | 1 =>
    let p := s.commitLearns.schedProj
    .unless ((fdbFind p.bridge.fdb mac vid).isNone && decide (fdbSize ≤ p.bridge.fdb.length)) .noResource <|
    .ok ret (s.accept (.fdbAdd mac vid (portMask m 3)))
  | 2 => .ok ret (s.accept (.fdbDel mac vid))
  | _ => .ok ret s

def fdbEntryCmd : Cmd := ⟨0x2003, [3, 8], false⟩
/-- FDB_ENTRY looks up, adds or deletes a forwarding entry (R359). -/
def execFdbEntry (m : Msg) (s : State) : Res := .next (s.mailbox fdbEntryCmd m cmdFdbEntry)

/-- FDB_STATUS. -/
def cmdFdbStatus (m : Msg) (s : State) : Reply :=
  let b := s.bridge
  .unless (m.stray 1 1) .badArg <|
  .ok [w32 s.snapEdge, w32 (b.fdb.filter (fun e => !e.static)).length, w32 (b.fdb.filter (fun e => e.static)).length,
       w32 b.cnt.learnFull, w32 b.cnt.aged, w32 b.cnt.vlanDrop, w32 b.cnt.filtered, w32 b.cnt.noQueue, w32 b.cnt.streamHits]
    (if m.flag 1 0 then s.modBridge (fun b => { b with clr := 1 }) else s)

def fdbStatusCmd : Cmd := ⟨0x2004, [2], false⟩
/-- FDB_STATUS returns the counts of the bridge (R381). -/
def execFdbStatus (m : Msg) (s : State) : Res := .next (s.mailbox fdbStatusCmd m cmdFdbStatus)

/-! ## STREAM_SET (0x2005) -/

/-- The entry of a stream key. -/
def State.streamKey (s : State) (sa : Bool) (mac vid : Nat) : Option (Nat × Stream) :=
  s.bridge.streams.find? (fun e => e.2.sa == sa && e.2.mac == mac && e.2.vid == vid)

/-- The entry is the subject of an admitted guarantee. -/
def State.guaranteed (s : State) (i : Nat) : Bool :=
  match tfind s.sched.guars i with
  | some g => !g.yielded
  | none => false

/-- STREAM_SET. -/
def cmdStreamSet (m : Msg) (s : State) : Reply :=
  let del := m.flag 1 31
  let sa := m.flag 1 30
  let vid := m.get 1 16 12
  let mac := m.get 1 0 16 * 2 ^ 32 + m.word 2
  let e : Stream := ⟨sa, mac, vid, m.flag 3 31, m.get 3 0 18, m.flag 3 27, m.get 3 28 3, m.flag 4 31, m.get 4 0 20⟩
  let p := s.guarProj
  let old := p.streamKey sa mac vid
  let held := match old with
    | some x => p.guaranteed x.1
    | none => false
  .unless (m.stray 1 0xCFFFFFFF || vid == 0 || vid == 4095 || (!del && (m.stray 3 0xF803FFFF || m.stray 4 0x800FFFFF)))
    .badArg <|
  .unless (held || (!del && ((e.qEn && !(p.queue e.queue).conf) || (e.polEn && !(p.policer e.policer).conf)))) .conflict <|
  match old, del with
  | some x, true => .ok [w32 x.1] (s.accept (.streamDel x.1))
  | none, true => .err .wrongState
  | some x, false => .ok [w32 x.1] (s.accept (.streamSet x.1 e))
  | none, false =>
    match tfree p.bridge.streams 0 262144 with
    | none => .err .noResource
    | some i => .ok [w32 i] (s.accept (.streamSet i e))

def streamSetCmd : Cmd := ⟨0x2005, [5], true⟩
/-- STREAM_SET sets or removes a stream entry at the next edge (R364, R365, R378). -/
def execStreamSet (m : Msg) (s : State) : Res := .next (s.mailbox streamSetCmd m cmdStreamSet)

end Machine
end Sys2Proof
end

