-- ==== Sys2Proof/Machine/Lr10.lean ====
section
/-! DEFINITION. The wire formats of LR10 (05): CRC-16, superframe and its marker, scrambler, pilots, PAM4, precoder,
OAM blocks and messages, training frames. -/
namespace Sys2Proof
namespace Machine

/-! ## Lines of bits and the CRC-16 of R157 -/

/-- The bits of a byte, least significant first, as they are sent (R157). -/
def byteBits (b : Byte) : List Bool := (List.range 8).map (fun i => b.getLsbD i)

/-- One bit into a CRC register of 16 bits with the polynomial x^16 + x^12 + x^5 + 1. -/
def crc16Bit (r : Nat) (b : Bool) : Nat :=
  let top := bit r 15 != b
  let r := (2 * r) % 2 ^ 16
  if top then r ^^^ 0x1021 else r

/-- CRC-16 from 0xFFFF over the bytes, their bits in the order of transmission (R157). -/
def crc16 (l : List Byte) : Nat := (l.flatMap byteBits).foldl crc16Bit 0xFFFF

/-- A byte list with its CRC-16 behind it, least significant byte first (R157, R169, R172). -/
def withCrc16 (l : List Byte) : List Byte := l ++ leBytes 2 (crc16 l)

/-- The first `n` bytes are followed by their CRC-16. -/
def crc16Good (n : Nat) (l : List Byte) : Bool := ofLe ((l.drop n).take 2) == crc16 (l.take n)

/-! ## Superframes (R156 to R158) -/

/-- What a block of a superframe carries (R156). -/
inductive BlockKind where
  | mac | sfm | oam | pilot (n : Nat) | fill
deriving DecidableEq, Repr

/-- The kind of block `b`, 0 to 179 (R156). -/
def blockKind (b : Nat) : BlockKind :=
  if b % 18 ≠ 0 then .mac
  else match b / 18 with
    | 0 => .sfm
    | 1 | 5 => .oam
    | 2 => .pilot 0
    | 4 => .pilot 1
    | 6 => .pilot 2
    | 8 => .pilot 3
    | _ => .fill

/-- The codeword that holds block `b` (R162). -/
def codewordOf (b : Nat) : Nat := b / 20

/-- MARKER: four bytes repeated five times (R157). -/
def sfmMarker : List Byte := (List.replicate 5 [0x2D#8, 0xB4#8, 0x47#8, 0xE8#8]).flatten

/-- The FLAGS word of an SFM (R158). -/
structure SfmFlags where
  rxOk     : Bool
  remFault : Bool
  lpiReq   : Bool
  sleepReq : Bool
  sleepAck : Bool
  wake     : Bool
  coefSet  : Nat
  down     : Nat
deriving DecidableEq, Repr

/-- FLAGS as a number (R158). -/
def SfmFlags.word (f : SfmFlags) : Nat :=
  pack [(1, b2n f.rxOk), (1, b2n f.remFault), (1, b2n f.lpiReq), (1, b2n f.sleepReq), (1, b2n f.sleepAck),
    (1, b2n f.wake), (2, 0), (4, f.coefSet), (4, 0), (8, f.down), (8, 0)]

/-- FLAGS read from a number (R158). -/
def SfmFlags.ofWord (n : Nat) : SfmFlags :=
  ⟨bit n 0, bit n 1, bit n 2, bit n 3, bit n 4, bit n 5, fld n 8 4, fld n 16 8⟩

/-- An SFM as its bytes 0 to 31 (R157). -/
def sfmBytes (count : Nat) (f : SfmFlags) : List Byte :=
  let body := leBytes 4 count ++ leBytes 4 f.word ++ [0#8, 0#8]
  sfmMarker ++ withCrc16 body

/-- SF_COUNT and FLAGS of an SFM whose CRC is good (R157, R159). -/
def sfmRead (l : List Byte) : Option (Nat × SfmFlags) :=
  let body := l.drop 20
  if crc16Good 10 body then some (ofLe (body.take 4), SfmFlags.ofWord (ofLe ((body.drop 4).take 4))) else none

/-! ## Scrambler, pilots, symbols (R160, R161, R164 to R168) -/

/-- The seed of a transmitter (R161). -/
def scrSeed (slave : Bool) (ofs : Nat) : Nat :=
  (if slave then 0x0C3A51E69 else 0x15A3C96E1) ^^^ (ofs * 2 ^ 24)

/-- One step of the scrambler: the output bit and the next state (R160). -/
def scrStep (s : Nat) : Bool × Nat :=
  let o := bit s 32 != bit s 12
  (o, (2 * s) % 2 ^ 33 + b2n o)

/-- Bits scrambled from a state, with the state left (R160). -/
def scramble : Nat → List Bool → List Bool
  | _, [] => []
  | s, b :: t => (b != (scrStep s).1) :: scramble (scrStep s).2 t

/-- One step of the pilot PRBS x^23 + x^18 + 1 (R167). -/
def pilotStep (s : Nat) : Bool × Nat :=
  let o := bit s 22 != bit s 17
  (o, (2 * s) % 2 ^ 23 + b2n o)

/-- The Walsh bit of a position and a pilot (R167). -/
def walsh (p n : Nat) : Bool :=
  match p % 4, n with
  | 1, 1 => true
  | 1, 3 => true
  | 2, 2 => true
  | 2, 3 => true
  | 3, 1 => true
  | 3, 2 => true
  | _, _ => false

/-- `n` pilot bits from a PRBS state, covered for position `p` and pilot `k` (R167). -/
def pilotBits (p k : Nat) : Nat → Nat → List Bool
  | 0, _ => []
  | n + 1, s => ((pilotStep s).1 != walsh p k) :: pilotBits p k n (pilotStep s).2

/-- The PAM4 level of a pair of bits, the first the more significant (R164). -/
def pam4 (a b : Bool) : Int :=
  match a, b with
  | false, false => -3
  | false, true => -1
  | true, true => 1
  | true, false => 3

/-- One symbol of the precoder (R165): level `x`, coefficients in 2^-9, past outputs in 2^-9, newest first. The output
is computed with 9 fractional bits. -/
def precode (cs : List (BitVec 12)) (past : List Int) (x : Int) : Int :=
  let v := x * 512 - (List.zipWith (fun (c : BitVec 12) y => c.toInt * y) cs past).foldl (· + ·) 0 / 512
  v - 4096 * ((v + 2048) / 4096)

/-! ## Coefficient fields (R166, R172) -/

/-- Coefficients packed 12 bits each, the first lowest (R172). -/
def packCoefs (l : List (BitVec 12)) : Nat := pack (l.map (fun c => (12, c.toNat)))

/-- `n` coefficients read from a field (R172). -/
def readCoefs (n x : Nat) : List (BitVec 12) := (unpack (List.replicate n 12) x).map (BitVec.ofNat 12)

/-- A value limited to the range of a coefficient (R166, R193). -/
def coefLimit (x : Int) : BitVec 12 := BitVec.ofInt 12 (max (-2048) (min 2047 x))

/-! ## OAM blocks and messages (R169, R170) -/

/-- An OAM block: HDR, SEQ and 28 payload bytes (R169). -/
structure OamBlock where
  som : Bool
  eom : Bool
  cls : Nat
  seq : Nat
  payload : List Byte
deriving DecidableEq, Repr

/-- An OAM block as bytes 0 to 31 (R169). -/
def OamBlock.bytes (b : OamBlock) : List Byte :=
  withCrc16 (leBytes 1 (pack [(4, b.cls), (2, 0), (1, b2n b.eom), (1, b2n b.som)]) ++ leBytes 1 b.seq ++
    (b.payload ++ List.replicate 28 0#8).take 28)

/-- An OAM block whose CRC is good (R169). -/
def oamRead (l : List Byte) : Option OamBlock :=
  if crc16Good 30 l then
    let h := ofLe (l.take 1)
    some ⟨bit h 7, bit h 6, fld h 0 4, ofLe ((l.drop 1).take 1), (l.drop 2).take 28⟩
  else none

/-- The blocks of a message hold together: SEQ rises by one from the SEQ before, one class, SOM on the first block
only and EOM on the last only (R170). -/
def oamChain (prev : Option Nat) (cls : Nat) (first : Bool) : List OamBlock → Bool
  | [] => false
  | b :: t =>
    (match prev with | some p => b.seq == (p + 1) % 256 | none => true) && b.cls == cls && b.som == first &&
      (match t with
       | [] => b.eom
       | _ :: _ => !b.eom && oamChain (some b.seq) cls false t)

/-- A message received: its class and body, LEN taken from the first payload byte (R170). -/
def oamMessage (prev : Option Nat) (blocks : List (List Byte)) : Option (Nat × List Byte) :=
  match blocks.mapM oamRead with
  | none => none
  | some [] => none
  | some (b :: t) =>
    if b.cls < 4 && oamChain prev b.cls true (b :: t) then
      let all := (b :: t).flatMap OamBlock.payload
      let len := ofLe (all.take 1)
      if len ≤ all.length - 1 then some (b.cls, (all.drop 1).take len) else none
    else none

/-- The blocks that carry a message from SEQ `seq` on (R170). -/
def oamBlocks (cls : Nat) : Nat → Bool → Nat → List Byte → List OamBlock
  | 0, _, _, _ => []
  | n + 1, first, seq, l =>
    if l.length ≤ 28 then [⟨first, true, cls, seq % 256, (l ++ List.replicate 28 0#8).take 28⟩]
    else ⟨first, false, cls, seq % 256, l.take 28⟩ :: oamBlocks cls n false (seq + 1) (l.drop 28)

/-! ## Training frames (R172) -/

/-- An InfoField (R172). -/
structure Info where
  type    : Nat
  version : Nat
  role    : Bool
  lock    : Bool
  ack     : Bool
  pamRdy  : Bool
  pam4    : Bool
  eqDone  : Bool
  able    : Bool
  seed    : Nat
  count   : Nat
  snr     : Nat
  resume  : Nat
  b8      : Nat
  field   : Nat     -- bytes 9 to 14
  ntaps   : Nat
deriving DecidableEq, Repr

/-- An InfoField as 16 bytes and CRC-16 (R172). -/
def Info.bytes (i : Info) : List Byte :=
  withCrc16 (leBytes 1 (pack [(4, i.type), (4, i.version)]) ++
    leBytes 1 (pack [(1, b2n i.role), (1, b2n i.lock), (1, b2n i.ack), (1, b2n i.pamRdy), (1, b2n i.pam4),
      (1, b2n i.eqDone), (1, b2n i.able), (1, 0)]) ++
    leBytes 1 (i.seed % 16) ++ leBytes 1 i.count ++ leBytes 2 i.snr ++ leBytes 2 i.resume ++ leBytes 1 i.b8 ++
    leBytes 6 i.field ++ leBytes 1 i.ntaps)

/-- An InfoField whose CRC is good (R172). -/
def infoRead (l : List Byte) : Option Info :=
  if crc16Good 16 l then
    let by8 := fun (k n : Nat) => ofLe ((l.drop k).take n)
    let f := by8 1 1
    some ⟨fld (by8 0 1) 0 4, fld (by8 0 1) 4 4, bit f 0, bit f 1, bit f 2, bit f 3, bit f 4, bit f 5, bit f 6,
      fld (by8 2 1) 0 4, by8 3 1, by8 4 2, by8 6 2, by8 8 1, by8 9 6, by8 15 1⟩
  else none

/-- The training data PRBS x^15 + x^14 + 1 (R172). -/
def trainStep (s : Nat) : Bool × Nat :=
  let o := bit s 14 != bit s 13
  (o, (2 * s) % 2 ^ 15 + b2n o)

/-- What the training data PRBS is loaded with: 0x7FFF at a master, 0x5AC3 at a slave (R172), and in a survey burst of
position `p` 0x7FFF XOR p x 0x1111 (R207). -/
def trainSeed (slave : Bool) : Nat := if slave then 0x5AC3 else 0x7FFF
/-- The load value of a survey burst (R207). -/
def surveySeed (p : Nat) : Nat := 0x7FFF ^^^ (p * 0x1111)

/-! ## Ability word and modes (R141, R148) -/

/-- The MAC rate of a mode in kb/s; 0 for no mode (R141). -/
def macRate (mode : Nat) : Nat :=
  match mode with
  | 1 => 100000
  | 2 => 1000000
  | 3 => 2500000
  | 4 => 5000000
  | 5 => 10000000
  | 6 => 10000000
  | _ => 0

/-- The Halonny ability word of a channel's settings (R148). -/
def halWord (lr10 lpi sleep resume user : Bool) : Nat :=
  pack [(1, b2n lr10), (1, b2n lpi), (1, b2n sleep), (1, b2n resume), (1, b2n user), (3, 0), (4, 1), (4, 0)]

end Machine
end Sys2Proof
end

