-- ==== Sys2Proof/Machine/Lr10Wire.lean ====
section
/-! DEFINITION. The layers of the LR10 transmitter from MAC characters to line symbols and back (05, R154 to R169), the
symbols of training frames (R172), and the pages of a negotiation (R147). Lists of bits stand in the order of transmission.
What R154, R155 and R162 take from IEEE 802.3 stands here as that standard has it (PRESUMED, log 85). -/
namespace Sys2Proof
namespace Machine

/-! ## 64b/66b encoding (R154) -/

/-- The bits of a number, least significant first. -/
def bitsLsb (w n : Nat) : List Bool := (List.range w).map (bit n)

/-- The number whose bits, least significant first, are given. -/
def ofBitsLsb : List Bool → Nat
  | [] => 0
  | b :: t => b2n b + 2 * ofBitsLsb t

/-- A list cut into pieces of `k`, `n` of them at most. -/
def cut {α : Type} (k : Nat) : Nat → List α → List (List α)
  | 0, _ => []
  | n + 1, l => match l with
    | [] => []
    | _ :: _ => l.take k :: cut k n (l.drop k)

/-- A character of the 10 Gb/s MAC stream. -/
inductive MacChar where
  | data (b : Byte) | idle | lpi | error | start | term | seq
deriving DecidableEq, Repr

/-- The 7-bit code of a control character of Clause 49. -/
def MacChar.code : MacChar → Nat
  | .idle => 0x00
  | .lpi => 0x06
  | .data _ | .error | .start | .term | .seq => 0x1E

/-- A data or control character by its kind. -/
def MacChar.isData : MacChar → Bool
  | .data _ => true
  | .idle | .lpi | .error | .start | .term | .seq => false

/-- The byte of a data character. -/
def MacChar.byte : MacChar → Byte
  | .data b => b
  | .idle | .lpi | .error | .start | .term | .seq => 0

/-- A control character that has a code of its own. -/
def MacChar.isCtrl : MacChar → Bool
  | .idle | .lpi | .error => true
  | .data _ | .start | .term | .seq => false

/-- The bytes of data characters, as they are sent. -/
def dataBits (l : List MacChar) : List Bool := l.flatMap (fun c => byteBits c.byte)

/-- The codes of control characters, as they are sent. -/
def ctrlBits (l : List MacChar) : List Bool := l.flatMap (fun c => bitsLsb 7 c.code)

/-- A control block of 66 bits: its header, type and what follows. -/
def ctrlBlock (type : Nat) (rest : List Bool) : List Bool := [true, false] ++ bitsLsb 8 type ++ rest

/-- The error control block: eight error characters (R163). -/
def errorBlock : List Bool := ctrlBlock 0x1E (ctrlBits (List.replicate 8 .error))

/-- The block type of a frame that ends in character `k` of its block. -/
def termType (k : Nat) : Nat := [0x87, 0x99, 0xAA, 0xB4, 0xCC, 0xD2, 0xE1, 0xFF].getD k 0x1E

/-- Eight characters as one 66-bit block of Clause 49, without its scrambler (R154). -/
def encode66 (c : List MacChar) : List Bool :=
  let a := c.take 4
  let z := (c.drop 4).take 4
  let k := (c.takeWhile MacChar.isData).length
  if c.length ≠ 8 then errorBlock
  else if c.all MacChar.isData then [false, true] ++ dataBits c
  else if c.all MacChar.isCtrl then ctrlBlock 0x1E (ctrlBits c)
  else if c.head? = some .start ∧ c.tail.all MacChar.isData then ctrlBlock 0x78 (dataBits c.tail)
  else if a.all MacChar.isCtrl ∧ z.head? = some .start ∧ z.tail.all MacChar.isData then
    ctrlBlock 0x33 (ctrlBits a ++ bitsLsb 4 0 ++ dataBits z.tail)
  else if a.head? = some .seq ∧ a.tail.all MacChar.isData ∧ z.head? = some .start ∧ z.tail.all MacChar.isData then
    ctrlBlock 0x66 (dataBits a.tail ++ bitsLsb 8 0 ++ dataBits z.tail)
  else if a.head? = some .seq ∧ a.tail.all MacChar.isData ∧ z.head? = some .seq ∧ z.tail.all MacChar.isData then
    ctrlBlock 0x55 (dataBits a.tail ++ bitsLsb 8 0 ++ dataBits z.tail)
  else if a.head? = some .seq ∧ a.tail.all MacChar.isData ∧ z.all MacChar.isCtrl then
    ctrlBlock 0x4B (dataBits a.tail ++ bitsLsb 4 0 ++ ctrlBits z)
  else if a.all MacChar.isCtrl ∧ z.head? = some .seq ∧ z.tail.all MacChar.isData then
    ctrlBlock 0x2D (ctrlBits a ++ bitsLsb 4 0 ++ dataBits z.tail)
  else if (c.drop k).head? = some .term ∧ (c.drop (k + 1)).all MacChar.isCtrl then
    ctrlBlock (termType k) (dataBits (c.take k) ++ bitsLsb (7 - k) 0 ++ ctrlBits (c.drop (k + 1)))
  else errorBlock

/-- The data characters in the bits of bytes. -/
def readData (n : Nat) (l : List Bool) : List MacChar :=
  (cut 8 n l).map (fun b => .data (BitVec.ofNat 8 (ofBitsLsb b)))

/-- The control character of a 7-bit code. -/
def ctrlOf (code : Nat) : MacChar := if code = 0x00 then .idle else if code = 0x06 then .lpi else .error

/-- The control characters in the bits of codes. -/
def readCtrl (n : Nat) (l : List Bool) : List MacChar := (cut 7 n l).map (fun b => ctrlOf (ofBitsLsb b))

/-- The eight characters of a 66-bit block: the inverse of the encoding; eight errors for a block that is none (R154). -/
def decode66 (b : List Bool) : List MacChar :=
  let bad := List.replicate 8 MacChar.error
  let p := (b.drop 10)
  let type := ofBitsLsb ((b.drop 2).take 8)
  match b.take 2 with
  | [false, true] => readData 8 (b.drop 2)
  | [true, false] =>
    if type = 0x1E then readCtrl 8 p
    else if type = 0x78 then .start :: readData 7 p
    else if type = 0x33 then readCtrl 4 p ++ .start :: readData 3 (p.drop 32)
    else if type = 0x66 then .seq :: readData 3 p ++ .start :: readData 3 (p.drop 32)
    else if type = 0x55 then .seq :: readData 3 p ++ .seq :: readData 3 (p.drop 32)
    else if type = 0x4B then .seq :: readData 3 p ++ readCtrl 4 (p.drop 28)
    else if type = 0x2D then readCtrl 4 p ++ .seq :: readData 3 (p.drop 32)
    else match (List.range 8).find? (fun k => termType k == type) with
      | some k => readData k p ++ .term :: readCtrl (7 - k) (p.drop (7 * k + 7))
      | none => bad
  | _ => bad

/-! ## 256b/257b transcoding (R155) -/

/-- A 66-bit block is a data block. -/
def isData66 (b : List Bool) : Bool := b.take 2 == [false, true]

/-- The block has a valid header. -/
def valid66 (b : List Bool) : Bool := b.take 2 == [false, true] || b.take 2 == [true, false]

/-- The last step of the transcoder: the first 5 bits are XORed with bits 8 to 12. -/
def headMask (x : List Bool) : List Bool := List.zipWith (· != ·) (x.take 5) ((x.drop 8).take 5) ++ x.drop 5

/-- Four 66-bit blocks as one 257-bit block (R155): all data, with header 1; otherwise header 0, a bit per block that tells
whether it is data, and the payloads without the second nibble of the first control block's type. -/
def transcode (g : List (List Bool)) : List Bool :=
  let pay := g.flatMap (fun b => b.drop 2)
  let x :=
    if g.all isData66 then true :: pay
    else if g.all valid66 then
      let c := (g.takeWhile isData66).length
      false :: g.map isData66 ++ pay.take (64 * c + 4) ++ pay.drop (64 * c + 8)
    else false :: List.replicate 4 true ++ pay.take 4 ++ pay.drop 8
  headMask x

/-- The block types of Clause 49 by their first nibble. -/
def typeOfNibble (n : Nat) : Option Nat :=
  [0x1E, 0x2D, 0x33, 0x4B, 0x55, 0x66, 0x78, 0x87, 0x99, 0xAA, 0xB4, 0xCC, 0xD2, 0xE1, 0xFF].find? (fun t => t % 16 == n)

/-- The four 66-bit blocks of a 257-bit block (R155); four error blocks for one that holds no such group. -/
def untranscode (y : List Bool) : List (List Bool) :=
  let x := List.zipWith (· != ·) (y.take 5) ((y.drop 8).take 5) ++ y.drop 5
  let bad := List.replicate 4 errorBlock
  match x with
  | true :: pay => (cut 64 4 pay).map (fun b => [false, true] ++ b)
  | false :: t =>
    let flags := t.take 4
    let c := (flags.takeWhile id).length
    let pay := t.drop 4
    if c = 4 then bad
    else
      match typeOfNibble (ofBitsLsb ((pay.drop (64 * c)).take 4)) with
      | none => bad
      | some ty =>
        let full := pay.take (64 * c + 4) ++ bitsLsb 4 (ty / 16) ++ pay.drop (64 * c + 4)
        List.zipWith (fun (d : Bool) b => (if d then [false, true] else [true, false]) ++ b) flags (cut 64 4 full)
  | [] => bad

/-- The 257-bit MAC blocks of a run of 66-bit blocks: every group of four, from the first block of data mode on (R155). -/
def macBlocks (l : List (List Bool)) : List (List Bool) := (cut 4 l.length l).map transcode

/-! ## Superframe and scrambler (R156 to R161, R167 to R169) -/

/-- A block of a header bit and 32 bytes, each least significant bit first (R157, R169). -/
def byteBlock (header : Bool) (l : List Byte) : List Bool := header :: l.flatMap byteBits

/-- The SFM block: header 0 and its 32 bytes (R157). -/
def sfmBlock (count : Nat) (f : SfmFlags) : List Bool := byteBlock false (sfmBytes count f)

/-- An OAM block on the line: header 1 and its 32 bytes (R169). -/
def oamBlock (l : List Byte) : List Bool := byteBlock true l

/-- A fill block before scrambling: header 0 and 256 zero bits (R168). -/
def fillBlock : List Bool := List.replicate 257 false

/-- A PRBS state after `n` steps. -/
def stepsOf (step : Nat → Bool × Nat) : Nat → Nat → Nat
  | 0, s => s
  | n + 1, s => stepsOf step n (step s).2

/-- Pilot block `k` of a sender with SEED_OFS `ofs`: header 1 and 256 bits of the PRBS, loaded with all ones at pilot 0 and
running on, under the Walsh cover of position SEED_OFS mod 4 (R167). -/
def pilotBlock (ofs k : Nat) : List Bool :=
  true :: pilotBits (ofs % 4) k 256 (stepsOf pilotStep (256 * k) (2 ^ 23 - 1))

/-- What a superframe carries: its MAC blocks, the bytes of its SFM, the bytes of its two OAM blocks (R156). -/
structure Superframe where
  mac  : List (List Bool)
  sfm  : List Byte
  oam0 : List Byte
  oam1 : List Byte
deriving DecidableEq, Repr

/-- Block `b` of a superframe before scrambling; MAC blocks fill the blocks between the overhead blocks (R156). -/
def Superframe.block (x : Superframe) (ofs b : Nat) : List Bool :=
  match blockKind b with
  | .mac => x.mac.getD (b - b / 18 - 1) fillBlock
  | .sfm => byteBlock false x.sfm
  | .oam => oamBlock (if b < 90 then x.oam0 else x.oam1)
  | .pilot n => pilotBlock ofs n
  | .fill => fillBlock

/-- A block is scrambled: MAC, OAM and fill blocks (R160). -/
def scrambles (b : Nat) : Bool :=
  match blockKind b with
  | .mac | .oam | .fill => true
  | .sfm | .pilot _ => false

/-- Blocks from number `b` on, scrambled from a state that runs on from block to block and stands still in SFM and pilot
blocks (R160). Scrambled blocks are restored by the same. -/
def scrambleFrom : Nat → Nat → List (List Bool) → List (List Bool)
  | _, _, [] => []
  | s, b, x :: t =>
    if scrambles b then scramble s x :: scrambleFrom (stepsOf scrStep x.length s) (b + 1) t
    else x :: scrambleFrom s (b + 1) t

/-- The 180 blocks of a superframe as the code words take them; the scrambler is loaded with the seed at the first bit of
block 1 (R160, R161). -/
def Superframe.blocks (x : Superframe) (slave : Bool) (ofs : Nat) : List (List Bool) :=
  scrambleFrom (scrSeed slave ofs) 0 ((List.range 180).map (x.block ofs))

/-! ## RS(544,514) (R162) -/

/-- An element of the field of 1,024 elements times x, modulo x^10 + x^3 + 1. -/
def gfTimesX (a : Nat) : Nat := if a < 512 then 2 * a else (2 * a) ^^^ 0x409

/-- The product of two field elements. -/
def gfMul (a b : Nat) : Nat :=
  (List.range 10).foldr (fun i r => gfTimesX r ^^^ (if bit b i then a else 0)) 0

/-- A power of the primitive element. -/
def gfPow : Nat → Nat
  | 0 => 1
  | n + 1 => gfTimesX (gfPow n)

/-- A polynomial, highest coefficient first, times x plus `r`. -/
def polyRoot (p : List Nat) (r : Nat) : List Nat :=
  List.zipWith (· ^^^ ·) (p ++ [0]) (0 :: p.map (gfMul r))

/-- The generator polynomial: roots are the first 30 powers of the primitive element. -/
def rsGen : List Nat := (List.range 30).foldl (fun p j => polyRoot p (gfPow j)) [1]

/-- The parity symbols of a message, the first symbol the coefficient of the highest power (R162). -/
def rsParity (msg : List Nat) : List Nat :=
  msg.foldl (fun reg m =>
    let f := m ^^^ reg.headD 0
    List.zipWith (· ^^^ ·) (reg.tail ++ [0]) (rsGen.tail.map (gfMul f))) (List.replicate 30 0)

/-- The value of a codeword's polynomial at a field element: 0 at each root of the generator in a good codeword. -/
def polyAt (x : Nat) (l : List Nat) : Nat := l.foldl (fun v c => gfMul v x ^^^ c) 0

/-- The 514 message symbols of the bits of 20 blocks, the first bit of each the least significant (R162). -/
def rsSymbols (bits : List Bool) : List Nat := (cut 10 514 bits).map ofBitsLsb

/-- A codeword of 5,440 bits: the bits of its blocks and the parity, least significant bits first (R162). -/
def rsEncode (bits : List Bool) : List Bool := bits ++ (rsParity (rsSymbols bits)).flatMap (bitsLsb 10)

/-! ### Correction of up to 15 symbols (R162, R163) -/

/-- The inverse of a field element. -/
def gfInv (a : Nat) : Nat := (List.range 9).foldl (fun (p : Nat × Nat) _ =>
  let q := gfMul p.2 p.2
  (gfMul p.1 q, q)) (1, a) |>.1

/-- The sum of two polynomials, lowest coefficient first. -/
def polyAdd (a b : List Nat) : List Nat :=
  (List.range (max a.length b.length)).map (fun i => a.getD i 0 ^^^ b.getD i 0)

/-- The syndromes of a received codeword: its values at the roots of the generator. -/
def rsSyndromes (w : List Nat) : List Nat := (List.range 30).map (fun j => polyAt (gfPow j) w)

/-- What the search for the error locator keeps: the locator and the one before its last change of degree, lowest coefficient
first, its degree, the steps since that change, and the discrepancy then. -/
structure RsSearch where
  loc  : List Nat
  prev : List Nat
  deg  : Nat
  gap  : Nat
  disc : Nat
deriving DecidableEq, Repr

/-- One step of the search, with syndrome `n` (Berlekamp and Massey). -/
def RsSearch.step (syn : List Nat) (r : RsSearch) (n : Nat) : RsSearch :=
  let d := (List.range (r.deg + 1)).foldl (fun v i => v ^^^ gfMul (r.loc.getD i 0) (syn.getD (n - i) 0)) 0
  if d = 0 then { r with gap := r.gap + 1 }
  else
    let k := gfMul d (gfInv r.disc)
    let loc := polyAdd r.loc (List.replicate r.gap 0 ++ r.prev.map (gfMul k))
    if 2 * r.deg ≤ n then ⟨loc, r.loc, n + 1 - r.deg, 1, d⟩ else { r with loc := loc, gap := r.gap + 1 }

/-- The locator of the errors that 30 syndromes show. -/
def rsLocator (syn : List Nat) : RsSearch := (List.range 30).foldl (RsSearch.step syn) ⟨[1], [1], 0, 1, 1⟩

/-- The value at a field element of a polynomial, lowest coefficient first. -/
def polyLow (x : Nat) (l : List Nat) : Nat := polyAt x l.reverse

/-- The error at the symbol of power `i`, 0 where there is none: the locator is 0 at the inverse of that power, and the value is
that of Forney. -/
def rsError (r : RsSearch) (eval : List Nat) (i : Nat) : Nat :=
  let x := gfPow i
  let y := gfInv x
  if polyLow y r.loc ≠ 0 then 0
  else
    let slope := (List.range r.deg).foldl (fun v k =>
      if k % 2 = 0 then v ^^^ gfMul (r.loc.getD (k + 1) 0) (polyLow y (List.replicate k 0 ++ [1])) else v) 0
    gfMul x (gfMul (polyLow y eval) (gfInv slope))

/-- A received codeword of 544 symbols with up to 15 of them corrected, and how many were; none for one that is uncorrectable (R163). -/
def rsDecode (w : List Nat) : Option (List Nat × Nat) :=
  let syn := rsSyndromes w
  if syn.all (· == 0) then some (w, 0)
  else
    let r := rsLocator syn
    let eval := (List.range r.deg).map (fun n =>
      (List.range (n + 1)).foldl (fun v i => v ^^^ gfMul (r.loc.getD i 0) (syn.getD (n - i) 0)) 0)
    let c := List.zipWith (fun i (x : Nat) => x ^^^ rsError r eval i) (List.range w.length).reverse w
    if 15 < r.deg ∨ !(rsSyndromes c).all (· == 0) then none
    else some (c, (List.zipWith (fun (a b : Nat) => b2n (a != b)) w c).foldl (· + ·) 0)

/-- The bits of a codeword's 20 blocks after correction, with the symbols corrected; none for an uncorrectable one, whose blocks
R163 replaces. -/
def rsRead (bits : List Bool) : Option (List Bool × Nat) :=
  (rsDecode ((cut 10 544 bits).map ofBitsLsb)).map (fun x => ((x.1.take 514).flatMap (bitsLsb 10), x.2))

/-- The 9 codewords of a superframe: codeword j holds blocks 20j to 20j + 19 (R162). -/
def codewords (blocks : List (List Bool)) : List (List Bool) := (cut 20 9 blocks).map (fun g => rsEncode g.flatten)

/-! ## Symbols and precoder (R164 to R166) -/

/-- The PAM4 levels of bits taken in pairs (R164). -/
def pam4Levels : List Bool → List Int
  | a :: b :: t => pam4 a b :: pam4Levels t
  | _ => []

/-- The pair of bits of a PAM4 level (R164). -/
def pam4Bits (x : Int) : List Bool :=
  if x ≤ -2 then [false, false] else if x < 0 then [false, true] else if x < 2 then [true, true] else [true, false]

/-- Levels precoded one after another from the past outputs, newest first, in 2^-9 (R165). -/
def precodeRun (cs : List (BitVec 12)) : List Int → List Int → List Int
  | _, [] => []
  | past, x :: t =>
    let y := precode cs past x
    y :: precodeRun cs ((y :: past).take 16) t

/-- The modulo of the receiver on an equalised sample in 2^-9 (R166). -/
def unwrap (r : Int) : Int := r - 4096 * ((r + 2048) / 4096)

/-- The level that a slicer decides on for a sample in 2^-9 (R166, R188): the nearest of -3, -1, 1, 3. -/
def slice4 (r : Int) : Int := if r < -1024 then -3 else if r < 0 then -1 else if r < 1024 then 1 else 3

/-- The layers of the transmitter in their order: the line symbols of a superframe, in 2^-9, from its content, the sender's
role and SEED_OFS, the coefficients, and the last outputs of the superframe before (R154). -/
def Superframe.symbols (x : Superframe) (slave : Bool) (ofs : Nat) (cs : List (BitVec 12)) (past : List Int) : List Int :=
  precodeRun cs past (pam4Levels (codewords (x.blocks slave ofs)).flatten)

/-- The codewords of a superframe after correction, from the equalised samples of its symbols (R154, R162, R166). -/
def readWords (samples : List Int) : List (Option (List Bool × Nat)) :=
  (cut 5440 9 (samples.flatMap (fun r => pam4Bits (slice4 (unwrap r))))).map rsRead

/-- The mask of the uncorrectable codewords and the number of corrected symbols of a superframe (R163, R219). -/
def readFec (samples : List Int) : Nat × Nat :=
  let w := readWords samples
  (maskBits (w.map Option.isNone), (w.map (fun x => (x.map Prod.snd).getD 0)).foldl (· + ·) 0)

/-- The layers undone: the blocks of a superframe from the equalised samples of its symbols (R154). The blocks of an uncorrectable
codeword are all zero here; what stands for them says R163. -/
def readBlocks (slave : Bool) (ofs : Nat) (samples : List Int) : List (List Bool) :=
  scrambleFrom (scrSeed slave ofs) 0
    (cut 257 180 ((readWords samples).flatMap (fun w => (w.map Prod.fst).getD (List.replicate 5140 false))))

/-- The 66-bit blocks that a received superframe gives the MAC: those of a codeword that is not correctable are error control
blocks (R163). `bad` is the mask of such codewords. -/
def readMac (bad : Nat) (blocks : List (List Bool)) : List (List Bool) :=
  ((List.range 180).filter (fun b => blockKind b == .mac)).flatMap (fun b =>
    if bit bad (codewordOf b) then List.replicate 4 errorBlock else untranscode (blocks.getD b []))

/-- The MAC characters of a superframe from the samples of its symbols (R154, R163). -/
def readChars (slave : Bool) (ofs : Nat) (samples : List Int) : List MacChar :=
  (readMac (readFec samples).1 (readBlocks slave ofs samples)).flatMap decode66

/-! ## Training frames and survey bursts (R172, R207), wake tone (R182) -/

/-- A PAM2 symbol (R172). -/
def pam2 (b : Bool) : Int := if b then 3 else -3

/-- The delimiter of a training frame (R172). -/
def trainDelimiter : Nat := 0xF3A06C95

/-- `n` output bits of a PRBS. -/
def prbsBits (step : Nat → Bool × Nat) : Nat → Nat → List Bool
  | 0, _ => []
  | n + 1, s => (step s).1 :: prbsBits step n (step s).2

/-- Training data of a frame: 3,920 symbols from the PRBS, as PAM2 or, with the frame's PAM4 flag, as PAM4 (R172). -/
def trainData (slave pamFour : Bool) : List Int :=
  if pamFour then pam4Levels (prbsBits trainStep 7840 (trainSeed slave))
  else (prbsBits trainStep 3920 (trainSeed slave)).map pam2

/-- The 4,096 symbols of a training frame, unscrambled and unprecoded (R172). -/
def Info.symbols (i : Info) : List Int :=
  (bitsLsb 32 trainDelimiter ++ i.bytes.flatMap byteBits).map pam2 ++ trainData i.role i.pam4

/-- The frame delimiter of LR10 heads the symbols (R172, R174). -/
def delimiterOk (l : List Int) : Bool := (l.take 32) == (bitsLsb 32 trainDelimiter).map pam2

/-- The first `n` symbols of the survey burst of position `p` (R207). -/
def surveyBurst (p n : Nat) : List Int := (prbsBits trainStep n (surveySeed p)).map pam2

/-- The first `n` symbols of the wake tone (R182). -/
def wakeTone (n : Nat) : List Int := (List.range n).map (fun k => if k % 4 < 2 then 3 else -3)

/-! ## Negotiation pages (R147, R150) -/

/-- A page that the device sends in a Clause 98 exchange: the base page with the modes offered in ADV bit order and the
master-slave bits (manual configuration, and the value or preference: true for slave), the message page with an OUI, and
the unformatted page by its lowest 16 code bits. -/
inductive AnPage where
  | base (std : Nat) (manual slave : Bool)
  | message (oui : BitVec 24)
  | unformatted (code : BitVec 16)
deriving DecidableEq, Repr

end Machine
end Sys2Proof
end

