-- ==== Sys2Proof/Machine/LineTaps.lean ====
section
/-! DEFINITION. The line receiver (06): what its taps hold, which tap sets adapt in a tick, the receive chain from the MDI
signal to the decision, and what a channel's transmitter sends at all. -/
namespace Sys2Proof
namespace Machine

/-! ## Numbers and flags -/

/-- The code of STATE in LINE_STATUS. -/
def LineState.num : LineState → Nat
  | .disabled => 0 | .negotiating => 1 | .training => 2 | .up => 3 | .lpi => 4 | .asleep => 5 | .waiting => 6

/-- The link is in UP or LPI. -/
def Line.linked (l : Line) : Bool := l.state == .up || l.state == .lpi

/-- The channel counts as active for R206: TRAINING, UP or LPI. -/
def Line.busy (l : Line) : Bool := l.linked || l.state == .training

/-- The receiver is locked. -/
def Line.locked (l : Line) : Bool := l.linked || (l.state == .training && (l.train.lockOwn || l.sfm.lock))

/-- A transmitter or receive direction is quiet in low-power idle. -/
def Lpi.quietNow : Lpi → Bool
  | .quiet _ => true
  | .active | .entering _ | .refresh _ | .waking _ => false

/-- The other channels of a channel's bundle group. -/
def groupMates (ch : Nat) : List Nat := ((List.range 4).map (fun p => ch / 4 * 4 + p)).filter (fun c => c != ch)

/-- The channels of a bundle group (R200). -/
def groupChans (bg : Nat) : List Nat := (List.range 4).map (fun p => 4 * bg + p)

/-- The other positions of a victim position, ascending. -/
def othersOf (v : Nat) : List Nat := (List.range 4).filter (fun p => p != v)

/-! ## The slots of a survey and what a transmitter sends (R39, R206, R207, R227, R542) -/

/-- Ticks of a survey with `n` positions (R207). -/
def surveyTicks (n : Nat) : Nat := 80 + 480 * n

/-- The position that sends in tick `k` of a survey, counted from its first: none in the quiet slot, then each position
taking part for 480 ticks, in ascending order (R207). -/
def surveySender (pos : List Nat) (k : Nat) : Option Nat := if k < 80 then none else pos[(k - 80) / 480]?

/-- The channel's own slot of the running survey is the present tick's (R207). -/
def State.inOwnSlot (s : State) (ch : Nat) : Bool :=
  let b := s.bundle (ch / 4)
  b.survey == 1 && surveySender b.surveyPos (s.now - b.surveyStart) == some (ch % 4)

/-- The tone of R182 is being sent. -/
def Sleep.toning : Sleep → Bool
  | .tone _ => true
  | .none | .waking | .lpi | .sending _ | .silent => false

/-- A line channel's transmitter sends: negotiating, in training, UP, LPI outside the quiet of low-power idle, while it sends
a wake tone, and under TDR; in stage 0 in its own slot only, and as a slave in stage 1 not before it has LOCK (R173, R182,
R207). Never in DAMPED, with its domain off, in a fault's quiet period or isolated (R39, R227, R542, R572). -/
def State.lineSends (s : State) (ch : Nat) : Bool :=
  let l := s.line ch
  s.live && s.domOn (domOfRoot ch) && l.quietP.isNone && !l.isolated &&
    (match l.state with
     | .negotiating | .up => true
     | .training =>
       !l.train.fresh && (l.mode != 6 && l.train.stage != 0 || (match l.train.stage with
         | 0 => s.inOwnSlot ch
         | 1 => !l.slave || l.train.lockOwn
         | _ => true))
     | .lpi => !l.lpiTx.quietNow
     | .asleep => l.sleep.toning
     | .waiting => l.tdr.isSome
     | .disabled => l.tdr.isSome)

/-- How far the transmitter's amplitude lies below the configured one, in 0.5 dB: the backoff that the partner requested
(R174), and 9.0 dB in a soft start (R210); under TDR nothing, or 9.0 dB where it is reduced (R234). -/
def Line.txCut (l : Line) : Nat :=
  match l.tdr with
  | some j => if j.reduced then 18 else 0
  | none => l.txBackoff + (if l.joinStart.isSome then 18 else 0)

/-- Where the transmit symbol clock comes from (R144, R191). -/
inductive SymClock where
  | pll | recovered
deriving DecidableEq, Repr

/-- The transmit symbol clock: a master's from PLL_LINEn, aligned in an enabled group; a slave's recovered from its receive
signal (R144, R191, R202). -/
def Line.symClock (l : Line) : SymClock := if l.slave then .recovered else .pll

/-! ## Which tap sets adapt (R195 to R198) -/

/-- The transmitter of a channel is quiet, disabled or in a fault's quiet period for its group (R198), or sends nothing outside its
slot of a survey (R207). One that sends a wake tone or the pulses of a TDR is not still (R182, R234). -/
def State.aggressorStill (s : State) (a : Nat) : Bool := !s.lineSends a

/-- Tap set `i` of a channel does not adapt: 0 echo, 1 FFE, 2 DFE, 3 to 6 the bundle section of aggressor 0 to 3. ASLEEP holds the
first three, and not the sections (R198). DEDUCED: a channel that is disabled, negotiating or waiting has no receive signal to
adapt to, and none of its sets adapts (log 88). -/
def State.tapHeld (s : State) (ch i : Nat) : Bool :=
  let l := s.line ch
  let b := s.bundle (ch / 4)
  !(l.busy || (l.state == .asleep && decide (3 ≤ i))) ||
  (match i with
   | 0 => l.lpiTx.quietNow || (l.train.stage == 0 && l.state == .training && b.enabled && !s.inOwnSlot ch) ||
      (l.adapt.frzEcho && l.linked)
   | 1 => l.lpiRx.quietNow || (l.adapt.frzFfe && l.linked)
   | 2 => l.lpiRx.quietNow || (l.adapt.frzDfe && l.linked)
   | k => !b.enabled || k - 3 == ch % 4 || s.aggressorStill (ch / 4 * 4 + (k - 3)) || (l.adapt.frzBun && l.linked))

/-- HELD of RX_STATUS: bit 0 echo, 1 FFE, 2 DFE, 3 any bundle section, 4 precoder updates. -/
def State.heldMask (s : State) (ch : Nat) : Nat :=
  let l := s.line ch
  maskBits [s.tapHeld ch 0, s.tapHeld ch 1, s.tapHeld ch 2,
    (othersOf (ch % 4)).any (fun a => s.tapHeld ch (3 + a)), l.adapt.frzPre || l.mode != 6 || !l.linked]

/-- The MU code of a tap set: the training code before the link is UP, the tracking code once it is (R195, R196). -/
def Line.mu (l : Line) (i : Nat) : Nat :=
  match i, l.linked with
  | 0, false => l.adapt.echoT
  | 0, true => l.adapt.echoD
  | 1, false => l.adapt.ffeT
  | 1, true => l.adapt.ffeD
  | 2, false => l.adapt.dfeT
  | 2, true => l.adapt.dfeD
  | _, false => l.adapt.bunT
  | _, true => l.adapt.bunD

/-! ## What the taps hold (R188, R195) -/

/-- One more tick in which a set has taken a step with code `mu`. -/
def TapHist.step (h : TapHist) (tick mu : Nat) : TapHist :=
  match h with
  | r :: t => if r.mu = mu ∧ r.last + 1 = tick then { r with last := tick } :: t else ⟨tick, tick, mu⟩ :: r :: t
  | [] => [⟨tick, tick, mu⟩]

/-- The steps of one run of a tap, in 2^-51: each is the tick's correlation times 2^-(MU + 6) (R195). -/
def TapRun.sum (r : TapRun) (ch set i : Nat) : Int :=
  (List.range (r.last + 1 - r.first)).foldl (fun v k => v + Config.corr ch set i (r.first + k) * 2 ^ (15 - r.mu)) 0

/-- A tap as the sum of its steps since it was cleared, in 2^-51 (R195). -/
def TapHist.value (h : TapHist) (ch set i : Nat) : Int := h.foldl (fun v r => v + r.sum ch set i) 0

/-- A number in 2^-51 in the unit 2^-`u`, rounded to the nearest and limited to 16 bits. -/
def tapRound (u : Nat) (v : Int) : Int := max (-32768) (min 32767 ((v + 2 ^ (50 - u)) / 2 ^ (51 - u)))

/-- The unit of a tap set is 2^-`tapUnit`: 2^-12 for FFE and DFE, 2^-15 for echo and bundle sections (RX_TAPS_READ). -/
def tapUnit (set : Nat) : Nat := if set = 1 ∨ set = 2 then 12 else 15

/-- Tap `i` of a set of a bank, in the set's unit; precoder updates have taken amounts out of the DFE taps (R193). -/
def LineBank.tap (b : LineBank) (ch set i : Nat) : Int :=
  tapRound (tapUnit set) ((b.taps.getD set []).value ch set i -
    (if set = 2 then b.folded.getD i 0 * 2 ^ 39 else 0))

/-- Taps of a set: 2,304 echo, 32 FFE, 16 DFE, 512 of a bundle section, 16 precoder coefficients (R188). -/
def tapCount (set : Nat) : Nat :=
  match set with
  | 0 => 2304
  | 1 => 32
  | 2 => 16
  | 3 => 512
  | _ => 16

/-- The taps of the DFE (R192, R193). -/
def LineBank.dfe (b : LineBank) (ch : Nat) : List Int := (List.range 16).map (b.tap ch 2)

/-- Tap sets cleared: those whose number satisfies `p`. -/
def LineBank.clear (b : LineBank) (p : Nat → Bool) : LineBank :=
  { b with taps := (List.range 7).map (fun i => if p i then [] else b.taps.getD i [])
           folded := if p 2 then [] else b.folded }

/-! ## Rounding the DFE into the precoder (R192, R193) -/

/-- The coefficients in use with the residual DFE taps folded in, rounded and limited (R193). Taps are in 2^-12. -/
def foldCoefs (cs : List (BitVec 12)) (resid : List Int) : List (BitVec 12) :=
  let n := max cs.length resid.length
  (List.range (min n 16)).map (fun i => coefLimit (((cs.getD i 0).toInt * 8 + resid.getD i 0 + 4) / 8))

/-- Coefficients up to the highest that is not zero: NTAPS of them (R192). -/
def trimCoefs (l : List (BitVec 12)) : List (BitVec 12) := (l.reverse.dropWhile (fun c => c == 0)).reverse

/-- What a change of coefficients takes out of each DFE tap, in 2^-12: a coefficient at its limit leaves the excess (R193). -/
def foldAmounts (old new : List (BitVec 12)) : List Int :=
  (List.range 16).map (fun i => 8 * ((new.getD i 0).toInt - (old.getD i 0).toInt))

/-- The PRE_UPD threshold in 2^-12: 2^-(PRE_UPD + 2) (R193, RX_ADAPT_CONFIG). -/
def preLimit (preUpd : Nat) : Int := (2 ^ (10 - preUpd) : Nat)

/-! ## What an edge does to a receiver (R189 to R191, R193, R195) -/

/-- The baseline wander correction of a tick, limited to 25 % of full scale in 2^-15 (R190). -/
def blwOf (ch tick : Nat) : Int := max (-8192) (min 8192 (Config.lineBlw ch tick).toInt)

/-- The end of its range at which a correction stands: -1, 1, or 0 for none (R190). -/
def blwSide (v : Int) : Int := if v = 8192 then 1 else if v = -8192 then -1 else 0

/-- The receiver of a channel at the edge that ends tick `tick`: each set that adapts has taken its step (R195); timing recovery
and the baseline correction have run unless the receive direction is quiet (R190, R191, R198); the gain follows through the
first 8 ticks of a training, counted from the edge at which it starts (R189). -/
def State.adapt (s : State) (ch tick : Nat) (l : Line) : Line :=
  let taps := (List.range 7).map (fun i =>
    let h := l.bank.taps.getD i []
    if s.tapHeld ch i then h else h.step tick (l.mu i))
  let clk := if l.busy && !l.lpiRx.quietNow then tick else l.bank.clkStamp
  let gains := l.busy && decide (0 < l.train.pgaTicks) && decide (l.train.stageStart ≤ tick)
  let gain := if gains then tick else l.bank.pgaStamp
  let bank := { l.bank with taps := taps, clkStamp := clk, pgaStamp := gain }
  let side := blwSide (blwOf ch clk)
  { l with bank := bank
           train := { l.train with pgaTicks := if gains then l.train.pgaTicks - 1 else l.train.pgaTicks }
           sfm := { l.sfm with heard := false }
           blwEnd := side
           blwRun := if !l.busy || side == 0 then 0 else if side == l.blwEnd then l.blwRun + 1 else 1
           preRun := (List.range 16).map (fun i =>
             let d := bank.tap ch 2 i
             if l.linked && l.mode == 6 && (decide (preLimit l.adapt.preUpd ≤ d) || decide (d ≤ -preLimit l.adapt.preUpd))
             then l.preRun.getD i 0 + 1 else 0) }

/-- The receiver as it stands at the edge, for the reads of the tick that opens (R199). -/
def State.viewOf (s : State) (ch ended : Nat) (l : Line) : RxView :=
  ⟨l.bank, l.locked, l.preUpdates, s.heldMask ch, ended, l.slave⟩

/-- The received frequency relative to the transmit clock in 0.01 ppm: within 200 ppm, and 0 for a slave, whose transmit clock
is the recovered one (R151, R191); all of it as it stood at the edge that began the tick (R199). -/
def Line.freqOfs (l : Line) (ch : Nat) : Int :=
  if l.view.slave then 0 else max (-20000) (min 20000 (Config.lineFreq ch l.view.bank.clkStamp).toInt)

/-- The bandwidth of timing recovery in kHz: 4 MHz in stages 1 and 2 of training, 400 kHz from stage 3 on (R191). DESIGN CHOICE:
R191 names the stages of LR10 only; a survey (stage 0) and a fast resume (stage 7) count as 400 kHz, and a training of modes
0x1 to 0x5, which has no stages, as 4 MHz until the link is UP (log 88). -/
def Line.loopBandwidth (l : Line) : Nat :=
  if l.state == .training && (l.train.stage == 1 || l.train.stage == 2) then 4000 else 400

/-- The phase interpolator after a symbol: it moves by 1/64 UI at most (R191). -/
def phaseStep (phase : BitVec 6) (want : Int) : BitVec 6 :=
  phase + BitVec.ofInt 6 (max (-1) (min 1 want))

/-! ## The receive chain (R188) -/

/-- What the slicer of a mode decides between. -/
inductive Slicer where
  | pam2 | pam3 | pam4 | pam4Mod
deriving DecidableEq, Repr

/-- The slicer of a channel (R188): PAM3 in modes 1 and 2, PAM4 in the Clause 149 modes; in LR10 PAM2 or PAM4 in training, and
PAM4 after the modulo in data mode. -/
def Line.slicer (l : Line) : Slicer :=
  if l.mode = 1 ∨ l.mode = 2 then .pam3
  else if l.mode ≠ 6 then .pam4
  else if l.linked || l.train.dataRx then .pam4Mod
  else if l.train.pam4 || decide (4 ≤ l.train.stage) then .pam4 else .pam2

/-- The modulo of R166 on a sample. -/
def unwrapRat (r : Rat) : Rat := r - 8 * ((r + 4) / 8).floor

/-- The level that a slicer decides on. -/
def Slicer.decide (k : Slicer) (r : Rat) : Rat :=
  match k with
  | .pam2 => if r < 0 then -3 else 3
  | .pam3 => if r < -1 / 2 then -1 else if r < 1 / 2 then 0 else 1
  | .pam4 => if r < -2 then -3 else if r < 0 then -1 else if r < 2 then 1 else 3
  | .pam4Mod =>
    let r := unwrapRat r
    if r < -2 then -3 else if r < 0 then -1 else if r < 2 then 1 else 3

/-- A sum of products of taps and values. -/
def dot (taps values : List Rat) : Rat := (List.zipWith (· * ·) taps values).foldl (· + ·) 0

/-- The analogue-to-digital converter: 8 bits over a full scale of -1 to 1. -/
def adc8 (x : Rat) : Rat := max (-128) (min 127 (x * 128 + 1 / 2).floor) / 128

/-- The receive chain of a channel: its settings and taps, and the values that its blocks keep, newest first. -/
structure RxChain where
  gain    : Rat
  blw     : Rat
  echo    : List Rat
  bundle  : List (List Rat)
  ffe     : List Rat
  dfe     : List Rat
  slicer  : Slicer
  cleaned : List Rat          -- outputs of block 5, the FFE's window of 32
  decided : List Rat          -- decisions, the DFE's window of 16
deriving DecidableEq, Repr

/-- One symbol through the chain in the order of R188: gain, baseline correction, converter, echo canceller on the own
transmitted values, bundle canceller on those of the three other positions, FFE on its window of outputs, DFE on the
decisions before, and the slicer, whose error drives adaptation and timing recovery. -/
def RxChain.symbol (c : RxChain) (mdi : Rat) (own : List Rat) (others : List (List Rat)) : Rat × Rat × RxChain :=
  let x := adc8 (c.gain * mdi - c.blw)
  let x := x - dot c.echo own
  let x := x - (List.zipWith dot c.bundle others).foldl (· + ·) 0
  let cleaned := (x :: c.cleaned).take 32
  let r := dot c.ffe cleaned - dot c.dfe c.decided
  let d := c.slicer.decide r
  let err := (if c.slicer = .pam4Mod then unwrapRat r else r) - d
  (d, err, { c with cleaned := cleaned, decided := (d :: c.decided).take 16 })

/-- The chain with the settings and taps that a channel's bank holds (R188, R216); echo and bundle taps in 2^-15, FFE and DFE taps
in 2^-12, the gain as a number, in whose place the bank has 0.25 dB steps. -/
def Line.chain (l : Line) (ch : Nat) (gain : Rat) (cleaned decided : List Rat) : RxChain where
  gain := gain
  blw := (blwOf ch l.bank.clkStamp : Rat) / 32768
  echo := (List.range 2304).map (fun i => (l.bank.tap ch 0 i : Rat) / 32768)
  bundle := (othersOf (ch % 4)).map (fun a => (List.range 512).map (fun i => (l.bank.tap ch (3 + a) i : Rat) / 32768))
  ffe := (List.range 32).map (fun i => (l.bank.tap ch 1 i : Rat) / 4096)
  dfe := (List.range 16).map (fun i => (l.bank.tap ch 2 i : Rat) / 4096)
  slicer := l.slicer
  cleaned := cleaned
  decided := decided

end Machine
end Sys2Proof
end

