-- ==== Sys2Proof/Machine/LineOps.lean ====
section
/-! DEFINITION. Shared operations of the line channels: states and their events, training, survey and joins, fast
resume, link loss (05, 06, 07). -/
namespace Sys2Proof
namespace Machine

/-! ## Settings that wait for their edge -/

/-- The temperature of line die `d`, in 0.25 degrees (R216, R548). -/
def State.dieTemp (s : State) (d : Nat) : Int := ((s.thermal.sensors.getD d Sensor.reset).reading)

/-- The LINE_CONFIG settings that hold when a command accepted now takes effect (R185, R204). -/
def State.lineCfg (s : State) (ch : Nat) : LineCfg :=
  s.cfgq.foldl (fun c e => match e with
    | .line k c' => if k = ch then c' else c
    | _ => c) (s.line ch).cfg

/-- The bundle group's ENABLE and MODE that hold when a command accepted now takes effect (R204). -/
def State.bundleCfg (s : State) (bg : Nat) : Bool × Nat :=
  s.cfgq.foldl (fun c e => match e with
    | .bundle k en mo => if k = bg then (en, mo) else c
    | _ => c) ((s.bundle bg).enabled, (s.bundle bg).mode)

/-! ## STATE and its event (R186) -/

/-- DATA of a TYPE 0x07 record (R186). -/
def Line.eventData (l : Line) : Nat := pack [(4, l.mode), (3, l.state.num), (1, 0), (8, l.lastFail)]

/-- STATE changes; a change into or out of UP is reported (R186). -/
def State.lineSt (s : State) (ch : Nat) (st : LineState) : State :=
  let old := (s.line ch).state
  let s := s.modLine ch (fun l => { l with state := st })
  if old != st && (old == .up || st == .up) then s.event 7 ch (s.line ch).eventData else s

/-- A link drop and a channel-level fault are reported for a channel in LPI too (R224, R227): `lpi` is whether it was. -/
def State.reportLpi (s : State) (ch : Nat) (lpi : Bool) : State := if lpi then s.event 7 ch (s.line ch).eventData else s

/-- The mode and role in use change; a change of mode makes an admission run due (R404). -/
def State.lineMode (s : State) (ch mode : Nat) (slave : Bool) : State :=
  let old := (s.line ch).mode
  let s := s.modLine ch (fun l => { l with mode := mode, slave := slave })
  if old = mode then s else s.runDue 2

/-- What a channel loses when its link ends: unsent USER messages (R187), low-power idle, SFM and OAM sequence, pending
precoder updates, and a join under way. The bank keeps the die temperature of the last tick UP (R216). DESIGN CHOICE: the SEQ
check of R170 does not carry over to the next link, whose first OAM block is taken with any SEQ (log 57). -/
def Line.lose (l : Line) (temp : Int) : Line :=
  { l with oamTx := [], oamOut := [], oamSeq := none, lpiTx := .active, lpiRx := .active, idle := 0, sleep := .none
           sfm := LineSfm.idle, sfTx := none, sfPhase := 0, statAge := 0, statCorr := 0, statUncorr := 0
           slpAsked := false, slpAcked := false, coefTx := none, coefRx := none, coefDue := false
           preRun := List.replicate 16 0, avgHist := []
           joinStart := none, joining := none, heldSurvey := false, train := LineTrain.idle, wakeReq := false, coefLater := 0
           bank := if l.linked then { l.bank with temp := temp } else l.bank }

/-! ## Leaving a survey, and taps that become invalid (R205, R206) -/

/-- The taps for a position become valid or invalid. -/
def Bundle.setValid (b : Bundle) (p : Nat) (v : Bool) : Bundle := { b with valid := b.valid.set p v }

/-- A position leaves the running survey: its taps do not become valid at the survey's end. -/
def Bundle.leave (b : Bundle) (p : Nat) : Bundle :=
  if b.survey = 1 ∧ b.surveyPos.contains p ∧ !b.surveyOut.contains p then { b with surveyOut := b.surveyOut ++ [p] } else b

/-- The taps for a channel's position become invalid, and do not become valid by a survey that runs (R205). -/
def State.tapsInvalid (s : State) (ch : Nat) : State :=
  s.modBundle (ch / 4) (fun b => (b.setValid (ch % 4) false).leave (ch % 4))

/-- The slot of a position of a survey is over at edge `edge` (R207). -/
def Bundle.slotOver (b : Bundle) (p edge : Nat) : Bool :=
  b.surveyStart + surveyTicks ((b.surveyPos.takeWhile (fun q => q != p)).length + 1) ≤ edge

/-- A channel that stops training in stage 0 before its slot is over leaves the survey. -/
def State.leaveSurvey (s : State) (ch : Nat) : State :=
  let l := s.line ch
  if l.state == .training && l.train.stage == 0 && !l.train.fresh && (s.bundle (ch / 4)).survey == 1 then
    s.modBundle (ch / 4) (fun b => if b.slotOver (ch % 4) s.now then b else b.leave (ch % 4))
  else s

/-- A channel leaves what it is doing for a state without a link. -/
def State.lineDown (s : State) (ch : Nat) (st : LineState) : State :=
  ((s.leaveSurvey ch).modLine ch (fun l => l.lose (s.dieTemp (ch / 24)))).lineSt ch st

/-! ## Training -/

/-- The retained coefficients count as kept and fast resume is allowed (R178, R217). -/
def State.canResume (s : State) (ch mode : Nat) : Bool :=
  let l := s.line ch
  let d := s.dieTemp (ch / 24) - l.bank.temp
  mode == 6 && l.cfg.resumeEn && l.bank.kept && l.bank.mode == 6 && l.bank.resumeAble &&
    decide (-80 ≤ d) && decide (d ≤ 80)

/-- A survey of the channel's group is in progress: it runs, or a channel of the group has begun it at an edge before. A
channel that becomes due to transmit then stays silent (R208). DEDUCED: one that took part and restarts is held as well; a fast
resume is held by a survey that begins at the same edge (log 53). -/
def State.surveyHolds (s : State) (ch start : Nat) (fast : Bool) : Bool :=
  (s.bundle (ch / 4)).survey == 1 || (groupMates ch).any (fun c =>
    let l := s.line c
    l.state == .training && l.train.stage == 0 && !l.train.fresh && (fast || decide (l.train.stageStart < start)))

/-- The training of a mode begins at edge `start`: stage 7 when fast resume is allowed, otherwise stage 1, until the edge
decides whether the channel surveys or joins (R146, R173, R178, R206). A channel that a survey holds stays silent (R208).
`count` is whether this is an attempt of its own, which a fast resume is not, nor the training that follows a negotiation
(ATTEMPTS; log 52). A full training gives up the coefficients of the last link (R217). -/
def State.lineTrain (s : State) (ch mode : Nat) (slave : Bool) (start : Nat) (resume count : Bool) : State :=
  let s := s.lineMode ch mode slave
  let fast := resume && s.canResume ch mode
  if s.surveyHolds ch start fast then
    (s.lineDown ch .waiting).modLine ch (fun l => { l with heldSurvey := true })
  else
    (s.lineDown ch .training).modLine ch (fun l =>
      { l with attempts := if fast || !count then l.attempts else satTo 255 (l.attempts + 1)
               attemptStart := if count then start else l.attemptStart
               resumed := false
               txBackoff := if fast then l.txBackoff else 0
               train := { LineTrain.idle with stage := if fast then 7 else 1, stageStart := start, fresh := true, pgaTicks := 8 }
               bank := if fast then l.bank else { l.bank with kept := false } })

/-- A channel of a group begins its training as the edge has decided: in stage 0 of a survey, or as a joiner, softly when its
neighbours hold no valid taps for it (R206, R209, R210). -/
def Line.begin (l : Line) (b : Bundle) (p : Nat) (survey : Bool) : Line :=
  let soft := b.enabled && !survey && !(b.valid.getD p false)
  { l with train := { l.train with fresh := false, stage := if survey then 0 else l.train.stage }
           asJoiner := false
           joinStart := if soft then some l.train.stageStart else none
           joining := if soft then some l.train.stageStart else none }

/-- The channels of a group that begin to train at the present edge run the silent survey when no other channel of the group is
in TRAINING, UP or LPI; otherwise each of them joins (R206). DEDUCED: a channel that resumes fast, and one that R226 or R208
make a joiner, count as other channels; channels whose survey begins at this edge do not (log 53). -/
def State.decideGroup (s : State) (bg : Nat) : State :=
  let b := s.bundle bg
  let chans := groupChans bg
  let starts := chans.filter (fun c =>
    let l := s.line c
    l.state == .training && l.train.fresh && decide (l.train.stageStart ≤ s.now))
  let plain := starts.all (fun c => (s.line c).train.stage == 1 && !(s.line c).asJoiner)
  let free := chans.all (fun c =>
    let l := s.line c
    starts.contains c || !l.busy ||
      (l.state == .training && !l.train.fresh && l.train.stage == 0 && l.train.stageStart == s.now && b.survey != 1))
  starts.foldl (fun s c => s.modLine c (fun l => l.begin b (c % 4) (b.enabled && plain && free))) s

/-- Every training that begins at the present edge is decided (R206). -/
def State.decideStarts (s : State) : State := (List.range 24).foldl State.decideGroup s

/-- A channel-level fault waits for the next edge to silence the channel (R227). -/
def State.faultPending (s : State) (ch : Nat) : Bool :=
  s.edgeq.any (fun a => match a with
    | .silence c _ => c == ch
    | .relink _ | .trunkDrop _ | .hostRetrain _ => false)

/-- A channel that is enabled and free to train starts at edge `start`: by negotiation or by training its forced mode
(R96, R146, R147). A channel that has negotiated LR10 trains again in LR10 (R177, R224). An unpowered channel is DISABLED, one in a
quiet period or about to enter one, isolated or under TDR waits (R227, R228, R233), and a channel that is not enabled is
DISABLED. -/
def State.lineStart (s : State) (ch start : Nat) (resume : Bool) : State :=
  let l := s.line ch
  if !s.domOn (domOfRoot ch) then (s.lineMode ch 0 false).lineDown ch .disabled
  else if l.quietP.isSome || s.faultPending ch || l.isolated then
    (if l.cfg.enable then s else s.lineMode ch 0 false).lineDown ch .waiting
  else if l.tdr.isSome then
    ((if l.cfg.enable then s else s.lineMode ch 0 false).lineDown ch .waiting).modLine ch (fun l =>
      { l with tdr := l.tdr.map (fun j => { j with resume := l.cfg.enable, fast := resume }) })
  else if !l.cfg.enable then (s.lineMode ch 0 false).lineDown ch .disabled
  else if l.cfg.neg then
    if l.mode == 6 then s.lineTrain ch 6 l.slave start resume true
    else ((s.lineMode ch 0 false).lineDown ch .negotiating).modLine ch (fun l =>
      { l with attempts := satTo 255 (l.attempts + 1), attemptStart := start, resumed := false })
  else s.lineTrain ch l.cfg.mode (l.cfg.role == 1) start resume true

/-- An attempt fails with its reason; the next one starts at the following edge (R96, R177). -/
def State.lineFail (s : State) (ch reason : Nat) : State :=
  (s.modLine ch (fun l => { l with lastFail := reason, attemptsDone := l.attemptsDone + 1 })).lineStart ch
    (s.now + 1) false

/-- The link comes up (R173, R176, R186): the bank holds the link's mode and RESUME_ID; a baseline of another mode is
discarded when a LINE_CONFIG has brought the new one (R237). -/
def State.lineUp (s : State) (ch : Nat) : State :=
  (s.modLine ch (fun l =>
    { l with upTick := s.now, preUpdates := 0, partStat := none, reconf := false
             baseline := if l.reconf then l.baseline.filter (fun b => b.1 == l.mode) else l.baseline
             bank := { l.bank with kept := l.mode == 6, mode := l.mode, slave := l.slave
                                   temp := s.dieTemp (ch / 24) } })).lineSt ch .up

/-- A link that is lost trains again from the present edge, with fast resume when it is allowed (R224). -/
def State.lineRelink (s : State) (ch : Nat) : State :=
  let l := s.line ch
  if l.linked then (s.lineStart ch s.now true).reportLpi ch (l.state == .lpi) else s

/-- An ASLEEP channel whose link was LR10 wakes its partner with a tone of 40 ticks and then resumes; another trains at once
(R182). One that a survey of its group holds stays silent, and trains as a joiner at the survey's end (R208). -/
def State.wakePartner (s : State) (ch : Nat) : State :=
  if (s.line ch).state == .asleep && (s.line ch).mode == 6 && !s.surveyHolds ch s.now (s.canResume ch 6) then
    s.modLine ch (fun l => { l with sleep := .tone (s.now + 40) })
  else s.lineStart ch s.now true

/-- A TDR on the channel ends without a measurement and is answered WRONG_STATE: DESIGN CHOICE for a fault or a domain that closes,
which silence the channel under it, on which the spec is silent (R227, R233, R482; log 58). -/
def State.endTdr (s : State) (ch : Nat) : State :=
  match (s.line ch).tdr with
  | some j => (s.ackLater j.reply .wrongState []).modLine ch (fun l => { l with tdr := none })
  | none => s

/-! ## Dies (R205, R482, R484) -/

/-- A line die loses power or goes into retention (R482, R484, R205): its channels read DISABLED, a TDR under way ends, and without
retention their coefficients and the taps for their positions are lost. -/
def State.lineDieOff (s : State) (d : Nat) (keep : Bool) : State :=
  ((List.range 24).map (fun k => 24 * d + k)).foldl (fun s ch =>
    match tfind s.lines ch with
    | none => s
    | some _ =>
      let s := ((s.endTdr ch).lineMode ch 0 false).lineDown ch .disabled
      if keep then s
      else (s.modLine ch (fun l => { l with bank := { (l.bank.clear (fun _ => true)) with kept := false } })).tapsInvalid ch) s

/-- A channel starts on a die that is powered again: one that negotiates and whose bank was retained resumes its LR10 link in the
role it had (R105, R217, R484). -/
def State.lineBack (s : State) (ch start : Nat) : State :=
  let l := s.line ch
  (if l.cfg.neg && s.canResume ch 6 then s.lineMode ch 6 l.bank.slave else s).lineStart ch start true

/-- A line die is powered: each enabled channel trains (R484). -/
def State.lineDieOn (s : State) (d start : Nat) : State :=
  (((List.range 24).map (fun k => 24 * d + k)).foldl (fun s ch =>
    match tfind s.lines ch with
    | none => s
    | some l => if l.cfg.enable then s.lineBack ch start else s) s).decideStarts

/-- A line die that was held for wake works again (R182, R488, R498): the channel whose partner woke the device resumes at once,
and every other channel that is asleep wakes its partner first. -/
def State.lineDieHeld (s : State) (d : Nat) (woken : Option Nat) : State :=
  (((List.range 24).map (fun k => 24 * d + k)).foldl (fun s ch =>
    match tfind s.lines ch with
    | none => s
    | some l =>
      if !l.cfg.enable then s
      else if woken == some ch then s.lineStart ch s.now true
      else s.wakePartner ch) s).decideStarts

/-! ## What LINE_CONFIG, LINE_RETRAIN and BUNDLE_CONFIG do at their edge -/

/-- LINE_CONFIG takes effect (R142, R146, R205, R228, R237), with an admission run where the mode that the channel's rate goes by
changes (R392, R404). With NEG it may have changed the mode when it changes NEG or ADV. -/
def State.applyLine (s : State) (ch : Nat) (c : LineCfg) : State :=
  let old := (s.line ch).cfg
  let was := (s.line ch).rateMode
  let s := s.modLine ch (fun l =>
    { l with cfg := c, attempts := 0, attemptsDone := 0
             reconf := l.reconf || c.neg != old.neg || (c.neg && c.adv != old.adv) || (!c.neg && c.mode != old.mode)
             baseline := if c.neg then l.baseline else l.baseline.filter (fun b => b.1 == c.mode)
             bank := if c.mode = old.mode then l.bank else { l.bank with kept := false } })
  let s := if (s.line ch).rateMode = was then s else s.runDue 2
  if !c.enable then
    (if old.enable then s.tapsInvalid ch else s).lineStart ch (s.now + 1) false
  else if !old.enable || c.mode != old.mode || c.role != old.role || c.neg != old.neg ||
      (c.neg && c.adv != old.adv) then
    (s.lineMode ch 0 false).lineStart ch (s.now + 1) (!old.enable)
  else s

/-- LINE_RETRAIN takes effect (R178, R205, R217). -/
def State.applyRetrain (s : State) (ch : Nat) (full : Bool) : State :=
  let s := if full then (s.modLine ch (fun l => { l with bank := { l.bank with kept := false } })).tapsInvalid ch else s
  s.lineStart ch (s.now + 1) (!full)

/-- The bundle sections of a channel are cleared (R203, R226). -/
def Line.clearSections (l : Line) : Line := { l with bank := l.bank.clear (fun i => decide (3 ≤ i)) }

/-- A channel in stage 0 goes on with stage 1. -/
def Line.afterSurvey (l : Line) (now : Nat) : Line :=
  { l with train := { l.train with stage := 1, stageStart := now } }

/-- The channels of a group that a survey has held train from stage 1 as joiners, without fast resume (R208). -/
def State.releaseHeld (s : State) (bg start : Nat) : State :=
  ((groupChans bg).filter (fun c => (s.line c).heldSurvey)).foldl (fun s c =>
    (s.modLine c (fun l => { l with asJoiner := true })).lineStart c start false) s

/-- BUNDLE_CONFIG takes effect (R203): an enabled group trains together; a disabled one has its sections cleared and
its channels keep their links. DESIGN CHOICE: a survey that runs ends there, its channels go on with stage 1 and those it held
start (log 53). A channel that was UP goes straight into its training, with one event (R186). -/
def State.applyBundle (s : State) (bg : Nat) (enable : Bool) (mode : Nat) : State :=
  if enable then
    if (s.bundle bg).enabled then s
    else
      let s := s.modBundle bg (fun b =>
        { b with enabled := true, mode := mode, valid := [false, false, false, false], survey := 0
                 surveyPos := [], surveyOut := [] })
      let chans := (groupChans bg).filter (fun c => (s.line c).cfg.enable)
      let s := (chans.filter (fun c => !(s.line c).linked)).foldl (fun s c => s.lineDown c .waiting) s
      chans.foldl (fun s c => s.lineStart c (s.now + 1) false) s
  else
    let s := s.modBundle bg (fun b =>
      { b with enabled := false, mode := 0, valid := [false, false, false, false], surveyPos := [], surveyOut := []
               survey := if b.survey = 1 then 0 else b.survey })
    let s := (groupChans bg).foldl (fun s c => s.modLine c (fun l =>
      let l := l.clearSections
      if l.state == .training && l.train.stage == 0 then l.afterSurvey (s.now + 1) else l)) s
    s.releaseHeld bg (s.now + 1)

/-- LINE_TDR begins (R233): a negotiation or training under way is stopped and not counted; a channel that has reached
UP is not tested and is answered WRONG_STATE. -/
def State.applyTdr (s : State) (ch : Nat) (reply : Option ReplyTo) : State :=
  let l := s.line ch
  if l.linked then s.ackLater reply .wrongState []
  else
    let b := s.bundle (ch / 4)
    let reduced := b.enabled && (groupMates ch).any (fun c => (s.line c).busy) && !(b.valid.getD (ch % 4) false)
    let fast := l.state == .training && (l.train.stage == 7 || l.resumed)
    let running := l.state == .negotiating || l.state == .training
    let s := s.modLine ch (fun l => { l with attempts := if running && !fast then l.attempts - 1 else l.attempts })
    (s.lineDown ch .waiting).modLine ch (fun l =>
      { l with tdr := some ⟨s.now + 1, reduced, reply, running || l.heldSurvey, fast⟩ })

end Machine
end Sys2Proof
end

