-- ==== Sys2Proof/Machine/LineWatch.lean ====
section
/-! DEFINITION. Watching the line (07): counters, quality, link drops, channel faults, TDR and cable health. -/
namespace Sys2Proof
namespace Machine

/-! ## Counters (R219 to R221) -/

/-- Two words of a 64-bit counter. -/
def two (n : Nat) : List Word := lohi n

/-- The frame counters and the line counters of a snapshot: counts of the tick added, the pages that a CLEAR has read
reduced by the values read (R219, R221). -/
def LineCnt.snap (c t : LineCnt) (clr : Nat) : LineCnt :=
  let f := fun (x y : Nat) => (if bit clr 0 then 0 else x) + y
  let g := fun (x y : Nat) => (if bit clr 1 then 0 else x) + y
  { rxFrames := wrap64 (f c.rxFrames t.rxFrames), rxBytes := wrap64 (f c.rxBytes t.rxBytes)
    rxFcsErr := sat32 (f c.rxFcsErr t.rxFcsErr), rxLenErr := sat32 (f c.rxLenErr t.rxLenErr)
    txFrames := wrap64 (f c.txFrames t.txFrames), txBytes := wrap64 (f c.txBytes t.txBytes)
    fecCw := wrap64 (g c.fecCw t.fecCw), fecCorr := wrap64 (g c.fecCorr t.fecCorr)
    fecUncorr := sat32 (g c.fecUncorr t.fecUncorr), sfmCrcErr := sat32 (g c.sfmCrcErr t.sfmCrcErr)
    blwSat := sat32 (g c.blwSat t.blwSat), linkDrops := sat32 (g c.linkDrops t.linkDrops)
    lpiTxEnt := sat32 (g c.lpiTxEnt t.lpiTxEnt), lpiRxEnt := sat32 (g c.lpiRxEnt t.lpiRxEnt)
    lpiTxTicks := sat32 (g c.lpiTxTicks t.lpiTxTicks), lpiRxTicks := sat32 (g c.lpiRxTicks t.lpiRxTicks)
    wakeErr := sat32 (g c.wakeErr t.wakeErr) }

/-- The reference SNR of a mode in 0.1 dB (R223). -/
def snrRef (mode : Nat) : Int :=
  match mode with
  | 1 => 160
  | 2 => 155
  | 6 => 182
  | _ => 178

/-- The mean of the last per-tick SNRs (R222). DESIGN CHOICE: rounded to the nearest 0.1 dB, halves upwards (log 57). -/
def Line.snrAvg (l : Line) : Int :=
  (2 * l.snrHist.foldl (· + ·) 0 + (l.snrHist.length : Int)) / (2 * (l.snrHist.length : Int))

/-- A direction has been quiet for the whole of tick `now` (R219). -/
def Lpi.quietAll (p : Lpi) (now : Nat) : Bool :=
  match p with
  | .quiet since => decide (since ≤ now)
  | .active | .entering _ | .refresh _ | .waking _ => false

/-- Low-power idle of the receive direction at the commit: a partner of which no superframe came in the whole tick is quiet, however
many of the superframes before could be read (R179, R219, R224). -/
def Line.lpiSilent (l : Line) (now : Nat) : Line :=
  if l.mode = 6 ∧ !l.sfm.heard then
    match l.lpiRx with
    | .entering _ | .refresh _ => { l with lpiRx := .quiet now }
    | .active | .quiet _ | .waking _ => l
  else l

/-- The counter snapshot of a line channel at commit step 6 of tick `now`, with its SNR history (R219, R222, R224). FEC_UNCORR grows
in training too, and its last 40 ticks reach back beyond the start of the link (R224). DESIGN CHOICE: a tick in which the
receiver is not locked empties the SNR history, so that SNR_AVG starts anew after a loss of lock (log 57). -/
def Line.snapshot (l : Line) (now ch : Nat) : Line :=
  let l := l.lpiSilent now
  let t := { l.cntTick with
    lpiTxTicks := l.cntTick.lpiTxTicks + b2n (l.lpiTx.quietAll now)
    lpiRxTicks := l.cntTick.lpiRxTicks + b2n (l.lpiRx.quietAll now) }
  let l := { l with cnt := l.cnt.snap t l.clr, cntTick := LineCnt.zero, clr := 0
                    uncorrHist := lastN 40 (l.uncorrHist ++ [t.fecUncorr]) }
  let l := if l.locked && !l.lpiRx.quietNow then
      let v := (Config.lineSnr ch now).toInt
      { l with snrHist := lastN 40 (l.snrHist ++ [v]), snrMin := min l.snrMin v }
    else if l.locked then l else { l with snrHist := [] }
  { l with avgHist := if l.linked then lastN 40 (l.avgHist ++ [l.snrAvg]) else [] }

/-- LINE_COUNTERS. -/
def cmdLineCounters (m : Msg) (s : State) : Reply :=
  let ch := m.get 1 0 7
  let page := m.get 1 8 1
  let l := s.line ch
  let c := l.cnt
  .unless (m.stray 1 0x37F || decide (95 < ch)) .badArg <|
  .ok (lohi s.snapEdge ++
    (if page = 0 then
      two c.rxFrames ++ two c.rxBytes ++ two c.txFrames ++ two c.txBytes ++ [w32 c.rxFcsErr, w32 c.rxLenErr]
    else
      two c.fecCw ++ two c.fecCorr ++ [w32 c.fecUncorr, w32 c.sfmCrcErr, w32 c.blwSat, w32 c.linkDrops,
        w32 c.lpiTxEnt, w32 c.lpiRxEnt, w32 c.lpiTxTicks, w32 c.lpiRxTicks, w32 c.wakeErr, w32 l.recoveries]))
    (if m.flag 1 9 then s.modLine ch (fun l => { l with clr := setBit l.clr page true }) else s)

def lineCountersCmd : Cmd := ⟨0x1020, [2], false⟩
/-- LINE_COUNTERS returns a page of counters and reduces them with CLEAR (R219 to R221). -/
def execLineCounters (m : Msg) (s : State) : Res := .next (s.mailbox lineCountersCmd m cmdLineCounters)

/-! ## Quality (R222, R223) -/

/-- SQI (R223). -/
def Line.sqi (l : Line) : Nat :=
  if l.linked then
    (((List.range 7).map (fun (k : Nat) => k + 1)).filter (fun (k : Nat) =>
      decide (snrRef l.mode + 10 * ((k : Int) - 3) ≤ l.snrAvg))).foldl Nat.max 0
  else 0

/-- SNR_AVG as LINE_QUALITY returns it: 0x8000 when the receiver is not locked. -/
def Line.snrAvgWord (l : Line) : Int := if l.locked && !l.snrHist.isEmpty then l.snrAvg else -32768

/-- LINE_QUALITY. DESIGN CHOICE: before any STATUS has been received the spec gives only PARTNER_VALID 0; PARTNER_AGE then reads
0xFFFF, PARTNER_MSE and PARTNER_SQI read 0 (log 88). -/
def cmdLineQuality (m : Msg) (s : State) : Reply :=
  let ch := m.get 1 0 7
  let l := s.line ch
  .unless (m.stray 1 0x7F || decide (95 < ch)) .badArg <|
  .unless (!s.domOn (domOfRoot ch)) .wrongState <|
  .ok [packW [(16, ofInt 16 l.snrMin), (16, ofInt 16 l.snrAvgWord)],
       packW [(3, l.sqi), (4, 0), (1, b2n l.partStat.isSome), (3, match l.partStat with | some p => p.2.1 | none => 0),
         (5, 0), (16, ofInt 16 (-l.snrAvgWord))],
       packW [(16, match l.partStat with | some p => sat16 (s.now - p.2.2) | none => 0xFFFF),
         (16, match l.partStat with | some p => ofInt 16 p.1 | none => 0)],
       w32 s.snapEdge]
    (s.modLine ch (fun l => { l with snrMin := 0x7FFF }))

def lineQualityCmd : Cmd := ⟨0x1021, [2], false⟩
/-- LINE_QUALITY returns the quality figures and restarts SNR_MIN (R222, R223). -/
def execLineQuality (m : Msg) (s : State) : Res := .next (s.mailbox lineQualityCmd m cmdLineQuality)

/-! ## LINE_WATCH_CONFIG (0x1022) -/

/-- LINE_WATCH_CONFIG. -/
def cmdLineWatchConfig (m : Msg) (s : State) : Reply :=
  let ch := m.get 1 0 7
  let w : LineWatch := ⟨m.get 1 16 16, m.get 1 8 4, m.get 2 16 16, m.get 2 0 10, m.get 3 16 8, m.get 3 8 8, m.get 3 0 8⟩
  .unless (m.stray 1 0xFFFF0F7F || m.stray 2 0xFFFF03FF || m.stray 3 0x00FFFFFF || decide (95 < ch) ||
    decide (w.nvp < 500) || decide (900 < w.nvp) || w.lpiIdle == 0 || decide (w.delta < 1) || decide (40 < w.delta) ||
    decide (w.reflRl < 10) || decide (40 < w.reflRl)) .badArg <|
  .unless (!s.domOn (domOfRoot ch)) .wrongState <|
  .ok [] (s.accept (.lineWatch ch w))

def lineWatchConfigCmd : Cmd := ⟨0x1022, [4], false⟩
/-- LINE_WATCH_CONFIG sets the watch of a channel from the next edge (R224). -/
def execLineWatchConfig (m : Msg) (s : State) : Res := .next (s.mailbox lineWatchConfigCmd m cmdLineWatchConfig)

/-! ## Link drops (R224, R225) -/

/-- Uncorrectable codewords of the last 40 ticks, the present one among them (R224); `committed` is whether its counts have been
added. -/
def Line.uncorr40 (l : Line) (committed : Bool) : Nat :=
  (lastN (if committed then 40 else 39) l.uncorrHist).foldl (· + ·) 0 + (if committed then 0 else l.cntTick.fecUncorr)

/-- A link-drop criterion of R224 holds. Criterion 1 is the standard's own link monitor. -/
def Line.dropHolds (l : Line) (now : Nat) (committed : Bool) (criterion : Nat) : Bool :=
  l.linked &&
  (match criterion with
   | 1 => decide (1 ≤ l.mode) && decide (l.mode ≤ 5)
   | 2 => l.mode == 6 && !l.sfm.lock
   | 3 => l.mode == 6 &&
      (match l.lpiRx with
       | .quiet since => decide (240 * 4352 ≤ (now + 1 - since) * 25000)
       | .active | .entering _ | .refresh _ | .waking _ => false)
   | 4 => l.mode == 6 && decide (230 ≤ l.sfm.remFault)
   | 5 => decide (2 ≤ l.mode) && l.watch.uncorrLimit != 0 &&
      decide (l.watch.uncorrLimit ≤ l.uncorr40 committed)
   | 6 => l.watch.dropMargin != 0 && decide (40 ≤ l.avgHist.length) &&
      l.avgHist.all (fun a => decide (a < snrRef l.mode - 5 * l.watch.dropMargin))
   | _ => false)

/-- LINK_DROP: the channel counts one LINK_DROPS; at the next edge it leaves UP or LPI and trains again (R224, R225). -/
def execLinkDrop (ch : Nat) (criterion : Nat) (s : State) : Res :=
  if decide (ch < 96) && s.powered ch && (s.line ch).dropHolds s.now s.time.committed criterion &&
      !s.edgeq.any (fun a => match a with
        | .relink c => c == ch
        | .silence c _ => c == ch
        | .trunkDrop _ | .hostRetrain _ => false) then
    .next ((s.modLine ch (fun l =>
      { l with cntTick := { l.cntTick with linkDrops := l.cntTick.linkDrops + 1 } })).atEdge (.relink ch))
  else .next s

/-! ## Channel faults (R226, R227, R535, R536) -/

/-- The codes of R226. -/
def isLineFault (code : Nat) : Bool :=
  code == 0x1101 || code == 0x1102 || code == 0x1103 || code == 0x1104 || code == 0x1201

/-- What a fault does to a channel's coefficients and sections (R226): an error in the bank clears it, one in a bundle section the
channel's three sections; either way the channel trains in full, as a joiner. -/
def Line.faultCoefs (l : Line) (code : Nat) : Line :=
  if code = 0x1103 then { l with asJoiner := true, bank := LineBank.empty }
  else if code = 0x1201 then
    let l := l.clearSections
    { l with asJoiner := true, bank := { l.bank with kept := false } }
  else l

/-- A drop of the same tick is not counted and does not take effect: the fault governs (R225). A count that the commit has taken
already is taken back. -/
def State.undoDrop (s : State) (ch : Nat) : State :=
  if s.edgeq.contains (.relink ch) then
    { (s.modLine ch (fun l =>
        if 0 < l.cntTick.linkDrops then { l with cntTick := { l.cntTick with linkDrops := l.cntTick.linkDrops - 1 } }
        else { l with cnt := { l.cnt with linkDrops := l.cnt.linkDrops - 1 } })) with
      edgeq := s.edgeq.filter (fun a => a != .relink ch) }
  else s

/-- A channel-level fault is raised: recorded at once; it governs over a drop of the same tick; the channel goes silent at the next
edge (R225, R227, R533). -/
def State.lineFault (s : State) (ch code : Nat) : State := ((s.recordFault code ch).undoDrop ch).atEdge (.silence ch code)

/-- At the edge after a channel-level fault the channel goes silent and waits for its quiet period, which a further fault
restarts (R226, R227, R535, R536). -/
def State.lineSilence (s : State) (ch code : Nat) : State :=
  let lpi := (s.line ch).state == .lpi
  let s := (s.endTdr ch).modLine ch (fun l =>
    { (l.faultCoefs code) with quietP := some ⟨s.now, s.faults.quiet.line⟩ })
  (s.lineDown ch .waiting).reportLpi ch lpi

/-- LINE_CHANNEL_FAULT (R226). -/
def execLineChannelFault (ch : Nat) (code : Nat) (s : State) : Res :=
  if decide (ch < 96) && isLineFault code then
    .next (if s.powered ch then s.lineFault ch code else s.dampedFault code ch)
  else .next s

/-! ## Time-domain reflectometry (R233 to R235) -/

/-- LINE_TDR. -/
def cmdLineTdr (m : Msg) (s : State) : Reply :=
  let ch := m.get 1 0 7
  let l := s.line ch
  .unless (m.stray 1 0x7F || decide (95 < ch)) .badArg <|
  .unless (l.linked || l.state == .asleep || l.quietP.isSome || l.isolated || !s.domOn (domOfRoot ch)) .wrongState <|
  .unless (l.tdr.isSome || s.cfgq.any (fun e => match e with | .lineTdr k _ => k == ch | _ => false) ||
    (s.bundle (ch / 4)).survey == 1) .busy <|
  .later (s.accept (.lineTdr ch ⟨0, false, s.replyTo m, false, false⟩))

def lineTdrCmd : Cmd := ⟨0x1023, [2], false⟩
/-- LINE_TDR starts a reflectometry measurement at the next edge (R233). -/
def execLineTdr (m : Msg) (s : State) : Res := .next (s.mailbox lineTdrCmd m cmdLineTdr)

/-- A list of reflections in rising distance, by insertion. -/
def insertBy {α : Type} (key : α → Nat) (x : α) : List α → List α
  | [] => [x]
  | y :: t => if key x < key y then x :: y :: t else y :: insertBy key x t

/-- A list sorted by a key, rising; equal keys keep their order. -/
def sortBy {α : Type} (key : α → Nat) (l : List α) : List α := l.foldl (fun acc x => insertBy key x acc) []

/-- The class of a reflection from its coefficient (R235): 1 OPEN, 2 SHORT, 3 HIGH, 4 LOW, 0 NONE. -/
def reflClass (rho : Int) : Nat :=
  if 600 ≤ rho then 1 else if rho ≤ -600 then 2 else if 0 < rho then 3 else if rho < 0 then 4 else 0

/-- The reflections that a TDR reports (R235): return loss at or below REFL_RL, up to 150.0 m, nearest first, at most 4;
nearer than 0.5 m as DIST 0. -/
def tdrReport (reflRl : Nat) (l : List Reflection) : List Reflection :=
  ((sortBy Reflection.dist (l.filter (fun r => decide (r.rl ≤ 2 * reflRl) && decide (r.dist ≤ 1500)))).take 4).map
    (fun r => if r.dist < 5 then { r with dist := 0 } else r)

/-- RET0 to RET5 of LINE_TDR. -/
def tdrWords (job : TdrJob) (partner : Bool) (l : List Reflection) : List Word :=
  packW [(3, l.length), (4, 0), (1, b2n partner), (1, b2n job.reduced)] ::
    ((List.range 4).map (fun k => match l[k]? with
      | some r => packW [(4, reflClass r.rho), (4, 0), (8, r.rl), (16, r.dist)]
      | none => 0) ++ [w32 job.start])

/-- TDR_COMPLETE: the measurement ends after 40 ticks, or 160 at reduced amplitude; it is answered, and a stopped
attempt restarts from its beginning (R233 to R235). -/
def execTdrComplete (ch : Nat) (partner : Bool) (refl : List Reflection) (s : State) : Res :=
  match (s.line ch).tdr with
  | none => .next s
  | some job =>
    if decide (ch < 96) && s.live && decide (job.start + (if job.reduced then 160 else 40) ≤ s.now) then
      let words := tdrWords job partner (tdrReport (s.line ch).watch.reflRl refl)
      let s := s.modLine ch (fun l => { l with tdr := none })
      let s := if job.resume || !(s.line ch).cfg.enable then (s.lineStart ch s.now job.fast).decideStarts else s
      .next (s.ackLater job.reply .ok words)
    else .next s

/-! ## Cable health (R236 to R238) -/

/-- One line of a cable health report. -/
structure Health where
  dist  : Nat
  rl    : Nat
  low   : Bool
  cls   : Nat
  bdist : Nat
  brl   : Nat
deriving DecidableEq, Repr

/-- Two reflections lie within 0.5 m of each other (R238). -/
def near (a b : Reflection) : Bool := decide (a.dist ≤ b.dist + 5) && decide (b.dist ≤ a.dist + 5)

/-- The difference of two numbers, without sign. -/
def dist (a b : Nat) : Nat := (a - b) + (b - a)

/-- The report on a present reflection (R238). DESIGN CHOICE: where several baseline reflections lie within 0.5 m of it, it matches
the first that the profile lists, the nearest (log 88). -/
def healthOf (base : Option (List Reflection)) (delta : Nat) (r : Reflection) : Health :=
  let low := decide (r.rho < 0)
  match (base.getD []).find? (near r) with
  | some b => ⟨r.dist, r.rl, low, if dist r.rl b.rl < delta then 1 else 3, b.dist, b.rl⟩
  | none => ⟨r.dist, r.rl, low, 2, 0xFFFF, 0xFF⟩

/-- The reflections that a cable health command reports, before the limit of six (R238). -/
def healthAll (base : Option (List Reflection)) (delta reflRl : Nat) (now : List Reflection) : List Health :=
  (now.filter (fun r => decide (r.rl ≤ 2 * reflRl))).map (healthOf base delta) ++
    ((base.getD []).filter (fun b => decide (b.rl ≤ 2 * reflRl) && !(now.any (near b)))).map (fun b =>
      ⟨b.dist, 0xFF, decide (b.rho < 0), 4, b.dist, b.rl⟩)

/-- The return loss by which a line of the report ranks: the baseline's for GONE. -/
def Health.rank (h : Health) : Nat := if h.cls = 4 then h.brl else h.rl

/-- The six of lowest return loss, nearest first (R238). -/
def healthSix (l : List Health) : List Health := sortBy Health.dist ((sortBy Health.rank l).take 6)

/-- The two words of a line of the report. -/
def Health.words (h : Health) : List Word :=
  [packW [(4, h.cls), (1, b2n h.low), (3, 0), (8, h.rl), (16, h.dist)], packW [(8, 0), (8, h.brl), (16, h.bdist)]]

/-- The symbol rate of a mode in symbols per three seconds (R141). -/
def baud3 (mode : Nat) : Nat :=
  match mode with
  | 1 => 200000000
  | 2 => 2250000000
  | 3 => 4218750000
  | 4 => 8437500000
  | _ => 16875000000

/-- The internal delay D of a mode in symbols (R236). -/
def modeDelay (mode : Nat) : Nat :=
  match mode with
  | 1 => 2
  | 2 => 4
  | 3 => 6
  | 4 => 8
  | _ => 12

/-- The end of the live range of a mode in 0.1 m (R236). -/
def liveRange (mode : Nat) : Nat := if mode ≤ 3 then 1500 else if mode = 4 then 856 else 427

/-- The distance of an echo position, in 1/256 symbol, from the connector in 0.1 m, rounded to the nearest: (k - D) x NVP x c /
(2 x baud) less TRACE_OFS (R236). -/
def echoDist (mode nvp traceOfs pos : Nat) : Int :=
  let cm : Int := ((pos : Int) - 256 * (modeDelay mode : Int)) * (nvp * 299792458 * 300 : Nat) / (512000 * baud3 mode : Nat)
  (cm - traceOfs + 5) / 10

/-- The profile of a live link from its echo taps at the edge that began the tick: the peaks whose distance lies in the mode's live
range (R236). -/
def State.profile (s : State) (ch : Nat) : List Reflection :=
  let l := s.line ch
  let b := l.view.bank
  let taps := (List.range 2304).map (b.tap ch 0)
  let ffe := (List.range 32).map (b.tap ch 1)
  (Config.echoPeaks l.mode taps ffe (Config.linePga ch b.pgaStamp).val).filterMap (fun p =>
    let d := echoDist l.mode l.watch.nvp l.watch.traceOfs p.1
    if 5 ≤ d.toNat ∧ d.toNat ≤ liveRange l.mode then some ⟨d.toNat, p.2.1, p.2.2, false⟩ else none)

/-- CABLE_HEALTH. -/
def cmdCableHealth (m : Msg) (s : State) : Reply :=
  let ch := m.get 1 0 7
  let l := s.line ch
  let base := l.baseline.map Prod.snd
  let all := healthAll base l.watch.delta l.watch.reflRl (s.profile ch)
  let six := healthSix all
  .unless (m.stray 1 0x17F || decide (95 < ch)) .badArg <|
  .unless (!l.linked || !s.domOn (domOfRoot ch)) .wrongState <|
  .ok (packW [(3, six.length), (5, 0), (1, b2n l.baseline.isNone), (1, b2n (bit l.view.held 0)),
        (1, b2n (decide (6 < all.length)))] :: w32 s.now :: six.flatMap Health.words)
    (if m.flag 1 8 then s.modLine ch (fun l => { l with baseline := some (l.mode, s.profile ch) }) else s)

def cableHealthCmd : Cmd := ⟨0x1024, [2], false⟩
/-- CABLE_HEALTH reports the reflections of a live link (R236 to R238). -/
def execCableHealth (m : Msg) (s : State) : Res := .next (s.mailbox cableHealthCmd m cmdCableHealth)

/-- BASELINE_CAPTURE: a link UP for 4,000 ticks with no baseline held has its profile stored (R237). -/
def execBaselineCapture (ch : Nat) (s : State) : Res :=
  let l := s.line ch
  if decide (ch < 96) && s.powered ch && l.linked && l.baseline.isNone && decide (l.upTick + 4000 ≤ s.now) then
    .next (s.modLine ch (fun l => { l with baseline := some (l.mode, s.profile ch) }))
  else .next s

end Machine
end Sys2Proof
end

