-- ==== Sys2Proof/Machine/KeepOps.lean ====
section
/-! DEFINITION. Starting a keep-store command (R589 to R593): its words, endurance, and the one command at a time. -/
namespace Sys2Proof
namespace Machine

/-- The value of keep word `w` in the store (R586). -/
def State.keepWord (s : State) (w : Nat) : Word := tget 0 s.keep.words w

/-- The wear counter of keep word `w` (R591). -/
def State.keepWear (s : State) (w : Nat) : Nat := tget 0 s.keep.wear w

/-- A list of word writes would write a word at the end of its endurance (R591). -/
def State.wornOut (s : State) : List (Nat × Word) → List Nat → Bool
  | [], _ => false
  | (w, _) :: t, seen =>
    decide (100000 ≤ s.keepWear w + (seen.filter (fun x => x == w)).length) || s.wornOut t (w :: seen)

/-- The words of a command are worn out. -/
def State.keepWorn (s : State) (ws : List (Nat × Word)) : Bool := s.wornOut ws []

/-- A keep-store command runs (R589). -/
def State.keepBusy (s : State) : Bool := s.keep.job.isSome

/-- One word write has completed: the word and the hearth's cache hold the value, and its wear is counted, with doorbell
18 at 90,000 (R589 to R591). -/
def State.keepPut (s : State) (w : Nat) (v : Word) : State :=
  let n := satTo (2 ^ 17 - 1) (s.keepWear w + 1)
  let put := fun (t : Table Word) => if v = 0 then tdel t w else tset t w v
  let s := s.modKeep (fun k => { k with words := put k.words, cache := put k.cache, wear := tset k.wear w n })
  if n = 90000 then s.event 18 w 0 else s

/-- A keep-store command begins; it is answered when its last word has been written (R589). -/
def State.keepStart (s : State) (ws : List (Nat × Word)) (op extra : Nat) (reply : Option ReplyTo) : State :=
  s.modKeep (fun k => { k with job := some ⟨ws, ws.map Prod.fst, reply, op, extra⟩ })

/-- A reset or DAMPED ends the command under way: the word that has begun completes, the rest is not written (R589, R591). -/
def State.keepCutShort (s : State) : State :=
  match s.keep.job with
  | none => s
  | some j =>
    let s := match j.words with
      | [] => s
      | (w, v) :: _ => s.keepPut w v
    s.modKeep (fun k => { k with job := none })

end Machine
end Sys2Proof
end

