-- ==== Sys2Proof/Machine/TrunkOps.lean ====
section
/-! DEFINITION. Shared operations of the trunks (09, 10): states and events, attempts, the bypass, the link layer. -/
namespace Sys2Proof
namespace Machine

/-! ## STATE and events (R325) -/

/-- The code of STATE in TRUNK_STATUS. -/
def TrunkState.num : TrunkState → Nat
  | .off => 0 | .seek => 1 | .training => 2 | .up => 3 | .waiting => 4 | .bypassed => 5

/-- DATA of a TYPE 0x09 record (R325). -/
def Trunk.eventData (t : Trunk) : Nat :=
  pack [(3, t.state.num), (1, b2n t.follower), (2, t.cls), (1, b2n t.long), (1, b2n t.aligned), (4, t.lastFail)]

/-- Doorbell 9 and its record. -/
def State.trunkEvent (s : State) (tr : Nat) : State := s.event 9 (128 + tr) (s.trunk tr).eventData

/-- STATE changes, with its event. -/
def State.trunkSt (s : State) (tr : Nat) (st : TrunkState) : State :=
  let old := (s.trunk tr).state
  let s := s.modTrunk tr (fun t => { t with state := st })
  if old == st then s else s.trunkEvent tr

/-- The device is in the path: BYPA and BYPB are high (R317). -/
def State.inPath (s : State) : Bool := s.pins.byp == .high

/-! ## The end of a link -/

/-- What a trunk's link layer loses when its link or attempt ends: TLUs, announcements, what the partner said. -/
def Trunk.unlink (t : Trunk) : Trunk :=
  { t with stage := 0, aligned := false, cls := 3, idRx := false, idAcked := false, soundTx := 0, classTx := false
           startRx := false, startTx := false, ann := none, missFrames := 0, abandonFrames := 0, abandonNow := false
           txq := [], txPart := none, txPos := 0, txBurst := [], txPair := false, txRefl := false, rxGot := []
           missTick := none, halfTick := none, carried := false
           rxSync := false, rxSkip := false, ctl := [], statusFor := [], soundReq := false, peerLocked := false
           peerChoice := none, qualify := [], loadWait := none, taken := false, txSet := 0, rxSent := 0, useSet := 0
           rxPos := 0, copies := 0, combine := false, lateRx := false }

/-- The main link's failed and unacknowledged TLUs go to the standby link (R316). -/
def State.handOver (s : State) (tr : Nat) : State :=
  let t := s.trunk tr
  let o := trunkMate tr
  if t.state == .up && t.cfg.pair != 0 && s.mainTrunk tr == tr && (s.trunk o).state == .up then
    let data := t.txq.filter (fun x => x.tlu.kind == 1)
    s.modTrunk o (fun u =>
      { u with
        txq := u.txq ++ (List.zip (List.range data.length) data).map (fun x =>
          ⟨{ x.2.tlu with seq := (u.txSeq + x.1) % 4096 }, 0, true, 0⟩)
        txSeq := (u.txSeq + data.length) % 4096
        txPart := if u.txPart.isSome then u.txPart else t.txPart })
  else s

/-- A trunk leaves what it is doing for a state without a link: the TLUs of a main link that leaves UP go to the standby link, and its
rate may change (R316, R392, R404). -/
def State.trunkDown (s : State) (tr : Nat) (st : TrunkState) : State :=
  let was := s.trunk tr
  let s := ((s.handOver tr).modTrunk tr Trunk.unlink).trunkSt tr st
  if was.state == .up then s.runDue 2 else s

/-- A trunk starts an attempt in SEEK at edge `start`, or takes the state in which it cannot (R96, R301, R304, R318). -/
def State.trunkStart (s : State) (tr start : Nat) : State :=
  let t := s.trunk tr
  if !s.domOn (domOfRoot (128 + tr)) then s.trunkDown tr .off
  else if !s.inPath then s.trunkDown tr .bypassed
  else if t.quietP.isSome || s.silencePending (128 + tr) || t.isolated then s.trunkDown tr .waiting
  else if !t.cfg.enable then s.trunkDown tr .off
  else (s.trunkDown tr .seek).modTrunk tr (fun t =>
    { t with attempts := satTo 255 (t.attempts + 1), stageStart := start, follower := false, peerSerial := 0 })

/-- An attempt fails with its reason, and the next starts at stage 0 at the following edge (R96, R304). -/
def State.trunkFail (s : State) (tr reason : Nat) : State :=
  (s.modTrunk tr (fun t => { t with lastFail := reason, attemptsDone := t.attemptsDone + 1 })).trunkStart tr (s.now + 1)

/-- A trunk in UP drops its link (R314, R316). -/
def State.trunkLost (s : State) (tr reason : Nat) : State :=
  (s.modTrunk tr (fun t => { t with lastFail := reason })).trunkStart tr s.now

/-! ## Blanking (R262), in samples counted from that of tick 0 -/

/-- The amplifier has sent `slots` slots from edge `now`, the first `late` of them silent: from its ramp-up to the end of its
ramp-down (R259, R260). -/
def Trunk.spanned (t : Trunk) (now late slots : Nat) : Trunk :=
  { t with txSpan := some (10000 * (now + late) + 1648, 10000 * (now + slots) + 160) }

/-- The spans in which the own amplifier works: of the last burst, probe or kindle pattern, and of an up-chirp sent for
reflectometry in slot 0 of a frame of a trunk that is not UP (R262, R324). -/
def Trunk.spans (t : Trunk) (now : Nat) : List (Nat × Nat) :=
  t.txSpan.toList ++ (match t.reflect with
    | some (start, _) =>
      if t.state != .up && decide (start ≤ now) then
        [(10000 * (now / 8 * 8) + 1648, 10000 * (now / 8 * 8) + 6064)]
      else []
    | none => [])

/-- A preamble whose up-chirp arrives `delay` 1/64 samples after edge `now` meets a blanked receiver: blanked is the amplifier's
work and 0.5 us (200 samples) after it (R262). Its two chirps take 8,192 samples. -/
def Trunk.blankedAt (t : Trunk) (now : Nat) (delay : Int) : Bool :=
  let a : Int := 640000 * (now : Int) + delay
  (t.spans now).any (fun x => decide (a < 64 * ((x.2 : Int) + 200)) && decide (64 * (x.1 : Int) < a + 64 * 8192))

/-- No chirp of 4,096 samples can end in tick `now` without meeting a blanked receiver (R262). -/
def Trunk.blankedTick (t : Trunk) (now : Nat) : Bool :=
  (t.spans now).any (fun x => decide (x.1 ≤ 10000 * now) && decide (10000 * (now + 1) < x.2 + 200 + 4096))

/-! ## The bypass (R317 to R319) -/

/-- The agreed value of the discrete input that a policy names is 1, or it names none (R317). -/
def State.policyInput (s : State) : Bool :=
  match fld s.boot.policy 2 3 with
  | 0 => true
  | k + 1 => (s.din.inputs.getD k Din.reset).value

/-- The conditions of R317 for being in the path. -/
def State.pathWanted (s : State) : Bool :=
  !s.boot.held && !s.boot.halted && fld s.boot.policy 0 2 == 0 &&
    (s.boot.stage == .training || s.boot.stage == .readiness || s.boot.stage == .done) &&
    (s.boot.power == .boot || s.boot.power == .run) && s.domOn 8 && s.domOn 9 && s.policyInput

/-- A preamble of some class was declared within the last 400 ticks (R322). -/
def Trunk.heard (t : Trunk) (now : Nat) : Bool :=
  match t.preTick with
  | some k => decide (now < k + 400)
  | none => false

/-- A trunk enters the path at edge `start`: the relays are waited for, and an enabled trunk with KINDLE_FWD that has
heard nothing sends the kindle pattern first (R319, R322). -/
def State.trunkEnterPath (s : State) (start tr : Nat) : State :=
  (s.modTrunk tr (fun t =>
    { t with relayEnd := some (start + 200)
             kindle := if t.cfg.enable && t.cfg.kindleFwd && t.kindle.isNone && !t.heard start then some (start, 50)
                       else t.kindle })).trunkStart tr start

/-- A trunk is released: its link ends and its unsent TLUs are discarded (R318); what a main link hands over is discarded with the
standby link, which is released at the same edge. -/
def State.trunkRelease (s : State) (tr : Nat) : State :=
  (s.modTrunk tr (fun t => { t with relayEnd := none })).trunkStart tr s.now

/-- BYPA and BYPB follow R317; what changes takes effect at edge `start`. -/
def State.updateBypass (s : State) (start : Nat) : State :=
  if s.pathWanted == s.inPath then s
  else if s.pathWanted then
    (List.range 4).foldl (fun s tr => s.trunkEnterPath start tr) (s.modPins (fun p => { p with byp := .high }))
  else
    (List.range 4).foldl (fun s tr => s.trunkRelease tr) (s.modPins (fun p => { p with byp := .low }))

/-! ## Configuration at its edge -/

/-- TRUNK_SIGNAL_CONFIG takes effect; the loading settings apply at the edge after (R274, R291, R292). A burst whose preamble slot
begins at this very edge, behind its guard slot, already takes a change of ATTEN alone (R291). -/
def State.applyTrunkSig (s : State) (tr : Nat) (c : SigCfg) : State :=
  s.modTrunk tr (fun t =>
    { t with sig := c, loadDue := s.now + 2
             attenNow := if c.range = t.rangeNow ∧ t.txSpan.any (fun x => x.1 == 10000 * (s.now + 1) + 1648) then c.atten
                         else t.attenNow })

/-- TRUNK_CONFIG takes effect; PAIR holds for both trunks of the end (R316, R326). -/
def State.applyTrunk (s : State) (tr : Nat) (c : TrunkCfg) : State :=
  let old := (s.trunk tr).cfg
  let s := s.modTrunk (trunkMate tr) (fun t => { t with cfg := { t.cfg with pair := c.pair } })
  let s := s.modTrunk tr (fun t => { t with cfg := c, attempts := 0, attemptsDone := 0 })
  if c.enable = old.enable then s else s.trunkStart tr (s.now + 1)

/-- TRUNK_KINDLE takes effect: the first repetition begins at the edge (R321, R322). -/
def State.applyKindle (s : State) (tr : Nat) : State :=
  s.modTrunk tr (fun t => if t.kindle.isSome then t else { t with kindle := some (s.now + 1, 50) })

/-- A trunk domain is switched off or on (R482, R484). -/
def State.trunkDomain (s : State) (trs : List Nat) (on : Bool) (start : Nat) : State :=
  trs.foldl (fun s tr =>
    let s := if on then s else s.modTrunk tr (fun t =>
      { t with kindle := none, detector := .rest, freqOfs := none, preTick := none })
    s.trunkStart tr start) s

/-! ## Faults (R315) -/

/-- A channel-level fault of a trunk: recorded; the trunk goes silent at the next edge (R315, R533). -/
def State.trunkFault (s : State) (tr code : Nat) : State :=
  (s.recordFault code (128 + tr)).atEdge (.silence (128 + tr) code)

/-- At the edge after a fault the trunk goes silent for its quiet period (R315, R535, R536). -/
def State.trunkSilence (s : State) (tr : Nat) : State :=
  let s := s.modTrunk tr (fun t =>
    { t with quietP := some ⟨s.now, s.faults.quiet.trunk⟩, lastFail := 8, kindle := none })
  s.trunkStart tr s.now

/-- The codes of R315. -/
def isTrunkFault (code : Nat) : Bool := code == 0x1401 || code == 0x1402 || code == 0x1403

/-! ## Counters (R294) -/

/-- The counter snapshot of a trunk at commit step 6. -/
def Trunk.snapshot (t : Trunk) : Trunk :=
  let c := t.sigCnt
  let k := t.sigTick
  let f := fun (x y : Nat) => (if bit t.clr 0 then 0 else x) + y
  { t with sigTick := SigCnt.zero, clr := 0
           sigCnt := ⟨wrap64 (f c.burstsRx k.burstsRx), wrap64 (f c.burstsTx k.burstsTx), wrap64 (f c.cwRx k.cwRx),
             sat32 (f c.cwFail k.cwFail), sat32 (f c.half k.half), sat32 (f c.missed k.missed),
             (List.range 4).map (fun x => sat32 (f (c.foreign.getD x 0) (k.foreign.getD x 0))), sat32 (f c.ofsReject k.ofsReject), sat32 (f c.agcClip k.agcClip)⟩ }

/-- The counts of the present tick changed. -/
def State.trunkCount (s : State) (tr : Nat) (f : SigCnt → SigCnt) : State :=
  s.modTrunk tr (fun t => { t with sigTick := f t.sigTick })

end Machine
end Sys2Proof
end

