-- ==== Sys2Proof/Machine/CalOps.lean ====
section
/-! DEFINITION. Shared operations of calibration and skim (19): unit classes, gap ticks, calibration words, a full
calibration, and slices that a gap's end cuts off. -/
namespace Sys2Proof
namespace Machine

/-! ## Units and their classes (R565, R578) -/

/-- The class of a unit by its root: 0 line channel, 1 drop, 2 trunk, 3 host lane group. -/
def calClass (u : Nat) : Nat := if u < 96 then 0 else if u < 128 then 1 else if u < 132 then 2 else 3

/-- Slices of a calibration cycle (R565). -/
def calLen (u : Nat) : Nat := if u < 96 then 64 else if u < 128 then 16 else 32

/-- Slices of a skim (R578). -/
def skimLen (u : Nat) : Nat := if u < 96 then 16 else if u < 128 then 4 else 8

/-- The roots of a domain. -/
def domRoots (d : Nat) : List Nat := (List.range 136).filter (fun u => domOfRoot u == d)

/-- The calibration of a unit. -/
def State.calUnit (s : State) (u : Nat) : CalUnit := tget CalUnit.reset s.cal.units u

/-- Calibration changed. -/
def State.modCal (s : State) (f : CalSt → CalSt) : State := { s with cal := f s.cal }

/-- The calibration of a unit changed. -/
def State.modCalUnit (s : State) (u : Nat) (f : CalUnit → CalUnit) : State :=
  s.modCal (fun c => { c with units := tmod CalUnit.reset c.units u f })

/-- The skim of a unit. -/
def State.skimUnit (s : State) (u : Nat) : SkimUnit := tget SkimUnit.reset s.skim.units u

/-- The skim of a unit changed. -/
def State.modSkimUnit (s : State) (u : Nat) (f : SkimUnit → SkimUnit) : State :=
  { s with skim := { s.skim with units := tmod SkimUnit.reset s.skim.units u f } }

/-- A notice of R563 holds: unit slices are suspended (R564). -/
def State.calSuspended (s : State) : Bool := s.cal.vrefBad || s.cal.rsetBad

/-! ## Gap ticks (R565) -/

/-- A line channel is quiet both ways, in low-power idle or ASLEEP without a wake tone, or it is DISABLED or WAITING (R565). -/
def Line.inGap (l : Line) : Bool :=
  match l.state with
  | .disabled | .waiting => true
  | .asleep => !l.sleep.toning
  | .lpi => l.lpiTx.quietNow && l.lpiRx.quietNow
  | .negotiating | .training | .up => false

/-- No frame has been sent or received on a drop in this tick, good or bad, and none is under way in the device's own opportunity; or
it is silent (R565). -/
def Drop.inGap (d : Drop) : Bool :=
  match d.state with
  | .disabled | .waiting | .off => true
  | .up => d.cntTick.txFrames == 0 && d.cntTick.rxFrames == 0 && d.cntTick.rxFcsErr == 0 && d.cntTick.collisions == 0 &&
      d.burstLeft == 0

/-- A trunk that is out of the path or silent is in a gap for either side of its cycle. -/
def Trunk.still (t : Trunk) : Bool :=
  match t.state with
  | .off | .waiting | .bypassed => true
  | .seek | .training | .up => false

/-- Both directions of a lane group are in electrical idle, or it is silent. -/
def LaneGroup.inGap (g : LaneGroup) : Bool :=
  match g.state with
  | .off | .disabled | .waiting => true
  | .up => g.txEidle && g.rxEidle
  | .training | .test => false

/-- The trunk's own amplifier ramps or transmits in the slot of tick `now` (R260, R565). -/
def Trunk.ampWorks (t : Trunk) (now : Nat) : Bool :=
  (t.spans now).any (fun x => decide (x.1 < 10000 * (now + 1)) && decide (10000 * now < x.2))

/-- The trunk transmits in the slot of tick `now`, beyond the 160 samples of a ramp-down (R260, R565). -/
def Trunk.transmits (t : Trunk) (now : Nat) : Bool :=
  (t.spans now).any (fun x => decide (x.1 < 10000 * (now + 1)) && decide (10000 * now + 160 < x.2))

/-- The present tick is a gap tick of a unit (R565). -/
def State.inGap (s : State) (u : Nat) : Bool :=
  if u < 96 then (s.line u).inGap
  else if u < 128 then (s.drop (u - 96)).inGap
  else if u < 132 then
    let t := s.trunk (u - 128)
    t.still || !t.ampWorks s.now || t.transmits s.now
  else (s.host (u - 132)).inGap

/-- A slice of a trunk in this tick is of the transmit side: its amplifier neither ramps nor transmits. In a trunk that is silent
the transmit side comes first (R565). -/
def State.txSlice (s : State) (u : Nat) : Bool :=
  let t := s.trunk (u - 128)
  if t.still then decide ((s.calUnit u).txSide < 16) else !t.ampWorks s.now

/-- A trunk's present cycle has a slice left on the side that this tick can serve. -/
def State.sideLeft (s : State) (u : Nat) : Bool :=
  let c := s.calUnit u
  calClass u != 2 ||
    (if s.txSlice u then decide (c.txSide < 16) else decide (c.progress - c.txSide < 16))

/-! ## Calibration words (R587, R588) -/

/-- One step of CRC-8 with polynomial x^8 + x^2 + x + 1. -/
def crc8Bit (r : Nat) (b : Bool) : Nat :=
  let top := bit r 7 != b
  let sh := (r * 2) % 256
  if top then sh ^^^ 7 else sh

/-- The CRC of a calibration word over bits [23:0], from bit 23 down. -/
def crc8 (n : Nat) : Nat := ((List.range 24).map (fun k => bit n (23 - k))).foldl crc8Bit 0xFF

/-- A calibration word (R587). -/
def calWord (trim temp : Nat) : Word :=
  let n := trim % 2 ^ 16 + 2 ^ 16 * (temp % 256)
  w32 (n + 2 ^ 24 * crc8 n)

/-- A calibration word is good: not all zero, and its CRC holds (R588). -/
def calWordOk (w : Word) : Bool := w != 0 && fld w.toNat 24 8 == crc8 (fld w.toNat 0 24)

/-- The nominal trims of R587. -/
def nominalTrim : BitVec 16 := 0x8208

/-- The committed trims of a unit, or nominal ones (R568, R588). -/
def State.committedTrim (s : State) (u : Nat) : BitVec 16 :=
  let w := s.keepWord (256 + u)
  if calWordOk w then BitVec.ofNat 16 w.toNat else nominalTrim

/-! ## A full calibration (R568) -/

/-- A unit stops being stale, with its record (R569). -/
def State.calFresh (s : State) (u : Nat) : State :=
  if (s.calUnit u).stale then (s.modCalUnit u (fun c => { c with stale := false })).record 0x10 u 0 else s

/-- A unit is calibrated in full, or starts from its committed trims while calibration is suspended (R568). -/
def State.calibrate (s : State) (u : Nat) : State :=
  if s.calSuspended then
    s.modCalUnit u (fun c => { c with progress := 0, txSide := 0, next := none, trim := s.committedTrim u })
  else
    (s.modCalUnit u (fun c =>
      { c with progress := 0, txSide := 0, next := none, ever := true, doneTick := s.now
               trim := Config.calTrim u s.now, temp := (Config.calTemp u s.now).toNat })).calFresh u

/-- Units are calibrated in full. -/
def State.calibrateAll (s : State) (l : List Nat) : State := l.foldl State.calibrate s

/-! ## Slices and the end of a gap (R566) -/

/-- The gap of a unit ends: a slice of this tick is discarded, and a skim slice counted in ABANDONED (R566, R578). -/
def State.cutSlice (s : State) (u : Nat) : State :=
  let s := if (s.calUnit u).next.isSome then s.modCalUnit u (fun c => { c with next := none }) else s
  if (s.skimUnit u).ran.isSome then
    s.modSkimUnit u (fun k => { k with ran := none, tkAbandoned := k.tkAbandoned + 1 })
  else s

/-- Every skim under way is discarded (R576, R579). -/
def State.skimDiscard (s : State) : State :=
  { s with skim := { s.skim with units := tmap (fun _ k => { k with slices := none, ran := none, bad := 0 }) s.skim.units } }

/-- A unit's domain is switched off: a skim under way ends. Switched on: a unit whose due edge has passed meanwhile is due at
once (R578; log 26). -/
def SkimUnit.domain (k : SkimUnit) (now period : Nat) (on : Bool) : SkimUnit :=
  if !on then { k with slices := none, ran := none, bad := 0 }
  else if k.next ≤ now then { k with due := now, next := now + 4000 * period }
  else k

/-- A domain is switched off or on: the skims of its units follow. -/
def State.skimDomain (s : State) (d : Nat) (on : Bool) : State :=
  let f := fun (u : Nat) (k : SkimUnit) => if domOfRoot u = d then k.domain s.now s.skim.period on else k
  { s with skim := { s.skim with units := tmap f s.skim.units } }

end Machine
end Sys2Proof
end

