-- ==== Sys2Proof/Machine/Arrive.lean ====
section
/-! DEFINITION. The arrival of a frame at the hub (R20, R22), shared by every kind of port. -/
namespace Sys2Proof

/-- The frame bytes on the link: those of the encapsulated form where there is one (R439). -/
def Frame.wire (f : Frame) : Nat := if f.fab.isSome then f.outer else f.len

/-- A frame of 64 to 9,216 frame bytes (R219, R250). -/
def Frame.fits (f : Frame) : Bool := decide (64 ≤ f.wire) && decide (f.wire ≤ 9216)

namespace Machine

/-- A frame has completed arrival on a port in the present tick; it is classified in the next (R20). The ingress gate of
a closing domain passes nothing (R482). -/
def State.arrive (s : State) (port : Nat) (f : Frame) : State :=
  if s.unitOn port then { s with arrived := s.arrived ++ [⟨port, f, s.now, none, 0⟩] } else s

/-- A frame has completed arrival from a host lane group, in class `sc` and with the credits it holds (R345). -/
def State.arriveHost (s : State) (port : Nat) (f : Frame) (sc credits : Nat) : State :=
  if s.unitOn port then { s with arrived := s.arrived ++ [⟨port, f, s.now, some sc, credits⟩] } else s

end Machine
end Sys2Proof
end

