-- ==== Sys2Proof/Machine/Drop.lean ====
section
/-! DEFINITION. Drop segments (08): configuration, the PLCA cycle, reception, counters, faults and wake. -/
namespace Sys2Proof
namespace Machine

/-! ## STATE and events (R249) -/

/-- The code of STATE in DROP_STATUS. -/
def DropState.num : DropState → Nat
  | .disabled => 0 | .up => 1 | .waiting => 2 | .off => 3

/-- The egress root of drop `ds` (R12). -/
def dropRoot (ds : Nat) : Nat := 96 + ds

/-- The doorbell and record of R249: ID concerned and cause. -/
def State.dropEvent (s : State) (ds id cause : Nat) : State :=
  let d := s.drop ds
  s.event 8 (dropRoot ds) (pack [(3, d.state.num), (1, b2n d.conflict), (4, id), (4, cause)])

/-- STATE changes, with its event (R249). -/
def State.dropSt (s : State) (ds : Nat) (st : DropState) : State :=
  let old := (s.drop ds).state
  let s := s.modDrop ds (fun d => { d with state := st })
  if old == st then s else s.dropEvent ds 0 0

/-! ## The PLCA cycle (R242 to R244) -/

/-- A beacon: the cycle before it has ended and is judged (R247, R248), the PLCA values in force are those of
DROP_CONFIG (R244), and the device's own opportunity opens for the frames that are already in the transmit buffer, up
to 1 + MAX_BC (R243). -/
def Drop.beacon (d : Drop) (waiting : Nat) : Drop :=
  let clean := d.clean &&& (0xFFFF - d.collided)
  { d with plca := d.cfg.plca
           dup := d.dup &&& (0xFFFF - clean)
           streak := (List.range 15).map (fun k => if bit clean k then 0 else d.streak.getD k 0)
           collided := 0, clean := 0
           foreignRun := if d.foreignCyc then d.foreignRun else 0
           cleanRun := if d.foreignCyc then 0 else d.cleanRun + 1
           foreignCyc := false
           opp := some 0, taken := false
           burstLeft := min (1 + d.cfg.plca.maxBc) waiting
           cntTick := { d.cntTick with cycles := d.cntTick.cycles + 1 } }

/-- How many frames the scheduler has selected for a root and the unit has not yet sent. -/
def State.waitingTx (s : State) (root : Nat) : Nat :=
  match tfind s.sched.roots root with
  | some r => r.sending.length
  | none => 0

/-- The drop becomes UP in tick `t` and sends its first beacon (R241). -/
def State.dropUp (s : State) (ds t : Nat) : State :=
  (s.modDrop ds (fun d =>
    { ({ d with clean := 0, collided := 0, foreignCyc := false } : Drop).beacon (s.waitingTx (dropRoot ds)) with
        upTick := t, heardUp := 0, foreignRun := 0, cleanRun := 0 })).dropSt ds .up

/-- The drop stops beaconing and transmitting. -/
def State.dropDown (s : State) (ds : Nat) (st : DropState) : State :=
  (s.modDrop ds (fun d => { d with opp := none, taken := false, burstLeft := 0, collided := 0, clean := 0, foreignCyc := false })).dropSt
    ds st

/-- An enabled drop that nothing holds back becomes UP; otherwise it takes the state that fits (R241, R251): WAITING also while a
fault is about to silence it. DESIGN CHOICE: R254 gives WAITING for a fault's quiet period only; a drop isolated for self-test
takes it too, with its event (log 59). -/
def State.dropStart (s : State) (ds t : Nat) : State :=
  let d := s.drop ds
  if !s.domOn (domOfRoot (dropRoot ds)) then s.dropDown ds .off
  else if d.quietP.isSome || s.silencePending (dropRoot ds) || d.isolated then s.dropDown ds .waiting
  else if !d.cfg.enable then s.dropDown ds .disabled
  else if d.state == .up then s
  else s.dropUp ds t

/-- DROP_CONFIG takes effect at edge `now + 1` (R241, R244). -/
def State.applyDrop (s : State) (ds : Nat) (c : DropCfg) : State :=
  (s.modDrop ds (fun d => { d with cfg := c })).dropStart ds (s.now + 1)

/-- The opportunity after `k`, none after the last (R242). -/
def Drop.nextOpp (d : Drop) (k : Nat) : Option Nat := if k + 1 < d.plca.nodeCount then some (k + 1) else none

/-- Every opportunity of the cycle has closed, or only the last is left and its owner has taken it (R242). -/
def Drop.cycleOver (d : Drop) : Bool :=
  match d.opp with
  | none => true
  | some k => d.taken && (d.nextOpp k).isNone

/-- PLCA_BEACON: the next beacon follows the last opportunity at once and starts a cycle (R242, R243). -/
def execPlcaBeacon (ds : Nat) (s : State) : Res :=
  if decide (ds < 32) && s.unitOn (dropRoot ds) && (s.drop ds).state == .up && (s.drop ds).cycleOver then
    .next (s.modDrop ds (fun d => d.beacon (s.waitingTx (dropRoot ds))))
  else .next s

/-- The opportunity that waits to be taken: the open one, or the one after it once its owner has taken it (R242). -/
def Drop.waitingOpp (d : Drop) (k : Nat) : Nat := if d.taken then k + 1 else k

/-- PLCA_OPPORTUNITY_TIMEOUT: an opportunity that its owner has not taken closes, and the next one opens (R242). -/
def execPlcaOpportunityTimeout (ds : Nat) (s : State) : Res :=
  match (s.drop ds).opp with
  | none => .next s
  | some k =>
    if decide (ds < 32) && s.unitOn (dropRoot ds) && (s.drop ds).state == .up then
      .next (s.modDrop ds (fun d => { d with opp := d.nextOpp (d.waitingOpp k), taken := false, burstLeft := 0 }))
    else .next s

/-! ## Reception (R246 to R248) -/

/-- A collision in the opportunity of `id` (R246, R247): counted, and once a cycle it extends the ID's streak. -/
def Drop.collide (d : Drop) (id : Nat) : Drop :=
  { d with cntTick := { d.cntTick with collisions := d.cntTick.collisions + 1 }
           collided := setBit d.collided id true
           streak := if bit d.collided id then d.streak else lmod d.streak id (fun n => n + 1) }

/-- The counts of a frame received in the opportunity of `id` without a collision (R250). -/
def DropCnt.rx (c : DropCnt) (id : Nat) (arr : Arrival) (f : Frame) : DropCnt :=
  if !arr.fcsOk then { c with rxFcsErr := c.rxFcsErr + 1 }
  else if f.fits then
    { c with rxFrames := c.rxFrames + 1, rxBytes := c.rxBytes + f.len
             nodeFrames := lmod c.nodeFrames id (fun n => n + 1) }
  else c

/-- What came in the opportunity of `id`: a collision, or a frame, which is counted and passed on when it is good (R246, R247, R249,
R250). DESIGN CHOICE: R250 names no counter for a frame with a good FCS and a length out of range; it counts in a counter of the
model's own (R22; log 84). -/
def State.dropReceive (s : State) (ds id : Nat) (collision : Bool) (arr : Arrival) (f : Frame) : State :=
  let d := s.drop ds
  let s := s.cutSlice (dropRoot ds)
  let s := s.modDrop ds (fun d => { d with opp := some id, taken := true, burstLeft := if id = 0 then d.burstLeft else 0 })
  if collision then
    let s := s.modDrop ds (fun d => d.collide id)
    if id ≠ 0 ∧ !bit d.dup id ∧ 4 ≤ ((s.drop ds).streak.getD id 0) then
      (s.modDrop ds (fun d => { d with dup := setBit d.dup id true })).dropEvent ds id 2
    else s
  else
    let good := arr.fcsOk && f.fits
    let s := s.modDrop ds (fun d =>
      { d with cntTick := d.cntTick.rx id arr f, clean := setBit d.clean id true
               badFrames := d.badFrames + b2n (arr.fcsOk && !f.fits) })
    let s := if id != 0 then s.modDrop ds (fun d =>
      { d with heard := if good then setBit d.heard id true else d.heard, heardUp := setBit d.heardUp id true }) else s
    let s := if id != 0 && !bit d.heardUp id then s.dropEvent ds id 1 else s
    if good then s.arrive (dropRoot ds) f else s

/-- DROP_FRAME_RX: a frame, or a collision, in the opportunity of `id`; the opportunities before it have passed
(R246, R247, R249, R250, R22). It ends a calibration gap (R566). -/
def execDropFrameRx (ds : Nat) (id : Nat) (collision : Bool) (arr : Arrival) (f : Frame) (s : State) : Res :=
  let d := s.drop ds
  let open_ := match d.opp with
    | some k => decide (k ≤ id) && decide (id < d.plca.nodeCount)
    | none => false
  .next (if decide (ds < 32) && s.unitOn (dropRoot ds) && d.state == .up && open_ then s.dropReceive ds id collision arr f
    else s)

/-- FOREIGN_BEACON_RX: counted; in a second consecutive cycle it sets COORD_CONFLICT (R248, R249). -/
def execForeignBeaconRx (ds : Nat) (s : State) : Res :=
  let d := s.drop ds
  if decide (ds < 32) && s.unitOn (dropRoot ds) && d.state == .up then
    let run := if d.foreignCyc then d.foreignRun else d.foreignRun + 1
    let s := s.modDrop ds (fun d =>
      { d with foreignCyc := true, foreignRun := run, cleanRun := 0, conflict := d.conflict || decide (2 ≤ run)
               cntTick := { d.cntTick with foreign := d.cntTick.foreign + 1 } })
    .next (if !d.conflict && decide (2 ≤ run) then s.dropEvent ds 0 3 else s)
  else .next s

/-- COORD_CONFLICT_CLEAR: after 1,000 consecutive cycles without a foreign beacon (R248). -/
def execCoordConflictClear (ds : Nat) (s : State) : Res :=
  if decide (ds < 32) && s.live && (s.drop ds).conflict && decide (1000 ≤ (s.drop ds).cleanRun) then
    .next (s.modDrop ds (fun d => { d with conflict := false }))
  else .next s

/-! ## Faults (R251) -/

/-- A channel-level fault of a drop: recorded; the drop goes silent at the next edge (R251, R533). -/
def State.dropFault (s : State) (ds code : Nat) : State :=
  (s.recordFault code (dropRoot ds)).atEdge (.silence (dropRoot ds) code)

/-- At the edge after a fault the drop goes silent for its quiet period, enabled or not, which a further fault restarts (R251, R535,
R536). -/
def State.dropSilence (s : State) (ds : Nat) : State :=
  (s.modDrop ds (fun d => { d with quietP := some ⟨s.now, s.faults.quiet.drop⟩ })).dropDown ds .waiting

/-- The codes of R251. -/
def isDropFault (code : Nat) : Bool := code == 0x1301 || code == 0x1302 || code == 0x1303

/-- DROP_CHANNEL_FAULT (R251). -/
def execDropChannelFault (ds : Nat) (code : Nat) (s : State) : Res :=
  if decide (ds < 32) && isDropFault code then
    .next (if s.powered (dropRoot ds) then s.dropFault ds code else s.dampedFault code (dropRoot ds))
  else .next s

/-! ## Wake detector (R252) -/

/-- The wake detector of a drop is armed: WAKE_EN, and the LINE domain off or closing, or the device asleep (R252,
R501). -/
def State.dropArmed (s : State) (ds : Nat) : Bool :=
  let dom := domOfRoot (dropRoot ds)
  (s.drop ds).cfg.wakeEn && (!s.domOn dom || s.domClosing dom || s.boot.power == .banked || s.boot.power == .ember)

/-- DROP_WAKE_DETECT: an armed detector fires (R252, R501). -/
def execDropWakeDetect (ds : Nat) (s : State) : Res :=
  if decide (ds < 32) && s.dropArmed ds then .next (s.fireWake ⟨0x02, dropRoot ds⟩ false) else .next s

/-! ## Counters (R250) -/

/-- The counter snapshot of a drop at commit step 6 (R219, R250). -/
def Drop.snapshot (d : Drop) : Drop :=
  let c := d.cnt
  let t := d.cntTick
  let f := fun (x y : Nat) => (if bit d.clr 0 then 0 else x) + y
  { d with cntTick := DropCnt.zero, clr := 0
           cnt := { rxFrames := wrap64 (f c.rxFrames t.rxFrames), rxBytes := wrap64 (f c.rxBytes t.rxBytes)
                    txFrames := wrap64 (f c.txFrames t.txFrames), txBytes := wrap64 (f c.txBytes t.txBytes)
                    rxFcsErr := sat32 (f c.rxFcsErr t.rxFcsErr), collisions := sat32 (f c.collisions t.collisions)
                    foreign := sat32 (f c.foreign t.foreign), cycles := sat32 (f c.cycles t.cycles)
                    nodeFrames := (List.range 15).map (fun k =>
                      sat32 ((if bit d.clr 1 then 0 else c.nodeFrames.getD k 0) + t.nodeFrames.getD k 0)) } }

/-! ## Commands (R254) -/

/-- DROP_CONFIG. -/
def cmdDropConfig (m : Msg) (s : State) : Reply :=
  let ds := m.get 1 0 5
  let p : Plca := ⟨m.get 1 12 4, m.get 2 0 8, m.get 1 8 4, m.get 2 8 8⟩
  let c : DropCfg := ⟨m.flag 1 18, m.flag 1 17, m.flag 1 16, p⟩
  .unless (m.stray 1 0x0007FF1F || m.stray 2 0x0000FFFF || decide (p.nodeCount < 2) || decide (14 < p.nodeCount) ||
    p.toTimer == 0 || p.burstTmr == 0) .badArg <|
  .unless ((!s.domOn (domOfRoot (dropRoot ds)) && c.enable) || (s.drop ds).isolated) .wrongState <|
  .ok (lohi s.nextEdge) (s.accept (.drop ds c))

def dropConfigCmd : Cmd := ⟨0x1100, [3], false⟩
/-- DROP_CONFIG enables, disables or changes a drop at the next edge (R241, R254). -/
def execDropConfig (m : Msg) (s : State) : Res := .next (s.mailbox dropConfigCmd m cmdDropConfig)

/-- DROP_STATUS. -/
def cmdDropStatus (m : Msg) (s : State) : Reply :=
  let ds := m.get 1 0 5
  let d := s.drop ds
  .unless (m.stray 1 0x1F) .badArg <|
  .ok ([packW [(3, d.state.num), (1, b2n (s.dropArmed ds)), (4, d.plca.nodeCount), (1, b2n d.conflict)],
      packW [(16, d.heard), (16, d.dup)]] ++ lohi d.upTick)
    (s.modDrop ds (fun d => { d with heard := 0 }))

def dropStatusCmd : Cmd := ⟨0x1101, [2], false⟩
/-- DROP_STATUS returns a drop's state and restarts HEARD (R247). -/
def execDropStatus (m : Msg) (s : State) : Res := .next (s.mailbox dropStatusCmd m cmdDropStatus)

/-- DROP_COUNTERS. -/
def cmdDropCounters (m : Msg) (s : State) : Reply :=
  let ds := m.get 1 0 5
  let page := m.get 1 8 1
  let d := s.drop ds
  let c := d.cnt
  .unless (m.stray 1 0x31F) .badArg <|
  .ok (lohi s.snapEdge ++
    (if page = 0 then
      lohi c.rxFrames ++ lohi c.rxBytes ++ lohi c.txFrames ++ lohi c.txBytes ++
        [w32 c.rxFcsErr, w32 c.collisions, w32 c.foreign, w32 c.cycles, w32 d.recoveries]
    else (List.range 13).map (fun k => w32 (c.nodeFrames.getD (k + 1) 0))))
    (if m.flag 1 9 then s.modDrop ds (fun d => { d with clr := setBit d.clr page true }) else s)

def dropCountersCmd : Cmd := ⟨0x1102, [2], false⟩
/-- DROP_COUNTERS returns a page of counters and reduces them with CLEAR (R250). -/
def execDropCounters (m : Msg) (s : State) : Res := .next (s.mailbox dropCountersCmd m cmdDropCounters)

end Machine
end Sys2Proof
end

