-- ==== Sys2Proof/Machine/LaneWire.lean ====
section
/-! DEFINITION. The wire formats of the host lanes (11): striping, scrambling, stuffing, training blocks, lane packets and
test patterns (R330 to R332, R338, R353). -/
namespace Sys2Proof
namespace Machine

/-! ## Forwarded clocks (R328) -/

/-- A partner's forwarded clock, `ppb` parts in 10^9 away from 16.0 GHz, is accepted: within 100 ppm (R328). -/
def laneClockOk (ppb : Int) : Bool := decide (-100000 ≤ ppb) && decide (ppb ≤ 100000)

/-- The bits of a lane in a tick: 32.0 Gb/s, on both edges of the 16.0 GHz clock (R328). -/
def laneTickBits : Nat := 800000

/-! ## Striping, scrambling, stuffing (R330, R331) -/

/-- The bytes of a group's stream that logical lane `n` sends (R330). -/
def laneStripe (n : Nat) : List Byte → Nat → List Byte
  | [], _ => []
  | b :: t, k => if k % 8 = n then b :: laneStripe n t (k + 1) else laneStripe n t (k + 1)

/-- Bits of a lane through the scrambler x^58 + x^39 + 1; `past` holds the last 58 outputs, newest first (R330). -/
def selfScramble : List Bool → List Bool → List Bool
  | _, [] => []
  | past, b :: t =>
    let o := (b != past.getD 38 false) != past.getD 57 false
    o :: selfScramble ((o :: past).take 58) t

/-- The inverse; `past` holds the last 58 bits received, newest first (R330). -/
def selfDescramble : List Bool → List Bool → List Bool
  | _, [] => []
  | past, o :: t =>
    ((o != past.getD 38 false) != past.getD 57 false) :: selfDescramble ((o :: past).take 58) t

/-- Per lane: its last bit and how many equal scrambled bits stand at the end since the last stuff event. -/
def runsAfter (runs : List (Bool × Nat)) (ui : List Bool) : List (Bool × Nat) :=
  List.zipWith (fun (r : Bool × Nat) b => if r.1 == b then (b, r.2 + 1) else (b, 1)) runs ui

/-- Some lane's last 24 bits are identical (R331). -/
def stuffDue (runs : List (Bool × Nat)) : Bool := runs.any (fun r => decide (24 ≤ r.2))

/-- A stuff event starts every lane's count again. -/
def runsReset (runs : List (Bool × Nat)) : List (Bool × Nat) := runs.map (fun r => (r.1, 0))

/-- The UIs of a group with their stuff bits (R331); one list of bits, a lane each, for each UI. -/
def laneStuff : List (Bool × Nat) → List (List Bool) → List (List Bool)
  | _, [] => []
  | runs, ui :: t =>
    let r := runsAfter runs ui
    if stuffDue r then ui :: ui.map (fun b => !b) :: laneStuff (runsReset r) t else ui :: laneStuff r t

/-- The received UIs without their stuff bits (R331); `skip` tells that the next UI is one. -/
def laneUnstuff : List (Bool × Nat) → Bool → List (List Bool) → List (List Bool)
  | _, _, [] => []
  | runs, skip, ui :: t =>
    if skip then laneUnstuff runs false t
    else
      let r := runsAfter runs ui
      if stuffDue r then ui :: laneUnstuff (runsReset r) true t else ui :: laneUnstuff r false t

/-! ## The transmit FIR (R333) -/

/-- The taps of a transmit lane in 1/64: pre-cursor, main cursor, post-cursor (R333). -/
def firTaps (pre post : Nat) : Int × Int × Int := (-(pre : Int), 64 - ((pre : Int) + post), -(post : Int))

/-- A bit as a symbol of the lane. -/
def laneSymbol (b : Bool) : Int := if b then 1 else -1

/-- What a lane sends for the bit `cur` between the bits `prev` and `next`, in 1/64 of its full swing: the pre-cursor weighs the bit to
come and the post-cursor the bit before (R329, R333). -/
def firLevel (pre post : Nat) (prev cur next : Bool) : Int :=
  let t := firTaps pre post
  t.1 * laneSymbol next + t.2.1 * laneSymbol cur + t.2.2 * laneSymbol prev

/-- The levels of a lane's bits behind the bit `prev` (R333). Behind the last bit the lane holds it. -/
def firLevels (pre post : Nat) : Bool → List Bool → List Int
  | _, [] => []
  | prev, b :: t => firLevel pre post prev b (t.headD b) :: firLevels pre post b t

/-- A transmit lane of a group with its present taps (R333). -/
def LaneGroup.levels (x : LaneGroup) (n : Nat) (prev : Bool) (l : List Bool) : List Int :=
  firLevels (x.coefPre.getD n 0) (x.coefPost.getD n 0) prev l

/-! ## PRBS (R332, R353) -/

/-- One step of the PRBS x^w + x^b + 1. -/
def prbsStep (w b s : Nat) : Bool × Nat :=
  let o := bit s (w - 1) != bit s (b - 1)
  (o, (2 * s) % 2 ^ w + b2n o)

/-- `n` bits of that PRBS from a state. -/
def prbsRun (w b : Nat) : Nat → Nat → List Bool
  | 0, _ => []
  | n + 1, s => (prbsStep w b s).1 :: prbsRun w b n (prbsStep w b s).2

/-- The polynomial of HOST_PRBS's PATTERN 1 to 3 (R353). -/
def prbsPoly (pattern : Nat) : Nat × Nat :=
  match pattern with
  | 1 => (7, 6)
  | 2 => (15, 14)
  | _ => (31, 28)

/-- A PRBS checker of a lane (R353): the last bits received, newest first, the consecutive correct ones, whether it is locked,
and the bits and errors counted since. -/
structure PrbsCheck where
  past   : List Bool
  run    : Nat
  locked : Bool
  bits   : Nat
  errors : Nat
deriving DecidableEq, Repr

/-- One received bit: it is correct when it follows from the bits received `w` and `b` places earlier; 64 correct ones in a row lock
the checker, and every error after lock is counted (R353). -/
def PrbsCheck.step (w b : Nat) (c : PrbsCheck) (x : Bool) : PrbsCheck :=
  let good := decide (w ≤ c.past.length) && (x == (c.past.getD (w - 1) false != c.past.getD (b - 1) false))
  let past := (x :: c.past).take w
  if c.locked then { c with past := past, bits := c.bits + 1, errors := c.errors + b2n (!good) }
  else
    let run := if good then c.run + 1 else 0
    { c with past := past, run := run, locked := decide (64 ≤ run) }

/-- A checker over received bits (R353). -/
def prbsCheck (pattern : Nat) (l : List Bool) : PrbsCheck :=
  l.foldl (PrbsCheck.step (prbsPoly pattern).1 (prbsPoly pattern).2) ⟨[], 0, false, 0, 0⟩

/-! ## Training blocks (R332) -/

/-- The fields of a training block of a lane (R332). -/
structure TrainBlock where
  lane    : Nat
  group   : Nat
  stage   : Nat
  rxReady : Bool
  reqLane : Nat
  reqPre  : Nat
  reqPost : Nat
  preset  : Bool
  stLane  : Nat
  stPre   : Nat
  stPost  : Nat
deriving DecidableEq, Repr

/-- Bits 0 to 111 of a training block as 14 bytes (R332). -/
def trainBlockBody (b : TrainBlock) : List Byte :=
  leBytes 14 (pack [(32, 0x3C5A96F0), (3, b.lane), (2, b.group), (3, b.stage), (1, b2n b.rxReady), (7, 0), (3, b.reqLane),
    (2, b.reqPre), (2, b.reqPost), (1, b2n b.preset), (3, b.stLane), (2, b.stPre), (2, b.stPost),
    (49, maskBits (prbsRun 7 6 49 0x7F))])

/-- A training block as its 128 UI, 16 bytes least significant bit first (R332). -/
def trainBlockBytes (b : TrainBlock) : List Byte := withCrc16 (trainBlockBody b)

/-- The fields of a training block whose MARK and CRC are good (R332). -/
def trainBlockRead (l : List Byte) : Option TrainBlock :=
  let n := ofLe (l.take 14)
  if crc16Good 14 l && fld n 0 32 == 0x3C5A96F0 then
    some ⟨fld n 32 3, fld n 35 2, fld n 37 3, bit n 40, fld n 48 3, fld n 51 2, fld n 53 2, bit n 55, fld n 56 3, fld n 59 2, fld n 61 2⟩
  else none

/-! ## Lane packets and frames as bytes (R338) -/

/-- One bit into the CRC-32 register of IEEE 802.3. -/
def crc32Bit (r : Nat) (b : Bool) : Nat :=
  let x := bit r 0 != b
  if x then (r / 2) ^^^ 0xEDB88320 else r / 2

/-- The IEEE 802.3 FCS of a byte list (R338). -/
def crc32 (l : List Byte) : Nat := (l.flatMap byteBits).foldl crc32Bit 0xFFFFFFFF ^^^ 0xFFFFFFFF

/-- An 802.1Q tag as its 4 bytes. -/
def tagBytes (t : Tag) : List Byte := beBytes 2 0x8100 ++ beBytes 2 (pack [(12, t.vid), (1, b2n t.dei), (3, t.pcp)])

/-- The frame bytes of an untransformed frame: addresses, tag, what follows as far as the environment names it, and the FCS. Where it
names no byte, the byte is a free value (log 15). -/
def frameBytes (f : Frame) : List Byte :=
  let named := beBytes 6 f.da ++ beBytes 6 f.sa ++ (match f.tag with | some t => tagBytes t | none => []) ++ f.body
  let all := (List.range (f.len - 4)).map (fun k => match named[k]? with
    | some b => b
    | none => Config.frameRest f k)
  all ++ leBytes 4 (crc32 all)

/-- Bytes 0 to 13 of a lane packet's header (R338). -/
def laneHeaderBody (p : LanePacket) : List Byte :=
  leBytes 1 (pack [(4, p.type), (3, p.sc), (1, b2n p.evid)]) ++ leBytes 2 (pack [(14, p.len), (1, b2n p.replay), (1, 0)]) ++
    leBytes 2 (pack [(12, p.seq), (2, p.ackType), (2, 0)]) ++ leBytes 2 (pack [(12, p.ackSeq), (3, p.crSc), (1, 0)]) ++
    leBytes 2 p.crGrant ++ leBytes 1 p.port ++ leBytes 4 p.spoolSeq

/-- A lane packet's 16-byte header with HCRC (R338). -/
def laneHeader (p : LanePacket) : List Byte := withCrc16 (laneHeaderBody p)

/-- A lane packet with its payload and CRC-32 (R338). -/
def lanePacketBytes (p : LanePacket) (payload : List Byte) : List Byte :=
  let l := laneHeader p ++ payload
  l ++ leBytes 4 (crc32 l)

/-- A packet of the replay buffer as its bytes: header, payload and CRC (R338, R341). -/
def LaneTx.wire (x : LaneTx) : List Byte := lanePacketBytes x.head x.body

/-- The header of a lane packet as the receiver reads it, with whether HCRC is good; `crcOk` is left to the CRC-32 (R338). -/
def laneHeaderRead (l : List Byte) : LanePacket :=
  let g := fun (k n : Nat) => ofLe ((l.drop k).take n)
  ⟨crc16Good 14 l, true, fld (g 0 1) 0 4, fld (g 0 1) 4 3, bit (g 0 1) 7, bit (g 1 2) 14, fld (g 1 2) 0 14, fld (g 3 2) 0 12,
    fld (g 3 2) 12 2, fld (g 5 2) 0 12, fld (g 5 2) 12 3, g 7 2, g 9 1, g 10 4, none, [], false⟩

/-- The CRC-32 behind a packet's header and payload is good (R338). -/
def lanePacketGood (l : List Byte) : Bool :=
  crc32 (l.take (l.length - 4)) == ofLe (l.drop (l.length - 4))

end Machine
end Sys2Proof
end

