-- ==== Sys2Proof/Machine/FabricWire.lean ====
section
/-! DEFINITION. The wire formats of the fabric (15): the encapsulation, the fabric header, the bodies of control frames, MACsec, and the
names that MKA uses (R437, R438, R448, R472, R473, R597). -/
namespace Sys2Proof
namespace Machine

/-- The outer destination and source address of an encapsulated frame (R437). -/
def outerBytes (serial : Nat) : List Byte :=
  [0x01#8, 0x80#8, 0xC2#8, 0x00#8, 0x00#8, 0x0E#8, 0x02#8] ++ beBytes 5 serial

/-- The fabric header as its 16 bytes, most significant byte first (R437, R438). -/
def fabHeaderBytes (h : FabHeader) : List Byte :=
  leBytes 1 (pack [(4, h.type), (4, h.ver)]) ++ leBytes 1 h.ttl ++
    leBytes 1 (pack [(3, h.sc), (1, h.plane), (1, b2n h.seqValid), (3, 0)]) ++ [0#8] ++ beBytes 2 h.src ++ beBytes 2 h.dst ++
    beBytes 2 (h.handle % 2 ^ 14) ++ beBytes 2 h.seq ++ beBytes 4 h.epoch

/-- A fabric header read from its bytes (R438). -/
def fabHeaderRead (l : List Byte) : FabHeader :=
  let g := fun (k n : Nat) => ofBe ((l.drop k).take n)
  ⟨fld (g 0 1) 4 4, fld (g 0 1) 0 4, g 1 1, fld (g 2 1) 0 3, fld (g 2 1) 3 1, bit (g 2 1) 4, g 4 2, g 6 2, fld (g 8 2) 0 14, g 10 2, g 12 4⟩

/-- What stands before the body of an unsecured encapsulated frame: addresses, EtherType 0x88B5, fabric header (R437). -/
def fabPrefix (serial : Nat) (h : FabHeader) : List Byte := outerBytes serial ++ [0x88#8, 0xB5#8] ++ fabHeaderBytes h

/-- The body of a HELLO (R448). -/
def helloBytes (h : Hello) : List Byte :=
  beBytes 8 h.serial ++ beBytes 4 h.fabricId ++ beBytes 8 h.digest ++ beBytes 8 h.tick ++ beBytes 1 h.port ++
    leBytes 1 (pack [(2, h.boundary), (1, b2n h.locked), (1, b2n h.macsec), (4, 0)]) ++ beBytes 2 h.h

/-- The body of a HELLO as received, with the EPOCH of its fabric header (R438, R448). -/
def helloRead (epoch : Nat) (l : List Byte) : Hello :=
  let g := fun (k n : Nat) => ofBe ((l.drop k).take n)
  ⟨g 0 8, g 8 4, g 12 8, epoch, g 20 8, g 28 1, fld (g 29 1) 0 2, bit (g 29 1) 2, bit (g 29 1) 3, g 30 2⟩

/-- The device's serial. -/
def State.serial (s : State) : Nat := s.fuses.serial

/-! ## Bodies of the other control frames (R437, R450, R454, R466, R467, R474) -/

/-- A link of a TOPO record: the neighbour's serial, both PORTs, BOUNDARY and H (R450; DESIGN CHOICE: the widths, log 68). -/
def topoLinkBytes (l : TopoLink) : List Byte :=
  beBytes 8 l.peer ++ beBytes 1 l.port ++ beBytes 1 l.peerPort ++ beBytes 1 l.boundary ++ beBytes 2 l.h

/-- The words of a replicated-stream entry as its FABRIC_STAGE message sets it (R463). -/
def entryWords (e : RepEntry) : List Word :=
  [packW [(14, e.handle), (14, 0), (2, 1), (2, 0)], packW [(16, e.dst), (16, e.src)],
   packW [(18, e.entry), (5, 0), (6, e.history), (3, e.sc)], packW [(16, e.reset)]]

/-- A fabric configuration as bytes: POLICY, and the entries in words 1 to 4 of their messages (R463). -/
def cfgBytes (c : FabConfig) : List Byte :=
  (c.policy :: c.entries.flatMap entryWords).flatMap (fun w => beBytes 4 w.toNat)

/-- The body of a control frame: its fields in the order in which its rule lists them, each most significant byte first (R437).
DESIGN CHOICE: the widths and the counts before lists, but for HELLO, whose layout R448 gives (log 68). 802.1AS and MKA frames are sent
as their standards define. -/
def FabBody.bytes : FabBody → List Byte
  | .hello h => helloBytes h
  | .topo r => beBytes 8 r.serial ++ beBytes 4 r.seq ++ beBytes 4 r.epoch ++ beBytes 8 r.digest ++ r.links.flatMap topoLinkBytes
  | .route r => beBytes 8 r.serial ++ beBytes 2 r.path ++ beBytes 4 r.epoch ++ beBytes 8 r.digest ++ beBytes 8 r.tc ++
      beBytes 2 r.routes.length ++ r.routes.flatMap (fun x => beBytes 1 x.level ++ beBytes 1 x.index ++ beBytes 1 x.plane ++ beBytes 1 x.root) ++
      beBytes 1 r.tree.length ++ r.tree.flatMap (beBytes 1)
  | .key level serial wrapped => beBytes 1 level ++ beBytes 8 serial ++ beBytes 40 wrapped.toNat
  | .prepare epoch digest act cfg => beBytes 4 epoch ++ beBytes 8 digest ++ beBytes 8 act ++ cfgBytes cfg
  | .prepAck path code => beBytes 2 path ++ beBytes 1 code
  | .commit epoch => beBytes 4 epoch
  | .abort epoch code refuser => beBytes 4 epoch ++ beBytes 1 code ++ beBytes 2 refuser
  | .catchupReq => []
  | .catchup epoch digest cfg => beBytes 4 epoch ++ beBytes 8 digest ++ cfgBytes cfg
  | .sync | .followUp .. | .mka .. => []

/-- TYPE of a control frame (R438); none for 802.1AS and MKA frames (R437). -/
def FabBody.type : FabBody → Option Nat
  | .hello .. => some 1 | .topo .. => some 2 | .route .. => some 3 | .prepare .. => some 4 | .prepAck .. => some 5
  | .commit .. => some 6 | .abort .. => some 7 | .catchupReq => some 8 | .catchup .. => some 9 | .key .. => some 10
  | .sync | .followUp .. | .mka .. => none

/-- The fabric header of a control frame of this device (R438): it goes out at TTL 255 in class SC7, plane 0 (DEDUCED, log 68). -/
def State.ctlHeader (s : State) (type dst : Nat) : FabHeader :=
  ⟨1, type, 255, 7, 0, false, s.fabric.path, dst, 0, 0, s.fabric.epoch⟩

/-! ## MACsec (R472) -/

/-- The SecTAG of a link: EtherType 0x88E5, TCI with SC, E and C set and the association number, SL, packet number, SCI (IEEE 802.1AE;
PRESUMED, log 68). -/
def State.secTag (s : State) (root sak pn len : Nat) : List Byte :=
  [0x88#8, 0xE5#8] ++ beBytes 1 (0x2C + (Config.secAn sak).val) ++ beBytes 1 (if len < 48 then len else 0) ++ beBytes 4 pn ++
    (outerBytes s.serial).drop 6 ++ beBytes 2 root

/-- An encapsulated frame on its link, from the outer destination address to the FCS (R437, R439, R472): the header, a body, and on
a secured link the SecTAG before and the ICV behind them, everything from the EtherType on enciphered. -/
def State.fabWire (s : State) (root : Nat) (h : FabHeader) (body : List Byte) : List Byte :=
  let plain := [0x88#8, 0xB5#8] ++ fabHeaderBytes h ++ body
  let outer := outerBytes s.serial
  let link := tget FabLink.reset s.fabric.links root
  let all := match link.macsec, link.sak with
    | true, some k =>
      let head := outer ++ s.secTag root k link.pn plain.length
      let sci := (outerBytes s.serial).drop 6 ++ beBytes 2 root
      head ++ (List.range (plain.length + 16)).map (Config.gcmByte k link.pn sci head plain)
    | _, _ => outer ++ plain
  all ++ leBytes 4 (crc32 all)

/-- A DATA frame on its link: the body is the carried frame from its destination address to the byte before its FCS (R437). -/
def State.dataWire (s : State) (root : Nat) (h : FabHeader) (f : Frame) : List Byte :=
  s.fabWire root h ((frameBytes f).take (f.len - 4))

/-- A control frame on its link (R437). -/
def State.ctlWire (s : State) (c : FabCtl) : Option (List Byte) := c.head.map (fun h => s.fabWire c.root h c.body.bytes)

/-- An answer to a fabric peer on its link: a PEER frame whose body is the payload of R137 with its TAG (R437, R438). -/
def State.peerWire (s : State) (root dst : Nat) (p : PeerAck) : List Byte :=
  s.fabWire root (s.ctlHeader 11 dst)
    (peerBytes s.fabric.path p.slot 2 p.counter (p.ack :: p.ret) ++ beBytes 16 p.tag.toNat)

/-- The frame bytes of a control frame at its egress root (R439). -/
def State.ctlLen (s : State) (c : FabCtl) : Nat :=
  c.body.bytes.length + 4 + (if (tget FabLink.reset s.fabric.links c.root).macsec then 62 else 30)

/-! ## Names of MKA -/

/-- The ASCII bytes "KYCAK". -/
def cakTag : List Byte := [0x4B#8, 0x59#8, 0x43#8, 0x41#8, 0x4B#8]

/-- The pre-shared CAK (R473, R597). -/
def State.cak (s : State) : BitVec 256 :=
  BitVec.ofNat 256 (ofBe (hmac256 (beBytes 32 s.fabric.fkey.toNat) (cakTag ++ beBytes 4 s.fabric.fid)))

/-- The CKN (R473, R597). -/
def State.ckn (s : State) : List Byte := beBytes 4 s.fabric.fid

/-- The SCI of a secured link: the outer source address followed by the egress root number (R472). -/
def State.sci (s : State) (root : Nat) : List Byte := (outerBytes s.serial).drop 6 ++ beBytes 2 root

end Machine
end Sys2Proof
end

