-- ==== Sys2Proof/Machine/FabricTopo.lean ====
section
/-! DEFINITION. What the fabric engine computes from the topology that it holds (15): groups, leaders, member numbers,
paths, routes in two planes, tree links, digests. -/
namespace Sys2Proof
namespace Machine

/-- The topology held: one record for each serial (R450). -/
abbrev Topo := Table TopoRec

/-- The links that a device's record names. -/
def Topo.recLinks (t : Topo) (u : Nat) : List TopoLink :=
  match tfind t u with
  | some r => r.links
  | none => []

/-- The links of a device that its neighbour's record names as well. -/
def Topo.linksOf (t : Topo) (u : Nat) : List TopoLink :=
  (t.recLinks u).filter (fun l => (t.recLinks l.peer).any (fun x => x.peer == u && x.port == l.peerPort && x.peerPort == l.port))

/-! ## Groups (R444, R452) -/

/-- The devices reached over links whose BOUNDARY is below `lv`. -/
def Topo.reach (t : Topo) (lv : Nat) : Nat → List Nat → List Nat
  | 0, seen => seen
  | k + 1, seen =>
    let new := ((seen.flatMap (fun u => ((t.linksOf u).filter (fun l => decide (l.boundary < lv))).map TopoLink.peer)).eraseDups).filter
      (fun v => !seen.contains v)
    if new.isEmpty then seen else t.reach lv k (seen ++ new)

/-- A number placed in a rising list. -/
def insertNat (x : Nat) : List Nat → List Nat
  | [] => [x]
  | y :: t => if x ≤ y then x :: y :: t else y :: insertNat x t

/-- A list in rising order. -/
def sortNat (l : List Nat) : List Nat := l.foldr insertNat []

/-- The group of level `lv` that holds a device, by rising serial; level 0 is the device alone (R444). -/
def Topo.group (t : Topo) (lv u : Nat) : List Nat := if lv = 0 then [u] else sortNat (t.reach lv t.length [u])

/-- The leader of a group: its lowest serial (R452). -/
def Topo.leader (t : Topo) (lv u : Nat) : Nat := (t.group lv u).headD u

/-- What a group of a level looks like: its devices, and the links inside it that their records name. -/
def Topo.view (t : Topo) (lv u : Nat) : List (Nat × List TopoLink) :=
  (t.group lv u).map (fun v => (v, (t.recLinks v).filter (fun l => decide (l.boundary < lv))))

/-! ## Member numbers and paths (R445 to R447) -/

/-- The trunk link that leaves a device by an end (0 A, 1 B) inside a group. -/
def Topo.endLink (t : Topo) (lv x e : Nat) : Option TopoLink :=
  let all := (t.linksOf x).filter (fun l => decide (l.boundary < lv) && l.port / 2 == 64 + e)
  all.find? (fun l => all.all (fun y => decide (l.port ≤ y.port)))

/-- The walk of R446 step 2: the start device, and the end by which it could not be left. -/
def Topo.walkOut (t : Topo) (lv : Nat) : Nat → Nat → Nat → List Nat → Nat × Nat
  | 0, x, e, _ => (x, e)
  | k + 1, x, e, seen =>
    match t.endLink lv x e with
    | none => (x, e)
    | some l => if seen.contains l.peer then (x, e) else t.walkOut lv k l.peer (1 - (l.peerPort - 128) / 2) (l.peer :: seen)

/-- The devices of a trunk chain from `x`, leaving by end `e` (R446 step 3). -/
def Topo.chain (t : Topo) (lv : Nat) : Nat → Nat → Nat → List Nat → List Nat
  | 0, _, _, seen => seen
  | k + 1, x, e, seen =>
    match t.endLink lv x e with
    | none => seen
    | some l => if seen.contains l.peer then seen else t.chain lv k l.peer (1 - (l.peerPort - 128) / 2) (seen ++ [l.peer])

/-- The members of the group of level `lv` that holds `u`, in the order of their numbers; each is the list of its devices
(R446). -/
def Topo.members (t : Topo) (lv u : Nat) : List (List Nat) :=
  let g := t.group lv u
  let start := t.walkOut lv g.length (g.headD u) 0 [g.headD u]
  let order := t.chain lv g.length start.1 (1 - start.2) [start.1]
  ((order ++ g).map (t.group (lv - 1))).eraseDups

/-- A device's member number at a level, from 1. -/
def Topo.index (t : Topo) (lv u : Nat) : Nat := (t.members lv u).findIdx (fun m => m.contains u) + 1

/-- A device's path; 0 when some group excludes it (R445, R447). -/
def Topo.path (t : Topo) (u : Nat) : Nat :=
  let ix := [1, 2, 3, 4].map (fun lv => t.index lv u)
  if ix.all (fun i => decide (i ≤ 15)) then pack (ix.map (fun i => (4, i))) else 0

/-- The lowest level at which a group excludes a device; 0 when none does (R447). -/
def Topo.exclLevel (t : Topo) (u : Nat) : Nat := ([1, 2, 3, 4].find? (fun lv => decide (15 < t.index lv u))).getD 0

/-- The devices that no group excludes: only they carry more than HELLO and TOPO frames (R447). -/
def Topo.carriers (t : Topo) (devs : List Nat) : List Nat := devs.filter (fun u => t.path u != 0)

/-! ## Routes (R451, R453, R455) -/

/-- Least costs to a set of devices after one more hop. -/
def Topo.relax (t : Topo) (devs : List Nat) (cost : Nat → TopoLink → Nat) (goal : List Nat) (d : Table Nat) : Table Nat :=
  devs.filterMap (fun u =>
    if goal.contains u then some (u, 0)
    else match (t.linksOf u).filterMap (fun l => (tfind d l.peer).map (fun n => n + cost u l)) with
      | [] => none
      | c :: cs => some (u, cs.foldl Nat.min c))

/-- Least costs to a set of devices. -/
def Topo.dist (t : Topo) (devs : List Nat) (cost : Nat → TopoLink → Nat) (goal : List Nat) : Nat → Table Nat
  | 0 => []
  | k + 1 => t.relax devs cost goal (t.dist devs cost goal k)

/-- A candidate for the next hop goes before another: lower cost, then lower serial of the neighbour, then lower PORT. -/
def hopBefore (a b : Nat × TopoLink) : Bool :=
  decide (a.1 < b.1) || (a.1 == b.1 && (decide (a.2.peer < b.2.peer) || (a.2.peer == b.2.peer && decide (a.2.port ≤ b.2.port))))

/-- The link by which a device goes towards a set of devices at least cost (R453). -/
def Topo.hop (t : Topo) (devs : List Nat) (cost : Nat → TopoLink → Nat) (goal : List Nat) (u : Nat) : Option TopoLink :=
  let d := t.dist devs cost goal (devs.length + 1)
  let all := (t.linksOf u).filterMap (fun l => (tfind d l.peer).map (fun n => (n + cost u l, l)))
  if goal.contains u then none
  else (all.find? (fun x => all.all (fun y => hopBefore x y))).map Prod.snd

/-- The links of a least-cost path from a device to a set, each as device and PORT, both ends of a link named. -/
def Topo.walk (t : Topo) (devs : List Nat) (cost : Nat → TopoLink → Nat) (goal : List Nat) : Nat → Nat → List (Nat × Nat)
  | 0, _ => []
  | k + 1, u =>
    match t.hop devs cost goal u with
    | none => []
    | some l => (u, l.port) :: (l.peer, l.peerPort) :: t.walk devs cost goal k l.peer

/-- The cost of a link in plane 0. -/
def planeCost (_ : Nat) (l : TopoLink) : Nat := l.h

/-- The cost of a link in plane 1 for a pair whose plane-0 path uses the links given. -/
def costAround (used : List (Nat × Nat)) (u : Nat) (l : TopoLink) : Nat := if used.contains (u, l.port) then 16 * l.h else l.h

/-- The cost function of a plane for the pair of a device and a set. -/
def Topo.costOf (t : Topo) (devs : List Nat) (goal : List Nat) (u plane : Nat) : Nat → TopoLink → Nat :=
  if plane = 0 then planeCost else costAround (t.walk devs planeCost goal (devs.length + 1) u)

/-- The local link of a device towards a set in a plane (R453). -/
def Topo.route (t : Topo) (devs : List Nat) (goal : List Nat) (u plane : Nat) : Option Nat :=
  (t.hop devs (t.costOf devs goal u plane) goal u).map TopoLink.port

/-- A device's route table: for every level, every other member and both planes, one local link; no route goes by way of an excluded
device (R453, R447). -/
def Topo.table (t : Topo) (devs : List Nat) (u : Nat) : List Route :=
  [1, 2, 3, 4].flatMap (fun lv =>
    let ms := t.members lv u
    (List.range (Nat.min 15 ms.length)).flatMap (fun i =>
      let goal := ms.getD i []
      if goal.contains u then []
      else [0, 1].filterMap (fun p => (t.route (t.carriers devs) goal u p).map (fun r => ⟨lv, i + 1, p, r⟩))))

/-- The plane-0 link of a device towards the top leader. -/
def Topo.up (t : Topo) (devs : List Nat) (top u : Nat) : Option TopoLink := t.hop (t.carriers devs) planeCost [top] u

/-- The tree links of a device (R455). -/
def Topo.tree (t : Topo) (devs : List Nat) (top u : Nat) : List Nat :=
  ((t.up devs top u).map TopoLink.port).toList ++
    ((t.linksOf u).filter (fun l => match t.up devs top l.peer with
      | some k => k.peer == u && k.port == l.peerPort
      | none => false)).map TopoLink.port

/-- D of R451. -/
def Topo.diameter (t : Topo) (devs : List Nat) : Nat :=
  (devs.map (fun v => ((t.dist devs planeCost [v] (devs.length + 1)).map Prod.snd).foldl Nat.max 0)).foldl Nat.max 0

/-- The largest distance from a device to any other (R466). -/
def Topo.radius (t : Topo) (devs : List Nat) (u : Nat) : Nat :=
  ((t.dist devs planeCost [u] (devs.length + 1)).map Prod.snd).foldl Nat.max 0

/-! ## Digests (R463 to R465) -/

/-- The first 8 bytes of a SHA-256, the first one in bits [63:56]. -/
def first8 (l : List Byte) : Nat := ofBe ((sha256 l).take 8)

/-- The digest of a fabric configuration, words most significant byte first (R463; log 18). -/
def cfgDigest (c : FabConfig) : Nat :=
  first8 (cfgBytes c)

/-- The epoch and digest that a device's record carries. -/
def Topo.valuesOf (t : Topo) (u : Nat) : Nat × Nat :=
  match tfind t u with
  | some r => (r.epoch, r.digest)
  | none => (0, 0)

/-- The fabric's epoch and digest: those of the highest epoch, and among equals of the lowest serial (R464). -/
def Topo.values (t : Topo) (devs : List Nat) : Nat × Nat :=
  devs.foldr (fun u best => if best.1 ≤ (t.valuesOf u).1 then t.valuesOf u else best) (0, 0)

/-- The digest of the group of level `lv` that holds `u`; at level 0 the device's own (R465). -/
def Topo.groupDigest (t : Topo) : Nat → Nat → Nat
  | 0, u => (t.valuesOf u).2
  | lv + 1, u => first8 ((t.members (lv + 1) u).flatMap (fun m => beBytes 8 (t.groupDigest lv (m.headD 0))))

/-- The digest that a leader expects of a member of its group of level `lv` (R465). -/
def Topo.expected (t : Topo) (lv leader member : Nat) : Nat :=
  if lv ≤ 1 then (t.valuesOf leader).2
  else first8 ((t.members (lv - 1) member).flatMap (fun _ => beBytes 8 (t.valuesOf leader).2))

end Machine
end Sys2Proof
end

