-- ==== Sys2Proof/Machine/TrunkRx.lean ====
section
/-! DEFINITION. What a trunk receives (09, 10): preambles, bursts, TLUs and control records, and the stages of training
that they advance. -/
namespace Sys2Proof
namespace Machine

/-! ## Stages (R301 to R306) -/

/-- One-way delay above 3.6 us in 1/64 sample: 3.6 us x 400 MS/s x 64 (R296). -/
def longDelay : Nat := 92160

/-- The lead's tick counter at the own tick `now`, as a follower knows it from the lead's ID record; while both ends are locked to
fabric time the counters agree (R295, R309). -/
def State.leadTick (s : State) (tr now : Nat) : Nat :=
  let t := s.trunk tr
  if t.follower && !(s.fabric.locked && t.peerLocked) then ((now : Int) + t.peerOfs).toNat else now

/-- The frame number of the lead's tick counter (R295). -/
def State.leadFrame (s : State) (tr now : Nat) : Nat := s.leadTick tr now / 8

/-- The frames of this end from now on before its next fill unit begins (R271, R272). -/
def Trunk.unitAhead (t : Trunk) : Nat :=
  if t.cls = 0 then 0
  else ceilDiv ((classRep t.cls - t.txPos % classRep t.cls) % classRep t.cls) (Nat.max 1 (t.slots - 1))

/-- The frame that a REFLECT record names for slots that begin after edge `start`: its unit has gone out by then (R309, R324). -/
def State.reflectAt (s : State) (tr start : Nat) : Nat :=
  let t := s.trunk tr
  s.leadFrame tr start + 1 + t.unitAhead + symbolPeriod t.cls (t.slots - 1) / 8

/-- HANDSHAKE begins (R301, R303). -/
def State.trunkHandshake (s : State) (tr : Nat) (follower : Bool) : State :=
  (s.modTrunk tr (fun t =>
    { t with stage := 1, stageStart := s.now, follower := follower, cls := 3, txPos := 0, idRx := false, idAcked := false
             txq := [], rxSync := false, rxGot := [], rxPos := 0, copies := 0, combine := false })).trunkSt tr .training

/-- The slower of two class choices: the link class (R306). -/
def linkClass (own peer : Nat) : Nat := Nat.max own peer

/-- SOUND: once the own 32 training pairs are sent and the partner's have been measured, the class is chosen and its
CLASS record waits; NO_CLASS ends the attempt (R305). -/
def State.trunkChoose (s : State) (tr : Nat) : State :=
  let t := s.trunk tr
  match t.segSnr with
  | none => s
  | some snr =>
    if t.stage = 2 ∧ 32 ≤ t.soundTx ∧ !t.classTx ∧ !t.ctl.any (fun r => match r with | .cls _ => true | _ => false) then
      match classPick t.sig snr 0 t.cfg.fast t.cfg.slow with
      | none => s.trunkFail tr 5
      | some c => s.modTrunk tr (fun t => { t with choice := c, ctl := t.ctl ++ [.cls c] })
    else s

/-- For a link in class F each end sends the loading for its partner (R274, R275, R301). -/
def State.trunkFirstLoad (s : State) (tr : Nat) : State :=
  let t := s.trunk tr
  match t.segSnr, t.peerChoice with
  | some snr, some 0 =>
    if t.stage = 2 ∧ t.classTx ∧ t.choice = 0 ∧ t.rxSent = 0 then
      let load := firstLoad t.sig snr 0
      s.modTrunk tr (fun t => { t with rxLoad := load, rxSent := 1, sentLoad := load, ctl := t.ctl ++ [.load 1 load] })
    else s
  | _, _ => s

/-- CLASS, and LOAD when the class is F, have gone both ways (R301). -/
def Trunk.soundDone (t : Trunk) : Bool :=
  t.classTx && (match t.peerChoice with
    | some p => linkClass t.choice p != 0 ||
        (t.rxSent != 0 && !t.ctl.any (fun r => match r with | .load _ _ => true | _ => false) &&
          (t.loadWait.isSome || t.txSet != 0))
    | none => false)

/-- The link comes up; the periodic work of a trunk in UP starts (R274, R306, R311). -/
def State.trunkUp (s : State) (tr : Nat) : State :=
  ((s.modTrunk tr (fun t =>
    { t with upTick := s.now, loadDue := s.now + 400, evalDue := s.now + 4000, soundDue := s.now + 4000
             missFrames := 0, abandonFrames := 0 })).trunkSt tr .up).runDue 2

/-- The stage of a training trunk moves on when its condition is met (R301). -/
def State.trunkAdvance (s : State) (tr : Nat) : State :=
  let s := (s.trunkChoose tr).trunkFirstLoad tr
  let t := s.trunk tr
  if t.state == .training then
    if t.stage = 1 ∧ t.idRx ∧ t.idAcked then
      s.modTrunk tr (fun t => { t with stage := 2, stageStart := s.now, soundTx := 0, classTx := false, segSnr := none })
    else if t.stage = 2 ∧ t.soundDone then s.modTrunk tr (fun t => { t with stage := 3, stageStart := s.now })
    else if t.stage = 4 ∧ t.startRx ∧ t.startTx then s.trunkUp tr
    else s
  else s

/-! ## Preambles (R281 to R286, R303) -/

/-- The receiver searches: engines work and the domain is on. -/
def State.trunkSearch (s : State) (tr : Nat) : Bool := decide (tr < 4) && s.powered (128 + tr)

/-- The trunk takes bursts: it is in the path and seeking, training or up. -/
def State.trunkTakesBursts (s : State) (tr : Nat) : Bool :=
  let t := s.trunk tr
  s.inPath && (t.state == .seek || t.state == .training || t.state == .up)

/-- The class of the preamble that is taken: the link's own, or the one of lowest sweep rate (R283). -/
def takenClass (own : Nat) (l : List Nat) : Option Nat :=
  if l.contains own then some own
  else match l with
    | [] => none
    | _ :: _ => some (l.foldl Nat.max 0)

/-- AGC_FROZEN. -/
def Trunk.frozen (t : Trunk) (now : Nat) : Bool :=
  match t.agcUntil with
  | some e => decide (now < e)
  | none => false

/-- In loose mode, a preamble declared now comes one slot late, as the burst before tells: that of a shortened burst, whose slot 0
was its guard slot (R292). -/
def Trunk.late (t : Trunk) (now : Nat) : Bool :=
  !t.aligned && decide (now < t.burstTick + 64) && (now + b2n t.lateRx - t.burstTick) % 8 == 1

/-- The edge at which the partner's burst ends whose preamble is declared now, as the TDD frame tells: a preamble one slot late is
that of a shortened burst (R284, R292). In loose mode the frame is known from the burst before. -/
def Trunk.peerEnd (t : Trunk) (now : Nat) : Nat :=
  if t.aligned then
    let start := burstStart t.long (!t.follower) t.split
    if start ≤ now % 8 ∧ now % 8 < start + t.peerSlots then now / 8 * 8 + start + t.peerSlots else now + t.peerSlots
  else if t.late now then now + t.peerSlots - 1
  else now + t.peerSlots

/-- The edge at which the burst of a preamble declared now ends (R284, R301). -/
def Trunk.burstEnd (t : Trunk) (now : Nat) (p : Preamble) : Nat := if p.probe then now + 1 else t.peerEnd now

/-- The gain, 0 to 60 dB, freezes at the first chirp of a preamble of any class; a gain already frozen stays as it is (R284). -/
def Trunk.freeze (t : Trunk) (now : Nat) (p : Preamble) : Trunk :=
  if t.frozen now then t
  else { t with agcGain := Nat.min 120 p.gain, agcUntil := some (t.burstEnd now p) }

/-- The gain freezes at a chirp that finds no partner chirp, up to edge t + 2 (R285); the gain at which it freezes is a free value
(log 86). A gain already frozen stays as it is. -/
def Trunk.halfFreeze (t : Trunk) (tr now : Nat) : Trunk :=
  if t.frozen now then { t with agcUntil := t.agcUntil.map (Nat.max (now + 2)) }
  else { t with agcGain := (Config.agcGain tr now).val, agcUntil := some (now + 2) }

/-- The symbols clipped in a frozen period that belongs to no demodulated burst, one at most for each of its slots (R284; log 86). -/
def Trunk.clipAlone (t : Trunk) (tr now : Nat) : Trunk :=
  { t with sigTick := { t.sigTick with
      agcClip := t.sigTick.agcClip + Nat.min (Config.agcClips tr now) (t.agcUntil.getD now - now) } }

/-! ## Copies of a unique symbol (R272) -/

/-- `d` data slots of the partner have passed, with copies received in them or not. A unique symbol that ends in slots without
copies is decoded from the copies that came before. -/
def Trunk.passSlots (t : Trunk) (d : Nat) (got : Bool) : Trunk :=
  let r := classRep t.cls
  let pos := t.rxPos + d
  if t.cls = 0 then t
  else if t.rxPos / r = pos / r then { t with rxPos := pos, copies := t.copies + (if got then d else 0) }
  else { t with rxPos := pos, copies := if got then pos % r else 0
                combine := t.combine || (!got && t.copies != 0) }

/-- FOREIGN_PREAMBLE counts per class (R283). -/
def foreignAdd (l cs : List Nat) : List Nat := (List.range 4).map (fun c => l.getD c 0 + b2n (cs.contains c))

/-- Preambles of the classes `cs` are declared and not taken (R283). -/
def State.trunkForeign (s : State) (tr : Nat) (cs : List Nat) : State :=
  s.trunkCount tr (fun c => { c with foreign := foreignAdd c.foreign cs })

/-- A preamble is taken: the gain stays frozen to the end of its burst, and the burst goes on with the tracking carried over from the
partner's previous burst while that lies within the last 64 ticks (R283, R284, R289). -/
def State.trunkTake (s : State) (tr cls : Nat) (p : Preamble) : State :=
  let s := s.modTrunk tr (fun t =>
    { t with classRx := cls, delayRx := p.delay, burstTick := s.now, taken := true, missFrames := 0
             lateRx := !p.probe && t.late s.now, agcUntil := some (t.burstEnd s.now p)
             carried := t.trackTick.any (fun k => decide (s.now ≤ k + 64))
             startRx := t.startRx || (t.stage == 4 && cls == t.cls)
             sigTick := { t.sigTick with burstsRx := t.sigTick.burstsRx + 1
                                         foreign := foreignAdd t.sigTick.foreign (p.classes.filter (· != cls)) } })
  let t := s.trunk tr
  if t.state == .seek && cls == 3 then s.trunkHandshake tr p.probe else s.trunkAdvance tr

/-- A preamble has been taken whose burst has not ended (R283, R284). -/
def Trunk.holds (t : Trunk) (now : Nat) : Bool := t.taken && t.frozen now

/-- The receiver is demodulating a burst whose preamble it has taken in an earlier tick (R283). -/
def Trunk.receiving (t : Trunk) (now : Nat) : Bool := t.holds now && decide (t.burstTick < now)

/-- PREAMBLE_DETECT: a preamble of some class is declared while the receiver is not blanked; it freezes the gain, and is rejected
for its offset, taken, or counted as foreign (R262, R281 to R284, R303). DEDUCED: a rejected pair is no declared preamble (log 86). -/
def execPreambleDetect (tr : Nat) (p : Preamble) (s : State) : Res :=
  if s.trunkSearch tr && !p.classes.isEmpty && p.classes.all (fun c => decide (c < 4)) &&
      !(s.trunk tr).blankedAt s.now p.delay then
    let busy := p.inBurst || (s.trunk tr).receiving s.now
    let alone := fun (u : State) => if (s.trunk tr).frozen s.now then u else u.modTrunk tr (fun t => t.clipAlone tr s.now)
    let s := s.modTrunk tr (fun t => t.freeze s.now p)
    if p.offset < -25000 ∨ 25000 < p.offset then
      .next (alone (s.trunkCount tr (fun c => { c with ofsReject := c.ofsReject + 1 })))
    else
      let s := s.modTrunk tr (fun t => { t with preTick := some s.now })
      if busy || !s.trunkTakesBursts tr then .next (alone (s.trunkForeign tr p.classes))
      else match takenClass (s.trunk tr).cls p.classes with
        | some c => .next (s.trunkTake tr c p)
        | none => .next (alone (s.trunkForeign tr p.classes))
  else .next s

/-- The TDD frame leads the receiver to expect the partner's preamble slot in tick `now`, and neither a preamble nor a
half-preamble nor a miss belongs to it yet (R286, R296). In loose mode, where the partner's slots are known from its
bursts only, one burst is expected in each frame, which a shortened burst may enter one slot late (R292). -/
def Trunk.expects (t : Trunk) (now : Nat) : Bool :=
  let room := if t.aligned then 1 else 7
  let near := fun (k : Option Nat) => k.any (fun k => decide (now < k + room))
  (!t.aligned || now % 8 == burstStart t.long (!t.follower) t.split) &&
    !(near (some t.burstTick) || near t.halfTick || near t.missTick)

/-- HALF_PREAMBLE: counted; the gain frozen at the detection is released at edge t + 2 and no slot of its burst is demodulated
(R285). A blanked receiver detects none (R262). DEDUCED: beside a preamble that has been taken its burst goes on (log 86). -/
def execHalfPreamble (tr : Nat) (s : State) : Res :=
  let t := s.trunk tr
  if s.trunkSearch tr && !t.blankedTick s.now then
    let s := s.trunkCount tr (fun c => { c with half := c.half + 1 })
    if t.holds s.now then .next s
    else .next (s.modTrunk tr (fun t =>
      let u := if t.expects s.now then t.passSlots (t.peerSlots - 1) false else t
      let v := u.halfFreeze tr s.now
      { (if u.frozen s.now then v else v.clipAlone tr s.now) with taken := false, missFrames := 0, halfTick := some s.now }))
  else .next s

/-- MISSED_BURST: an expected burst gave neither a preamble nor a half-preamble (R286, R314). -/
def execMissedBurst (tr : Nat) (s : State) : Res :=
  let t := s.trunk tr
  if s.trunkSearch tr && s.inPath && (t.state == .up || (t.state == .training && decide (1 ≤ t.stage))) &&
      t.expects s.now then
    .next (s.modTrunk tr (fun t =>
      { (t.passSlots (t.peerSlots - 1) false) with
               missFrames := t.missFrames + 1, missTick := some s.now
               sigTick := { t.sigTick with missed := t.sigTick.missed + 1 } }))
  else .next s

/-! ## Control records (R309) -/

/-- The distance from SEQ `a` forward to SEQ `b`. -/
def seqDist (a b : Nat) : Nat := (b + 4096 - a % 4096) % 4096

/-- STATUS: covered TLUs are acknowledged or have failed; an acknowledged one of the link class tells that the partner has taken a
burst in it (R301, R312). -/
def Trunk.status (t : Trunk) (base : Nat) (map : List Bool) : Trunk :=
  let good := fun (x : TxTlu) => map.getD (seqDist base x.tlu.seq) false
  let covered := fun (x : TxTlu) => decide (seqDist base x.tlu.seq < map.length)
  { t with txq := (t.txq.filter (fun x => !good x)).map (fun x => if covered x then { x with failed := true } else x)
           startTx := t.startTx || (t.stage == 4 && t.txq.any (fun x =>
             good x && decide (seqDist t.startSeq x.tlu.seq < 2048)))
           idAcked := t.idAcked || t.txq.any (fun x =>
             good x && x.tlu.records.any (fun r => match r with | .ident _ _ _ _ _ => true | _ => false)) }

/-- The tick in which the burst of the partner began that held the first copy of the unit received last: TICK of an ID record is the
sender's counter at that burst, and the copies of a unit are alike (R272, R309). -/
def Trunk.unitTick (t : Trunk) : Nat :=
  Nat.max t.burstTick (Nat.max (t.missTick.getD 0) (t.halfTick.getD 0)) - (symbolPeriod t.cls (t.peerSlots - 1) - 8)

/-- ID: the partner's serial, tick offset and role; the lead computes the delay (R295, R299, R303). -/
def State.trunkIdent (s : State) (tr rt : Nat) (serial tick turn : Nat) (follower : Bool) : State :=
  let t := s.trunk tr
  let lead := t.stage = 1 ∧ !t.follower
  let s := s.modTrunk tr (fun t =>
    { t with peerSerial := serial, idRx := true, peerOfs := (tick : Int) - (t.unitTick : Int)
             delay := if lead then (rt - turn) / 2 else t.delay
             long := if lead then decide (longDelay < (rt - turn) / 2) else t.long })
  if t.stage = 1 ∧ t.follower = follower then
    if s.fuses.serial < serial then s.modTrunk tr (fun t => { t with follower := false })
    else s.trunkHandshake tr true
  else s

/-- Frame `b` is later than frame `a`, in their low 32 bits (R298, R309). -/
def laterFrame (a b : Nat) : Bool := decide ((b + 2 ^ 32 - a % 2 ^ 32) % 2 ^ 32 ≠ 0) && decide ((b + 2 ^ 32 - a % 2 ^ 32) % 2 ^ 32 < 2 ^ 31)

/-- A loading is sent to the partner under the set after the one in use (R275). -/
def Trunk.sendLoad (t : Trunk) (load : List Nat) : Trunk :=
  { t with rxLoad := load, rxSent := nextSet t.useSet, sentLoad := load, ctl := t.ctl ++ [.load (nextSet t.useSet) load] }

/-- The partner's class choice; a link that becomes one of class F needs a loading that the partner has not been sent (R275, R306;
log 86). -/
def Trunk.peerChose (t : Trunk) (c : Nat) : Trunk :=
  let t := { t with peerChoice := some c }
  match t.segSnr with
  | some snr => if t.state == .up && c == 0 && t.choice == 0 && t.rxSent == 0 then t.sendLoad (firstLoad t.sig snr 0) else t
  | none => t

/-- A control record of a good TLU acts (R309). -/
def State.trunkRecord (s : State) (tr rt : Nat) : TrunkRecord → State
  | .status base map => s.modTrunk tr (fun t => t.status base map)
  | .ident serial tick turn _ follower =>
    if (s.trunk tr).state == .training then s.trunkIdent tr rt serial tick turn follower else s
  | .load set codes => s.modTrunk tr (fun t => { t with loadWait := some (set, codes, s.now) })
  | .cls c => s.modTrunk tr (fun t => t.peerChose (c % 4))
  | .frame at_ split aligned long c => s.modTrunk tr (fun t =>
      if t.follower then
        match t.ann with
        | some a => if laterFrame a.at_ at_ then { t with ann := some ⟨at_, split, aligned, long, c⟩ } else t
        | none => { t with ann := some ⟨at_, split, aligned, long, c⟩ }
      else t)
  | .time locked => s.modTrunk tr (fun t => { t with peerLocked := locked })
  | .sound => s.modTrunk tr (fun t => { t with soundReq := true })
  | .reflect _ => s

/-! ## DATA in SEQ order (R313) -/

/-- The frames that end in a TLU, each with the result of its FCS check (R22). -/
def tluChecked (x : Tlu) : List (Frame × Bool) :=
  (List.zip (List.range x.frames.length) x.frames).map (fun p => (p.2, !bit x.bad p.1))

/-- The frames that a DATA TLU delivers, and whether a START is still awaited after a gap (R313). -/
def deliverTlu (skip : Bool) (x : Tlu) : List (Frame × Bool) × Bool :=
  if x.kind ≠ 1 then ([], skip)
  else if skip then
    if x.start ≠ 0xFFFF then ((if x.carry then (tluChecked x).drop 1 else (tluChecked x)), false) else ([], true)
  else ((tluChecked x), false)

/-- A frame for a port that checks it on its own is passed on, or discarded and counted once (R22). DESIGN CHOICE: R294 and R352 name
no counter for a bad FCS or a length out of range on a trunk or a lane group; a counter of the model's own counts it (log 84). -/
def State.trunkArrival (s : State) (tr : Nat) (fcsOk : Bool) (f : Frame) : State :=
  if fcsOk && f.fits then s.arrive (128 + tr) f else s.modTrunk tr (fun t => { t with badFrames := t.badFrames + 1 })

/-- The tick since which a missing SEQ is waited for: that of the first TLU received beyond it (R313). -/
def Trunk.gapSince (t : Trunk) : Option Nat :=
  (t.rxGot.map Prod.fst).foldl (fun m k => match m with
    | some x => some (Nat.min x k)
    | none => some k) none

/-- The TLU whose turn it is, and those received beyond it, are delivered. -/
def State.trunkDrain (s : State) (tr : Nat) : Nat → State
  | 0 => s
  | k + 1 =>
    let t := s.trunk tr
    match t.rxGot.find? (fun x => x.2.seq == t.rxExpect) with
    | none => s
    | some (_, x) =>
      let d := deliverTlu t.rxSkip x
      let s := s.modTrunk tr (fun t =>
        { t with rxExpect := (t.rxExpect + 1) % 4096, rxSkip := d.2, rxGot := t.rxGot.filter (fun y => y.2.seq != x.seq) })
      (d.1.foldl (fun s f => s.trunkArrival tr f.2 f.1) s).trunkDrain tr k

/-- A good TLU is received: a repeat is dropped; otherwise the records of a CONTROL TLU act at once and the TLU takes its place in
SEQ order (R308, R309, R313). -/
def State.trunkTlu (s : State) (tr rt : Nat) (x : Tlu) : State :=
  let s := s.modTrunk tr (fun t => if t.rxSync then t else { t with rxSync := true, rxExpect := x.seq })
  let t := s.trunk tr
  if 2048 ≤ seqDist t.rxExpect x.seq ∨ t.rxGot.any (fun y => y.2.seq == x.seq) then s
  else
    let s := (s.modTrunk tr (fun t => { t with rxGot := t.rxGot ++ [(s.now, x)] })).trunkDrain tr (t.rxGot.length + 2)
    (if x.kind = 2 then x.records else []).foldl (fun s r => s.trunkRecord tr rt r) s

/-- The loading set of a burst may be decoded: the set in use, or the last one sent (R277). -/
def Trunk.setKnown (t : Trunk) (set : Nat) : Bool := t.cls != 0 || set == t.useSet || set == t.rxSent

/-- A burst that was taken has been received: its figures, its copies, and the set in use for reception, which is the set last sent
once a burst has shown it (R277, R279, R284, R288, R289). -/
def Trunk.burstRx (t : Trunk) (now : Nat) (b : Burst) : Trunk :=
  let known := t.setKnown b.set
  let shown := t.cls == 0 && b.set == t.rxSent && b.set != 0
  { (t.passSlots (b.slots - 1) true) with
    taken := false, freqOfs := some b.freq, snrAvg := b.snrAvg, rxSet := if known then b.set else t.rxSet
    useSet := if shown then t.rxSent else t.useSet, useLoad := if shown then t.sentLoad else t.useLoad
    trackTick := some now, segSnr := if b.sound then some b.segSnr else t.segSnr
    sigTick := { t.sigTick with agcClip := t.sigTick.agcClip + Nat.min b.clipped t.peerSlots } }

/-- The codewords that a fill unit gave (R270, R310). -/
def Trunk.unitRx (t : Trunk) (tlus : List Tlu) : Trunk :=
  { t with
    combine := t.combine && t.taken
    statusFor := if t.cls != 0 && tlus.isEmpty then t.statusFor else tlus.map (fun x => (x.seq, x.good))
    sigTick := { t.sigTick with
      cwRx := t.sigTick.cwRx + tlus.length, cwFail := t.sigTick.cwFail + (tlus.filter (fun x => !x.good)).length } }

/-- TRUNK_BURST_RX: a taken burst is demodulated and its TLUs are handed to the link layer: in class F those of the burst, in the L
classes those of the unique symbols whose last copy lies in it, if any. In an L class it also brings the unique symbol whose last
copies came in a burst that was not taken: it is decoded from the copies that arrived (R270, R272, R277, R279, R288, R289, R309,
R313). -/
def execTrunkBurstRx (tr : Nat) (b : Burst) (s : State) : Res :=
  let t := s.trunk tr
  if s.trunkSearch tr && s.trunkTakesBursts tr && (t.taken || t.combine) then
    let tlus := if t.setKnown b.set then b.tlus else b.tlus.map (fun x => { x with good := false })
    let s := s.modTrunk tr (fun t => (if t.taken then t.burstRx s.now b else { t with combine := false }).unitRx tlus)
    let s := (tlus.filter (fun x => x.good)).foldl (fun s x => s.trunkTlu tr b.rt x) s
    .next (s.trunkAdvance tr)
  else .next s

/-- The wait limit for a missing SEQ: 3 frames, or 3 unique-symbol periods (R313). -/
def Trunk.gapLimit (t : Trunk) : Nat := if t.cls = 0 then 24 else 3 * symbolPeriod t.cls (t.peerSlots - 1)

/-- The received SEQ that comes next after a missing one. -/
def Trunk.afterGap (t : Trunk) : Option Nat :=
  (t.rxGot.map (fun x => seqDist t.rxExpect x.2.seq)).foldl (fun m d => match m with
    | some k => some (Nat.min k d)
    | none => some d) none

/-- TLU_GAP_TIMEOUT: a missing SEQ is given up; the frame that spans the gap is lost, and delivery goes on at the next
TLU with a START (R313). -/
def execTluGapTimeout (tr : Nat) (s : State) : Res :=
  let t := s.trunk tr
  match t.gapSince, t.afterGap with
  | some since, some d =>
    if s.trunkSearch tr && decide (since + t.gapLimit ≤ s.now) then
      .next ((s.modTrunk tr (fun t =>
        { t with rxExpect := (t.rxExpect + d) % 4096, rxSkip := true
                 frameLost := sat32 (t.frameLost + b2n (!t.rxSkip)) })).trunkDrain tr (t.rxGot.length + 1))
    else .next s
  | _, _ => .next s

/-! ## Announcements, timeouts, drops (R298, R304, R314) -/

/-- The timeout of a stage in ticks, and the failure it gives (R301). -/
def stageLimit (stage : Nat) : Nat × Nat :=
  match stage with
  | 0 => (4000, 1)
  | 1 => (4800, 2)
  | 2 => (3200, 3)
  | _ => (4000, 4)

/-- TRUNK_TRAINING_TIMEOUT: a stage has run out of time (R301, R304). -/
def execTrunkTrainingTimeout (tr : Nat) (s : State) : Res :=
  let t := s.trunk tr
  let lim := stageLimit t.stage
  if s.trunkSearch tr && (t.state == .seek || t.state == .training) && decide (t.stageStart + lim.1 ≤ s.now) then
    .next (s.trunkFail tr lim.2)
  else .next s

/-- Why a trunk in UP drops its link: 6 PARTNER_LOST, 7 RETX_EXHAUSTED (R314). -/
def Trunk.dropCause (t : Trunk) : Option Nat :=
  if t.state == .up then
    if 40 ≤ t.missFrames then some 6 else if 10 ≤ t.abandonFrames then some 7 else none
  else none

/-- TRUNK_LINK_DROP: the link is dropped at the next edge (R314). -/
def execTrunkLinkDrop (tr : Nat) (s : State) : Res :=
  if s.trunkSearch tr && (s.trunk tr).dropCause.isSome then .next (s.atEdge (.trunkDrop tr)) else .next s

/-- At that edge the trunk starts a new attempt, its main link's TLUs going to the standby link (R314, R316). -/
def State.trunkDropNow (s : State) (tr : Nat) : State :=
  match (s.trunk tr).dropCause with
  | some c => s.trunkLost tr c
  | none => s

/-! ## Loading and class (R274, R306, R311) -/

/-- LOADING_COMPUTE: every 400 ticks a class F receiver computes its loading again, from the one in use (R274, R275). -/
def execLoadingCompute (tr : Nat) (snr : List Int) (s : State) : Res :=
  let t := s.trunk tr
  if s.trunkSearch tr && t.state == .up && t.cls == 0 && decide (t.loadDue ≤ s.now) then
    let load := nextLoad t.sig snr t.useLoad
    let s := s.modTrunk tr (fun t => { t with rxLoad := load, loadDue := s.now + 400 })
    if load = t.useLoad then .next s else .next (s.modTrunk tr (fun t => t.sendLoad load))
  else .next s

/-- A class choice is announced; with the choice F goes the loading that the partner then transmits with (R274, R275, R306).
DEDUCED: outside SOUND as in it, since class F needs a loading (log 86). -/
def Trunk.announce (t : Trunk) (snr : List Int) (c : Nat) : Trunk :=
  let t := { t with choice := c, qualify := [], ctl := t.ctl ++ [.cls c] }
  if c = 0 then t.sendLoad (firstLoad t.sig snr 0) else t

/-- A faster choice: the fastest class that has qualified with 1.0 dB to spare in 10 consecutive evaluations (R306). -/
def Trunk.faster (t : Trunk) (snr : List Int) : Trunk :=
  let runs := (List.range 4).map (fun c =>
    if t.cfg.fast ≤ c ∧ c ≤ t.cfg.slow ∧ c < t.choice ∧ classFits t.sig snr 10 c then t.qualify.getD c 0 + 1 else 0)
  match (List.range 4).find? (fun c => decide (10 ≤ runs.getD c 0)) with
  | some c => t.announce snr c
  | none => { t with qualify := runs }

/-- One evaluation of the own class (R306): a slower choice is announced at once. Where no class qualifies, the slowest
allowed one is kept (log 13). -/
def Trunk.evaluate (t : Trunk) (snr : List Int) : Trunk :=
  let now := (classPick t.sig snr 0 t.cfg.fast t.cfg.slow).getD t.cfg.slow
  if t.choice < now then t.announce snr now else t.faster snr

/-- CLASS_EVALUATION: every 4,000 ticks (R306). -/
def execClassEvaluation (tr : Nat) (s : State) : Res :=
  let t := s.trunk tr
  if s.trunkSearch tr && t.state == .up && decide (t.evalDue ≤ s.now) then
    .next (s.modTrunk tr (fun t => match t.segSnr with
      | some snr => { t.evaluate snr with evalDue := s.now + 4000 }
      | none => { t with evalDue := s.now + 4000 }))
  else .next s

/-- SOUND_REQUEST: every 4,000 ticks (R311). -/
def execSoundRequest (tr : Nat) (s : State) : Res :=
  let t := s.trunk tr
  if s.trunkSearch tr && t.state == .up && decide (t.soundDue ≤ s.now) then
    .next (s.modTrunk tr (fun t => { t with soundDue := s.now + 4000, ctl := t.ctl ++ [.sound] }))
  else .next s

end Machine
end Sys2Proof
end

