-- ==== Sys2Proof/Machine/Runs.lean ====
section
/-! DEFINITION. The one admission run of an edge (13, R404), with the triggers that take effect at the edge itself, and
FRAME_ACTIVATION, which is one of them (10, R298). -/
namespace Sys2Proof
namespace Machine

/-- The fabric engine works with an identity (R436). -/
def State.fabOn (s : State) : Bool := s.live && s.fabric.started && s.fabric.fid != 0

/-- The device's own budget for a configuration (R471). -/
def State.fabFits (s : State) (c : FabConfig) : Bool :=
  decide ((c.entries.filter (fun e => e.dst == s.fabric.path)).length ≤ 16384)

/-- The activation frame of an announcement has come (R298). -/
def State.frameDue (s : State) (tr : Nat) (a : FrameAnn) : Bool :=
  s.trunkSearch tr && s.inPath && decide ((s.leadFrame tr s.now + 2 ^ 32 - a.at_ % 2 ^ 32) % 2 ^ 32 < 2 ^ 31)

/-- A trigger that takes effect at the edge which began this tick has still to act: a commit tick, the activation of a fabric
configuration with another POLICY word, or a trunk's activation frame with another class or split (R404). -/
def State.runAwaits (s : State) : Bool :=
  (s.fabOn && (match s.fabric.pendRoute with
    | some r => decide (r.tc ≤ s.now)
    | none => false)) ||
  (s.live && (match s.fabric.prep with
    | some p => p.act != 0 && decide (p.act ≤ s.now) && p.committed && p.cfg.policy != s.fabric.cfg.policy
    | none => false)) ||
  (s.live && (match s.fabric.catchup with
    | some x => decide (x.2.2 ≤ s.now) && s.fabFits x.2.1 && x.2.1.policy != s.fabric.cfg.policy
    | none => false)) ||
  s.trunks.any (fun e => match e.2.ann with
    | some a => s.frameDue e.1 a && (a.cls != e.2.cls || a.split != e.2.split)
    | none => false)

/-- The run of the edge, once each of its triggers has acted (R404). -/
def State.runEdge (s : State) : State := if s.runAwaits then s else s.admissionRun.guarsEdge

/-- A trigger acts at the edge at which it takes effect: the one run of that edge covers it with the others (R404, R406). -/
def State.runNow (s : State) (cause : Nat) : State :=
  (s.modSched (fun d => { d with runHeld := d.runHeld ++ [cause] })).runEdge

/-- FRAME_ACTIVATION: at the activation frame its split, mode and class come into force (R298, R306). -/
def execFrameActivation (tr : Nat) (s : State) : Res :=
  let t := s.trunk tr
  match t.ann with
  | some a =>
    if s.frameDue tr a then
      let s := s.modTrunk tr (fun t =>
        { t with split := a.split, aligned := a.aligned, long := a.long, cls := a.cls, txPos := 0, ann := none
                 rxPos := 0, copies := 0, combine := false
                 stage := if t.stage = 3 then 4 else t.stage, startSeq := if t.stage = 3 then t.txSeq else t.startSeq })
      let s := if a.cls = t.cls then s else s.trunkEvent tr
      .next (if a.cls = t.cls ∧ a.split = t.split then s else s.runNow 2)
    else .next s
  | none => .next s

end Machine
end Sys2Proof
end

