-- ==== Sys2Proof/Machine/FabricOps.lean ====
section
/-! DEFINITION. Shared operations of the fabric engine (15): adjacencies and the topology held, inauguration, control
frames, the fabric configuration, keys. -/
namespace Sys2Proof
namespace Machine

/-! ## Links, topology, records -/

/-- The topology held. -/
def State.graph (s : State) : Topo := s.fabric.topo

/-- The devices of the topology held, by rising serial (R450). -/
def State.devices (s : State) : List Nat := s.graph.group 4 s.serial

/-- The hop delay H of a link (R451). -/
def State.hopOf (s : State) (root : Nat) : Nat :=
  if root < 96 then 4
  else
    let t := s.trunk (s.carrier (root - 128))
    if t.cls = 0 then 16 + t.slots else 8 + 2 * symbolPeriod t.cls (t.slots - 1)

/-- A fabric link is in UP (R448). -/
def State.linkUp (s : State) (root : Nat) : Bool :=
  s.isFabric root && s.unitOn root &&
    (if root < 96 then (s.line root).linked else (s.trunk (s.carrier (root - 128))).state == .up)

/-- The link passes frames of the fabric: it is in UP, and on a secured link a key is installed (R472). -/
def State.linkOpen (s : State) (root : Nat) : Bool :=
  s.linkUp root && (!(s.fabLink root).macsec || (s.fabLink root).sak.isSome)

/-- The adjacency of a link as the own record names it (R444, R450). -/
def State.topoLink (s : State) (a : Adj) : TopoLink :=
  ⟨a.hello.serial, a.root, a.hello.port, Nat.max (s.fabLink a.root).boundary a.hello.boundary, s.hopOf a.root⟩

/-- The own record (R450). -/
def State.ownRecord (s : State) : TopoRec :=
  ⟨s.serial, s.fabric.ownSeq, s.fabric.epoch, s.fabric.digest, s.fabric.adjs.map s.topoLink⟩

/-- The counts of the fabric in the present tick changed. -/
def State.fabCount (s : State) (f : FabCnt → FabCnt) : State := s.modFabric (fun x => { x with cntTick := f x.cntTick })

/-- A frame that may not cross an excluded member's link, or whose TYPE is reserved, is discarded (R440, R447). -/
def State.badType (s : State) : State := s.fabCount (fun c => { c with badType := c.badType + 1 })

/-- The device, or the neighbour on a link, is excluded from its group (R447): since the last T_c, and as long as the topology held
still gives it no number. -/
def State.excluded (s : State) (root : Nat) : Bool :=
  (s.fabric.excl != 0 && s.graph.path s.serial == 0) ||
    (match s.adj root with
     | some a => tfind s.fabric.pathsTc a.hello.serial == some 0 && s.graph.path a.hello.serial == 0
     | none => false)

/-- HELLO and TOPO frames, which alone of the fabric's frames cross the links of an excluded member (R447). -/
def FabBody.hops : FabBody → Bool
  | .hello .. | .topo .. => true
  | _ => false

/-- A frame of the fabric engine goes out on a link: a control frame with its header, through the controlled port of a secured link,
unless an excluded member stands behind the link; an 802.1AS or MKA frame as its standard defines (R437, R438, R447, R472). -/
def State.fabSend (s : State) (root dst : Nat) (b : FabBody) : State :=
  match b.type with
  | none => s.modFabric (fun f => { f with outbox := f.outbox ++ [⟨root, none, b⟩] })
  | some y =>
    if s.excluded root && !b.hops then s.badType
    else (s.secureTx root).modFabric (fun f => { f with outbox := f.outbox ++ [⟨root, some (s.ctlHeader y dst), b⟩] })

/-- A control frame comes by a link: with an adjacency there, and unless an excluded member stands behind it (R447, R449). -/
def State.ctlTake (s : State) (root : Nat) (go : State → State) : State :=
  if s.fabOn && (s.adj root).isSome then
    if s.excluded root then s.badType else go s
  else s

/-- A control frame goes out on every adjacency but one. -/
def State.fabFlood (s : State) (except : Option Nat) (b : FabBody) : State :=
  (s.fabric.adjs.filter (fun a => some a.root != except)).foldl (fun s a => s.fabSend a.root 0 b) s

/-! ## Events (R477) -/

/-- DATA of a TYPE 0x0B record. -/
def fabData (cause level : Nat) : Nat := cause + 16 * (level - 1)

/-- A record of TYPE 0x0B. -/
def State.fabRecord (s : State) (source cause level : Nat) : State := s.record 11 source (fabData cause level)

/-! ## A commit that is given up (R466) -/

/-- The words that end a FABRIC_PREPARE: the new epoch, ACT, and the first device that refused. -/
def Prepare.words (p : Prepare) (refuser code : Nat) : List Word :=
  w32 p.epoch :: lohi p.act ++ [packW [(8, 0), (8, code), (16, refuser)]]

/-- The top leader floods ABORT and answers the command (R466). -/
def State.abort (s : State) (c : Code) (refuser code : Nat) : State :=
  match s.fabric.prep with
  | none => s
  | some p =>
    let s := s.modFabric (fun f => { f with prep := none })
    let s := if p.leader then s.fabFlood none (.abort p.epoch c.num refuser) else s
    s.ackLater p.reply c (p.words refuser code)

/-! ## Changes of the topology (R450, R452, R475) -/

/-- What the device sees of its groups of levels 1 to 4. -/
def State.views (s : State) : List (List (Nat × List TopoLink)) :=
  [1, 2, 3, 4].map (fun lv => s.graph.view lv s.serial)

/-- The levels at which two views differ. -/
def changedLevels (a b : List (List (Nat × List TopoLink))) : List Bool := (a.zip b).map (fun x => x.1 != x.2)

/-- The topology held has changed from `before`: the groups concerned are watched anew, and a change in the fabric starts a
new inauguration and ends a commit that is not yet sent (R452, R466, R475). -/
def State.topoNew (s : State) (before : List (List (Nat × List TopoLink))) : State :=
  let ch := changedLevels before s.views
  if ch.all (fun c => !c) then s
  else
    let low := fun (lv : Nat) => s.graph.leader lv s.serial == s.serial
    let s := s.modFabric (fun f =>
      { f with topoTick := (List.range 4).map (fun i => if ch.getD i false then s.now else f.topoTick.getD i 0)
               elect := (List.range 4).map (fun i => f.elect.getD i false && !ch.getD i false)
               leads := maskBits ((List.range 4).map (fun i => bit f.leads i && (!ch.getD i false || low (i + 1))))
               elected := none, routesSent := false, pendRoute := none
               state := if f.fid = 0 then f.state else .inaugurating
               steering := f.steering && (!ch.getD 3 false || low 4)
               locked := f.locked && (!bit f.leads 3 || low 4 || decide (8 ≤ f.syncs)) })
    match s.fabric.prep with
    | some p => if p.leader && !p.committed then s.abort .conflict 0 0 else s
    | none => s

/-- The own adjacencies have changed: the own record changes and is due to be sent (R450). -/
def State.adjNew (s : State) (f : FabricSt → FabricSt) : State :=
  let before := s.views
  let s := s.modFabric f
  let s := s.modFabric (fun f => { f with ownSeq := (f.ownSeq + 1) % 2 ^ 32, topoDue := true })
  (s.modFabric (fun f => { f with topo := tset f.topo s.serial s.ownRecord })).topoNew before

/-- An adjacency ends (R449). -/
def State.adjEnd (s : State) (root : Nat) : State :=
  if (s.adj root).isSome then s.adjNew (fun f => { f with adjs := f.adjs.filter (fun a => a.root != root) }) else s

/-- At an edge: adjacencies whose link has left UP end at once (R449), and the last HELLO of such a link counts no more (R468). -/
def State.adjSweep (s : State) : State :=
  let s := (s.fabric.adjs.filter (fun a => !s.linkOpen a.root)).foldl (fun s a => s.adjEnd a.root) s
  s.modFabric (fun f => { f with hellos := f.hellos.filter (fun e => s.linkUp e.1) })

/-! ## Routes in force (R455) -/

/-- Digit `lv` of a path, level 1 the lowest. -/
def pathDigit (p lv : Nat) : Nat := fld p (4 * (lv - 1)) 4

/-- The level of the leftmost digit in which two paths differ; 0 when none does. -/
def pathLevel (a b : Nat) : Nat := ([4, 3, 2, 1].find? (fun lv => pathDigit a lv != pathDigit b lv)).getD 0

/-- The link for a destination path in a plane (R455). -/
def State.routeTo (s : State) (dst plane : Nat) : Option Nat :=
  let lv := pathLevel s.fabric.path dst
  (s.fabric.routes.find? (fun r => r.level == lv && r.index == pathDigit dst lv && r.plane == plane)).map Route.root

/-- The same while the destination can be reached by it: the link still has its adjacency (R456). -/
def State.routeVia (s : State) (dst plane : Nat) : Option Nat := (s.routeTo dst plane).filter (fun r => (s.adj r).isSome)

/-- The tree links in force that still have their adjacency (R455, R456). -/
def State.treeVia (s : State) : List Nat := s.fabric.tree.filter (fun r => (s.adj r).isSome)

/-- The path of the group of level `lv` that holds a device (R13, R445; log 19). -/
def groupPath (p lv : Nat) : Nat := p / 16 ^ lv * 16 ^ lv

/-- A path is that of a device: a member index at every level. -/
def devicePath (p : Nat) : Bool := decide (p < 2 ^ 16) && [1, 2, 3, 4].all (fun lv => pathDigit p lv != 0)

/-- The plane-0 link towards the top leader. -/
def State.uplink (s : State) : Option Nat :=
  (s.graph.up s.devices (s.devices.headD s.serial) s.serial).map TopoLink.port

/-- The path of the top leader, where control frames to it go, and the link towards it (R455, R466). -/
def State.toTop (s : State) (b : FabBody) : State :=
  let dst := tget 0 s.fabric.paths (s.devices.headD s.serial)
  match (s.routeVia dst 0).orElse (fun _ => s.uplink) with
  | some r => s.fabSend r dst b
  | none => s

/-- This device is the top leader, alone or elected (R452, R596). -/
def State.isTop (s : State) : Bool := bit s.fabric.leads 3

/-! ## The fabric configuration (R463 to R467, R471) -/

/-- Own epoch and digest differ from the fabric's (R464, FABRIC_STATUS). -/
def State.differs (s : State) : Bool :=
  decide (1 < s.devices.length) && s.graph.values s.devices != (s.fabric.epoch, s.fabric.digest)

/-- The entry of a HANDLE. -/
def cfgEntry (c : FabConfig) (h : Nat) : Option RepEntry := c.entries.find? (fun e => e.handle == h)

/-- A configuration and its epoch take effect (R463, R466 to R468): the recovery and generation of unchanged entries go
on, others start anew. -/
def State.fabConfigure (s : State) (epoch : Nat) (c : FabConfig) : State :=
  let old := s.fabric.cfg
  let same := fun (h : Nat) => (cfgEntry c h).isSome && cfgEntry c h == cfgEntry old h
  let s := s.modFabric (fun f =>
    { f with prevEpoch := f.epoch, prevDigest := f.digest, actTick := s.now, epoch := epoch, cfg := c, digest := cfgDigest c
             recov := f.recov.filter (fun e => same e.1), seqGen := f.seqGen.filter (fun e => same e.1)
             helloExtra := ((List.range 132).filter s.linkUp).foldl (fun t r => tset t r s.now) f.helloExtra })
  let s := if s.fabric.started then s.modFabric (fun f => { f with topo := tset f.topo s.serial s.ownRecord }) else s
  if old.policy = c.policy then s else s.runNow 3

/-- A configuration that the fabric has agreed on takes effect, with its event (R466, R467, R477). -/
def State.fabAdopt (s : State) (epoch : Nat) (c : FabConfig) (cause : Nat) : State :=
  let s := s.fabConfigure epoch c
  (s.doorbell 11).fabRecord s.fabric.path cause 4

/-- A device that differs asks its neighbour towards the top leader (R467). -/
def State.askCatchup (s : State) : State :=
  if s.differs && s.fabric.catchup.isNone then
    match s.uplink with
    | some r => s.fabSend r 0 .catchupReq
    | none => s
  else s

/-! ## Digest differences (R465) -/

/-- Doorbell 12 and its record. -/
def State.digestEvent (s : State) (source lv member : Nat) (leader : Nat) : State :=
  let epochs := (s.graph.valuesOf leader).1 != (s.graph.valuesOf member).1
  s.event 12 source (lv - 1 + 4 * b2n epochs)

/-- The path by which a member of a group of level `lv` is named: the path of its first device, as a group's. -/
def State.memberPath (s : State) (lv member : Nat) : Nat := groupPath (tget 0 s.fabric.paths member) (lv - 1)

/-- The comparison of one level after a record of `who` has changed: by the leader for the member that holds it, and by the
leader of a member for itself (R465). -/
def State.compareAt (s : State) (who lv : Nat) : State :=
  let t := s.graph
  let lead := t.leader lv s.serial
  let here := t.group lv s.serial
  let differ := fun (m : Nat) => t.groupDigest (lv - 1) m != t.expected lv lead m
  if !here.contains who then s
  else if lead = s.serial then
    let m := t.leader (lv - 1) who
    if differ m then s.digestEvent (s.memberPath lv m) lv m lead else s
  else
    let m := t.leader (lv - 1) s.serial
    if m = s.serial ∧ (who = lead ∨ who = s.serial) ∧ differ m then s.digestEvent (s.memberPath lv m) lv m lead else s

/-- All comparisons after a record of `who` has changed. -/
def State.compareDigests (s : State) (who : Nat) : State := [1, 2, 3, 4].foldl (fun s lv => s.compareAt who lv) s

/-! ## Keys (R472 to R474, R597) -/

/-- The device has a FABRIC_KEY. -/
def State.hasKey (s : State) : Bool := s.fabric.fkey != 0

/-- The ASCII bytes "KYKEK". -/
def kekTag : List Byte := [0x4B#8, 0x59#8, 0x4B#8, 0x45#8, 0x4B#8]

/-- The wrapping key of a member (R474). -/
def State.kek (s : State) (serial : Nat) : BitVec 256 :=
  BitVec.ofNat 256 (ofBe (hmac256 (beBytes 32 s.fabric.fkey.toNat) (kekTag ++ beBytes 8 serial)))

/-- A session key of a level, the last one received. -/
def setKey (l : List (Nat × BitVec 256)) (lv : Nat) (k : BitVec 256) : List (Nat × BitVec 256) :=
  l.filter (fun x => x.1 != lv) ++ [(lv, k)]

/-- At T_c the keys of the levels go into slots 12 to 15, bound to the groups' paths (R474). -/
def State.installKeys (s : State) : State :=
  if s.hasKey then
    { s with peers := s.fabric.keys.foldl (fun t x =>
        if 1 ≤ x.1 ∧ x.1 ≤ 4 then tset t (11 + x.1) ⟨x.2, groupPath s.fabric.path x.1, 0⟩ else t) s.peers }
  else s

/-- A leader's election for a level: it generates its group's key and sends it to every member device (R474). -/
def State.electKeys (s : State) (lv : Nat) : State :=
  if s.hasKey then
    let k := Config.sessionKey lv s.now
    let s := s.modFabric (fun f => { f with keys := setKey f.keys lv k })
    ((s.graph.group lv s.serial).filter (fun u => u != s.serial)).foldl (fun s u =>
      s.fabFlood none (.key lv u (Config.aesWrap (s.kek u) k))) s
  else s

/-! ## Start and identity (R94, R435, R436, R475) -/

/-- FABRIC_ID and FABRIC_KEY as the keep-store holds them (R436, R597). -/
def State.keepIdentity (s : State) : Nat × BitVec 256 :=
  ((tget 0 s.keep.words 448).toNat,
   BitVec.ofNat 256 (pack ((List.range 8).map (fun i => (32, (tget 0 s.keep.words (449 + i)).toNat)))))

/-- The identity in the keep-store is taken: every adjacency ends and the device rejoins (R475); with its first FABRIC_ID it holds no
path until its first commit tick (R596). -/
def State.rejoin (s : State) : State :=
  let k := s.keepIdentity
  let first := s.fabric.fid = 0 ∧ k.1 ≠ 0
  let s := s.modFabric (fun f =>
    { f with fid := k.1, fkey := k.2, adjs := [], topo := [], elected := none, routesSent := false, pendRoute := none
             topoTick := List.replicate 4 s.now, elect := List.replicate 4 false, topoDue := true
             ownSeq := (f.ownSeq + 1) % 2 ^ 32 })
  let s := if first then s.modFabric (fun f => { f with path := 0, leadsTc := 0, routes := [], tree := [] }) else s
  let s := s.modFabric (fun f => { f with topo := [(s.serial, s.ownRecord)] })
  if s.fabric.fid = 0 then s.modFabric (fun f => { f with state := .alone, path := 0x1111, leads := 0xF, locked := true })
  else s.modFabric (fun f => { f with state := .inaugurating, leads := 0, locked := false, syncs := 0 })

/-- READINESS: the identity is loaded, the digest computed, the engine started (R94, R596). -/
def State.fabStart (s : State) : State :=
  let s := s.modFabric (fun f => { f with started := true, digest := cfgDigest f.cfg, prevDigest := cfgDigest f.cfg })
  s.rejoin

/-- FABRIC_LINK_SET takes effect: a change ends the link's adjacency. -/
def State.applyLink (s : State) (root : Nat) (fabric macsec : Bool) (boundary : Nat) : State :=
  let old := s.fabLink root
  let s := s.applySched (.fabLink root fabric macsec boundary)
  let s := if macsec then s else s.modFabric (fun f => { f with links := tmod old f.links root (fun l => { l with sak := none }) })
  if old.designated = fabric ∧ old.macsec = macsec ∧ old.boundary = boundary then s else s.adjEnd root

/-! ## Elimination (R470) -/

/-- The counts of a recovery function in the present tick changed. -/
def Recovery.count (r : Recovery) (f : RecCnt → RecCnt) : Recovery := { r with cntTick := f r.cntTick }

/-- One more number shifted into a history; a number that was never received counts as lost. -/
def Recovery.shift (r : Recovery) (n : Nat) (got : Bool) : Recovery :=
  let r' := { r with history := (got :: r.history).take n }
  if r.history.length = n ∧ !(r.history.getD (n - 1) true) then r'.count (fun c => { c with lost := c.lost + 1 }) else r'

/-- A frame passes. -/
def Recovery.pass (r : Recovery) (now : Nat) : Recovery :=
  { r.count (fun c => { c with passed := c.passed + 1 }) with passTick := now }

/-- The vector recovery algorithm of IEEE 802.1CB with a history of `n` numbers: whether the frame passes, and the function
after it (R470; log 20). -/
def Recovery.take (r : Recovery) (n seq now : Nat) : Bool × Recovery :=
  if r.start then
    (true, ({ r with start := false, last := seq, history := true :: List.replicate (n - 1) false } : Recovery).pass now)
  else
    let up := (seq + 65536 - r.last) % 65536
    let down := (r.last + 65536 - seq) % 65536
    if up ≠ 0 ∧ up < 32768 then
      if n ≤ up then (false, r.count (fun c => { c with rogue := c.rogue + 1 }))
      else
        let r := if up = 1 then r else r.count (fun c => { c with outOfOrder := c.outOfOrder + 1 })
        let r := (List.range (up - 1)).foldl (fun r _ => r.shift n false) r
        (true, ({ r.shift n true with last := seq } : Recovery).pass now)
    else if n ≤ down then (false, r.count (fun c => { c with rogue := c.rogue + 1 }))
    else if r.history.getD down false then (false, r.count (fun c => { c with discarded := c.discarded + 1 }))
    else (true, ({ r.count (fun c => { c with outOfOrder := c.outOfOrder + 1 }) with history := r.history.set down true } : Recovery).pass now)

/-! ## Counters (R479) -/

/-- The counter snapshot of a recovery function. -/
def Recovery.snapshot (r : Recovery) : Recovery :=
  let h := fun (x y : Nat) => sat32 ((if bit r.clr 0 then 0 else x) + y)
  let c := r.cnt
  let k := r.cntTick
  { r with cnt := ⟨h c.passed k.passed, h c.discarded k.discarded, h c.outOfOrder k.outOfOrder, h c.rogue k.rogue, h c.lost k.lost,
             h c.resets k.resets⟩
           cntTick := RecCnt.zero, clr := 0 }

/-- The counter snapshot of the fabric engine. -/
def FabricSt.snapshot (f : FabricSt) : FabricSt :=
  let h := fun (x y : Nat) => sat32 ((if bit f.clr 0 then 0 else x) + y)
  let c := f.cnt
  let k := f.cntTick
  { f with cnt := ⟨h c.noRoute k.noRoute, h c.ttlDrop k.ttlDrop, h c.badType k.badType, h c.tooBig k.tooBig,
             h c.foreign k.foreign, h c.macsecDrop k.macsecDrop, h c.helloLost k.helloLost⟩
           cntTick := FabCnt.zero, clr := 0, recov := tmap (fun _ (r : Recovery) => r.snapshot) f.recov }

/-- Frames of the fabric engine count at their egress roots: one frame each with the frame bytes of its encapsulated form, taken from
the root's bucket (R219, R390, R439; DESIGN CHOICE: they take no queue, log 68). -/
def State.countCtl (s : State) : State :=
  let l := s.fabric.outbox.drop s.fabric.ctlCounted
  let s := l.foldl (fun s c => match c.head with
    | some _ => (s.countTx c.root (s.ctlLen c)).modRoot c.root (fun r => { r with tok := r.tok - 64 * (s.ctlLen c + r.ovh : Nat) })
    | none => s) s
  s.modFabric (fun f => { f with ctlCounted := f.outbox.length })

end Machine
end Sys2Proof
end

