-- ==== Sys2Proof/Machine/HostOps.lean ====
section
/-! DEFINITION. Shared operations of the host lane groups (11): states, training attempts, entering and leaving UP,
acknowledgements, and mailbox channel 1 over SIDEBAND packets. -/
namespace Sys2Proof
namespace Machine

/-! ## STATE and its event (R350) -/

/-- The code of STATE in HOST_STATUS. -/
def HostState.num : HostState → Nat
  | .off => 0 | .disabled => 1 | .training => 2 | .up => 3 | .test => 4 | .waiting => 5

/-- DATA of a TYPE 0x0A record (R350). -/
def LaneGroup.eventData (g : LaneGroup) : Nat := pack [(3, g.state.num), (5, 0), (4, g.lastFail)]

/-- STATE changes, with its event. -/
def State.hostSt (s : State) (g : Nat) (st : HostState) : State :=
  let old := (s.host g).state
  let s := s.modHost g (fun x => { x with state := st })
  if old == st then s else s.event 10 (132 + g) (s.host g).eventData

/-! ## Leaving UP and training (R334, R342, R349) -/

/-- A group stops its link: unacknowledged FRAME packets are discarded and counted, SIDEBAND packets are kept to be sent
first (R342). Outside UP there are none. -/
def LaneGroup.unlink (g : LaneGroup) : LaneGroup :=
  { g with sideWait := g.unacked.filterMap LaneTx.side ++ g.sideWait
           unacked := [], hunting := false, huntOne := false, nakOwed := false, nakSentAt := none, lastNakSeq := none, resends := 0
           checkGood := 0, owes := false, idle := 0, ackNext := g.ackNext
           cntTick := { g.cntTick with
             txDiscard := g.cntTick.txDiscard + (g.unacked.filter (fun x => x.side.isNone)).length } }

/-- A group leaves what it is doing for a state without a link; a frame selected and not wholly sent is discarded with those not
acknowledged (R342); its transmitter is in electrical idle unless it
trains or tests. A state other than TEST ends a test (R349, R351, R353). -/
def State.hostDown (s : State) (g : Nat) (st : HostState) : State :=
  let begun := (s.root (132 + g)).sending.length
  let s := ((s.modHost g LaneGroup.unlink).modHost g (fun x =>
    { x with cntTick := { x.cntTick with txDiscard := x.cntTick.txDiscard + begun } })).dropSending (132 + g)
  (s.modHost g (fun x => { x with
    txEidle := st != .training && st != .test
    prbs := if st == .test then x.prbs else { x.prbs with pattern := 0 } })).hostSt g st

/-- A group in a quiet period or isolated waits, a disabled one too (R349). An enabled, powered and free group starts an attempt at edge `start`: a retrain when its coefficients are retained,
otherwise a full training (R96, R334). -/
def State.hostStart (s : State) (g start : Nat) : State :=
  let x := s.host g
  if !s.domOn (domOfRoot (132 + g)) then s.hostDown g .off
  else if x.quietP.isSome || s.silencePending (132 + g) || x.isolated then s.hostDown g .waiting
  else if !x.cfg.enable then s.hostDown g .disabled
  else (s.hostDown g .training).modHost g (fun x =>
    { x with attempts := satTo 255 (x.attempts + 1), stage := .clock, stageStart := start, retrain := x.coefValid
             grantIn := zeros8, grantEdge := zeros8, rxReady := false, req := ⟨0, 0, 0, false, true⟩, stLane := 0 })

/-- An attempt fails with its reason; after two failed retrains the coefficients are given up; the next attempt starts at
the following edge (R96, R334). -/
def State.hostFail (s : State) (g reason : Nat) : State :=
  (s.modHost g (fun x =>
    let fails := if x.retrain then x.retrainFails + 1 else 0
    { x with lastFail := reason, attemptsDone := x.attemptsDone + 1
             retrainFails := if 2 ≤ fails then 0 else fails
             coefValid := x.coefValid && decide (fails < 2) })).hostStart g (s.now + 1)

/-- The group enters UP (R340, R342, R343, R345, R429). -/
def State.hostUp (s : State) (g : Nat) : State :=
  let again := decide (0 < (s.host g).upsSinceReset)
  let s := s.modHost g (fun x =>
    { x with upTick := s.now, upsSinceReset := x.upsSinceReset + 1, txSeq := 0, rxExpect := 0, ackedSeq := none
             unacked := [], credUp := x.cfg.cred, usedOut := zeros8, usedIn := zeros8, grantDue := zeros8
             grantOut := firstGrants x.cfg.cred, lastNakSeq := none, idle := 0, retrainFails := 0, txEidle := false, rxEidle := false })
  let s := if again then s.modCellar (fun c =>
    { c with groups := lmod c.groups g (fun k => { k with startDue := some (s.now + 1) }) }) else s
  (s.hostSt g .up).flushSide g

/-- At the edge of R342 the group leaves UP and retrains. -/
def State.hostRetrainNow (s : State) (g : Nat) : State :=
  if (s.host g).state == .up then s.hostStart g s.now else s

/-- A channel-level fault of a group: recorded; the group goes to electrical idle at the next edge (R349, R533). -/
def State.hostFault (s : State) (g code : Nat) : State := (s.recordFault code (132 + g)).atEdge (.silence (132 + g) code)

/-- At the edge after a fault the group goes silent for its quiet period (R349, R535, R536). -/
def State.hostSilence (s : State) (g : Nat) : State :=
  (s.modHost g (fun x => { x with quietP := some ⟨s.now, s.faults.quiet.lane⟩, lastFail := 9 })).hostStart g s.now

/-- A lane domain is switched off or on (R482, R484): coefficients are lost with the power. -/
def State.hostDomain (s : State) (gs : List Nat) (on : Bool) (start : Nat) : State :=
  gs.foldl (fun s g =>
    (if on then s else s.modHost g (fun x => { x with coefValid := false })).hostStart g start) s

/-- HOST_CONFIG takes effect (R334, R345, R351). -/
def State.applyHost (s : State) (g : Nat) (c : HostCfg) (retune : Bool) : State :=
  let old := (s.host g).cfg
  let s := s.modHost g (fun x =>
    { x with cfg := c, attempts := 0, attemptsDone := 0, coefValid := x.coefValid && !retune })
  if c.enable = old.enable ∧ !(retune && c.enable) then s else s.hostStart g (s.now + 1)

/-- The group can be in STATE TEST: it is enabled, powered, and in no quiet period (R349, R353). -/
def State.canTest (s : State) (g : Nat) : Bool :=
  s.domOn (domOfRoot (132 + g)) && (s.host g).cfg.enable && (s.host g).quietP.isNone && !(s.host g).isolated

/-- HOST_PRBS takes effect: a pattern takes the group into TEST, where its checkers begin, and PATTERN 0 ends the test (R353). -/
def State.applyPrbs (s : State) (g : Nat) (p : Prbs) : State :=
  if p.pattern = 0 then (if (s.host g).state == .test then s.hostStart g (s.now + 1) else s)
  else if s.canTest g then
    let s := if (s.host g).state == .test then s else s.hostDown g .test
    s.modHost g (fun x => { x with prbs := { p with stamp := x.prbs.stamp + 1, start := s.now + 1, clear := s.now + 1 } })
  else s

/-! ## Mailbox channel 1 (R346, R347) -/

/-- A GO on channel 1: accepted, or answered at once with BUSY (R347). -/
def State.sideGo (s : State) (g : Nat) (words : List Word) : State :=
  if s.accepts 1 then s.modChan 1 (fun c => { c.go words with hg := g })
  else s.sideSend g (Ack.word ⟨true, false, Code.num .busy, fld ((words.getD 0 0).toNat) 8 8, 0⟩) (List.replicate 16 0)

/-- A host-to-device SIDEBAND packet that was accepted: GO or CANCEL (R121, R346, R347). -/
def State.sideband (s : State) (g : Nat) (ctrl : Word) (words : List Word) : State :=
  let go := bit ctrl.toNat 0
  let cancel := bit ctrl.toNat 1
  if !(s.host g).cfg.sideEn || (go && cancel) then s
  else if go then s.sideGo g words
  else if cancel && (s.chan 1).busy then s.modChan 1 (fun c => { c with cancel := true })
  else s

/-! ## Acknowledgements of sent packets (R340, R347) -/

/-- How many of the oldest packets an ACK_SEQ acknowledges. -/
def LaneGroup.ackCount (g : LaneGroup) (seq : Nat) : Nat :=
  match g.unacked with
  | [] => 0
  | x :: _ =>
    let n := (seq + 4097 - x.seq) % 4096
    if n ≤ g.unacked.length then n else 0

/-- Packets up to ACK_SEQ are acknowledged. The channel 1 ACK that one of them carried counts as cleared (R347). A NAK below this
ACK_SEQ lies below what the partner has had since the NAK last acted on (R341). -/
def State.laneAcked (s : State) (g seq : Nat) : State :=
  let x := s.host g
  let n := x.ackCount seq
  if n = 0 then s
  else
    let gone := x.unacked.take n
    let s := s.modHost g (fun x =>
      { x with unacked := x.unacked.drop n, ackedSeq := some seq, resends := 0, lastNakSeq := x.lastNakSeq.map (fun _ => seq) })
    if gone.any (fun p => match p.side with
        | some (w :: _) => w == (s.chan 1).ack.word && (s.chan 1).ack.valid
        | some [] => false
        | none => false) then
      (s.modChan 1 (fun c => { c with ack := ⟨false, false, 0, 0, 0⟩, ret := List.replicate 16 0 })).modMbx (fun m =>
        { m with dbStatus := m.dbStatus &&& 0xFFFFFFFD })
    else s

/-! ## Counters (R352) -/

/-- The counter snapshot of a group at commit step 6. -/
def LaneGroup.snapshot (g : LaneGroup) : LaneGroup :=
  let c := g.cnt
  let k := g.cntTick
  let f := fun (x y : Nat) => (if bit g.clr 0 then 0 else x) + y
  { g with cntTick := HostCnt.zero, clr := 0
           cnt := ⟨wrap64 (f c.txFrames k.txFrames), wrap64 (f c.rxFrames k.rxFrames), sat32 (f c.txResends k.txResends),
             sat32 (f c.nakSent k.nakSent), sat32 (f c.hcrcErr k.hcrcErr), sat32 (f c.crcErr k.crcErr),
             sat32 (f c.hunts k.hunts), sat32 (f c.txDiscard k.txDiscard), sat32 (f c.fastExits k.fastExits),
             sat32 (f c.fastFail k.fastFail), sat32 (f c.spoolBad k.spoolBad), sat32 (f c.credViol k.credViol)⟩ }

/-- The counts of the present tick changed. -/
def State.hostCount (s : State) (g : Nat) (f : HostCnt → HostCnt) : State :=
  s.modHost g (fun x => { x with cntTick := f x.cntTick })

end Machine
end Sys2Proof
end

