-- ==== Sys2Proof/Machine/Sched.lean ====
section
/-! DEFINITION. The queue tree (12): NODE_SET, QUEUE_SET, QUEUE_FLUSH, QUEUE_STATS, selection and departure. -/
namespace Sys2Proof
namespace Machine

/-! ## Checks on the tree (R367, R370, R378) -/

/-- A parent as word 2 of NODE_SET gives it. -/
def parentOf (m : Msg) : Parent := ⟨m.flag 2 16, if m.flag 2 16 then m.get 2 0 8 else m.get 2 0 16⟩

/-- Word 2 of NODE_SET is malformed. -/
def parentBad (m : Msg) : Bool := m.stray 2 0x1FFFF || (m.flag 2 16 && (m.get 2 8 8 != 0 || decide (137 < m.get 2 0 8)))

/-- A parent is configured: a root, or a node in the tree. -/
def State.parentOk (s : State) (p : Parent) : Bool := p.isRoot || (s.node p.id).conf

/-- A node lies on the way up from a parent, the parent itself included. -/
def State.above (s : State) (n : Nat) (p : Parent) : Bool := (s.nodesUp p).contains n

/-- A queue under a node holds a frame (R378). -/
def State.subtreeHolds (s : State) (n : Nat) : Bool :=
  s.sched.queues.any (fun e => e.2.conf && !e.2.held.isEmpty && s.above n e.2.cfg.parent)

/-- A node has children. -/
def State.hasKids (s : State) (n : Nat) : Bool :=
  !(s.kidQueues ⟨false, n⟩).isEmpty || !(s.kidNodes ⟨false, n⟩).isEmpty

/-- No root has two default queues for one class (R367). -/
def State.defaultsOk (s : State) : Bool :=
  let l := (s.sched.queues.filter (fun e => e.2.conf && e.2.cfg.defEn)).filterMap (fun e =>
    (s.rootOf e.2.cfg.parent).map (fun r => 8 * r + e.2.cfg.defSc))
  l.Nodup && l.all (fun k => (tfind s.sched.queues k).isSome)

/-- A change touches the path of a guarantee, before it or after it (R404). -/
def State.touches (p : State) (c : Cfg) (e : Elem) : Bool := p.watched.contains e || (p.applySched c).watched.contains e

/-! ## NODE_SET (0x2006) -/

/-- NODE_SET with DELETE. -/
def cmdNodeDel (m : Msg) (s : State) : Reply :=
  let n := m.get 1 0 16
  let p := s.schedProj
  let c : Cfg := .nodeDel n
  .unless (m.stray 1 0x8007FFFF) .badArg <|
  .unless (p.hasKids n) .conflict <|
  .unless (!(p.node n).conf) .wrongState <|
  .ok [0, w32 (p.applySched c).schedLoad] (s.acceptRun c (p.touches c ⟨true, n⟩) 3)

/-- NODE_SET without DELETE. -/
def cmdNodeAdd (m : Msg) (s : State) : Reply :=
  let n := m.get 1 0 16
  let par := parentOf m
  let level := m.get 1 16 3
  let p := s.schedProj
  let x := p.node n
  let c : Cfg := .nodeSet n par level (m.get 3 0 16)
  let p' := p.applySched c
  .unless (m.stray 1 0x8007FFFF || parentBad m || m.stray 3 0xFFFF || m.get 3 0 16 == 0) .badArg <|
  .unless (!p.parentOk par || (!par.isRoot && p.above n par) || !p'.defaultsOk) .conflict <|
  .unless (x.conf && (x.parent != par || x.level != level) && p.subtreeHolds n) .busy <|
  .unless (decide (schedCap < p'.schedLoad)) .budget <|
  .ok [w32 (p'.depthBelow par), w32 p'.schedLoad] (s.acceptRun c (p.touches c ⟨true, n⟩) 3)

/-- NODE_SET. -/
def cmdNodeSet (m : Msg) (s : State) : Reply := if m.flag 1 31 then cmdNodeDel m s else cmdNodeAdd m s

def nodeSetCmd : Cmd := ⟨0x2006, [4], true⟩
/-- NODE_SET makes, moves or removes a scheduling node at the next edge (R369, R370, R378). -/
def execNodeSet (m : Msg) (s : State) : Res := .next (s.mailbox nodeSetCmd m cmdNodeSet)

/-! ## QUEUE_SET (0x2007) -/

/-- QUEUE_SET with DELETE. -/
def cmdQueueDel (m : Msg) (s : State) : Reply :=
  let q := m.get 1 0 20
  let p := s.schedProj
  let c : Cfg := .queueDel q
  .unless (m.stray 1 0xFF0FFFFF) .badArg <|
  .unless (p.bridge.streams.any (fun e => e.2.qEn && e.2.queue == q)) .conflict <|
  .unless (!(p.queue q).conf) .wrongState <|
  .unless (!(s.queue q).held.isEmpty) .busy <|
  .ok [0, w32 (p.applySched c).schedLoad] (s.acceptRun c (p.touches c ⟨false, q⟩) 3)

/-- QUEUE_SET without DELETE. -/
def cmdQueueAdd (m : Msg) (s : State) : Reply :=
  let q := m.get 1 0 20
  let qc : QueueCfg := ⟨parentOf m, m.get 1 24 3, m.get 3 0 16, m.get 4 0 24, m.flag 1 30, m.get 1 27 3⟩
  let p := s.schedProj
  let x := p.queue q
  let c : Cfg := .queueSet q qc
  let p' := p.applySched c
  .unless (m.stray 1 0xFF0FFFFF || parentBad m || m.stray 3 0xFFFF || m.stray 4 0xFFFFFF || qc.weight == 0 ||
    qc.limit == 0) .badArg <|
  .unless (!p.parentOk qc.parent || !p'.defaultsOk) .conflict <|
  .unless (x.conf && (x.cfg.parent != qc.parent || x.cfg.level != qc.level) && !(s.queue q).held.isEmpty) .busy <|
  .unless (decide (schedCap < p'.schedLoad)) .budget <|
  .ok [w32 (p'.depthBelow qc.parent), w32 p'.schedLoad] (s.acceptRun c (p.touches c ⟨false, q⟩) 3)

/-- QUEUE_SET. -/
def cmdQueueSet (m : Msg) (s : State) : Reply := if m.flag 1 31 then cmdQueueDel m s else cmdQueueAdd m s

def queueSetCmd : Cmd := ⟨0x2007, [5], true⟩
/-- QUEUE_SET makes, moves or removes a queue at the next edge (R369, R370, R378). -/
def execQueueSet (m : Msg) (s : State) : Res := .next (s.mailbox queueSetCmd m cmdQueueSet)

/-! ## QUEUE_FLUSH (0x2008) -/

/-- QUEUE_FLUSH. -/
def cmdQueueFlush (m : Msg) (s : State) : Reply :=
  let q := m.get 1 0 20
  .unless (m.stray 1 0xFFFFF) .badArg <|
  .unless (!(s.schedProj.queue q).conf) .wrongState <|
  .ok [w32 (s.nextEdge - 1)] (s.modSched (fun d => { d with flushes := d.flushes ++ [q] }))

def queueFlushCmd : Cmd := ⟨0x2008, [2], true⟩
/-- QUEUE_FLUSH discards what a queue holds, at step 3 of the commit (R377). -/
def execQueueFlush (m : Msg) (s : State) : Res := .next (s.mailbox queueFlushCmd m cmdQueueFlush)

/-! ## QUEUE_STATS (0x2009) -/

/-- QUEUE_STATS. -/
def cmdQueueStats (m : Msg) (s : State) : Reply :=
  let i := m.get 1 0 20
  let q := s.queue i
  .unless (m.stray 1 0x1FFFFF) .badArg <|
  .ok (lohi s.snapEdge ++ lohi q.enqFrames ++ lohi q.enqBytes ++ lohi q.deqFrames ++ lohi q.deqBytes ++
      [w32 q.dropLimit, w32 q.dropFlush, w32 q.heldOver, w32 q.bytes, w32 q.held.length])
    (if m.flag 1 20 then s.modQueue i (fun q => { q with clr := 1 }) else s)

def queueStatsCmd : Cmd := ⟨0x2009, [2], false⟩
/-- QUEUE_STATS returns a queue's counters at the edge, and its occupancy as it stands (R381; log 70). -/
def execQueueStats (m : Msg) (s : State) : Res := .next (s.mailbox queueStatsCmd m cmdQueueStats)

/-! ## SCHEDULER_SELECT (R373 to R375, R388 to R390) -/

/-- The queue that a descent ended at. -/
def lastQueue : List Kid → Option Nat
  | [] => none
  | [k] => if k.node then none else some k.id
  | _ :: t => lastQueue t

/-- The head frame of a queue leaves it for the root (R372, R373). -/
def State.takeHead (s : State) (root q : Nat) (d : Desc) (f : Frame) : State :=
  ((s.modQueue q (fun x =>
    { x with held := x.held.tail, leaving := x.leaving + d.len, tkDeqFrames := x.tkDeqFrames + 1
             tkDeqBytes := x.tkDeqBytes + d.len })).modRoot root (fun r =>
    { r with sending := r.sending ++ [⟨d, f, q, s.now⟩] })).modSched (fun x =>
    { x with active := if x.active.contains root then x.active else x.active ++ [root]
             picked := if x.picked.contains root then x.picked else x.picked ++ [root] })

/-- The selection of the head frame of the queue at the end of a descent: charged at every element of the path, from
every shaper there and from the root (R375, R388, R390). -/
def State.selectHead (s : State) (root : Nat) (path : List Kid) (q : Nat) (d : Desc) (st : Stored) : State :=
  let len := d.len + (s.root root).ovh
  let s := path.foldr (fun k s => s.chargeKid len k) s
  let s := s.takeHead root q d (s.leaving root st d)
  let s := s.modRoot root (fun r => { r with tok := r.tok - 64 * len })
  path.foldr (fun k s => s.settleKid root k) s

/-- SCHEDULER_SELECT: a root whose bucket and unit allow selects one frame, within the work window of the tick (R24, R373,
R390). -/
def execSchedulerSelect (root : Nat) (s : State) : Res :=
  let path := s.descend root s.depthMax ⟨true, root⟩
  if s.working && decide (root < 138) && decide (0 ≤ (s.root root).tok) then
    match lastQueue path with
    | none => .next s
    | some q =>
      match (s.queue q).held with
      | [] => .next s
      | d :: _ =>
        match s.stored d.id with
        | none => .next s
        | some st =>
          if s.unitTakes root (s.leaving root st d).len then .next (s.selectHead root path q d st) else .next s
  else .next s

/-! ## FRAME_DEPARTURE (R21, R243, R341, R430) -/

/-- The FRAME packet of a frame: its class, its ingress port, and for a frame from the spool its sequence, with REPLAY where a replay
placed it (R338, R425, R430). -/
def State.packetOf (s : State) (x : Sending) (sc : Nat) : LanePacket :=
  framePacket sc x.frame.len (match s.stored x.desc.id with | some st => st.port | none => 0) x.desc.spool x.desc.evid x.desc.replay

/-- A frame goes out as a FRAME packet of a lane group (R338, R340, R425, R430). -/
def State.laneSend (s : State) (g : Nat) (x : Sending) (sc : Nat) : State :=
  let p := s.packetOf x sc
  let s := s.modHost g (fun h => h.send p (frameBytes x.frame) none (some x.desc.id))
  let s := if x.desc.evid then s.modHost g (fun h =>
      { h with spoolSent := if serialLe h.spoolSent x.desc.spool then x.desc.spool else h.spoolSent }) else s
  let s := if x.desc.replay then s.modSpool g (fun k => { k with tkReplayed := k.tkReplayed + 1 }) else s
  s.depart (132 + g)

/-- A lane group can send a FRAME packet of a class: it is UP and out of electrical idle, with room in its replay buffer and
credit (R336, R340, R343). -/
def State.laneReady (s : State) (g sc len : Nat) : Bool :=
  let x := s.host g
  x.state == .up && !x.txEidle && x.room len && x.credit sc len

/-- FRAME_DEPARTURE: the oldest frame selected for a root has been sent and its descriptor goes (R21); `corrected` bursts of
it were corrected as it was read (R418). The frames of a trunk leave with its bursts. -/
def execFrameDeparture (root corrected : Nat) (s : State) : Res :=
  let s := if s.live && !(s.root root).sending.isEmpty then s.modCellar (fun c => { c with tkCe := c.tkCe + corrected }) else s
  match (s.root root).sending with
  | [] => .next s
  | x :: _ =>
    if root < 96 then .next (if s.powered root && (s.line root).linked then s.depart root else s)
    else if root < 128 then
      let d := s.drop (root - 96)
      if s.powered root && d.state == .up && d.opp == some 0 && decide (0 < d.burstLeft) then
        .next ((s.depart root).modDrop (root - 96) (fun d => { d with taken := true, burstLeft := d.burstLeft - 1 }))
      else .next s
    else if root < 132 then .next s
    else if root < 136 then
      let sc := match s.stored x.desc.id with
        | some st => st.sc
        | none => 0
      if s.powered root && s.laneReady (root - 132) sc x.frame.len then
        .next (s.laneSend (root - 132) x sc)
      else .next s
    else .next (if s.live then s.depart root else s)

end Machine
end Sys2Proof
end

