-- ==== Sys2Proof/Machine/PowerOps.lean ====
section
/-! DEFINITION. Shared operations of the power states (16): domains that close and open, the steps of an entry, the
currents of EMBER, and what hub SRAM loses in BANKED. -/
namespace Sys2Proof
namespace Machine

/-! ## Domains (R481 to R484) -/

/-- The loops of a domain (R511). -/
def domLoops (d : Nat) : List Nat :=
  if 4 ≤ d ∧ d < 8 then [d - 3] else if d = 8 ∨ d = 9 then [7] else if d = 10 ∨ d = 11 then [d - 5]
  else if d = 12 ∨ d = 13 then [8] else []

/-- The domain of a loop is on (R511): PLL_TRUNK needs one trunk domain, PLL_DRAM the cellar. -/
def State.loopOn (s : State) (l : Nat) : Bool :=
  if l = 0 then s.domOn 1
  else if l ≤ 4 then s.domOn (l + 3)
  else if l ≤ 6 then s.domOn (l + 5)
  else if l = 7 then s.domOn 8 || s.domOn 9
  else s.domOn 12 || s.domOn 13

/-- Loops whose domain is off are stopped and unlocked (R511). -/
def State.stopLoops (s : State) : State :=
  let off := maskOf ((List.range 9).filter (fun l => !s.loopOn l))
  s.modClock (fun c => { c with locked := c.locked &&& (511 - off), first := c.first &&& (511 - off) })

/-- One frame inside a unit's pipeline finishes: that of a lane group goes out as a FRAME packet where its group is UP with
room and credit for it; every other unit's leaves as sent (R482). -/
def State.finishOne (s : State) (r : Nat) : State :=
  if 132 ≤ r ∧ r < 136 then
    match (s.root r).sending with
    | [] => s
    | x :: _ =>
      let sc := match s.stored x.desc.id with
        | some st => st.sc
        | none => 0
      if s.laneReady (r - 132) sc x.frame.len then s.laneSend (r - 132) x sc else s
  else s.depart r

/-- Frames inside a unit's pipeline finish before A2 (R482). What a lane group cannot send then is discarded as its domain
goes off. -/
def State.finishRoot (s : State) (r : Nat) : State :=
  (List.range (s.root r).sending.length).foldl (fun s _ => s.finishOne r) s

/-- The drops of a line die. -/
def dieDrops (d : Nat) : List Nat := (List.range 8).map (fun k => 8 * d + k)

/-- A unit domain is switched off, at A3 (R482, R484): its units stop; with `keep` the coefficient banks of a line die
are held. BYPA and BYPB follow (R317). -/
def State.domainOff (s : State) (d : Nat) (keep : Bool) : State :=
  let s := (domRoots d).foldl State.finishRoot s
  let s := (s.modPower (fun p => { p with on := setBit p.on d false })).skimDomain d false
  let s :=
    if 4 ≤ d ∧ d < 8 then (dieDrops (d - 4)).foldl (fun s ds => s.dropStart ds s.now) (s.lineDieOff (d - 4) keep)
    else if d = 8 ∨ d = 9 then s.trunkDomain [2 * (d - 8), 2 * (d - 8) + 1] false s.now
    else if d = 10 ∨ d = 11 then s.hostDomain [2 * (d - 10), 2 * (d - 10) + 1] false s.now
    else s
  s.stopLoops.updateBypass s.now

/-- Every enabled unit of a unit domain trains from edge `start` (R484). -/
def State.domainTrain (s : State) (d start : Nat) : State :=
  if 4 ≤ d ∧ d < 8 then
    (dieDrops (d - 4)).foldl (fun s ds => if (tfind s.drops ds).isSome then s.dropStart ds start else s)
      (s.lineDieOn (d - 4) start)
  else if d = 8 ∨ d = 9 then s.trunkDomain [2 * (d - 8), 2 * (d - 8) + 1] true start
  else if d = 10 ∨ d = 11 then s.hostDomain [2 * (d - 10), 2 * (d - 10) + 1] true start
  else s

/-- The coefficient banks of a line die are held, as an entry left them (R217, R488). -/
def State.banksHeld (s : State) (d : Nat) : Bool :=
  match s.power.banked with
  | some e => decide (4 ≤ d) && decide (d < 8) && bit e.closed d && (bit e.lineKeep (d - 4) || bit e.lineWake (d - 4))
  | none => false

/-- A unit domain is powered: its units are calibrated in full, unless their coefficient banks were retained, and its
enabled units train (R484, R568). -/
def State.domainOn (s : State) (d : Nat) : State :=
  let s := (s.modPower (fun p => { p with on := setBit p.on d true })).skimDomain d true
  let s := if s.banksHeld d then s else s.calibrateAll (domRoots d)
  (s.domainTrain d s.now).updateBypass s.now

/-- A line die that was held for wake works again (R182, R488, R498): its drops return, its channels resume, each but the one that
detected the wake after waking its partner with a tone. -/
def State.heldOn (s : State) (d : Nat) (w : Option Wake) : State :=
  let woken := match w with
    | some w => if w.cause = 1 then some w.source else none
    | none => none
  ((dieDrops (d - 4)).foldl (fun s ds => if (tfind s.drops ds).isSome then s.dropStart ds s.now else s) s).lineDieHeld
    (d - 4) woken

/-! ## Currents and arming (R492) -/

/-- The last settings of WAKE_CONFIG, those still waiting for their edge included. -/
def State.wakeSet (s : State) : WakeCfg :=
  s.cfgq.foldl (fun w c => match c with
    | .wake x => x
    | _ => w) s.power.wake

/-- The last settings of DIN_CONFIG, those still waiting for their edge included. -/
def State.dinSet (s : State) : DinCfg :=
  s.cfgq.foldl (fun w c => match c with
    | .din x => x
    | _ => w) s.din.cfg

/-- Drops with WAKE_EN, settings that wait for their edge included. -/
def State.wakeDrops (s : State) : Nat :=
  ((List.range 32).filter (fun ds =>
    s.cfgq.foldl (fun w c => match c with
      | .drop k x => if k = ds then x.wakeEn else w
      | _ => w) (s.drop ds).cfg.wakeEn)).length

/-- Enabled channels of the discrete inputs: C of R492. -/
def DinCfg.channels (c : DinCfg) : Nat := popCount 4 c.enA + popCount 4 c.enB

/-- I_rest in microampere (R492), with K the kindle detectors armed. -/
def State.iRest (s : State) (w : WakeCfg) : Nat :=
  610 + 250 * popCount 4 w.kindle + 40 * s.wakeDrops + 10 * s.dinSet.channels

/-- I_worst in microampere (R492). -/
def State.iWorst (s : State) (w : WakeCfg) : Nat := s.iRest w + 350 * popCount 4 w.kindle

/-- The word of I_WORST and I_REST (WAKE_CONFIG). -/
def State.currents (s : State) (w : WakeCfg) : Word := packW [(16, s.iRest w), (16, s.iWorst w)]

/-- Some wake source is armed for the state (POWER_ENTER): line dies and host lanes do not wake EMBER. -/
def State.anyWake (s : State) (ember : Bool) (lineWake : Nat) : Bool :=
  let w := s.wakeSet
  w.kindle != 0 || w.din != 0 || w.go0 || w.go2 || w.timer != 0 || decide (0 < s.wakeDrops) ||
    (!ember && (w.host != 0 || lineWake != 0))

/-! ## Records (R499, R502, R505) -/

/-- The code of POWER_STATE (R85). -/
def Power.num : Power → Nat
  | .boot => 0 | .run => 1 | .banked => 2 | .ember => 3 | .damped => 4 | .cold => 0

/-- DATA of a TYPE 0x14 record (R499). -/
def powerData (new old : Nat) (aborted : Bool) (cause : Nat) : Nat :=
  pack [(3, new), (1, b2n aborted), (3, old), (1, 0), (8, cause)]

/-- The record of a wake, written once firmware runs (R502). -/
def State.wakeRecord (s : State) (cause source : Nat) (latched : Bool) : State :=
  s.record 0x15 source (wakeData cause latched)

/-- Both complexes write a record to their trace banks of 256 KB (R505). -/
def State.traceBoth (s : State) (type state tick sleep : Nat) : State :=
  s.modPower (fun p =>
    { p with trace := lastN 21844 (p.trace ++ [⟨type, state, false, tick, sleep⟩, ⟨type, state, true, tick, sleep⟩]) })

/-- The last 2 KB of each complex's trace (R506). -/
def traceTail (l : List TraceRec) : List TraceRec :=
  lastN 85 (l.filter (fun r => !r.south)) ++ lastN 85 (l.filter (fun r => r.south))

/-! ## The steps of an entry (R495 to R498) -/

/-- The tick of the next step of an entry (R495). -/
def Entry.due (e : Entry) : Nat := e.start + [1, 4, 5, 6, 8].getD e.steps 8

/-- An entry changed. -/
def State.setEntry (s : State) (e : Entry) : State := s.modPower (fun p => { p with entry := some e })

/-- The unit domains that an entry has closed. -/
def Entry.domains (e : Entry) : List Nat := (bitsOf 12 e.closed).filter (fun d => decide (4 ≤ d))

/-- A line die is held for wake: every enabled channel is ASLEEP (R488), and a TDR under way ends. DESIGN CHOICE: its drops stop and
read WAITING, with an event for one that was UP; the spec speaks of channels only (log 40). -/
def State.holdDie (s : State) (d : Nat) : State :=
  let s := ((List.range 24).map (fun k => 24 * (d - 4) + k)).foldl (fun s ch =>
    if (s.line ch).cfg.enable then ((s.endTdr ch).lineDown ch .asleep).modLine ch (fun l => { l with sleep := .silent }) else s) s
  (dieDrops (d - 4)).foldl (fun s ds =>
    if (tfind s.drops ds).isSome && (s.drop ds).state == .up then s.dropDown ds .waiting else s) s

/-- A3 for one domain: off, retained or held (R482, R488, R495). -/
def State.stepA3 (s : State) (e : Entry) (d : Nat) : State :=
  if e.holds d then s.holdDie d
  else s.domainOff d (!e.ember && decide (d < 8) && bit e.lineKeep (d - 4))

/-- A4: trace markers, the record of a change into BANKED, self-refresh, the end of skims under way (R431, R495, R499,
R506, R579). The step itself counts last, since no firmware runs after it. -/
def State.stepA4 (s : State) (e : Entry) : State :=
  let st := if e.ember then Power.ember else Power.banked
  let s := s.traceBoth 0xF0 st.num s.now 0
  if e.ember then s
  else (s.record 0x14 0 (powerData 2 1 false 0)).skimDiscard.modCellar (fun c => { c with selfRefresh := true })

/-- No loop runs, and FIO stops (R481, R508, R511). -/
def State.stopClocks (s : State) : State := s.modClock (fun c => { c with locked := 0, first := 0, runFio := false })

/-- Thermal and discrete-input supervision are suspended (R554, R560). -/
def State.suspend (s : State) : State :=
  { s with
    thermal := { s.thermal with pendClear := (List.range 10).filter (fun k => (s.thermal.sensors.getD k Sensor.reset).warn) }
    din := { s.din with inputs := s.din.inputs.map (fun i => { i with hearth := 0, cand := i.value }) } }

/-- EMBER is reached: trace tails are copied, PWREN falls, the balls of VDDIO18 are not driven, the cellar is lost
(R432, R490, R506, R528). -/
def State.reachEmber (s : State) : State :=
  let s := s.modPower (fun p => { p with tail := traceTail p.trace, trace := [], on := 1 })
  let s := s.modPins (fun p =>
    { p with pwrenCore := .low, pwrenAna := .low, pwrenIo := .low, ppsOut := .hiZ, tdo := .hiZ, bfCsN := .hiZ })
  let s := s.modClock (fun c => { c with runXa := false, runXb := false, xbFreq := 0 })
  s.modCellar (fun c => { CellarSt.reset with size := c.size, overwrite := c.overwrite, scrubHours := c.scrubHours })

/-- The state is reached (R495): POWER_STATE changes with doorbell 20; a latched wake is replayed (R496). -/
def State.reach (s : State) (e : Entry) : State :=
  let st := if e.ember then Power.ember else Power.banked
  let s := s.modPower (fun p =>
    { p with entry := none, banked := some e, lastState := if e.ember then 2 else 1, aborted := false, latched := false
             fired := none, railFail := false, waking := false })
  let s := (s.stopClocks.suspend.modBoot (fun b => { b with power := st, ready := false })).doorbell 20
  let s := if e.ember then s.reachEmber else s
  match e.latched with
  | none => s
  | some w =>
    let s := s.modPower (fun p => { p with fired := some w, cause := w.cause, source := w.source, latched := true })
    if e.ember then s.pwrenHigh else s

/-- A sleep handshake is undone: a channel that completed it wakes its partner and resumes, one that has not stops it (R182, R498). -/
def State.undoSleep (s : State) (ch : Nat) : State :=
  if (s.line ch).state == .asleep then s.wakePartner ch else s.modLine ch (fun l => { l with sleep := .none })

/-- The entry is abandoned at an abort point: steps are undone in reverse order (R498, R502). -/
def State.abandonEntry (s : State) (e : Entry) (w : Wake) : State :=
  let first := e.latched.getD w
  let s := s.modPower (fun p =>
    { p with entry := none, banked := some e, aborted := true, latched := e.latched.isSome, cause := first.cause, source := first.source
             railsOk := true })
  let s := (s.wakeRecord first.cause first.source e.latched.isSome).record 0x14 0
    (powerData (if e.ember then 3 else 2) 1 true w.cause)
  if e.steps < 3 then
    (((s.lines.map Prod.fst).filter (fun ch => e.domains.contains (domOfRoot ch))).foldl State.undoSleep s).decideStarts
  else
    e.domains.foldl (fun s d =>
      if e.holds d then s.heldOn d (some w)
      else s.modPower (fun p => { p with jobs := p.jobs ++ [⟨d, true, s.now, none⟩] })) s

/-- The wake that abandons an entry at the abort point now due: one that fired in an earlier tick (R497). -/
def Entry.givesUp (e : Entry) : Option Wake := if e.abandonAt < e.due then e.abandon else none

/-- One step of an entry that is due (R495 to R498). -/
def State.entryStep (s : State) (e : Entry) : State :=
  let next := { e with steps := e.steps + 1 }
  match e.givesUp with
  | some w => s.abandonEntry e w
  | none =>
    match e.steps with
    | 0 => s.setEntry { next with closed := s.power.on &&& 0xFF0 }
    | 1 => (e.domains.foldl (fun s d => (domRoots d).foldl State.finishRoot s) s).setEntry next
    | 2 => (e.domains.foldl (fun s d => s.stepA3 e d) s).setEntry next
    | 3 => (s.stepA4 e).setEntry next
    | _ => s.reach e

/-- No coefficient bank of a domain counts as held any longer (R484). -/
def Entry.release (e : Entry) (d : Nat) : Entry :=
  if 4 ≤ d ∧ d < 8 then { e with lineKeep := setBit e.lineKeep (d - 4) false, lineWake := setBit e.lineWake (d - 4) false } else e

/-- A domain whose closing has reached A3 is off, and POWER_DOMAIN_SET is answered (R482). -/
def State.closeDue (s : State) (j : DomJob) : State :=
  if !j.on && decide (j.start + 4 ≤ s.now) then
    let s := s.modPower (fun p =>
      { p with jobs := p.jobs.filter (fun k => k.dom != j.dom), banked := p.banked.map (fun e => e.release j.dom) })
    (s.domainOff j.dom false).ackLater j.reply .ok (lohi (j.start + 4))
  else s

/-! ## What hub SRAM has lost at resume (R486) -/

/-- Not all of banks `a` to `b` are retained. -/
def banksLost (hub a b : Nat) : Bool := (List.range (b + 1 - a)).any (fun k => !bit hub (a + k))

/-- Every frame held in a hub queue, or selected and not sent, is discarded and counted in BANKED_LOST. -/
def State.loseHeld (s : State) : State :=
  let s := s.sched.roots.foldl (fun s e =>
    (s.dropSending e.1).modPower (fun p => { p with lost := sat32 (p.lost + e.2.sending.length) })) s
  s.sched.queues.foldl (fun s e =>
    let s := e.2.held.foldl (fun s d => s.unref d.id) s
    let s := s.modPower (fun p => { p with lost := sat32 (p.lost + e.2.held.length) })
    s.modQueue e.1 (fun q => { q with held := [], leaving := 0, elig := false })) s

/-- A queue that is cleared; its counters stand in other banks (R486). -/
def Queue.cleared (i : Nat) (q : Queue) : Queue :=
  { Queue.default i with
    enqFrames := q.enqFrames, enqBytes := q.enqBytes, deqFrames := q.deqFrames, deqBytes := q.deqBytes
    dropLimit := q.dropLimit, dropFlush := q.dropFlush, heldOver := q.heldOver }

/-- A policer that is cleared; its counters stand in other banks (R486). -/
def Policer.cleared (p : Policer) : Policer :=
  { Policer.reset with gf := p.gf, gb := p.gb, yf := p.yf, yb := p.yb, rf := p.rf, rb := p.rb }

/-- Banks 0 to 39: queues, nodes, shapers, policers, root limits, gate lists, guarantees, streams, port settings, VLANs and
FDB_CONFIG are cleared. -/
def State.loseTables (s : State) : State :=
  let s := s.loseHeld
  { s with
    sched := { s.sched with
      queues := tmap Queue.cleared s.sched.queues, nodes := [], vtimes := [], roots := []
      policers := tmap (fun _ p => p.cleared) s.sched.policers, guars := [], flushes := [], enqueues := []
      runCauses := [], runHeld := [], active := [], picked := [] }
    bridge := { s.bridge with
      ports := [], vlans := BridgeSt.reset.vlans, streams := [], ageTime := BridgeSt.reset.ageTime
      slice := BridgeSt.reset.slice } }

/-- Banks 48 to 59: counters restart at zero, baselines are taken again, topology and routes are learned again. -/
def State.loseCounters (s : State) : State :=
  let s := { s with
    lines := tmap (fun _ l => { l with cnt := LineCnt.zero, cntTick := LineCnt.zero, recoveries := 0, baseline := none }) s.lines
    drops := tmap (fun _ d => { d with cnt := DropCnt.zero, cntTick := DropCnt.zero, recoveries := 0, badFrames := 0 }) s.drops
    trunks := tmap (fun _ t => { t with
      sigCnt := SigCnt.zero, sigTick := SigCnt.zero, retx := 0, tluDrop := 0, frameLost := 0, badFrames := 0, recoveries := 0 }) s.trunks
    hosts := tmap (fun _ g => { g with cnt := HostCnt.zero, cntTick := HostCnt.zero, recoveries := 0, badFrames := 0 }) s.hosts
    bridge := { s.bridge with cnt := BridgeCnt.zero, cntTick := BridgeCnt.zero }
    sched := { s.sched with
      queues := tmap (fun _ q =>
        { q with
          enqFrames := 0, enqBytes := 0, deqFrames := 0, deqBytes := 0, dropLimit := 0, dropFlush := 0, heldOver := 0 })
        s.sched.queues
      policers := tmap (fun _ h => { h with gf := 0, gb := 0, yf := 0, yb := 0, rf := 0, rb := 0 }) s.sched.policers }
    cellar := { s.cellar with
      ce := 0, ue := 0, noPage := 0
      groups := s.cellar.groups.map (fun (k : SpoolGroup) => { k with spooled := 0, fullDrop := 0, overwritten := 0, replayed := 0 }) }
    fabric := { s.fabric with
      cnt := FabCnt.zero, cntTick := FabCnt.zero, routes := [], tree := []
      recov := tmap (fun _ (r : Recovery) =>
        { r with cnt := RecCnt.zero, cntTick := RecCnt.zero }) s.fabric.recov }
    skim := { s.skim with
      units := tmap (fun _ k => { k with passes := 0, fails := 0, overdues := 0, abandoned := 0 }) s.skim.units } }
  if s.fabric.started then s.rejoin else s

/-- Banks 60 to 63: the cellar's contents are discarded, and spool numbering restarts (R425, R432); retired pages stay retired until a
reset (R420). -/
def State.loseCellar (s : State) : State :=
  let s := s.loseHeld
  { s with
    hosts := tmap (fun _ g => { g with spoolAcked := 0, spoolSent := 0, ackNext := none }) s.hosts
    cellar := { s.cellar with
      store := [], used := 0, spool := []
      groups := s.cellar.groups.map (fun (k : SpoolGroup) =>
        { k with lastSeq := 0, acked := 0, replaying := false, startDue := none, todo := [] }) } }

/-- What the banks that were not retained leave, but for the replays (R486). -/
def State.loseBanks (s : State) (hub : Nat) : State :=
  let s := if banksLost hub 0 39 then s.loseTables else s
  let s := if banksLost hub 40 47 then s.modBridge (fun b => { b with fdb := [], learns := [] }) else s
  let s := if banksLost hub 48 59 then s.loseCounters else s
  if banksLost hub 60 63 then s.loseCellar else s

end Machine
end Sys2Proof
end

