-- ==== Sys2Proof/Machine/Din.lean ====
section
/-! DEFINITION. Discrete inputs (18, R555 to R560): samples, the agreed value, discrepancy, hearth sampling, commands. -/
namespace Sys2Proof
namespace Machine

/-! ## Inputs -/

/-- Discrete input `i`. -/
def State.input (s : State) (i : Nat) : Din := s.din.inputs.getD i Din.reset

/-- Discrete inputs changed. -/
def State.modDin (s : State) (f : DinSt → DinSt) : State := { s with din := f s.din }

/-- Discrete input `i` changed. -/
def State.modInput (s : State) (i : Nat) (f : Din → Din) : State :=
  s.modDin (fun d => { d with inputs := lmod d.inputs i f })

/-- Both channels of an input are enabled. -/
def DinCfg.dual (c : DinCfg) (i : Nat) : Bool := bit c.enA i && bit c.enB i

/-- Some channel of an input is enabled. -/
def DinCfg.any (c : DinCfg) (i : Nat) : Bool := bit c.enA i || bit c.enB i

/-- The samples of an input agree, after INV_B (R555); a single channel always agrees with itself (R559). -/
def DinCfg.agree (c : DinCfg) (i : Nat) (a b : Bool) : Bool := !c.dual i || a == (b != bit c.invB i)

/-- The value on which the samples agree (R555, R559). -/
def DinCfg.valueOf (c : DinCfg) (i : Nat) (a b : Bool) : Bool := if bit c.enA i then a else b

/-! ## Change of the agreed value (R556) -/

/-- The agreed value becomes `v`: doorbell 22 and a record, the bypass policy, and a wake during an entry (R317, R497,
R556). -/
def State.dinAgree (s : State) (i : Nat) (v : Bool) (start : Nat) : State :=
  if (s.input i).value == v then s
  else
    let s := ((s.modInput i (fun d => { d with value := v })).event 22 i (b2n v)).updateBypass start
    if s.power.entry.isSome && bit s.power.wake.din i then s.fireWake ⟨0x05, i⟩ true else s

/-- The filter count after a sample that agrees on `v` (R556). -/
def Din.count (d : Din) (v : Bool) : Din :=
  if v == d.value then { d with cand := v, filt := 0 }
  else { d with cand := v, filt := if d.cand == v then satTo 255 (d.filt + 1) else 1 }

/-- One sample of an input (R555 to R558). A quiet period takes its length at its first sample (R535). -/
def Din.sample (d : Din) (c : DinCfg) (i : Nat) (a b : Bool) (quiet : Nat) : Din :=
  let d := { d with a := a, b := b }
  let v := c.valueOf i a b
  if !c.any i then d
  else if d.fault then
    let d := if d.quietNeed = 0 then { d with quietNeed := quiet } else d
    if c.agree i a b then { d with run := 0, quiet := d.quiet + 1, cand := v }
    else { d with run := sat16 (d.run + 1), quiet := 0 }
  else if c.agree i a b then ({ d with run := 0 } : Din).count v
  else { d with run := sat16 (d.run + 1), filt := 0 }

/-- The supervision of temperature and inputs runs (R543, R554, R560). -/
def State.supervised (s : State) : Bool :=
  s.time.seq && (s.boot.power == .run || s.boot.power == .boot || s.boot.power == .damped)

/-- DIN_SAMPLE: the levels at the balls at the edge that begins the tick; a disabled channel reads as low (R63, R555). -/
def execDinSample (a b : Nat) (s : State) : Res :=
  if s.supervised then
    let c := s.din.cfg
    .next (s.modDin (fun d => { d with inputs := (List.zip (List.range 4) d.inputs).map (fun x =>
      x.2.sample c x.1 (bit c.enA x.1 && bit a x.1) (bit c.enB x.1 && bit b x.1) s.faults.quiet.din) }))
  else .next s

/-- DIN_CHANGE: FILTER consecutive ticks agreed on another value (R556). -/
def execDinChange (i : Nat) (s : State) : Res :=
  let d := s.input i
  if s.supervised && decide (i < 4) && !d.fault && d.cand != d.value && decide (s.din.cfg.filter ≤ d.filt) then
    .next ((s.modInput i (fun d => { d with filt := 0 })).dinAgree i d.cand s.now)
  else .next s

/-! ## Discrepancy (R557, R558) -/

/-- DIN_DISCREPANCY of an input, whoever raises it (R557, R599). -/
def State.dinFault (s : State) (i : Nat) : State :=
  let d := s.input i
  ((s.recordFault 0x1D01 i).modInput i (fun d => { d with fault := true, quiet := 0, quietNeed := 0, filt := 0 })).event 23 i
    (b2n d.a + 2 * b2n d.b)

/-- DIN_DISCREPANCY: the D-th consecutive disagreeing tick (R557). -/
def execDinDiscrepancy (i : Nat) (s : State) : Res :=
  let d := s.input i
  if s.supervised && decide (i < 4) && s.din.cfg.dual i && !d.fault && decide (s.din.cfg.d.getD i 0 ≤ d.run) then
    .next (s.dinFault i)
  else .next s

/-- DIN_DISCREPANCY_CLEAR: QUIET consecutive agreeing ticks have passed (R537, R558). -/
def execDinDiscrepancyClear (i : Nat) (s : State) : Res :=
  let d := s.input i
  if s.supervised && decide (i < 4) && d.fault && d.quietNeed != 0 && decide (d.quietNeed ≤ d.quiet) then
    .next ((s.modInput i (fun d =>
      { d with fault := false, quiet := 0, quietNeed := 0, run := 0, filt := 0
               recoveries := sat16 (d.recoveries + 1) })).dinAgree i d.cand s.now)
  else .next s

/-! ## Hearth samples (R560) -/

/-- One hearth sample of an input. -/
def Din.hearthSample (d : Din) (c : DinCfg) (i : Nat) (a b : Bool) : Din :=
  let v := c.valueOf i a b
  if c.any i && c.agree i a b && v != d.value then
    { d with cand := v, hearth := if d.cand == v then satTo 255 (d.hearth + 1) else 1 }
  else { d with cand := d.value, hearth := 0 }

/-- DIN_HEARTH_SAMPLE: in BANKED and EMBER a new agreed value in two consecutive samples is a wake (R501, R560). -/
def execDinHearthSample (a b : Nat) (s : State) : Res :=
  if s.boot.power == .banked || s.boot.power == .ember then
    let c := s.din.cfg
    let s := s.modDin (fun d => { d with inputs := (List.zip (List.range 4) d.inputs).map (fun x =>
      x.2.hearthSample c x.1 (bit c.enA x.1 && bit a x.1) (bit c.enB x.1 && bit b x.1)) })
    .next ((List.range 4).foldl (fun s i =>
      if bit s.power.wake.din i && decide (2 ≤ (s.input i).hearth) then s.fireWake ⟨0x05, i⟩ true else s) s)
  else .next s

/-! ## DIN_CONFIG, DIN_STATUS (0x4005, 0x4006) -/

/-- The settings that a DIN_CONFIG asks for. -/
def dinOf (m : Msg) : DinCfg :=
  ⟨m.get 1 16 8, m.get 1 12 4, m.get 1 0 4, m.get 1 4 4, [m.get 2 0 16, m.get 2 16 16, m.get 3 0 16, m.get 3 16 16]⟩

/-- The bypass policy names an input that would have no channel enabled (DIN_CONFIG). -/
def State.policyLoses (s : State) (c : DinCfg) : Bool :=
  match fld s.boot.policy 2 3 with
  | 0 => false
  | k + 1 => !c.any k

/-- DIN_CONFIG. -/
def cmdDinConfig (m : Msg) (s : State) : Reply :=
  let c := dinOf m
  .unless (c.filter == 0 || c.d.contains 0 || m.stray 1 0x00FFF0FF) .badArg <|
  .unless (s.policyLoses c) .conflict <|
  .ok [w32 c.channels] (s.accept (.din c))

def dinConfigCmd : Cmd := ⟨0x4005, [4], true⟩
/-- DIN_CONFIG (R559). -/
def execDinConfig (m : Msg) (s : State) : Res := .next (s.mailbox dinConfigCmd m cmdDinConfig)

/-- The configuration of one input differs. -/
def DinCfg.differs (a b : DinCfg) (i : Nat) : Bool :=
  a.filter != b.filter || bit a.invB i != bit b.invB i || bit a.enA i != bit b.enA i || bit a.enB i != bit b.enB i ||
    a.d.getD i 0 != b.d.getD i 0

/-- DIN_CONFIG takes effect on one input (R559). -/
def State.dinTake (s : State) (old : DinCfg) (i : Nat) : State :=
  let c := s.din.cfg
  if !old.differs c i then s
  else
    let s := s.modInput i (fun d =>
      { d with run := 0, filt := 0, fault := d.fault && c.dual i
               quiet := if c.dual i then d.quiet else 0, quietNeed := if c.dual i then d.quietNeed else 0 })
    if c.any i then s else s.dinAgree i false (s.now + 1)

/-- DIN_CONFIG takes effect (R559). -/
def State.applyDin (s : State) (c : DinCfg) : State :=
  let old := s.din.cfg
  (List.range 4).foldl (fun s i => s.dinTake old i) (s.modDin (fun d => { d with cfg := c }))

/-- DIN_STATUS. -/
def cmdDinStatus (m : Msg) (s : State) : Reply :=
  let l := s.din.inputs
  .unless (m.stray 1 0) .badArg <|
  .ok (packW [(4, maskBits (l.map Din.value)), (4, maskBits (l.map Din.fault)), (4, maskBits (l.map Din.a)),
      (4, maskBits (l.map Din.b))] :: l.map (fun d => packW [(16, d.run), (16, d.recoveries)])) s

def dinStatusCmd : Cmd := ⟨0x4006, [2], false⟩
/-- DIN_STATUS (R537, R556). -/
def execDinStatus (m : Msg) (s : State) : Res := .next (s.mailbox dinStatusCmd m cmdDinStatus)

end Machine
end Sys2Proof
end

