-- ==== Sys2Proof/Machine/FaultOps.lean ====
section
/-! DEFINITION. FATAL faults: the kill lines and the entry into DAMPED (R541 to R543). -/
namespace Sys2Proof
namespace Machine

/-- DAMPED is entered: POWER_STATE changes, with doorbells 5 and 20, both set by the collector (R541, R543); skims under way are
discarded (R579). -/
def State.enterDamped (s : State) : State :=
  (((s.modBoot (fun b => { b with power := .damped, ready := false })).modFaults
    (fun f => { f with dampedDue := false })).skimDiscard.doorbell 5).doorbell 20

/-- Every trunk is released by the fall of BYPA and BYPB, with no firmware to report it (R318, R542). -/
def State.releaseAll (s : State) : State :=
  { s with trunks := tmap (fun _ t => { t.unlink with state := .bypassed, kindle := none, relayEnd := none }) s.trunks }

/-- The kill lines: nothing is committed further, both complexes halt and the outputs take the states of R542; an entry
into BANKED or EMBER ends (R500), a keep-store command is cut short (R589). -/
def State.kill (s : State) : State :=
  ((((s.modBoot (fun b => { b with halted := true })).modPins
    (fun p => { p with byp := .low, ppsOut := .low, bfCsN := .high })).modPower
    (fun p => { p with entry := none, jobs := [] })).modFaults (fun f => { f with dampedDue := true })).releaseAll.keepCutShort

/-- A FATAL or collector-level fault (R541, R546). In DAMPED, or after another in the same tick, it is only recorded.
Before the tick sequencer has started there is no edge to wait for (log 14). -/
def State.fatal (s : State) (code unit : Nat) (detail : Word := 0) : State :=
  let s := s.recordFault code unit detail
  if s.boot.halted || s.boot.power == .damped then s
  else if s.time.seq then s.kill else s.kill.enterDamped

/-! ## The collector's own state and the steward token (R544, R545) -/

/-- What the comparison of the collector's two copies finds: a parity error in either, or a difference between two of good parity
(R544). -/
def FaultSt.compare (f : FaultSt) : Option Nat :=
  if !(f.parityA && f.parityB) then some 0x0D01 else if !f.same then some 0x0D02 else none

/-- The collector compares its copies, and raises what it finds (R544). -/
def State.collectorCheck (s : State) : State :=
  match s.faults.compare with
  | some code => s.fatal code 0xFF
  | none => s

/-- The steward token is read and its parity checked: STEWARD_PARITY carries the token bit as read (R545). -/
def State.tokenCheck (s : State) : State :=
  if s.boot.tokenParity then s else s.fatal 0x0D03 (b2n s.boot.stewardSouth)

end Machine
end Sys2Proof
end

