-- ==== Sys2Proof/Machine/Thermal.lean ====
section
/-! DEFINITION. Temperature supervision (18, R548 to R554): readings, confirmation and clearing, lost sensors, commands. -/
namespace Sys2Proof
namespace Machine

/-- Temperature supervision changed. -/
def State.modThermal (s : State) (f : ThermalSt → ThermalSt) : State := { s with thermal := f s.thermal }

/-- Sensor `k`. -/
def State.sensor (s : State) (k : Nat) : Sensor := s.thermal.sensors.getD k Sensor.reset

/-- Sensor `k` changed. -/
def State.modSensor (s : State) (k : Nat) (f : Sensor → Sensor) : State :=
  s.modThermal (fun t => { t with sensors := lmod t.sensors k f })

/-! ## Readings (R548, R549, R553) -/

/-- A count of consecutive readings. -/
def streak (n : Nat) (goesOn : Bool) : Nat := if goesOn then satTo 255 (n + 1) else 0

/-- The counts after a reading in 0.25 degrees C (R549); thresholds are whole degrees. -/
def Sensor.counts (x : Sensor) (r warn damp : Int) : Sensor :=
  { x with
    reading := r
    warnUp := if x.warn then 0 else streak x.warnUp (decide (4 * warn ≤ r))
    warnDn := if x.warn then streak x.warnDn (decide (r < 4 * (warn - 4))) else 0
    dampUp := if x.damp then 0 else streak x.dampUp (decide (4 * damp ≤ r))
    dampDn := if x.damp then streak x.dampDn (decide (r < 4 * (damp - 4))) else 0 }

/-- One conversion of a sensor, none where it is not valid; the sensor's offset is in 1/64 degrees C (R553, R587). -/
def Sensor.take (x : Sensor) (r : Option Int) (warn damp : Int) : Sensor :=
  let x := match r with
    | some _ => { x with invalid := 0, validRun := satTo 255 (x.validRun + 1) }
    | none => { x with invalid := satTo 255 (x.invalid + 1), validRun := 0 }
  if x.lost then x.counts (4 * warn) warn damp
  else match r with
    | some v => x.counts (v + x.offset / 16) warn damp
    | none => x

/-- A reading in whole degrees C plus 64 (R551). -/
def wholeTemp (r : Int) : Nat := ofInt 8 (r / 4 + 64)

/-- DATA of a TYPE 0x06 record (R551). -/
def Sensor.warnData (x : Sensor) (confirmed : Bool) : Nat := b2n confirmed + 256 * wholeTemp x.reading

/-- After a resume, each WARN that was confirmed before gets its cleared record with the first reading (R554). -/
def State.clearPending (s : State) : State :=
  (s.thermal.pendClear.foldl (fun s k => s.record 6 k ((s.sensor k).warnData false)) s).modThermal (fun t =>
    { t with pendClear := [] })

/-- TEMPERATURE_READING: one conversion of each of the 10 sensors, in 0.25 degrees C before its offset (R548). -/
def execTemperatureReading (readings : List (Option Int)) (s : State) : Res :=
  if s.supervised then
    .next (s.modThermal (fun t => { t with sensors := (List.zip (List.range 10) t.sensors).map (fun x =>
      x.2.take (readings.getD x.1 none) t.warn t.damp) })).clearPending
  else .next s

/-! ## Confirmation and clearing (R549, R551) -/

/-- THERMAL_WARN_CONFIRM (R551). -/
def execThermalWarnConfirm (sensor : Nat) (s : State) : Res :=
  let x := s.sensor sensor
  if s.supervised && decide (sensor < 10) && !x.warn && decide (40 ≤ x.warnUp) then
    .next ((s.modSensor sensor (fun x => { x with warn := true, warnUp := 0 })).event 6 sensor (x.warnData true))
  else .next s

/-- THERMAL_WARN_CLEAR (R549, R551). -/
def execThermalWarnClear (sensor : Nat) (s : State) : Res :=
  let x := s.sensor sensor
  if s.supervised && decide (sensor < 10) && x.warn && decide (40 ≤ x.warnDn) then
    .next ((s.modSensor sensor (fun x => { x with warn := false, warnDn := 0 })).record 6 sensor (x.warnData false))
  else .next s

/-- THERMAL_DAMP (R549, R551), with the reading in F_DETAIL (R547). -/
def execThermalDamp (sensor : Nat) (s : State) : Res :=
  let x := s.sensor sensor
  if s.supervised && decide (sensor < 10) && !x.damp && decide (40 ≤ x.dampUp) then
    .next ((s.modSensor sensor (fun x => { x with damp := true, dampUp := 0 })).fatal 0x3D01 sensor
      (w32 (ofInt 32 x.reading)))
  else .next s

/-- A confirmed DAMP clears at the edge after 40 consecutive readings below its threshold less 4 degrees (R549). -/
def State.dampEdge (s : State) : State :=
  if s.supervised then s.modThermal (fun t => { t with sensors := t.sensors.map (fun x =>
    if x.damp && decide (40 ≤ x.dampDn) then { x with damp := false, dampDn := 0 } else x) })
  else s

/-- SENSOR_LOST: 40 consecutive ticks without a valid reading (R553). -/
def execSensorLost (sensor : Nat) (s : State) : Res :=
  let x := s.sensor sensor
  if s.supervised && decide (sensor < 10) && !x.lost && decide (40 ≤ x.invalid) then
    .next (((s.modSensor sensor (fun x => { x with lost := true })).condition 0x2D01 sensor true).notice 0x2D01 sensor)
  else .next s

/-- SENSOR_RECOVER: 40 consecutive valid readings (R553). -/
def execSensorRecover (sensor : Nat) (s : State) : Res :=
  let x := s.sensor sensor
  if s.supervised && decide (sensor < 10) && x.lost && decide (40 ≤ x.validRun) then
    .next ((s.modSensor sensor (fun x => { x with lost := false })).condition 0x2D01 sensor false)
  else .next s

/-- Supervision restarts after BANKED with every count at zero and every condition clear (R554). -/
def State.thermalRestart (s : State) : State :=
  let s := s.modThermal (fun t => { t with sensors := t.sensors.map (fun x =>
    { Sensor.reset with reading := x.reading, offset := x.offset }) })
  s.modFaults (fun f => { f with conds := f.conds.filter (fun c => c.1 != 0x2D01) })

/-! ## THERMAL_SET, THERMAL_STATUS (0x4003, 0x4004) -/

/-- The highest DAMP of the grade (R550). -/
def State.dampMax (s : State) : Nat := if s.fuses.gradeX then 127 else 112

/-- THERMAL_SET. -/
def cmdThermalSet (m : Msg) (s : State) : Reply :=
  let warn := m.get 1 0 8
  let damp := m.get 1 8 8
  .unless (warn < 40 || damp ≤ warn || damp < 50 || s.dampMax < damp || m.stray 1 0xFFFF) .badArg <|
  .ok [] (s.accept (.thermal warn damp))

def thermalSetCmd : Cmd := ⟨0x4003, [2], true⟩
/-- THERMAL_SET (R550, R552). -/
def execThermalSet (m : Msg) (s : State) : Res := .next (s.mailbox thermalSetCmd m cmdThermalSet)

/-- THERMAL_SET takes effect: confirmed conditions stay, every count restarts (R552). -/
def State.applyThermal (s : State) (warn damp : Int) : State :=
  s.modThermal (fun t =>
    { t with warn := warn, damp := damp
             sensors := t.sensors.map (fun x => { x with warnUp := 0, warnDn := 0, dampUp := 0, dampDn := 0 }) })

/-- Two sensors' readings in one word. -/
def State.readingWord (s : State) (k : Nat) : Word :=
  packW [(16, ofInt 16 (s.sensor (2 * k)).reading), (16, ofInt 16 (s.sensor (2 * k + 1)).reading)]

/-- THERMAL_STATUS. -/
def cmdThermalStatus (m : Msg) (s : State) : Reply :=
  let l := s.thermal.sensors
  .unless (m.stray 1 0) .badArg <|
  .ok (packW [(10, maskBits (l.map Sensor.warn)), (10, maskBits (l.map Sensor.damp)), (10, maskBits (l.map Sensor.lost))]
    :: (List.range 5).map s.readingWord ++ [packW [(8, ofInt 8 s.thermal.warn), (8, ofInt 8 s.thermal.damp)]]) s

def thermalStatusCmd : Cmd := ⟨0x4004, [2], false⟩
/-- THERMAL_STATUS (R549). -/
def execThermalStatus (m : Msg) (s : State) : Res := .next (s.mailbox thermalStatusCmd m cmdThermalStatus)

end Machine
end Sys2Proof
end

