-- ==== Sys2Proof/Machine/Fault.lean ====
section
/-! DEFINITION. Faults (18): the codes of the manual, FATAL faults and tick overruns, and the fault commands. -/
namespace Sys2Proof
namespace Machine

/-! ## The fault codes of the manual -/

/-- Codes of level 2 (R379, R419, R478, R519, R534, R563, R573, R579, R588). -/
def noticeCodes : List Nat :=
  [0x2601, 0x2801, 0x2901, 0x2A01, 0x2B01, 0x2B02, 0x2B03, 0x2D01, 0x2E01, 0x2E02, 0x2E03, 0x2E04, 0x2E05]

/-- Codes of levels 0 and 3 but the tick overruns (R88, R379, R413, R420, R422, R478, R519, R534). -/
def fatalCodes : List Nat :=
  [0x0D01, 0x0D02, 0x0D03, 0x3602, 0x3701, 0x3702, 0x3801, 0x3802, 0x3901, 0x3A01, 0x3A02, 0x3A10, 0x3A11, 0x3A12,
   0x3B01, 0x3B02, 0x3D01, 0x3DFE]

/-- A tick overrun of a subsystem (R32, R534). -/
def isOverrun (code : Nat) : Bool :=
  levelOf code == 3 && fld code 0 8 == 0xF0 && decide (1 ≤ subsysOf code) && decide (subsysOf code ≤ 14) &&
    decide (code < 2 ^ 16)

/-- A code of level 0 or 3. -/
def isFatal (code : Nat) : Bool := fatalCodes.contains code || isOverrun code

/-- A channel-level code. -/
def isChannel (code : Nat) : Bool :=
  isLineFault code || isDropFault code || isTrunkFault code || code == 0x1501 || code == 0x1502 || code == 0x1D01

/-- The code is defined in the manual. -/
def isFault (code : Nat) : Bool := noticeCodes.contains code || isFatal code || isChannel code

/-- The UNIT is one that the code's source can carry (R547, R599). -/
def faultUnitOk (code unit : Nat) : Bool :=
  if isLineFault code then decide (unit < 96)
  else if isDropFault code then decide (96 ≤ unit) && decide (unit < 128)
  else if isTrunkFault code then decide (128 ≤ unit) && decide (unit < 132)
  else if code = 0x1501 ∨ code = 0x1502 then decide (132 ≤ unit) && decide (unit < 136)
  else if code = 0x1D01 then decide (unit < 4)
  else if code = 0x2D01 ∨ code = 0x3D01 then decide (unit < 10)
  else if code = 0x3B02 then decide (unit < 9)
  else if code = 0x2E03 ∨ code = 0x2E04 then decide (unit < 136)
  else if code = 0x2E05 then decide (unit < 136) || unit == 0xFF
  else unit == 0xFF

/-! ## FATAL_FAULT, TICK_OVERRUN -/

/-- UNIT of a FATAL or collector-level fault: a loop's bit or a sensor where its source is one, and otherwise 0xFF (R547). -/
def fatalUnit (code unit : Nat) : Nat := if code = 0x3B02 ∨ code = 0x3D01 then unit else 0xFF

/-- F_DETAIL of such a fault: that of a tick overrun or the reading of THERMAL_DAMP, and otherwise 0 (R547). -/
def fatalDetail (code : Nat) (detail : Word) : Word := if isOverrun code || code == 0x3D01 then detail else 0

/-- The subsystem of an engine of R28. -/
def engineSubsys (engine : Nat) : Nat := [0, 1, 4, 6, 6, 7, 7, 7, 9, 9, 0xE, 0xE].getD engine 0

/-- F_DETAIL of a tick overrun (R547): the core cycle at which the engine finished, the die of engine 1, the engine. -/
def overrunDetail (engine die finish : Nat) : Word :=
  packW [(16, finish), (10, 0), (2, if engine = 1 then die else 0), (4, engine)]

/-- A detail is that of an overrun of an engine of a subsystem: past cycle 30,000 (R32, R547). -/
def overrunOk (subsys : Nat) (detail : Word) : Bool :=
  let engine := fld detail.toNat 28 4
  let finish := fld detail.toNat 0 16
  decide (1 ≤ engine) && decide (engine ≤ 11) && engineSubsys engine == subsys && decide (30000 < finish) &&
    detail == overrunDetail engine (fld detail.toNat 26 2) finish

/-- A source gives the fault this UNIT and this detail (R547): a loop of R511, a sensor, an engine of R28. -/
def fatalCan (code unit : Nat) (detail : Word) : Bool :=
  if code = 0x3B02 then decide (unit < 9)
  else if code = 0x3D01 then decide (unit < 10)
  else !isOverrun code || overrunOk (subsysOf code) detail

/-- A parity error in a copy of the collector's registers, the second where `unit` is odd, raises COLLECTOR_PARITY (R544). -/
def State.collectorParity (s : State) (unit : Nat) : State :=
  (s.modFaults (fun f =>
    if bit unit 0 then { f with parityB := false } else { f with parityA := false })).collectorCheck

/-- The two copies of the collector's registers differ: COLLECTOR_DUP where the parity of both is good (R544). -/
def State.collectorDup (s : State) : State :=
  if s.faults.parityA && s.faults.parityB then (s.modFaults (fun f => { f with same := false })).collectorCheck else s

/-- The steward token has a parity error, bit 0 of `unit` being the token bit as read (R545). -/
def State.tokenBad (s : State) (unit : Nat) : State :=
  (s.modBoot (fun b => { b with tokenParity := false, stewardSouth := bit unit 0 })).tokenCheck

/-- FATAL_FAULT: a level-3 or level-0 fault is detected (R541, R544 to R547). A UNIT or detail that no source of the code can give is
no fault. -/
def execFatalFault (code unit : Nat) (detail : Word) (s : State) : Res :=
  if s.awake && isFatal code && fatalCan code unit detail then
    if code = 0x0D01 then .next (s.collectorParity unit)
    else if code = 0x0D02 then .next s.collectorDup
    else if code = 0x0D03 then .next (s.tokenBad unit)
    else .next (s.fatal code (fatalUnit code unit) (fatalDetail code detail))
  else .next s

/-- The last core cycle of the present tick (R8, R24, R460). -/
def State.lastCycle (s : State) : Int := if s.fabric.step.isSome then 62498 else 31249 + s.fabric.adjust

/-- TICK_OVERRUN: an engine has not finished by cycle 30,000 (R32); the tick is not committed. A further engine or die of the
same tick is recorded too. DEDUCED, safe: an engine whose work ends with cycle 30,000 itself has finished by it (log 83). -/
def execTickOverrun (engine die finish : Nat) (s : State) : Res :=
  if s.time.seq && !s.time.committed && s.awake && (!s.boot.halted || s.faults.dampedDue) && decide (1 ≤ engine) && decide (engine ≤ 11) &&
      decide (30000 < finish) then
    .next (s.fatal (0x30F0 + 256 * engineSubsys engine) 0xFF
      (overrunDetail engine die (if s.lastCycle < finish then 0xFFFF else finish)))
  else .next s

/-! ## FAULT_STATUS, FAULT_CLEAR, FAULT_CONFIG (0x4000 to 0x4002) -/

/-- The condition of a latched notice is present (R539). -/
def State.present (s : State) (code : Nat) : Bool := s.faults.conds.any (fun c => c.1 == code)

/-- PRESENT of a latched notice: its condition holds, or its event was raised in this tick (R539). -/
def State.presentNow (s : State) (code : Nat) : Bool := s.present code || s.faults.raised.contains code

/-- FAULT_STATUS. -/
def cmdFaultStatus (m : Msg) (s : State) : Reply :=
  let l := (s.faults.notices.drop (m.get 1 0 6)).take 14
  .unless (m.stray 1 0x3F) .badArg <|
  .ok (packW [(16, s.faults.latchFull), (8, l.length), (8, s.faults.notices.length)] ::
    w32 (maskBits (l.map (fun n => s.presentNow n.code))) :: l.map (fun n => packW [(16, n.count), (16, n.code)])) s

def faultStatusCmd : Cmd := ⟨0x4000, [2], false⟩
/-- FAULT_STATUS (R538, R539). -/
def execFaultStatus (m : Msg) (s : State) : Res := .next (s.mailbox faultStatusCmd m cmdFaultStatus)

/-- FAULT_CLEAR. -/
def cmdFaultClear (m : Msg) (s : State) : Reply :=
  let code := m.get 1 0 16
  if m.flag 1 16 then
    .unless (code != 0 || m.stray 1 0x1FFFF) .badArg <|
    .ok [] (s.modFaults (fun f => { f with record := Record.empty }))
  else
    .unless (levelOf code != 2 || m.stray 1 0x1FFFF) .badArg <|
    .unless (s.present code || !s.faults.notices.any (fun n => n.code == code)) .wrongState <|
    .ok [] (s.modFaults (fun f => { f with notices := f.notices.filter (fun n => n.code != code) }))

def faultClearCmd : Cmd := ⟨0x4001, [2], true⟩
/-- FAULT_CLEAR (R540, R546). -/
def execFaultClear (m : Msg) (s : State) : Res := .next (s.mailbox faultClearCmd m cmdFaultClear)

/-- The settings that a FAULT_CONFIG asks for. -/
def quietOf (m : Msg) : QuietCfg := ⟨m.get 1 0 16, m.get 1 16 16, m.get 2 0 16, m.get 2 16 16, m.get 3 0 16⟩

/-- FAULT_CONFIG. -/
def cmdFaultConfig (m : Msg) (s : State) : Reply :=
  let q := quietOf m
  .unless (q.line == 0 || q.drop == 0 || q.trunk == 0 || q.lane == 0 || q.din == 0 || m.stray 3 0xFFFF) .badArg <|
  .ok [] (s.accept (.quiet q))

def faultConfigCmd : Cmd := ⟨0x4002, [4], true⟩
/-- FAULT_CONFIG (R535). -/
def execFaultConfig (m : Msg) (s : State) : Res := .next (s.mailbox faultConfigCmd m cmdFaultConfig)

/-! ## FAULT_INJECT (0x4007) -/

/-- A channel-level fault of a unit. -/
def State.channelFault (s : State) (code unit : Nat) : State :=
  if unit < 4 ∧ code = 0x1D01 then s.dinFault unit
  else if unit < 96 then s.lineFault unit code
  else if unit < 128 then s.dropFault (unit - 96) code
  else if unit < 132 then s.trunkFault (unit - 128) code
  else s.hostFault (unit - 132) code

/-- Life-cycle states that permit fault injection and full self-test (R580). -/
def Life.open (l : Life) : Bool := l == .maker || l == .bench || l == .ret

/-- FAULT_INJECT. -/
def cmdFaultInject (m : Msg) (s : State) : Reply :=
  let code := m.get 1 0 16
  let unit := m.get 1 16 8
  .unless (m.word 2 != 0x5AC3 || !isFault code || !faultUnitOk code unit || m.stray 1 0xFFFFFF) .badArg <|
  .unless (!s.life.state.open) .notPermitted <|
  if isFatal code then
    .silent (s.fatal (if levelOf code = 3 ∧ subsysOf code = 0xD then 0x3DFE else code) unit)
  else if isChannel code then .ok [] (s.channelFault code unit)
  else .ok [] (s.notice code unit)

def faultInjectCmd : Cmd := ⟨0x4007, [3], true⟩
/-- FAULT_INJECT (R599). -/
def execFaultInject (m : Msg) (s : State) : Res := .next (s.mailbox faultInjectCmd m cmdFaultInject)

end Machine
end Sys2Proof
end

