-- ==== Sys2Proof/Machine/Cal.lean ====
section
/-! DEFINITION. Calibration (19, R562 to R570): the reference slice, unit slices and their edge, stale units, and the
commands 0x4100 to 0x4102. -/
namespace Sys2Proof
namespace Machine

/-! ## The reference slice (R563, R564) -/

/-- A reference has been measured: its condition notice starts, or ends after two good slices. -/
def State.refMeasured (s : State) (code : Nat) (ok bad : Bool) (good : Nat) : State × Bool × Nat :=
  if !ok then
    (if bad then s else (s.condition code 0xFF true).notice code 0xFF, true, 0)
  else if bad && decide (2 ≤ good + 1) then (s.condition code 0xFF false, false, 0)
  else (s, bad, if bad then good + 1 else 0)

/-- Eight readings, each a deviation in 0.001 %, find a reference within limits: their mean deviates by at most `limit`, and
they spread by at most `spread` (R563). DEDUCED: the deviation is that of the mean (log 87). -/
def readingsOk (limit spread : Int) (l : List Int) : Bool :=
  let sum := l.foldl (· + ·) 0
  decide (-8 * limit ≤ sum) && decide (sum ≤ 8 * limit) && l.all (fun x => l.all (fun y => decide (x - y ≤ spread)))

/-- VREFIN against the bandgap: at most 2 % off, with a spread of at most 0.05 % (R563). -/
def vrefWithin (l : List Int) : Bool := readingsOk 2000 50 l

/-- RSET against VREFIN: 1.000 kOhm at most 1 % off, with a spread of at most 0.1 % (R563). -/
def rsetWithin (l : List Int) : Bool := readingsOk 1000 100 l

/-- REFERENCE_SLICE: every 400th tick VREFIN and RSET are measured, each by 8 readings (R563). -/
def execReferenceSlice (vref rset : List Int) (s : State) : Res :=
  if s.working && decide (s.now % 400 = 0) && !s.cal.served.contains 255 then
    let v := s.refMeasured 0x2E01 (vrefWithin vref) s.cal.vrefBad s.cal.vrefGood
    let r := v.1.refMeasured 0x2E02 (rsetWithin rset) s.cal.rsetBad s.cal.rsetGood
    .next (r.1.modCal (fun c =>
      { c with served := 255 :: c.served, refTrim := Config.refTrim s.now
               vrefBad := v.2.1, vrefGood := v.2.2, rsetBad := r.2.1, rsetGood := r.2.2 }))
  else .next s

/-- The sensor of the die that holds a unit: its line die, or the hub's first (R548; log 24). -/
def unitSensor (u : Nat) : Nat := if u < 96 then u / 24 else if u < 128 then (u - 96) / 8 else 4

/-! ## Unit slices (R565 to R567) -/

/-- Slices per tick of a class. -/
def CalCfg.alloc (c : CalCfg) (cls : Nat) : Nat :=
  if cls = 0 then c.line else if cls = 1 then c.drop else if cls = 2 then c.trunk else c.lane

/-- The roots of a class of units. -/
def classRoots (cls : Nat) : List Nat := (List.range 136).filter (fun u => calClass u == cls)

/-- A unit can take a slice in this tick. -/
def State.sliceable (s : State) (u : Nat) : Bool :=
  s.domOn (domOfRoot u) && s.inGap u && s.sideLeft u && !s.cal.served.contains u

/-- The unit of a class that is served next: the first in a gap after the one served last, in rising order and round
again (R567). -/
def State.nextServed (s : State) (cls : Nat) : Option Nat :=
  let last := s.cal.last.getD cls 0
  let l := classRoots cls
  ((l.filter (fun u => decide (last < u))) ++ l.filter (fun u => decide (u ≤ last))).find? s.sliceable

/-- A unit keeps the figures of its chapter: it is not stale, or its die is within 10 degrees C of the temperature at its last
cycle (R570). -/
def State.figuresHold (s : State) (u : Nat) : Bool :=
  !(s.calUnit u).stale || (decide ((s.calUnit u).temp ≤ wholeTemp (s.sensor (unitSensor u)).reading + 10) &&
    decide (wholeTemp (s.sensor (unitSensor u)).reading ≤ (s.calUnit u).temp + 10))

/-- Slices that a class has had in this tick. -/
def State.servedOf (s : State) (cls : Nat) : Nat :=
  (s.cal.served.filter (fun u => decide (u < 136) && calClass u == cls)).length

/-- The unit slices of this tick may run: the reference slice of a 400th tick comes first (R567). -/
def State.slicesRun (s : State) : Bool := decide (s.now % 400 ≠ 0) || s.cal.served.contains 255

/-- CAL_SLICE: one tick's work on the next unit of its class in a gap; an aborted slice is repeated later (R564 to R567). A
unit that has its skim slice in this tick has no other (R577). -/
def execCalSlice (unit : Nat) (aborted : Bool) (trims : BitVec 16) (temp : Int) (s : State) : Res :=
  let cls := calClass unit
  if s.working && decide (unit < 136) && s.slicesRun && (s.skimUnit unit).ran.isNone && !s.calSuspended && decide (s.servedOf cls < s.cal.cfg.alloc cls) &&
      s.nextServed cls == some unit then
    let tx := cls == 2 && s.txSlice unit
    let s := s.modCal (fun c => { c with served := unit :: c.served, last := c.last.set cls unit })
    if aborted then .next s
    else .next (s.modCalUnit unit (fun c =>
      { c with next := some (trims, ofInt 8 (temp + 64)), txSide := c.txSide + b2n tx }))
  else .next s

/-- At the edge after a slice its trims take effect; after its last slice the cycle completes (R565, R569). -/
def State.calEdgeUnit (s : State) (u : Nat) : State :=
  match (s.calUnit u).next with
  | none => s
  | some (trim, temp) =>
    if (s.calUnit u).progress + 1 < calLen u then
      s.modCalUnit u (fun c => { c with next := none, trim := trim, progress := c.progress + 1 })
    else
      (s.modCalUnit u (fun c =>
        { c with next := none, trim := trim, progress := 0, txSide := 0, ever := true, doneTick := s.now
                 temp := temp })).calFresh u

/-- The calibration engine at an edge. -/
def State.calEdge (s : State) : State :=
  (s.cal.units.foldl (fun s e => s.calEdgeUnit e.1) s).modCal (fun c => { c with served := [] })

/-- CAL_STALE: a unit's age reaches 2^20 ticks (R569). -/
def execCalStale (unit : Nat) (s : State) : Res :=
  let c := s.calUnit unit
  if s.live && decide (unit < 136) && s.domOn (domOfRoot unit) && !c.stale && decide (c.doneTick + 2 ^ 20 ≤ s.now) then
    .next ((s.modCalUnit unit (fun c => { c with stale := true })).event 16 unit 1)
  else .next s

/-! ## CAL_CONFIG, CAL_STATUS (0x4100, 0x4101) -/

/-- CAL_CONFIG. -/
def cmdCalConfig (m : Msg) (s : State) : Reply :=
  let c : CalCfg := ⟨m.get 1 0 4, m.get 1 4 4, m.get 1 8 4, m.get 1 12 4⟩
  let load := c.line + c.drop + c.trunk + c.lane + 1
  .unless (m.stray 1 0xFFFF) .badArg <|
  .unless (decide (16 < load)) .budget <|
  .ok [w32 load] (s.accept (.cal c))

def calConfigCmd : Cmd := ⟨0x4100, [2], true⟩
/-- CAL_CONFIG sets the slice allocations (R567). -/
def execCalConfig (m : Msg) (s : State) : Res := .next (s.mailbox calConfigCmd m cmdCalConfig)

/-- CAL_STATUS. -/
def cmdCalStatus (m : Msg) (s : State) : Reply :=
  let u := m.get 1 0 8
  let c := s.calUnit u
  .unless (decide (135 < u) || m.stray 1 0xFF) .badArg <|
  .unless (!s.domOn (domOfRoot u)) .wrongState <|
  .ok [packW [(7, c.progress), (9, 0), (8, c.temp), (6, 0), (1, b2n s.calSuspended), (1, b2n c.stale)],
    w32 (sat32 (s.now - c.doneTick)), w32 c.trim.toNat] s

def calStatusCmd : Cmd := ⟨0x4101, [2], false⟩
/-- CAL_STATUS returns a unit's calibration (R569). -/
def execCalStatus (m : Msg) (s : State) : Res := .next (s.mailbox calStatusCmd m cmdCalStatus)

/-! ## CAL_COMMIT (0x4102) -/

/-- The units that a CAL_COMMIT names, in the order of their words. -/
def commitUnits (m : Msg) : List Nat :=
  (List.range 96).filter (fun ch => m.flag 1 (ch / 24)) ++
  ((List.range 32).filter (fun ds => m.flag 1 (ds / 8))).map (fun ds => 96 + ds) ++
  ((List.range 4).filter (fun t => m.flag 1 (8 + t))).map (fun t => 128 + t) ++
  ((List.range 4).filter (fun g => m.flag 1 (12 + g))).map (fun g => 132 + g)

/-- The offset with which a sensor would read a temperature now, in 1/64 degrees C (CAL_COMMIT, R587). -/
def Sensor.offsetFor (x : Sensor) (ref : Nat) : Int :=
  16 * (4 * ((ref : Int) - 64) - (x.reading - x.offset / 16))

/-- The words that a CAL_COMMIT writes (R586, R587). -/
def State.commitWords (s : State) (m : Msg) : List (Nat × Word) :=
  (commitUnits m).map (fun u =>
    (256 + u, calWord (s.calUnit u).trim.toNat (wholeTemp (s.sensor (unitSensor u)).reading))) ++
  (if m.flag 1 31 then (List.range 10).map (fun k =>
    (392 + k, calWord (ofInt 16 ((s.sensor k).offsetFor (m.get 1 16 8))) (m.get 1 16 8))) else []) ++
  (if m.flag 1 30 then [(402, calWord s.cal.refTrim.toNat (wholeTemp (s.sensor 4).reading))] else [])

/-- CAL_COMMIT. -/
def cmdCalCommit (m : Msg) (s : State) : Reply :=
  let units := commitUnits m
  let sens := m.flag 1 31
  let ws := s.commitWords m
  .unless (ws.isEmpty || (m.get 1 16 8 != 0 && !sens) || m.stray 1 0xC0FFFF0F) .badArg <|
  .unless (units.any (fun u => (s.calUnit u).stale || !(s.calUnit u).ever || !s.domOn (domOfRoot u)) ||
    s.calSuspended || (sens && s.thermal.sensors.any Sensor.lost)) .wrongState <|
  .unless (sens && !(s.life.state == .maker || s.life.state == .ret)) .notPermitted <|
  .unless (s.keepWorn ws) .endurance <|
  .unless s.keepBusy .busy <|
  .later ((if sens then (List.range 10).foldl (fun s k =>
      s.modSensor k (fun x => { x with offset := x.offsetFor (m.get 1 16 8) })) s else s).keepStart ws 0x4102 0 (s.replyTo m))

def calCommitCmd : Cmd := ⟨0x4102, [2], true⟩
/-- CAL_COMMIT writes the selected calibration words (R593). -/
def execCalCommit (m : Msg) (s : State) : Res := .next (s.mailbox calCommitCmd m cmdCalCommit)

end Machine
end Sys2Proof
end

