-- ==== Sys2Proof/Machine/Cellar.lean ====
section
/-! DEFINITION. The cellar (14): SPOOL_CONFIG, SPOOL_STATUS, SPOOL_REPLAY, CELLAR_STATUS, replay, uncorrectable errors
and the patrol scrub. -/
namespace Sys2Proof
namespace Machine

/-! ## SPOOL_CONFIG (0x2200) -/

/-- Word k of SPOOL_CONFIG for a group: RQ_EN and REPLAY_Q. -/
def replayQOf (m : Msg) (g : Nat) : Bool × Nat := (m.flag (g + 2) 31, m.get (g + 2) 0 20)

/-- The cellar with another SIZE. -/
def CellarSt.sized (c : CellarSt) (size : Nat) : CellarSt := { c with size := size }

/-- SPOOL_CONFIG. -/
def cmdSpoolConfig (m : Msg) (s : State) : Reply :=
  let size := m.get 1 0 4
  let rq := (List.range 4).map (replayQOf m)
  let p := s.schedProj
  let c := p.cellar.sized size
  .unless (m.stray 1 0x00FF010F || decide (12 < size) || m.get 1 16 8 == 0 ||
    (List.range 4).any (fun g => m.stray (g + 2) 0x800FFFFF)) .badArg <|
  .unless ((size != p.cellar.size && !s.cellar.spool.isEmpty) ||
    (List.range 4).any (fun g => (replayQOf m g).1 && p.queueRoot (replayQOf m g).2 != some (132 + g))) .conflict <|
  .unless (decide (c.border - c.retiredFrames < s.cellar.used)) .busy <|
  .ok (lohi s.nextEdge) (s.accept (.spool size (m.flag 1 8) (m.get 1 16 8) rq))

def spoolConfigCmd : Cmd := ⟨0x2200, [6], true⟩
/-- SPOOL_CONFIG sets the spool partition, its policy and the replay queues at the next edge (R416, R427, R430). -/
def execSpoolConfig (m : Msg) (s : State) : Res := .next (s.mailbox spoolConfigCmd m cmdSpoolConfig)

/-! ## SPOOL_STATUS (0x2201) -/

/-- SPOOL_STATUS. -/
def cmdSpoolStatus (m : Msg) (s : State) : Reply :=
  let g := m.get 1 0 2
  let c := s.cellar
  let k := s.spoolGroup g
  .unless (m.stray 1 0x103) .badArg <|
  .ok (lohi s.snapEdge ++ [w32 c.occ, w32 c.cap, w32 k.lastSeq, w32 k.acked,
        packW [(16, c.permille), (1, b2n (c.atLeast 80)), (1, b2n (c.atLeast 95)), (1, b2n k.replaying)]] ++
      lohi k.spooled ++ [w32 k.fullDrop, w32 k.overwritten, w32 k.replayed])
    (if m.flag 1 8 then s.modSpool g (fun k => { k with clr := 1 }) else s)

def spoolStatusCmd : Cmd := ⟨0x2201, [2], false⟩
/-- SPOOL_STATUS returns the spool's occupancy and a group's side of it (R428). -/
def execSpoolStatus (m : Msg) (s : State) : Res := .next (s.mailbox spoolStatusCmd m cmdSpoolStatus)

/-! ## Replay (R429, R430) -/

/-- The entries that a replay of a group covers, oldest first (R429). -/
def State.covered (s : State) (g : Nat) : List Nat :=
  (s.cellar.spool.filter (fun e => e.open.contains g && !s.queuedAt e.id (132 + g))).map SpoolEntry.id

/-- SPOOL_REPLAY. -/
def cmdSpoolReplay (m : Msg) (s : State) : Reply :=
  let g := m.get 1 0 2
  .unless (m.stray 1 3) .badArg <|
  .unless (s.cellar.size == 0 || (s.host g).state != .up) .wrongState <|
  .unless (s.spoolGroup g).replaying .busy <|
  .ok [w32 ((s.spoolGroup g).acked + 1), w32 (s.covered g).length] (s.accept (.spoolReplay g))

def spoolReplayCmd : Cmd := ⟨0x2202, [2], true⟩
/-- SPOOL_REPLAY starts a replay at the next edge (R429). -/
def execSpoolReplay (m : Msg) (s : State) : Res := .next (s.mailbox spoolReplayCmd m cmdSpoolReplay)

/-- The replay queue of a group (R430). -/
def State.replayQueue (s : State) (g : Nat) : Option Nat :=
  let k := s.spoolGroup g
  if k.rqEn then (if (s.queue k.replayQ).conf then some k.replayQ else none) else s.defaultQueue (132 + g) 6

/-- A replay begins, or goes on from the oldest covered entry (R429, R430). -/
def State.replayBegin (s : State) (g : Nat) : State :=
  let todo := if (s.replayQueue g).isSome then s.covered g else []
  s.modSpool g (fun k => { k with startDue := none, todo := todo, replaying := !todo.isEmpty })

/-- SPOOL_REPLAY_START: a replay that is due begins (R429). -/
def execSpoolReplayStart (g : Nat) (s : State) : Res :=
  match (s.spoolGroup g).startDue with
  | none => .next s
  | some e => .next (if s.live && decide (g < 4) && decide (e ≤ s.now) then s.replayBegin g else s)

/-- The spool sequence of an entry for a group. -/
def State.spoolSeq (s : State) (g id : Nat) : Nat :=
  match s.cellar.spool.find? (fun e => e.id == id) with
  | some e => e.seqs.getD g 0
  | none => 0

/-- An entry has been placed or has left the replay (R430). -/
def State.replayTaken (s : State) (g : Nat) : State :=
  s.modSpool g (fun k => { k with todo := k.todo.tail, replaying := k.replaying && !k.todo.tail.isEmpty })

/-- REPLAY_PLACE: the oldest entry still to be placed enters the replay queue when there is room for a largest frame
(R430). -/
def execReplayPlace (g : Nat) (s : State) : Res :=
  let k := s.spoolGroup g
  if s.live && decide (g < 4) && k.replaying then
    match k.todo, s.replayQueue g with
    | [], _ => .next (s.modSpool g (fun k => { k with replaying := false }))
    | _ :: _, none => .next (s.modSpool g (fun k => { k with todo := [], replaying := false }))
    | id :: _, some q =>
      match s.stored id with
      | none => .next (s.replayTaken g)
      | some st =>
        if s.occupancy q + 9216 ≤ (s.queue q).cfg.limit * 64 then
          .next ((s.enqueue q ⟨id, s.now + 1, st.frame.len, true, true, s.spoolSeq g id, none⟩).replayTaken g)
        else .next s
  else .next s

/-! ## CELLAR_STATUS (0x2203) -/

/-- CELLAR_STATUS. -/
def cmdCellarStatus (m : Msg) (s : State) : Reply :=
  let c := s.cellar
  .unless (m.stray 1 1) .badArg <|
  .ok (lohi s.snapEdge ++ [w32 c.free, w32 c.retired.length, w32 c.ce, w32 c.ue, w32 c.noPage, w32 c.scrubTick])
    (if m.flag 1 0 then s.modCellar (fun c => { c with clr := 1 }) else s)

def cellarStatusCmd : Cmd := ⟨0x2203, [2], false⟩
/-- CELLAR_STATUS returns pages, errors and the last scrub pass (R420, R421). -/
def execCellarStatus (m : Msg) (s : State) : Res := .next (s.mailbox cellarStatusCmd m cmdCellarStatus)

/-! ## Errors (R419 to R421) -/

/-- A page is retired, or the device has no more to retire (R420). One that is retired already stays so. -/
def State.retire (s : State) (page : Nat) : State :=
  if s.cellar.retired.contains page then s
  else if s.cellar.retired.length < 65536 then s.modCellar (fun c => { c with retired := c.retired ++ [page] })
  else s.fatal 0x3801 0xFF

/-- A page may be the place of an error: it exists. A retired one still holds what was written to it before, and a later read of that
finds the error again (R419, R420). -/
def CellarSt.pageOk (_c : CellarSt) (page : Nat) : Bool := decide (page < allPages)

/-- The site of an error exists. -/
def State.siteOk (s : State) : UeSite → Bool
  | .frame id page => s.cellar.pageOk page && (match s.stored id with
      | some st => if st.inSpool then decide (s.cellar.border ≤ page) else decide (page < s.cellar.border)
      | none => false)
  | .free page => s.cellar.pageOk page
  | .header id page => s.cellar.pageOk page && decide (s.cellar.border ≤ page) &&
      s.cellar.spool.any (fun e => e.id == id)

/-- A spool entry whose header is lost is removed for every group (R419). -/
def State.spoolRemove (s : State) (id : Nat) : State :=
  (s.modCellar (fun c => CellarSt.prune { c with spool := c.spool.map (fun e =>
    if e.id = id then { e with removed := true } else e) })).spoolAdvance

/-- An uncorrectable error (R419). -/
def State.uncorrectable (s : State) (site : UeSite) : State :=
  if s.siteOk site then
    let s := (s.modCellar (fun c => { c with tkUe := c.tkUe + 1 })).notice 0x2801 0xFF
    match site with
    | .frame id page => (s.discardFrame id).retire page
    | .free page => s.retire page
    | .header id page => ((s.discardFrame id).spoolRemove id).retire page
  else s

/-- CELLAR_UE (R419). -/
def execCellarUe (site : UeSite) (s : State) : Res :=
  .next (if s.live && s.cellar.trained then s.uncorrectable site else s)

/-- The period of the scrub in ticks (R421). -/
def CellarSt.scrubPeriod (c : CellarSt) : Nat := c.scrubHours * 144000000

/-- The scrub at a tick: where the pass has read every page and its period is over, the pass of the present period begins (R421). -/
def CellarSt.scrubPass (c : CellarSt) (now : Nat) : CellarSt :=
  if c.scrubPos = allPages ∧ c.scrubFrom + c.scrubPeriod ≤ now ∧ c.scrubPeriod ≠ 0 then
    { c with scrubPos := 0, scrubFrom := c.scrubFrom + (now - c.scrubFrom) / c.scrubPeriod * c.scrubPeriod }
  else c

/-- Pages that the scrub reads next: no page twice in one period (R421). -/
def CellarSt.scrubNext (c : CellarSt) (pages now : Nat) : Nat := Nat.min pages (allPages - (c.scrubPass now).scrubPos)

/-- The scrub has read some pages; a pass ends with the last page (R421). -/
def CellarSt.scrub (c : CellarSt) (pages corrected now : Nat) : CellarSt :=
  let n := c.scrubNext pages now
  let c := c.scrubPass now
  if n = 0 then c
  else
    { c with tkCe := c.tkCe + Nat.min corrected (8 * n), scrubPos := c.scrubPos + n
             scrubTick := if c.scrubPos + n = allPages then now else c.scrubTick }

/-- PATROL_SCRUB: the scrub reads up to `pages` pages, each page once in a period of SCRUB_HOURS, with `corrected` bursts corrected
and written back, and perhaps an uncorrectable error (R421). -/
def execPatrolScrub (pages corrected : Nat) (bad : Option UeSite) (s : State) : Res :=
  if s.live && s.cellar.trained then
    let n := s.cellar.scrubNext pages s.now
    let s := s.modCellar (fun c => c.scrub pages corrected s.now)
    match bad with
    | none => .next s
    | some site => .next (if n = 0 then s else s.uncorrectable site)
  else .next s

end Machine
end Sys2Proof
end

