-- ==== Sys2Proof/Machine/Fabric.lean ====
section
/-! DEFINITION. The fabric of devices (15): the commands 0x3000 to 0x3005, hello, topology, election, routes, keys, time,
and the commit of a fabric configuration. -/
namespace Sys2Proof
namespace Machine

/-! ## FABRIC_SET_IDENTITY (0x3000) -/

/-- The keep words that an identity change writes, in their order (R593). -/
def identityWords (m : Msg) : List (Nat × Word) :=
  (448, 0) :: (List.range 8).map (fun i => (449 + i, w32 (m.word (i + 2)))) ++ [(448, w32 (m.word 1))]

/-- FABRIC_SET_IDENTITY. -/
def cmdFabricSetIdentity (m : Msg) (s : State) : Reply :=
  let ws := identityWords m
  .unless (m.chan == 3) .notPermitted <|
  .unless (m.word 1 == 0) .badArg <|
  .unless (s.keepWorn ws) .endurance <|
  .unless s.keepBusy .busy <|
  .later (s.keepStart ws 0x3000 0 (s.replyTo m))

def fabricSetIdentityCmd : Cmd := ⟨0x3000, [10], true⟩
/-- FABRIC_SET_IDENTITY writes FABRIC_ID and FABRIC_KEY into their keep words; it is answered when the last is written
(R436, R593). -/
def execFabricSetIdentity (m : Msg) (s : State) : Res := .next (s.mailbox fabricSetIdentityCmd m cmdFabricSetIdentity)

/-! ## FABRIC_LINK_SET (0x3001) -/

/-- A line channel's settings allow a mode other than 10GBASE-T1 and LR10 (R435). -/
def State.foreignMode (s : State) (root : Nat) : Bool :=
  let c := s.lineCfg root
  if c.neg then c.adv &&& 0x0F != 0 else c.mode != 0 && c.mode != 5 && c.mode != 6

/-- Line channels that are designated by every command completed so far (R435). -/
def State.designatedCount (s : State) : Nat :=
  (s.schedProj.fabric.links.filter (fun e => decide (e.1 < 96) && e.2.designated)).length

/-- FABRIC_LINK_SET. -/
def cmdFabricLinkSet (m : Msg) (s : State) : Reply :=
  let r := m.get 1 0 8
  let fab := m.flag 1 16
  let mac := m.flag 1 15
  let line := decide (r < 96)
  .unless (m.chan == 3) .notPermitted <|
  .unless (m.stray 1 0x1B0FF || (!line && !(decide (128 ≤ r) && decide (r < 132))) || (!fab && !line)) .badArg <|
  .unless ((fab && line && s.foreignMode r) || (mac && s.keepIdentity.2 == 0)) .conflict <|
  .unless (fab && line && !(s.schedProj.fabLink r).designated && decide (16 ≤ s.designatedCount)) .noResource <|
  .ok [] (s.accept (.fabLink r fab mac (m.get 1 12 2)))

def fabricLinkSetCmd : Cmd := ⟨0x3001, [2], true⟩
/-- FABRIC_LINK_SET designates a line channel as a fabric link and sets a link's BOUNDARY and MACsec at the next edge
(R435, R444, R472). -/
def execFabricLinkSet (m : Msg) (s : State) : Res := .next (s.mailbox fabricLinkSetCmd m cmdFabricLinkSet)

/-! ## FABRIC_STATUS (0x3002) -/

/-- The code of FABRIC_STATUS.STATE. -/
def FabState.num : FabState → Nat
  | .alone => 0 | .inaugurating => 1 | .running => 2

/-- FABRIC_STATUS. -/
def cmdFabricStatus (m : Msg) (s : State) : Reply :=
  let f := s.fabric
  let c := f.cnt
  .unless (m.stray 1 1) .badArg <|
  .ok ([packW [(8, s.devices.length), (1, b2n s.differs), (1, b2n f.locked), (2, f.state.num), (4, f.leads), (16, f.path)]] ++
      lohi (s.devices.headD s.serial) ++ [w32 f.epoch] ++ lohi f.digest ++ lohi f.tc ++ [packW [(16, 0), (16, f.d)],
       w32 c.noRoute, w32 c.ttlDrop, w32 c.badType, w32 c.tooBig, w32 c.foreign, w32 c.macsecDrop, w32 c.helloLost])
    (if m.flag 1 0 then s.modFabric (fun f => { f with clr := 1 }) else s)

def fabricStatusCmd : Cmd := ⟨0x3002, [2], false⟩
/-- FABRIC_STATUS returns path, leadership, epoch, digest and counters (R596). -/
def execFabricStatus (m : Msg) (s : State) : Res := .next (s.mailbox fabricStatusCmd m cmdFabricStatus)

/-! ## FABRIC_STAGE (0x3003) -/

/-- The replicated-stream entry that a message gives. -/
def repEntryOf (m : Msg) : RepEntry :=
  ⟨m.get 1 0 14, m.get 2 16 16, m.get 2 0 16, m.get 3 29 3, m.get 3 23 6, m.get 3 0 18, m.get 4 0 16⟩

/-- An entry's fields are out of range (R469). -/
def repEntryBad (m : Msg) (e : RepEntry) : Bool :=
  m.stray 3 0xFF83FFFF || m.stray 4 0xFFFF || decide (e.sc < 5) || e.history == 0 || decide (32 < e.history) ||
    e.reset == 0 || !devicePath e.src || !devicePath e.dst

/-- An entry set in a list that rises by HANDLE. -/
def repInsert (e : RepEntry) : List RepEntry → List RepEntry
  | [] => [e]
  | x :: t => if e.handle < x.handle then e :: x :: t else if e.handle = x.handle then e :: t else x :: repInsert e t

/-- The result words of FABRIC_STAGE. -/
def stageWords (c : FabConfig) : List Word := w32 c.entries.length :: lohi (cfgDigest c)

/-- The staged configuration is changed. -/
def State.stage (s : State) (c : FabConfig) : Reply := .ok (stageWords c) (s.modFabric (fun f => { f with staged := c }))

/-- FABRIC_STAGE. -/
def cmdFabricStage (m : Msg) (s : State) : Reply :=
  let op := m.get 1 30 2
  let kind := m.get 1 28 2
  let h := m.get 1 0 14
  let e := repEntryOf m
  let c := s.fabric.staged
  let policy := m.word 2
  let full := (cfgEntry c h).isNone && decide (16383 ≤ c.entries.length)
  .unless (m.stray 1 0xF0003FFF || op == 3 || decide (1 < kind) || (kind == 0 && op == 1) || (kind == 0 && h != 0) ||
    (kind == 1 && h == 0) || ((kind == 0 || op == 1 || op == 2) && (m.word 3 != 0 || m.word 4 != 0)) ||
    (kind == 0 && op == 0 && (decide (2 ^ 24 ≤ policy) || (List.range 8).any (fun k => fld policy (3 * k) 3 == 0))) ||
    (kind == 1 && op == 0 && repEntryBad m e)) .badArg <|
  .unless (kind == 1 && op != 2 && full) .noResource <|
  if op = 2 then s.stage s.fabric.cfg
  else if kind = 0 then s.stage { c with policy := w32 policy }
  else if op = 0 then s.stage { c with entries := repInsert e c.entries }
  else s.stage { c with entries := c.entries.filter (fun x => x.handle != h) }

def fabricStageCmd : Cmd := ⟨0x3003, [5], true⟩
/-- FABRIC_STAGE changes the staged fabric configuration (R463, R469). -/
def execFabricStage (m : Msg) (s : State) : Res := .next (s.mailbox fabricStageCmd m cmdFabricStage)

/-! ## FABRIC_PREPARE (0x3004) and the commit (R466) -/

/-- The top leader starts a commit: PREPARE is flooded, and its own check is its first answer. Alone, it commits at once
(R466). -/
def State.commitStart (s : State) (lead : Nat) (cfg : FabConfig) (reply : Option ReplyTo) : State :=
  let e := s.graph.radius s.devices s.serial
  let act := s.now + Nat.max 400 (Nat.max lead (3 * e + 40))
  let epoch := ((if 1 < s.devices.length then (s.graph.values s.devices).1 else s.fabric.epoch) + 1) % 2 ^ 32
  let p : Prepare := ⟨true, epoch, cfgDigest cfg, act, e, cfg, [], false, reply⟩
  if s.fabFits cfg then
    if s.devices.length ≤ 1 then
      (s.modFabric (fun f => { f with prep := some { p with committed := true } })).ackLater reply .ok (p.words 0 0)
    else
      (s.modFabric (fun f => { f with prep := some p })).fabFlood none (.prepare epoch p.digest act cfg)
  else s.ackLater reply .budget (p.words s.fabric.path Code.budget.num)

/-- A device that is not the top leader asks it for a commit; it waits for an answer as long as such a commit takes at least (R466;
DESIGN CHOICE, log 21: then it is answered with TIMEOUT). `reach` holds the tick of that. -/
def State.prepareAsk (s : State) (lead : Nat) (cfg : FabConfig) (reply : Option ReplyTo) : State :=
  let epoch := ((s.graph.values s.devices).1 + 1) % 2 ^ 32
  let e := s.graph.radius s.devices (s.devices.headD s.serial)
  let p : Prepare := ⟨false, epoch, cfgDigest cfg, 0, s.now + Nat.max 400 (Nat.max lead (3 * e + 40)), cfg, [], false, reply⟩
  (s.modFabric (fun f => { f with prep := some p })).toTop (.prepare epoch p.digest lead cfg)

/-- FABRIC_PREPARE. In a configuration replay the staged configuration is committed locally, at epoch 0 (R466). A device
that is not the top leader sends the staged configuration to it. -/
def cmdFabricPrepare (m : Msg) (s : State) : Reply :=
  let lead := m.get 1 0 16
  let cfg := s.fabric.staged
  .unless (m.stray 1 0xFFFF || (decide (1 ≤ lead) && decide (lead ≤ 399))) .badArg <|
  if m.chan = 8 then .unless (!s.fabFits cfg) .budget <| .ok (0 :: lohi s.nextEdge ++ [0]) (s.fabConfigure 0 cfg)
  else
    .unless s.fabric.prep.isSome .busy <|
    .unless (s.fabric.state == .inaugurating) .wrongState <|
    .later (if s.isTop then s.commitStart lead cfg (s.replyTo m) else s.prepareAsk lead cfg (s.replyTo m))

def fabricPrepareCmd : Cmd := ⟨0x3004, [2], true⟩
/-- FABRIC_PREPARE commits the staged configuration in the fabric (R466). -/
def execFabricPrepare (m : Msg) (s : State) : Res := .next (s.mailbox fabricPrepareCmd m cmdFabricPrepare)

/-- A member takes a PREPARE: it passes it on, checks it and answers (R466). -/
def State.prepareTake (s : State) (root epoch digest act : Nat) (cfg : FabConfig) : State :=
  let code := if s.fabFits cfg then Code.ok.num else Code.budget.num
  let reply := match s.fabric.prep with
    | some p => p.reply
    | none => none
  let s := s.modFabric (fun f => { f with prep := some ⟨false, epoch, digest, act, 0, cfg, [], false, reply⟩ })
  (s.fabFlood (some root) (.prepare epoch digest act cfg)).toTop (.prepAck s.fabric.path code)

/-- The top leader turns a member's request away, and says so to the member (R466; DESIGN CHOICE: with an ABORT that names the code,
log 21). -/
def State.prepareRefuse (s : State) (o : PrepareIn) (epoch : Nat) (c : Code) : State :=
  s.fabSend ((s.routeVia o.src 0).getD o.root) o.src (.abort epoch c.num (if c = .budget then s.fabric.path else 0))

/-- The top leader takes a member's request for a commit (R466). -/
def State.requestTake (s : State) (o : PrepareIn) (epoch lead : Nat) (cfg : FabConfig) : State :=
  if s.fabric.prep.isSome then s.prepareRefuse o epoch .busy
  else if s.fabric.state == .inaugurating then s.prepareRefuse o epoch .wrongState
  else if !s.fabFits cfg then s.prepareRefuse o epoch .budget
  else s.commitStart lead cfg none

/-- A member already holds this PREPARE. -/
def FabricSt.holds (f : FabricSt) (epoch act : Nat) : Bool :=
  match f.prep with
  | some p => p.epoch == epoch && p.act == act
  | none => false

/-- PREPARE_RX: a member takes the flooded PREPARE of the top leader; the top leader takes the request that a member sends to its path,
whose `act` is then the LEAD (R466). -/
def execPrepareRx (epoch digest act : Nat) (origin : PrepareIn) (cfg : FabConfig) (s : State) : Res :=
  .next (s.ctlTake origin.root (fun s =>
    if s.fabric.path = 0 then s
    else if origin.dst = 0 then
      if s.isTop || s.fabric.holds epoch act then s else s.prepareTake origin.root epoch digest act cfg
    else if origin.dst = s.fabric.path ∧ s.isTop then s.requestTake origin epoch act cfg
    else s))

/-- The paths of the devices held in the topology, but the own. -/
def State.otherPaths (s : State) : List Nat :=
  (s.devices.filter (fun u => u != s.serial)).map (fun u => tget 0 s.fabric.paths u)

/-- PREP_ACK_RX: an answer that is not OK ends the commit; the last answer brings COMMIT (R466). -/
def execPrepAckRx (path code : Nat) (s : State) : Res :=
  match s.fabric.prep with
  | none => .next s
  | some p =>
    if s.fabOn && p.leader && !p.committed then
      let answers := if p.answers.any (fun a => a.1 == path) then p.answers else p.answers ++ [(path, code)]
      if code ≠ Code.ok.num then .next (s.abort .budget path code)
      else if s.otherPaths.all (fun q => answers.any (fun a => a.1 == q)) then
        let s := s.modFabric (fun f => { f with prep := some { p with answers := answers, committed := true, reply := none } })
        .next ((s.fabFlood none (.commit p.epoch)).ackLater p.reply .ok (p.words 0 0))
      else .next (s.modFabric (fun f => { f with prep := some { p with answers := answers } }))
    else .next s

/-- PREPARE_DEADLINE: answers are missing at ACT - e - 40, or a member's request has brought no PREPARE in time (R466). -/
def execPrepareDeadline (s : State) : Res :=
  match s.fabric.prep with
  | none => .next s
  | some p =>
    let late := if p.leader then !p.committed && decide (p.act ≤ s.now + p.reach + 40)
      else p.act == 0 && p.reply.isSome && decide (p.reach ≤ s.now)
    if s.fabOn && late then .next (s.abort .timeout 0 0) else .next s

/-- COMMIT_RX (R466). -/
def execCommitRx (c : CommitIn) (s : State) : Res :=
  .next (s.ctlTake c.root (fun s =>
    match s.fabric.prep with
    | none => s
    | some p =>
      if !p.leader && p.epoch == c.epoch && !p.committed && p.act != 0 then
        let s := s.modFabric (fun f => { f with prep := some { p with committed := true, reply := none } })
        (s.fabFlood (some c.root) (.commit c.epoch)).ackLater p.reply .ok (p.words 0 0)
      else s))

/-- The return code that an ABORT names (log 21). -/
def abortCode (n : Nat) : Code :=
  ([Code.budget, .conflict, .busy, .wrongState].find? (fun c => c.num == n)).getD .timeout

/-- ABORT_RX (R466): a member forgets the commit and passes a flooded ABORT on; the device that asked for it answers with the code
and the refuser that the ABORT names (log 21). -/
def execAbortRx (a : AbortIn) (s : State) : Res :=
  .next (s.ctlTake a.root (fun s =>
    match s.fabric.prep with
    | none => s
    | some p =>
      if !p.leader && p.epoch == a.epoch && !p.committed then
        let s := if p.act = 0 then s else s.fabFlood (some a.root) (.abort a.epoch a.code a.refuser)
        s.abort (abortCode a.code) a.refuser (if a.refuser = 0 then 0 else a.code)
      else s))

/-- FABRIC_CONFIG_ACTIVATE: at ACT a device that holds COMMIT applies the configuration; one that does not forgets it
(R466). -/
def execFabricConfigActivate (s : State) : Res :=
  match s.fabric.prep with
  | none => .next s
  | some p =>
    if s.live && p.act != 0 && decide (p.act ≤ s.now) then
      let s := s.modFabric (fun f => { f with prep := none })
      .next (if p.committed then s.fabAdopt p.epoch p.cfg 8 else s)
    else .next s

/-! ## FRER_STATUS (0x3005) -/

/-- The device of a path in the topology held. -/
def State.deviceOf (s : State) (path : Nat) : Option Nat := s.devices.find? (fun u => tget 0 s.fabric.paths u == path)

/-- The plane-0 and plane-1 routes of an entry share a link (R470). -/
def State.shared (s : State) (e : RepEntry) : Bool :=
  match s.deviceOf e.src, s.deviceOf e.dst with
  | some u, some v =>
    let w := fun (p : Nat) => s.graph.walk s.devices (s.graph.costOf s.devices [v] u p) [v] (s.devices.length + 1) u
    (w 0).any (fun l => (w 1).contains l)
  | _, _ => false

/-- ROLE of FRER_STATUS. -/
def State.frerRole (s : State) (e : RepEntry) : Nat :=
  if e.src = s.fabric.path then 1 else if e.dst = s.fabric.path then 2 else 3

/-- The recovery function of a HANDLE. -/
def State.recovery (s : State) (h : Nat) : Recovery := tget Recovery.reset s.fabric.recov h

/-- FRER_STATUS returns the counters at the edge; CLEAR reduces them by what it returns at commit step 6 (R219, R221). -/
def cmdFrerStatus (m : Msg) (s : State) : Reply :=
  let h := m.get 1 0 14
  let r := s.recovery h
  .unless (m.stray 1 0x7FFF || h == 0) .badArg <|
  match cfgEntry s.fabric.cfg h with
  | none => .ok (List.replicate 7 0) s
  | some e =>
    .ok [packW [(2, s.frerRole e), (1, b2n (s.shared e))], w32 r.cnt.passed, w32 r.cnt.discarded, w32 r.cnt.outOfOrder,
         w32 r.cnt.rogue, w32 r.cnt.lost, w32 r.cnt.resets]
      (if m.flag 1 14 ∧ (tfind s.fabric.recov h).isSome then
        s.modFabric (fun f => { f with recov := tmod r f.recov h (fun r => { r with clr := 1 }) })
       else s)

def frerStatusCmd : Cmd := ⟨0x3005, [2], false⟩
/-- FRER_STATUS returns a replicated stream's role and recovery counters (R470). -/
def execFrerStatus (m : Msg) (s : State) : Res := .next (s.mailbox frerStatusCmd m cmdFrerStatus)

/-- FRER_RECOVERY_RESET: RESET_TICKS ticks without a frame passed (R470). -/
def execFrerRecoveryReset (handle : Nat) (s : State) : Res :=
  match cfgEntry s.fabric.cfg handle, tfind s.fabric.recov handle with
  | some e, some r =>
    if s.working && !r.start && decide (r.passTick + e.reset ≤ s.now) then
      .next (s.modFabric (fun f => { f with recov := tmod r f.recov handle (fun r =>
        { r.count (fun c => { c with resets := c.resets + 1 }) with start := true, history := [] }) }))
    else .next s
  | _, _ => .next s

/-! ## Hello (R448, R449) -/

/-- A HELLO is due on a link: 40 ticks after the last, or an extra one (R448). -/
def State.helloDue (s : State) (root : Nat) : Bool :=
  (match tfind s.fabric.helloExtra root with
   | some t => decide (t ≤ s.now)
   | none => false) ||
    (match tfind s.fabric.helloSent root with
     | some t => decide (t + 40 ≤ s.now)
     | none => true)

/-- The HELLO of a link (R448). -/
def State.hello (s : State) (root : Nat) : Hello :=
  let f := s.fabric
  ⟨s.serial, f.fid, f.digest, f.epoch, s.now, root, (s.fabLink root).boundary, f.locked, (s.fabLink root).macsec, s.hopOf root⟩

/-- A HELLO is sent. -/
def State.helloGo (s : State) (root : Nat) : State :=
  (s.fabSend root 0 (.hello (s.hello root))).modFabric (fun f =>
    { f with helloSent := tset f.helloSent root s.now, helloExtra := tdel f.helloExtra root })

/-- HELLO_SEND (R448, R436, R472). -/
def execHelloSend (root : Nat) (s : State) : Res :=
  if s.fabOn && s.linkOpen root && s.helloDue root then .next (s.helloGo root) else .next s

/-- A HELLO of the own fabric: the adjacency forms or goes on; a new neighbour is due an extra HELLO (R448, R449). -/
def State.helloTake (s : State) (root : Nat) (h : Hello) : State :=
  let put := fun (f : FabricSt) => { f with adjs := f.adjs.filter (fun a => a.root != root) ++ [⟨root, h, s.now⟩] }
  match s.adj root with
  | none => (s.adjNew put).modFabric (fun f => { f with helloExtra := tset f.helloExtra root (s.now + 1) })
  | some a =>
    if a.hello.serial = h.serial ∧ a.hello.port = h.port ∧ a.hello.boundary = h.boundary then s.modFabric put
    else if a.hello.serial = h.serial then s.adjNew put
    else (s.adjNew put).modFabric (fun f => { f with helloExtra := tset f.helloExtra root (s.now + 1) })

/-- HELLO_RX (R449). -/
def execHelloRx (root : Nat) (h : Hello) (s : State) : Res :=
  if s.fabOn && s.linkOpen root then
    if h.fabricId ≠ s.fabric.fid then .next (s.fabCount (fun c => { c with foreign := c.foreign + 1 }))
    else if h.macsec ≠ (s.fabLink root).macsec then .next s
    else .next ((s.modFabric (fun f => { f with hellos := tset f.hellos root h })).helloTake root h)
  else .next s

/-- ADJACENCY_EXPIRY: 120 ticks have passed without a HELLO (R449). -/
def execAdjacencyExpiry (root : Nat) (s : State) : Res :=
  match s.adj root with
  | none => .next s
  | some a =>
    if s.live && decide (a.rxTick + 120 < s.now) then
      .next ((s.adjEnd root).fabCount (fun c => { c with helloLost := c.helloLost + 1 }))
    else .next s

/-! ## Topology (R450, R465, R467) -/

/-- TOPO_SEND: after a change of the adjacencies, and 4,000 ticks after the last record (R450). -/
def execTopoSend (s : State) : Res :=
  if s.fabOn && (s.fabric.topoDue || decide (s.fabric.topoSent + 4000 ≤ s.now)) then
    let before := s.views
    let s := if s.fabric.topoDue then s else s.modFabric (fun f => { f with ownSeq := (f.ownSeq + 1) % 2 ^ 32 })
    let r := s.ownRecord
    .next (((s.modFabric (fun f => { f with topo := tset f.topo s.serial r, topoDue := false, topoSent := s.now })).topoNew
      before).fabFlood none (.topo r))
  else .next s

/-- A record is newer than the one held from its serial (R450). -/
def State.topoNewer (s : State) (r : TopoRec) : Bool :=
  match tfind s.fabric.topo r.serial with
  | none => true
  | some o => r.seq != o.seq && serialLe o.seq r.seq

/-- A newer record is held and flooded on; where it brings another epoch, digest or adjacency, or the own values have changed since the
last record of its device, the digests are compared, and a device that differs asks for the configuration (R450, R465, R467). -/
def State.topoTake (s : State) (root : Nat) (r : TopoRec) : State :=
  let before := s.views
  let old := tfind s.fabric.topo r.serial
  let s := (s.modFabric (fun f => { f with topo := tset f.topo r.serial r })).fabFlood (some root) (.topo r)
  let s := s.topoNew before
  let own := (s.fabric.epoch, s.fabric.digest)
  let fresh := match old with
    | none => true
    | some o => o.epoch != r.epoch || o.digest != r.digest || o.links != r.links || tfind s.fabric.cmpWith r.serial != some own
  let s := s.modFabric (fun f => { f with cmpWith := tset f.cmpWith r.serial own })
  if fresh then (s.compareDigests r.serial).askCatchup else s

/-- TOPO_RX (R450). -/
def execTopoRx (root : Nat) (r : TopoRec) (s : State) : Res :=
  if s.fabOn && (s.adj root).isSome && r.serial != s.serial && s.topoNewer r then .next (s.topoTake root r) else .next s

/-! ## Election (R452, R459, R461, R474) -/

/-- The device recognises itself as leader of its group of a level: nothing there has changed for 120 ticks (R452). -/
def State.electable (s : State) (lv : Nat) : Bool :=
  !s.fabric.elect.getD (lv - 1) false && s.graph.leader lv s.serial == s.serial &&
    decide (s.fabric.topoTick.getD (lv - 1) 0 + 120 ≤ s.now)

/-- A device has become leader of its group of a level. -/
def State.electLevel (s : State) (lv : Nat) : State :=
  let s := (s.modFabric (fun f =>
    { f with elect := f.elect.set (lv - 1) true, leads := setBit f.leads (lv - 1) true })).electKeys lv
  if lv = 4 then s.modFabric (fun f => { f with elected := some s.now, routesSent := false, locked := true, syncs := 0 }) else s

/-- LEADER_ELECTION (R452). -/
def execLeaderElection (s : State) : Res :=
  if s.fabOn then .next (([1, 2, 3, 4].filter s.electable).foldl State.electLevel s) else .next s

/-! ## Routes (R453, R454) -/

/-- What the top leader sends a device (R454). -/
def State.routeFor (s : State) (tc u : Nat) : RouteRec :=
  let v := s.graph.values s.devices
  let ep := if 1 < s.devices.length then v else (s.fabric.epoch, s.fabric.digest)
  let path := s.graph.path u
  ⟨u, path, if path = 0 then [] else s.graph.table s.devices u, s.graph.tree s.devices s.serial u, ep.1, ep.2, tc⟩

/-- ROUTE_SEND: the top leader sends every device its path and routes (R454). -/
def execRouteSend (s : State) : Res :=
  match s.fabric.elected with
  | none => .next s
  | some te =>
    if s.fabOn && !s.fabric.routesSent then
      let tc := te + s.graph.diameter s.devices + 1290
      let paths := s.devices.map (fun u => (u, s.graph.path u))
      let own := s.routeFor tc s.serial
      let s := s.modFabric (fun f => { f with routesSent := true, pendRoute := some own, paths := paths })
      .next ((s.devices.filter (fun u => u != s.serial)).foldl (fun s u => s.fabFlood none (.route (s.routeFor tc u))) s)
    else .next s

/-- ROUTE_RX: a ROUTE record other than the last one of its device is noted and flooded on; the own one waits for its T_c (R454). -/
def execRouteRx (r : RouteIn) (s : State) : Res :=
  let x := r.route
  .next (s.ctlTake r.root (fun s =>
    if s.isTop || tfind s.fabric.routeRecs x.serial == some x then s
    else
      (s.modFabric (fun f =>
        { f with routeRecs := tset f.routeRecs x.serial x, paths := tset f.paths x.serial x.path
                 pendRoute := if x.serial = s.serial then some x else f.pendRoute })).fabFlood (some r.root) (.route x)))

/-- KEY_RX: a KEY record for another device is flooded on; the own one brings a session key, unwrapped with the device's own wrapping
key (R474). -/
def execKeyRx (k : KeyIn) (wrapped : BitVec 320) (s : State) : Res :=
  .next (s.ctlTake k.root (fun s =>
    if k.serial ≠ s.serial then
      if s.fabric.keySeen.contains (k.level, k.serial, wrapped) then s
      else (s.modFabric (fun f =>
        { f with keySeen := f.keySeen.filter (fun x => !(x.1 == k.level && x.2.1 == k.serial)) ++ [(k.level, k.serial, wrapped)] })).fabFlood
          (some k.root) (.key k.level k.serial wrapped)
    else if s.hasKey && decide (1 ≤ k.level) && decide (k.level ≤ 4) then
      match Config.aesUnwrap (s.kek s.serial) wrapped with
      | some x => s.modFabric (fun f => { f with keys := setKey f.keys k.level x })
      | none => s
    else s))

/-! ## The commit tick (R454, R475, R477) -/

/-- The members of the own groups of levels 1 to 4, but the member that holds this device: lowest serial, path, level. -/
def State.allMembers (s : State) : List (Nat × Nat × Nat) :=
  [1, 2, 3, 4].flatMap (fun lv =>
    ((s.graph.members lv s.serial).filter (fun m => !m.contains s.serial)).map (fun m =>
      (m.headD 0, s.memberPath lv (m.headD 0), lv)))

/-- The records of the members of the groups led that have joined, moved or left since the last T_c (R477). -/
def State.memberEvents (s : State) (old new : List (Nat × Nat × Nat)) : State :=
  let s := (new.filter (fun x => bit s.fabric.leads (x.2.2 - 1))).foldl (fun s x =>
    match old.find? (fun y => y.1 == x.1 && y.2.2 == x.2.2) with
    | none => s.fabRecord x.2.1 (if x.2.1 = 0 then 6 else 1) x.2.2
    | some y => if y.2.1 = x.2.1 then s else s.fabRecord x.2.1 (if x.2.1 = 0 then 6 else 3) x.2.2) s
  (old.filter (fun y => bit s.fabric.leads (y.2.2 - 1) && !new.any (fun x => x.1 == y.1 && x.2.2 == y.2.2))).foldl
    (fun s y => s.fabRecord y.2.1 2 y.2.2) s

/-- The records of the device's own changes since the last T_c, with the path, the level that excluded it and the levels led then:
OVERFLOW with the level at which a group excludes it now, PATH_CHANGED, LEADER_GAINED and LEADER_LOST (R447, R477). -/
def State.ownEvents (s : State) (path excl leads : Nat) : State :=
  let f := s.fabric
  let s := if f.excl ≠ 0 ∧ f.excl ≠ excl then s.fabRecord 0 6 f.excl
    else if path ≠ f.path ∧ f.path ≠ 0 ∧ (path ≠ 0 ∨ excl ≠ 0) then s.fabRecord f.path 3 (pathLevel path f.path) else s
  [1, 2, 3, 4].foldl (fun s lv =>
    if bit f.leads (lv - 1) = bit leads (lv - 1) then s
    else s.fabRecord f.path (if bit f.leads (lv - 1) then 4 else 5) lv) s

/-- FABRIC_COMMIT_TICK: at T_c path, routes and keys take effect together, with the admission run and the events
(R454, R475, R477). -/
def execFabricCommitTick (s : State) : Res :=
  match s.fabric.pendRoute with
  | none => .next s
  | some r =>
    if s.fabOn && decide (r.tc ≤ s.now) then
      let path := s.fabric.path
      let leads := s.fabric.leadsTc
      let excl := s.fabric.excl
      let old := s.fabric.members
      let s := s.modFabric (fun f =>
        { f with path := r.path, pathsTc := f.paths
                 excl := if r.path = 0 then Nat.max 1 (s.graph.exclLevel s.serial) else 0
                 routes := r.routes, tree := r.tree, pendRoute := none, tc := r.tc
                 d := s.graph.diameter s.devices, leadsTc := f.leads
                 state := if s.devices.length ≤ 1 then .alone else .running })
      let s := s.installKeys
      let new := s.allMembers
      let s := s.modFabric (fun f => { f with members := new })
      let s := ((s.doorbell 11).ownEvents path excl leads).memberEvents old new
      .next (s.runNow 1).askCatchup
    else .next s

/-! ## Catching up (R467) -/

/-- CATCHUP_REQ_RX: answered while the own values match the fabric's (R467). -/
def execCatchupReqRx (root : Nat) (s : State) : Res :=
  if s.fabOn && (s.adj root).isSome && !s.differs then
    .next (s.fabSend root 0 (.catchup s.fabric.epoch s.fabric.digest s.fabric.cfg))
  else .next s

/-- CATCHUP_RX: the configuration is applied at the second edge from here (R467). -/
def execCatchupRx (epoch digest : Nat) (cfg : FabConfig) (s : State) : Res :=
  if s.fabOn && s.differs && cfgDigest cfg == digest then
    .next (s.modFabric (fun f => { f with catchup := some (epoch, cfg, s.now + 2) }))
  else .next s

/-- CATCHUP_APPLY (R467, R477). -/
def execCatchupApply (s : State) : Res :=
  match s.fabric.catchup with
  | none => .next s
  | some (epoch, cfg, edge) =>
    if s.live && decide (edge ≤ s.now) then
      let s := s.modFabric (fun f => { f with catchup := none })
      .next (if s.fabFits cfg then s.fabAdopt epoch cfg 9 else s.notice 0x2901 0xFF)
    else .next s

/-! ## Fabric time (R457 to R461) -/

/-- The first edge at or after a multiple of 2^-8 s: 156.25 ticks each (R457). -/
def syncEdge (k : Nat) : Nat := ceilDiv (k * 625) 4

/-- The master ports: the tree links of the topology held but the plane-0 link towards the top leader, which is the slave port (R457). -/
def State.masterPorts (s : State) : List Nat :=
  (s.graph.tree s.devices (s.devices.headD s.serial) s.serial).filter (fun r => some r != s.uplink)

/-- Sync and its Follow_Up go out on the master ports, two-step: with the grandmaster's time at which the Sync set out, the correction
and the rate (R457). -/
def State.syncGo (s : State) (origin corr rate : Int) : State :=
  s.masterPorts.foldl (fun s r => (s.fabSend r 0 .sync).fabSend r 0 (.followUp origin corr rate)) s

/-- The link delay of a fabric link in ns: measured on a line link, d on a trunk, 2.5 ns for 64 of its units (R299, R458). -/
def State.linkDelay (s : State) (root : Nat) : Int :=
  if root < 96 then (s.fabLink root).hop else (((s.trunk (s.carrier (root - 128))).delay * 5 / 128 : Nat) : Int)

/-- The neighbour's rate against the own, in 0.005 ppm (R288, R458). -/
def State.linkRate (s : State) (root : Nat) : Int :=
  if root < 96 then (s.fabLink root).rate else (s.trunk (s.carrier (root - 128))).freqOfs.getD 0

/-- The time of an event in the present tick, in ns of the device's own time (R457). -/
def State.nsAt (s : State) (phase : Nat) : Int := 25000 * (s.now : Int) + phase

/-- How far the device is ahead of the grandmaster by a Sync, in ns (R457, R458). -/
def State.syncOffset (s : State) (y : SyncIn) : Int := s.nsAt y.phase - (y.origin + y.corr + s.linkDelay y.root)

/-- The correction of a Sync that goes out at the edge of the present tick: what it carried with the link it came by, and its stay
here in the grandmaster's rate (R457, R458). -/
def State.syncCorr (s : State) (h : SyncHeld) : Int :=
  let stay := s.nsAt 0 - h.rx
  h.corr + stay + h.rate * stay / 200000000

/-- SYNC_SEND: the top leader at each multiple of 2^-8 s, another device in the tick after a Sync came (R457). -/
def execSyncSend (s : State) : Res :=
  if s.fabOn then
    if s.isTop then
      if syncEdge s.fabric.syncNext ≤ s.now then
        .next ((s.syncGo (s.nsAt 0) 0 0).modFabric (fun f => { f with syncNext := s.now * 4 / 625 + 1 }))
      else .next s
    else match s.fabric.syncPass with
      | some h =>
        if h.due ≤ s.now then
          .next ((s.syncGo h.origin (s.syncCorr h) h.rate).modFabric (fun f => { f with syncPass := none }))
        else .next s
      | none => .next s
  else .next s

/-- The number of the edge of fabric time on which the next edge is made to fall, the device being `offset` ns ahead of the
grandmaster (R460). -/
def stepEdge (now : Nat) (offset : Int) : Nat := ((((now : Int) + 1) * 25000 - offset + 24999) / 25000).toNat

/-- An offset in ns acts on the device's time: a step beyond 1 us, and otherwise one core cycle of 0.8 ns in each of as many ticks as
take it away (R459, R460, R530). -/
def FabricSt.steered (f : FabricSt) (now : Nat) (offset : Int) : FabricSt :=
  if 1000 < offset ∨ offset < -1000 then { f with step := some (stepEdge now offset), owed := 0 }
  else { f with owed := offset * 5 / 4 }

/-- A measured offset acts on the device's time, and on TIME_LOCKED (R459, R460). -/
def State.timeOffset (s : State) (offset : Int) (need : Nat) : State :=
  let near := decide (-50 ≤ offset) && decide (offset ≤ 50)
  let n := if near then s.fabric.syncs + 1 else 0
  s.modFabric (fun f => { f.steered s.now offset with syncs := Nat.min 255 n, locked := decide (need ≤ n) })

/-- SYNC_RX: a Sync with its Follow_Up on the slave port, which gives the offset from the grandmaster (R457 to R460). -/
def execSyncRx (y : SyncIn) (s : State) : Res :=
  if s.fabOn && !s.isTop && s.uplink == some y.root then
    .next ((s.timeOffset (s.syncOffset y) 8).modFabric (fun f =>
      { f with syncPass := some ⟨s.now + 1, y.origin, y.corr + s.linkDelay y.root, y.rate + s.linkRate y.root, s.nsAt y.phase⟩ }))
  else .next s

/-- PEER_DELAY_EXCHANGE: the link delay of a line fabric link in ns, and the neighbour's rate (R458). -/
def execPeerDelayExchange (root : Nat) (d : PeerDelay) (s : State) : Res :=
  if s.live && s.fabric.started && decide (root < 96) && s.linkUp root then
    .next (s.modFabric (fun f => { f with links := tmod (s.fabLink root) f.links root (fun l =>
      { l with hop := d.delay, rate := d.rate }) }))
  else .next s

/-! ## MKA (R472, R473) -/

/-- An MKA frame of the partner (R473): the key that its key server distributes is installed; where this device is the key server and no
key is installed, it distributes one. -/
def State.mkaTake (s : State) (root : Nat) (k : MkaIn) : State :=
  let s := s.modFabric (fun f => { f with links := tmod (s.fabLink root) f.links root (fun l => { l with partner := some k.sci }) })
  if s.keyServer root then
    if (s.fabLink root).sak.isNone then s.newKey root else s
  else match k.sak with
    | some x => s.modFabric (fun f => { f with links := tmod (s.fabLink root) f.links root (fun l =>
        { l with sak := some x, pn := 1 }) })
    | none => s

/-- MKA_FRAME_RX: an MKA frame under the FABRIC_ID's CKN; one that does not verify is discarded and counted (R473). -/
def execMkaFrameRx (root : Nat) (ckn : Word) (icvOk : Bool) (k : MkaIn) (s : State) : Res :=
  if s.fabOn && s.linkUp root && (s.fabLink root).macsec && s.hasKey && ckn.toNat == s.fabric.fid then
    if icvOk then .next (s.mkaTake root k)
    else .next (s.fabCount (fun c => { c with macsecDrop := c.macsecDrop + 1 }))
  else .next s

end Machine
end Sys2Proof
end

