-- ==== Sys2Proof/Machine/Rates.lean ====
section
/-! DEFINITION. Rates, policers and gates (13): ROOT_SET, SHAPER_SET, SHAPER_READ, POLICER_SET, POLICER_STATS,
GATE_LIST_WRITE, GATE_LIST_COMMIT, and the colouring of a frame. -/
namespace Sys2Proof
namespace Machine

/-! ## ROOT_SET (0x2100) -/

/-- ROOT_SET. -/
def cmdRootSet (m : Msg) (s : State) : Reply :=
  let r := m.get 1 0 8
  let p := s.guarProj
  let c : Cfg := .root r (m.get 2 0 28) (m.get 3 0 6)
  let p' := p.applySched c
  .unless (m.stray 1 0xFF || m.stray 2 0x0FFFFFFF || m.stray 3 0x3F || decide (137 < r) || m.get 2 0 28 == 0) .badArg <|
  .unless (decide (schedCap < p'.schedLoad)) .budget <|
  .unless (!p.keepsGuars c) .conflict <|
  .ok [w32 p'.schedLoad, w32 (p'.rPort r)] (s.acceptRun c s.anyYielded 3)

def rootSetCmd : Cmd := ⟨0x2100, [4], true⟩
/-- ROOT_SET sets a root's rate and overhead at the next edge (R382, R390, R392). -/
def execRootSet (m : Msg) (s : State) : Res := .next (s.mailbox rootSetCmd m cmdRootSet)

/-! ## SHAPER_SET (0x2101) and SHAPER_READ (0x2102) -/

/-- Word 1 names neither a queue nor a node. -/
def shaperIdBad (m : Msg) : Bool := decide (2 ≤ m.get 1 30 2) || (m.get 1 30 2 == 1 && m.get 1 16 4 != 0)

/-- The shaper's queue or node is configured. -/
def State.elemConf (s : State) (node : Bool) (id : Nat) : Bool := if node then (s.node id).conf else (s.queue id).conf

/-- SHAPER_SET. -/
def cmdShaperSet (m : Msg) (s : State) : Reply :=
  let node := m.get 1 30 2 == 1
  let id := m.get 1 0 20
  let en := m.flag 1 29
  let p := s.guarProj
  let c : Cfg := .shaper node id en (m.word 2) (m.word 3) (m.word 4) (m.word 5)
  .unless (m.stray 1 0xE00FFFFF || shaperIdBad m || (en && (m.stray 2 0x0FFFFFFF || m.stray 3 0x0FFFFFFF ||
    m.stray 4 0xFFFFFF || m.stray 5 0xFFFFFF || m.word 2 == 0 || m.word 3 == 0 || m.word 4 == 0 || m.word 5 == 0 ||
    decide (m.word 3 < m.word 2)))) .badArg <|
  .unless (!p.elemConf node id) .wrongState <|
  .unless (!p.keepsGuars c) .conflict <|
  .ok (lohi s.nextEdge) (s.acceptRun c s.anyYielded 3)

def shaperSetCmd : Cmd := ⟨0x2101, [6], true⟩
/-- SHAPER_SET enables, changes or disables a shaper at the next edge (R385 to R387). -/
def execShaperSet (m : Msg) (s : State) : Res := .next (s.mailbox shaperSetCmd m cmdShaperSet)

/-- SHAPER_READ. -/
def cmdShaperRead (m : Msg) (s : State) : Reply :=
  let node := m.get 1 30 2 == 1
  let id := m.get 1 0 20
  let h := s.schedEdge.shaperOf ⟨node, id⟩
  .unless (m.stray 1 0xC00FFFFF || shaperIdBad m) .badArg <|
  .unless (!s.schedProj.elemConf node id) .wrongState <|
  .ok [w32 s.snapEdge, packW [(28, h.cir), (3, 0), (1, b2n h.enabled)], w32 h.pir, w32 h.cbs, w32 h.pbs,
       w32 (ofInt 32 h.edgeC), w32 (ofInt 32 h.edgeP)] s

def shaperReadCmd : Cmd := ⟨0x2102, [2], false⟩
/-- SHAPER_READ returns a shaper's settings and tokens at the edge that began the tick (R388). -/
def execShaperRead (m : Msg) (s : State) : Res := .next (s.mailbox shaperReadCmd m cmdShaperRead)

/-! ## POLICER_SET (0x2103) and POLICER_STATS (0x2104) -/

/-- POLICER_SET. -/
def cmdPolicerSet (m : Msg) (s : State) : Reply :=
  let i := m.get 1 0 18
  let en := m.flag 1 31
  let p := s.guarProj
  let c : Cfg := .policer i en (m.flag 1 30) (m.flag 1 29) (m.flag 1 28) (m.get 1 18 6) (m.word 2) (m.word 3) (m.word 4)
    (m.word 5)
  .unless (m.stray 1 0xF0FFFFFF || (en && (m.stray 2 0x0FFFFFFF || m.stray 3 0x0FFFFFFF || m.stray 4 0xFFFFFF ||
    m.stray 5 0xFFFFFF || m.word 2 == 0 || m.word 3 == 0 || m.word 4 == 0 || m.word 5 == 0 ||
    (!m.flag 1 30 && decide (m.word 3 < m.word 2))))) .badArg <|
  .unless ((!en && p.bridge.streams.any (fun e => e.2.polEn && e.2.policer == i)) || !p.keepsGuars c) .conflict <|
  .ok [] (s.acceptRun c s.anyYielded 3)

def policerSetCmd : Cmd := ⟨0x2103, [6], true⟩
/-- POLICER_SET configures or unconfigures a policer at the next edge (R385, R386, R393). -/
def execPolicerSet (m : Msg) (s : State) : Res := .next (s.mailbox policerSetCmd m cmdPolicerSet)

/-- POLICER_STATS. -/
def cmdPolicerStats (m : Msg) (s : State) : Reply :=
  let i := m.get 1 0 18
  let p := s.policer i
  .unless (m.stray 1 0x7FFFF) .badArg <|
  .ok (lohi s.snapEdge ++ lohi p.gf ++ lohi p.gb ++ lohi p.yf ++ lohi p.yb ++ lohi p.rf ++ lohi p.rb ++
      [w32 (ofInt 32 p.tokC), w32 (ofInt 32 p.tokP)])
    (if m.flag 1 18 then s.modSched (fun d => { d with policers := tmod Policer.reset d.policers i (fun p =>
      { p with clr := 1 }) }) else s)

def policerStatsCmd : Cmd := ⟨0x2104, [2], false⟩
/-- POLICER_STATS returns a policer's counters at the edge, and its tokens as they stand (R396; log 70). -/
def execPolicerStats (m : Msg) (s : State) : Res := .next (s.mailbox policerStatsCmd m cmdPolicerStats)

/-! ## GATE_LIST_WRITE (0x2105) and GATE_LIST_COMMIT (0x2106) -/

/-- The entries of a message: words 2 to COUNT + 1. -/
def gateEntries (m : Msg) (count : Nat) : List GateEntry :=
  (List.range count).map (fun k => ⟨m.get (k + 2) 24 8, m.get (k + 2) 0 16⟩)

/-- Entries written into an administrative list from `start`. -/
def gateWrite (t : Table GateEntry) : Nat → List GateEntry → Table GateEntry
  | _, [] => t
  | i, e :: l => gateWrite (tset t i e) (i + 1) l

/-- GATE_LIST_WRITE. -/
def cmdGateListWrite (m : Msg) (s : State) : Reply :=
  let r := m.get 1 0 8
  let start := m.get 1 8 8
  let count := m.get 1 16 8
  let l := gateEntries m count
  .unless (m.stray 1 0xFFFFFF || decide (137 < r) || count == 0 || decide (14 < count) || decide (256 < start + count) ||
    m.len != count + 2 || l.any (fun e => e.ticks == 0) ||
    (List.range count).any (fun k => m.stray (k + 2) 0xFF00FFFF)) .badArg <|
  .ok [] (s.modRoot r (fun x => { x with admin := gateWrite x.admin start l }))

def gateListWriteCmd : Cmd := ⟨0x2105, [3, 4, 5, 6, 7, 8, 9, 10, 11, 12, 13, 14, 15, 16], true⟩
/-- GATE_LIST_WRITE writes administrative gate entries (R397). -/
def execGateListWrite (m : Msg) (s : State) : Res := .next (s.mailbox gateListWriteCmd m cmdGateListWrite)

/-- The list that administrative entries 0 to n - 1 form (R397). -/
def Root.adminList (r : Root) (n : Nat) : List GateEntry := (List.range n).map (fun i => tget ⟨0xFF, 1⟩ r.admin i)

/-- ACT: the first tick BASE + k x CYCLE at or after an edge (R399). -/
def gateAct (base cycle edge : Nat) : Nat :=
  if edge ≤ base then base else base + ceilDiv (edge - base) cycle * cycle

/-- R407 for a gate list: every admitted guarantee stays admitted with T_gate taken from the new list. -/
def State.keepsGates (p : State) (r : Nat) (l : List GateEntry) (act : Nat) : Bool :=
  let q := p.modRoot r (fun x => { x with oper := if l.isEmpty then none else some ⟨l, act, false⟩, wait := none })
  p.sched.guars.all (fun e => e.2.yielded || (q.admitted.map Prod.fst).contains e.1)

/-- GATE_LIST_COMMIT. -/
def cmdGateListCommit (m : Msg) (s : State) : Reply :=
  let r := m.get 1 0 8
  let n := m.get 1 16 9
  let en := m.flag 1 8
  let l := if en then (s.root r).adminList n else []
  let cycle := if en then gateCycle l else 1
  let p := s.guarProj
  let act := gateAct (m.word 2 + 2 ^ 32 * m.word 3) cycle s.nextEdge
  let c : Cfg := .gates r ⟨l, act, s.anyYielded⟩
  .unless (m.stray 1 0x01FF01FF || decide (137 < r) || (en && (n == 0 || decide (256 < n)))) .badArg <|
  .unless (!p.keepsGates r l act) .conflict <|
  .ok (lohi act ++ [w32 cycle]) (s.accept c)

def gateListCommitCmd : Cmd := ⟨0x2106, [4], true⟩
/-- GATE_LIST_COMMIT makes an administrative list operational at ACT (R398, R399). -/
def execGateListCommit (m : Msg) (s : State) : Res := .next (s.mailbox gateListCommitCmd m cmdGateListCommit)

/-! ## Gate advance (R25 step 7, R398, R404) -/

/-- A commit of a root's list is accepted and not yet in effect: the list that waits there will be replaced (R399). -/
def State.gatesPend (s : State) (r : Nat) : Bool := s.cfgq.any (fun c => match c with
  | .gates q _ => q == r
  | _ => false)

/-- Step 7 of the commit: committed lists due at the edge become operational, with the admission run that waits for
them; one that a later commit replaces does not (R399). -/
def State.commitGates (s : State) (edge : Nat) : State :=
  let due := s.sched.roots.any (fun e => !s.gatesPend e.1 && (match e.2.wait with
    | some w => decide (w.act ≤ edge) && w.run
    | none => false))
  let s := s.modSched (fun d => { d with roots := tmap (fun i (r : Root) => if s.gatesPend i then r else r.gateStep edge) d.roots })
  if due then s.runDue 3 else s

/-! ## Policing (R394 to R396) -/

/-- A colour. -/
inductive Colour where
  | green | yellow | red
deriving DecidableEq, Repr

/-- The colour of a frame of charged length `len`, and the policer after it (R395). -/
def Policer.police (p : Policer) (len : Nat) (pre : Bool) : Colour × Policer :=
  let b : Int := ((len * 64 : Nat) : Int)
  let preYellow := p.aware && pre
  if p.mode1 then
    if !preYellow && decide (b ≤ p.tokC) then
      (.green, { p with tokC := p.tokC - b, tkGf := p.tkGf + 1, tkGb := p.tkGb + len })
    else if b ≤ p.tokP then (.yellow, { p with tokP := p.tokP - b, tkYf := p.tkYf + 1, tkYb := p.tkYb + len })
    else (.red, { p with tkRf := p.tkRf + 1, tkRb := p.tkRb + len })
  else if p.tokP < b then (.red, { p with tkRf := p.tkRf + 1, tkRb := p.tkRb + len })
  else if preYellow || decide (p.tokC < b) then
    (.yellow, { p with tokP := p.tokP - b, tkYf := p.tkYf + 1, tkYb := p.tkYb + len })
  else (.green, { p with tokP := p.tokP - b, tokC := p.tokC - b, tkGf := p.tkGf + 1, tkGb := p.tkGb + len })

end Machine
end Sys2Proof
end

