-- ==== Sys2Proof/Machine/Classify.lean ====
section
/-! DEFINITION. The path of a frame from its arrival to its queues (01, 12, 14, 15): FRAME_ARRIVAL and FRAME_CLASSIFY,
with VLAN, learning, streams, policing, destinations, replication and the spool. -/
namespace Sys2Proof
namespace Machine

/-! ## FRAME_ARRIVAL (R20, R22, R219) -/

/-- A line channel checks and counts a frame (R219). -/
def State.lineArrival (s : State) (ch : Nat) (arr : Arrival) (f : Frame) : State :=
  let count := fun (g : LineCnt → LineCnt) => s.modLine ch (fun l => { l with cntTick := g l.cntTick })
  if !arr.fcsOk then count (fun c => { c with rxFcsErr := c.rxFcsErr + 1 })
  else if !f.fits then count (fun c => { c with rxLenErr := c.rxLenErr + 1 })
  else (count (fun c => { c with rxFrames := c.rxFrames + 1, rxBytes := c.rxBytes + f.wire })).arrive ch f

/-- A frame arrives on a drop that is UP in the opportunity that is open; with none open none can have begun (R246). -/
def State.dropArrival (s : State) (ds : Nat) (arr : Arrival) (f : Frame) : State :=
  match (s.drop ds).opp with
  | some k => s.dropReceive ds k false arr f
  | none => s

/-- A frame from a lane group is passed on, or discarded and counted once by the model's own counter (R22; log 84). -/
def State.hostArrival (s : State) (g : Nat) (arr : Arrival) (f : Frame) : State :=
  if arr.fcsOk && f.fits then s.arrive (132 + g) f else s.modHost g (fun x => { x with badFrames := x.badFrames + 1 })

/-- A frame that MACsec verification refused is no longer secured (R473). -/
def verified (arr : Arrival) (f : Frame) : Frame := { f with secured := f.secured && arr.macsecOk }

/-- Forwarding entries, by address and VID, that are found to hold an uncorrectable error are removed, each with the notice
FDB_ECC (R379). -/
def State.fdbFound (s : State) (l : List (Nat × Nat)) : State :=
  l.foldl (fun s k =>
    if s.live && (fdbFind s.bridge.fdb k.1 k.2).isSome then
      (s.modBridge (fun b => { b with fdb := fdbDrop b.fdb k.1 k.2 })).notice 0x2601 0xFF
    else s) s

/-- FRAME_ARRIVAL: the last bit of a frame arrives on a port whose link is up (R20, R22). -/
def execFrameArrival (port : Nat) (arr : Arrival) (f : Frame) (s : State) : Res :=
  let f := verified arr f
  let s := s.fdbFound arr.fdbBad
  if !s.powered port then .next s
  else if port < 96 then .next (if (s.line port).linked then s.lineArrival port arr f else s)
  else if port < 128 then .next (if (s.drop (port - 96)).state == .up then s.dropArrival (port - 96) arr f else s)
  else if port < 132 then
    .next (if (s.trunk (port - 128)).state == .up then s.trunkArrival (port - 128) arr.fcsOk f else s)
  else if port < 136 then
    .next (if (s.host (port - 132)).state == .up then s.hostArrival (port - 132) arr f else s)
  else .next s

/-! ## Destinations (R361, R365, R367, R441) -/

/-- One destination of a frame: its root, the queue if one is in force, and the fabric header for a fabric link. -/
structure Dest where
  root  : Nat
  queue : Option Nat
  fab   : Option FabHeader
deriving DecidableEq, Repr

/-- The frame bytes of a frame at a destination: a carried frame is tagged, a control frame is as it came (R437, R439). -/
def State.destLen (s : State) (f : Frame) (d : Dest) : Nat :=
  match d.fab with
  | none => f.len
  | some h => (if h.type = 0 then f.len - (if f.tag.isSome then 4 else 0) + 4 else f.len) + s.encap d.root

/-- The header of a DATA frame that this device sends into the fabric (R438). -/
def State.dataHeader (s : State) (sc plane dst : Nat) (seq : Option (Nat × Nat)) : FabHeader :=
  match seq with
  | none => ⟨1, 0, 255, sc, plane, false, s.fabric.path, dst, 0, 0, s.fabric.epoch⟩
  | some (h, n) => ⟨1, 0, 255, sc, plane, true, s.fabric.path, dst, h, n, s.fabric.epoch⟩

/-- The path behind a destination address that was learned from the fabric (R441, R442). -/
def State.fabPath (s : State) (da vid : Nat) : Option Nat :=
  match fdbFind s.bridge.fdb da vid with
  | some e => if !e.static && s.isFabric e.port && e.path != 0 then some e.path else none
  | none => none

/-- The links that take the place of the fabric links among a frame's destinations (R441). -/
def State.fabDests (s : State) (da vid sc : Nat) : List Dest :=
  match s.fabPath da vid with
  | some p =>
    match s.routeVia p 0 with
    | some r => [⟨r, s.defaultQueue r sc, some (s.dataHeader sc 0 p none)⟩]
    | none => []
  | none => s.treeVia.map (fun r => ⟨r, s.defaultQueue r sc, some (s.dataHeader sc 0 0 none)⟩)

/-- The ports that a destination address and VID give (R361). -/
def State.ports (s : State) (port da vid : Nat) : List Nat :=
  let members := tget 0 s.bridge.vlans vid
  let m := match fdbFind s.bridge.fdb da vid with
    | some e => if e.static then e.mask else 2 ^ e.port
    | none => members
  (bitsOf 136 (m &&& members)).filter (fun p => p != port)

/-- The destinations of a list of ports in a class: default queues on ports outside the fabric, and, where fabric links
are wanted and among them, the links of R441. -/
def State.dests (s : State) (ports : List Nat) (da vid sc : Nat) (fabric : Bool) : List Dest :=
  (ports.filter (fun p => !s.isFabric p)).map (fun p => ⟨p, s.defaultQueue p sc, none⟩) ++
    (if fabric && ports.any s.isFabric then s.fabDests da vid sc else [])

/-! ## Replication (R469) -/

/-- The replicated-stream entry of a stream for a destination path, at the source. -/
def State.repEntry (s : State) (stream : Option Nat) (dst : Nat) : Option RepEntry :=
  match stream with
  | none => none
  | some i => s.fabric.cfg.entries.find? (fun e => e.src == s.fabric.path && e.entry == i && e.dst == dst)

/-- The destinations with replication: a fabric copy bound for the entry's DST_PATH is numbered, and a second copy goes
out on plane 1 (R469). -/
def State.replicate (s : State) (stream : Option Nat) (l : List Dest) : State × List Dest :=
  match l.findSome? (fun d => match d.fab with
    | some h => (s.repEntry stream h.dst).map (fun e => (d, e))
    | none => none) with
  | none => (s, l)
  | some (d, e) =>
    let n := tget 0 s.fabric.seqGen e.handle
    let s := s.modFabric (fun f => { f with seqGen := tset f.seqGen e.handle ((n + 1) % 65536) })
    let l := l.map (fun x => if x = d then { x with fab := some (s.dataHeader e.sc 0 e.dst (some (e.handle, n))) } else x)
    match s.routeVia e.dst 1 with
    | some r => (s, l ++ [⟨r, s.defaultQueue r e.sc, some (s.dataHeader e.sc 1 e.dst (some (e.handle, n)))⟩])
    | none => (s.fabCount (fun c => { c with noRoute := c.noRoute + 1 }), l)

/-! ## Into the cellar and the queues (R20 to R22, R367, R368, R417, R423, R427) -/

/-- What classification has found of a frame. -/
structure Sorted where
  port : Nat
  tick : Nat
  vid  : Nat
  pcp  : Nat
  dei  : Bool
  sc   : Nat
deriving DecidableEq, Repr

/-- The stored form of a frame, not spooled. -/
def storedOf (f : Frame) (c : Sorted) : Stored := ⟨f, c.port, c.sc, c.vid, c.pcp, c.dei, framePages f.len, 0, false⟩

/-- A frame's descriptors enter the queues of its destinations; copies for a host lane group carry their spool sequence.
A frame for a quiet line channel ends its gap (R230, R566). -/
def State.enqueueAll (s : State) (id : Nat) (f : Frame) (tick : Nat) (spooled : Bool) (l : List Dest) : State :=
  l.foldl (fun s d =>
    match d.queue with
    | none => s
    | some q =>
      let host := spooled && decide (132 ≤ d.root) && decide (d.root < 136)
      let seq := if host then (match s.cellar.spool.find? (fun e => e.id == id) with
        | some e => e.seqs.getD (d.root - 132) 0
        | none => 0) else 0
      let s := s.enqueue q ⟨id, tick + 2, s.destLen f d, host, false, seq, d.fab⟩
      (if d.root < 96 then s.cutSlice d.root else s).modSched (fun x =>
        { x with active := if x.active.contains d.root then x.active else x.active ++ [d.root] })) s

/-- A frame that is not spooled: written when a queue takes it and pages are free (R368, R417). -/
def State.storePlain (s : State) (f : Frame) (c : Sorted) (l : List Dest) : State :=
  let st := storedOf f c
  let taken := l.any (fun d => match d.queue with
    | some q => s.queueTakes q (s.destLen f d)
    | none => false)
  if taken && decide (s.cellar.free < st.pages) then s.modCellar (fun x => { x with tkNoPage := x.tkNoPage + 1 })
  else if taken then
    let id := s.cellar.nextId
    (s.keepFrame st).enqueueAll id f c.tick false l
  else s.enqueueAll s.cellar.nextId f c.tick false l

/-- The lane groups among a frame's destinations that the spool takes it for (R423). -/
def State.spoolFor (s : State) (sc : Nat) (l : List Dest) : List Nat :=
  if s.cellar.size ≠ 0 ∧ sc = 6 then
    (l.filter (fun d => decide (132 ≤ d.root) && decide (d.root < 136))).map (fun d => d.root - 132)
  else []

/-- A destination on the link of an excluded member: the frame may not cross it (R447). -/
def State.barred (s : State) (d : Dest) : Bool := d.fab.isSome && s.isFabric d.root && s.excluded d.root

/-- A classified frame goes to its destinations (R367, R423, R427, R439, R447). -/
def State.handFrame (s : State) (f : Frame) (c : Sorted) (l : List Dest) : State :=
  let s := s.fabCount (fun x => { x with badType := x.badType + (l.filter s.barred).length })
  let l := l.filter (fun d => !s.barred d)
  let big := l.filter (fun d => d.fab.isSome && decide (9216 < s.destLen f d))
  let s := s.fabCount (fun x => { x with tooBig := x.tooBig + big.length })
  let l := l.filter (fun d => !(d.fab.isSome && decide (9216 < s.destLen f d)))
  let s := s.bridgeCount (fun x => { x with noQueue := x.noQueue + (l.filter (fun d => d.queue.isNone)).length })
  let groups := s.spoolFor c.sc l
  if groups.isEmpty then s.storePlain f c l
  else
    match s.spoolRoom (spoolPages f.len) (s.cellar.spool.length + 1) with
    | (s, true) =>
      let id := s.cellar.nextId
      (s.spoolPut (storedOf f c) groups).enqueueAll id f c.tick true l
    | (s, false) =>
      (groups.foldl (fun s g => s.modSpool g (fun k => { k with tkFullDrop := k.tkFullDrop + 1 })) s).storePlain f c
        (l.filter (fun d => !(decide (132 ≤ d.root) && decide (d.root < 136))))

/-! ## VLAN, learning, streams (R355, R356, R360, R364 to R366) -/

/-- The VLAN and PCP of a frame, none when it is discarded (R355). -/
def State.vlanOf (s : State) (port : Nat) (f : Frame) : Option (Nat × Nat × Bool) :=
  let p := s.port port
  let v : Option (Nat × Nat × Bool) := match f.tag with
    | none => if p.acceptUn then some (p.pvid, p.defPcp, false) else none
    | some t =>
      if t.vid = 0 then some (p.pvid, t.pcp, t.dei) else if t.vid < 4095 then some (t.vid, t.pcp, t.dei) else none
  match v with
  | none => none
  | some x => if bit (tget 0 s.bridge.vlans x.1) port then some x else none

/-- A source address is looked up for learning (R360, R442). -/
def State.learn (s : State) (port vid sa path : Nat) : State :=
  if (s.port port).learn && !bit sa 40 then
    s.modBridge (fun b => { b with learns := b.learns ++ [⟨sa, vid, port, path⟩] })
  else s

/-- The stream of a frame: a DA entry, or else an SA entry (R364). -/
def State.streamOf (s : State) (f : Frame) (vid : Nat) : Option (Nat × Stream) :=
  match s.streamKey false f.da vid with
  | some x => some x
  | none => s.streamKey true f.sa vid

/-- The class of a frame outside the fabric (R356, R365). -/
def State.classOf (s : State) (port pcp : Nat) (st : Option (Nat × Stream)) : Nat :=
  match st with
  | some (_, e) => if e.scEn then e.sc else fld (s.port port).pcpMap (3 * pcp) 3
  | none => fld (s.port port).pcpMap (3 * pcp) 3

/-- The queue that a stream sends its frames to: YIELD_Q while its guarantee yields (R365, R405). -/
def State.streamQueue (s : State) (i : Nat) (e : Stream) : Nat :=
  match tfind s.sched.guars i with
  | some g => if g.yielded then g.yieldQ else e.queue
  | none => e.queue

/-- What becomes of a frame of a stream with Q_EN: its one destination, or the count under which it is discarded. -/
inductive QueueDest where
  | to (d : Dest)
  | filtered | queueless | routeless
deriving DecidableEq, Repr

/-- A frame for a path, or for the whole tree where it has none, can be reached under the routes in force (R456, R596). -/
def State.reachable (s : State) : Option Nat → Bool
  | some p => (s.routeVia p 0).isSome
  | none => !s.treeVia.isEmpty

/-- The one destination of a stream with Q_EN (R365, R367, R443, R456). -/
def State.queueDest (s : State) (port q : Nat) (f : Frame) (vid sc : Nat) (fabric : Bool) : QueueDest :=
  let path := s.fabPath f.da vid
  let live := s.queueRoot q
  match (if live.isSome then live else s.schedProj.queueRoot q) with
  | none => .queueless
  | some r =>
    if r = port ∨ (s.isFabric r ∧ !fabric) then .filtered
    else if s.isFabric r ∧ !s.reachable path then .routeless
    else .to ⟨r, if live.isSome then some q else none, if s.isFabric r then some (s.dataHeader sc 0 (path.getD 0) none) else none⟩

/-- Policing of a frame: whether it passes, its DEI, and the policers after it (R394 to R396). -/
def State.policeFrame (s : State) (i : Nat) (f : Frame) (dei : Bool) : Bool × Bool × State :=
  let p := s.policer i
  let r := p.police (f.len + p.ovh) dei
  let s := s.modSched (fun d => { d with policers := tset d.policers i r.2 })
  match r.1 with
  | .green => (true, dei, s)
  | .yellow => (!p.yellowDrop, true, s)
  | .red => (false, dei, s)

/-- A frame discarded by the bridge's own decision. -/
def State.filtered (s : State) : State := s.bridgeCount (fun c => { c with filtered := c.filtered + 1 })

/-- A frame discarded for want of a queue. -/
def State.queueless (s : State) : State := s.bridgeCount (fun c => { c with noQueue := c.noQueue + 1 })

/-- A frame discarded for want of a route (R456). -/
def State.routeless (s : State) : State := s.fabCount (fun c => { c with noRoute := c.noRoute + 1 })

/-- The destinations of a bridged frame, with replication, and on to the queues, together with the links `more` of the tree that it
takes in any case (R361, R365, R441, R443, R469): one stored frame for all of them (R21). -/
def State.bridgeTo (s : State) (f : Frame) (c : Sorted) (st : Option (Nat × Stream)) (fabric : Bool) (more : List Dest := []) :
    State :=
  let onward := fun (s : State) (l : List Dest) =>
    let r := s.replicate (st.map Prod.fst) l
    if (more ++ r.2).isEmpty then r.1 else r.1.handFrame f c (more ++ r.2)
  let byPorts := fun (s : State) =>
    let ports := s.ports c.port f.da c.vid
    let l := s.dests ports f.da c.vid c.sc fabric
    if ports.isEmpty then onward s.filtered []
    else
      let s := if fabric && ports.any s.isFabric && (l.all (fun d => d.fab.isNone)) then s.routeless else s
      onward s l
  match st with
  | some (i, e) =>
    if e.qEn then
      match s.queueDest c.port (s.streamQueue i e) f c.vid c.sc fabric with
      | .to d => onward s [d]
      | .filtered => onward s.filtered []
      | .queueless => onward s.queueless []
      | .routeless => onward s.routeless []
    else byPorts s
  | none => byPorts s

/-- A stream hit is counted. -/
def State.hit (s : State) (st : Option (Nat × Stream)) : State :=
  if st.isSome then s.bridgeCount (fun c => { c with streamHits := c.streamHits + 1 }) else s

/-- Classification of a frame from a port outside the fabric (R355 to R367). -/
def State.classifyPlain (s : State) (a : Arrived) : State :=
  match s.vlanOf a.port a.frame with
  | none => s.bridgeCount (fun c => { c with vlanDrop := c.vlanDrop + 1 })
  | some (vid, pcp, dei) =>
    let s := s.learn a.port vid a.frame.sa 0
    let st := s.streamOf a.frame vid
    let s := s.hit st
    let sc := s.classOf a.port pcp st
    match st with
    | some (i, e) =>
      if e.polEn then
        if (s.policer e.policer).conf then
          match s.policeFrame e.policer a.frame dei with
          | (true, dei, s) => s.bridgeTo a.frame ⟨a.port, a.tick, vid, pcp, dei, sc⟩ (some (i, e)) true
          | (false, _, s) => s
        else s.filtered
      else s.bridgeTo a.frame ⟨a.port, a.tick, vid, pcp, dei, sc⟩ st true
    | none => s.bridgeTo a.frame ⟨a.port, a.tick, vid, pcp, dei, sc⟩ st true

/-! ## Frames from the fabric (R440, R442, R443, R447, R470) -/

/-- Forwarding of a frame to one fabric link, with its header as it goes on (R443). -/
def State.transit (s : State) (root : Nat) (h : FabHeader) : Dest := ⟨root, s.defaultQueue root h.sc, some h⟩

/-- The management root of the steward (R440). -/
def State.stewardRoot (s : State) : Nat := if s.boot.stewardSouth then 137 else 136

/-- The level of a group path: its trailing zero digits (R13; log 19). -/
def groupLevel (p : Nat) : Nat :=
  if pathDigit p 1 ≠ 0 then 0 else if pathDigit p 2 ≠ 0 then 1 else if pathDigit p 3 ≠ 0 then 2
  else if pathDigit p 4 ≠ 0 then 3 else 4

/-- Where a control frame goes: none is this device (R440). -/
def State.controlRoute (s : State) (dst : Nat) : Option (Option Nat) :=
  let lv := groupLevel dst
  if dst = 0 ∨ dst = s.fabric.path then some none
  else if lv = 0 ∨ groupPath s.fabric.path lv ≠ dst then (s.routeVia dst 0).map some
  else if bit s.fabric.leads (lv - 1) then some none
  else (s.routeVia (tget 0 s.fabric.pathsTc (s.graph.leader lv s.serial)) 0).map some

/-- A control frame: to the steward's root, or onward (R440). -/
def State.classifyControl (s : State) (a : Arrived) (h : FabHeader) (c : Sorted) : State :=
  match s.controlRoute h.dst with
  | none => s.routeless
  | some none => s.handFrame a.frame c [⟨s.stewardRoot, s.defaultQueue s.stewardRoot h.sc, some h⟩]
  | some (some r) => s.handFrame a.frame c [s.transit r h]

/-- The recovery function of a frame for this device (R470): whether it passes. -/
def State.recover (s : State) (h : FabHeader) : Bool × State :=
  match cfgEntry s.fabric.cfg h.handle with
  | some e =>
    if h.seqValid && e.dst == s.fabric.path then
      let r := (s.recovery h.handle).take e.history h.seq s.now
      (r.1, s.modFabric (fun f => { f with recov := tset f.recov h.handle r.2 }))
    else (true, s)
  | none => (true, s)

/-- Decapsulation: the carried frame is bridged to ports outside the fabric and not policed (R443). A frame for the whole tree goes
on to the links `more` as well; `c` is how it stands there. -/
def State.decapsulate (s : State) (a : Arrived) (h : FabHeader) (v : Option (Nat × Nat × Bool)) (c : Sorted)
    (more : List Dest) : State :=
  match v with
  | none =>
    let s := s.bridgeCount (fun c => { c with vlanDrop := c.vlanDrop + 1 })
    if more.isEmpty then s else s.handFrame a.frame c more
  | some (vid, pcp, dei) =>
    let st := s.streamOf a.frame vid
    let sc := match st with
      | some (_, e) => if e.scEn then e.sc else h.sc
      | none => h.sc
    (s.hit st).bridgeTo a.frame ⟨a.port, a.tick, vid, pcp, dei, sc⟩ st false more

/-- A DATA frame from the fabric (R442, R443). -/
def State.classifyData (s : State) (a : Arrived) (h : FabHeader) (c : Sorted) : State :=
  let v := s.vlanOf a.port a.frame
  let s := match v with
    | some (vid, _, _) => s.learn a.port vid a.frame.sa h.src
    | none => s
  if h.dst = 0 then
    s.decapsulate a h v c ((s.treeVia.filter (fun r => r != a.port)).map (fun r => s.transit r h))
  else if h.dst = s.fabric.path then
    match s.recover h with
    | (true, s) => s.decapsulate a h v c []
    | (false, s) => s
  else match s.routeVia h.dst h.plane with
    | some r => s.handFrame a.frame c [s.transit r h]
    | none => s.routeless

/-- Classification of a frame from a fabric link (R440, R443, R447, R472, R473). A frame there that is not encapsulated is
no DATA frame (log 23). -/
def State.classifyFabric (s : State) (a : Arrived) : State :=
  if (s.fabLink a.port).macsec && (!a.frame.secured || s.unkeyed a.port) then s.fabCount (fun c => { c with macsecDrop := c.macsecDrop + 1 })
  else match a.frame.fab with
    | none => s.badType
    | some h =>
      let h' := { h with ttl := h.ttl - 1 }
      let tag := a.frame.tag.getD ⟨0, 0, false⟩
      let c : Sorted := ⟨a.port, a.tick, tag.vid, tag.pcp, tag.dei, h.sc⟩
      if h'.ttl = 0 then s.fabCount (fun c => { c with ttlDrop := c.ttlDrop + 1 })
      else if 11 < h.type then s.badType
      else if h.type ≠ 1 ∧ h.type ≠ 2 ∧ s.excluded a.port then s.badType
      else if h.type = 0 then s.classifyData a h' c else s.classifyControl a h' c

/-! ## FRAME_CLASSIFY (R20) -/

/-- The credits of a frame from a lane group are returned (R345). -/
def State.creditBack (s : State) (a : Arrived) : State :=
  match a.hostSc with
  | none => s
  | some sc => s.modHost (a.port - 132) (fun g => { g with grantDue := lmod g.grantDue sc (fun n => n + a.hostCr) })

/-- The oldest frame that arrived in an earlier tick is classified (R20). -/
def State.classifyOne (s : State) : State :=
  match s.arrived with
  | [] => s
  | a :: rest =>
    if a.tick < s.now then
      let s := ({ s with arrived := rest } : State).creditBack a
      if s.isFabric a.port then s.classifyFabric a else s.classifyPlain a
    else s

/-- FRAME_CLASSIFY: one frame of the previous tick is classified (R20). -/
def execFrameClassify (s : State) : Res := .next (if s.live then s.classifyOne else s)

/-- Every frame of earlier ticks that is still to be classified in this one (R20). -/
def State.classifyAll (s : State) : State := (List.range s.arrived.length).foldl (fun s _ => s.classifyOne) s

end Machine
end Sys2Proof
end

