-- ==== Sys2Proof/Machine/Clock.lean ====
section
/-! DEFINITION. Clocks (17): the reference and its switches, the monitor, CLKOUT, PPS, and the clock commands. -/
namespace Sys2Proof
namespace Machine

/-! ## Sources and loops (R508 to R511, R518) -/

/-- The core clock runs, and with it the monitor: PLL_CORE is locked (R511, R518). -/
def State.coreRuns (s : State) : Bool := !s.boot.held && bit s.clock.locked 0

/-- XB has a usable frequency (R509). -/
def ClockSt.xbUsable (c : ClockSt) : Bool := c.xbFreq == 1 || c.xbFreq == 2

/-- The monitor reports a reference running (R518). -/
def ClockSt.runs (c : ClockSt) : Ref → Bool
  | .xa => c.runXa
  | .xb => c.runXb
  | .fio => c.runFio

/-- The code of a reference (CLOCK_STATUS). -/
def Ref.num : Ref → Nat
  | .xa => 0 | .xb => 1 | .fio => 2

/-- What a count of XB edges over 4,096 FIO cycles says (R509). -/
def xbFreqOf (count : Nat) : Nat :=
  if 922 ≤ count ∧ count ≤ 1126 then 1 else if 5760 ≤ count ∧ count ≤ 7040 then 2 else 3

/-! ## CLOCK_PLAN (0x0300) -/

/-- CLOCK_PLAN. -/
def cmdClockPlan (m : Msg) (s : State) : Reply :=
  let c := s.clock
  let ref := if m.get 1 0 2 = 0 then Ref.xa else Ref.xb
  .unless (1 < m.get 1 0 2 || m.stray 1 0xFF3) .badArg <|
  .unless (!c.runs c.ref || !c.runs ref || (ref == .xb && c.xbFreq == 3)) .wrongState <|
  .unless c.switch.isSome .busy <|
  .ok (lohi s.nextEdge) (s.accept (.clockPlan (m.get 1 4 4) (m.get 1 8 4) ref))

def clockPlanCmd : Cmd := ⟨0x0300, [2], true⟩
/-- CLOCK_PLAN (R512, R513, R516). -/
def execClockPlan (m : Msg) (s : State) : Res := .next (s.mailbox clockPlanCmd m cmdClockPlan)

/-- A source can be the reference: it runs, and XB only at a usable frequency (R509, R516). -/
def ClockSt.selectable (c : ClockSt) (r : Ref) : Bool := c.runs r && (r != .xb || c.xbUsable)

/-- CLOCK_PLAN takes effect: the ratios apply, and the switch starts unless REF is the reference in use. The firmware starts
one only while both sources are reported running, so a source that stopped after the ACK starts none, nor does XB at an unusable
frequency (R509, R516). -/
def State.applyPlan (s : State) (p q : Nat) (ref : Ref) : State :=
  s.modClock (fun c =>
    { c with p := p, q := q, switch := if ref = c.ref ∨ c.switch.isSome ∨ !c.runs c.ref ∨ !c.selectable ref then c.switch else some ref })

/-- The ratios in force are among those that R513 allows. -/
def State.ratiosOk (s : State) : Bool :=
  decide (2 ≤ s.clock.p) && decide (s.clock.p ≤ 8) && decide (2 ≤ s.clock.q) && decide (s.clock.q ≤ 4)

/-- REF_SWITCH_COMPLETE: both sources have shown a low phase, and the reference is switched (R515); a switch that the NMI
handler started is recorded (R521). A switch to XB whose frequency has become unusable never completes (R509). -/
def execRefSwitchComplete (s : State) : Res :=
  match s.clock.switch with
  | none => .next s
  | some r =>
    if s.coreRuns && s.clock.runs s.clock.ref && s.clock.selectable r then
      let s' := s.modClock (fun c => { c with ref := r, switch := none, switchLost := none })
      match s.clock.switchLost with
      | some l => .next (s'.record 0x13 0 (l + 4 * r.num))
      | none => .next s'
    else .next s

/-! ## CLOCK_STATUS, CLOCK_GATE, PPS_CONFIG (0x0301 to 0x0303) -/

/-- CLOCK_STATUS. -/
def cmdClockStatus (m : Msg) (s : State) : Reply :=
  let c := s.clock
  let ppm := match c.ppm with
    | some x => ofInt 16 x
    | none => 0x8000
  let cap := c.capture.getD (0, 0)
  .unless (m.stray 1 0) .badArg <|
  .ok ([packW [(9, c.locked), (7, 0), (4, c.p), (4, c.q), (1, b2n c.runSio), (1, b2n c.runFio), (1, b2n c.runXb),
        (1, b2n c.runXa), (2, c.xbFreq), (2, c.ref.num)], packW [(16, ppm), (16, c.failovers)], w32 c.gates] ++
      lohi cap.1 ++ [packW [(16, cap.2), (14, 0), (1, b2n s.fabric.steering), (1, b2n c.capture.isSome)]]) s

def clockStatusCmd : Cmd := ⟨0x0301, [2], false⟩
/-- CLOCK_STATUS (R518, R530). -/
def execClockStatus (m : Msg) (s : State) : Res := .next (s.mailbox clockStatusCmd m cmdClockStatus)

/-- CLOCK_GATE. -/
def cmdClockGate (m : Msg) (s : State) : Reply :=
  .unless (m.stray 1 0x1F) .badArg <|
  .ok [w32 (m.get 1 0 5)] (s.accept (.clockGate (m.get 1 0 5)))

def clockGateCmd : Cmd := ⟨0x0302, [2], true⟩
/-- CLOCK_GATE (R522). -/
def execClockGate (m : Msg) (s : State) : Res := .next (s.mailbox clockGateCmd m cmdClockGate)

/-- The last settings of CLOCK_GATE, those still waiting for their edge included. -/
def State.gateSet (s : State) : Nat :=
  s.cfgq.foldl (fun g c => match c with
    | .clockGate x => x
    | _ => g) s.clock.gates

/-- PPS_CONFIG. -/
def cmdPpsConfig (m : Msg) (s : State) : Reply :=
  let width := m.get 1 16 16
  .unless (width == 0 || 39999 < width || m.stray 1 0xFFFF0007) .badArg <|
  .unless ((m.flag 1 0 || m.flag 1 1) && !bit s.gateSet 1) .wrongState <|
  .ok [] (s.accept (.pps ⟨width, m.flag 1 2, m.flag 1 1, m.flag 1 0⟩))

def ppsConfigCmd : Cmd := ⟨0x0303, [2], true⟩
/-- PPS_CONFIG (R529, R530). -/
def execPpsConfig (m : Msg) (s : State) : Res := .next (s.mailbox ppsConfigCmd m cmdPpsConfig)

/-! ## PPS (R522, R529, R530) -/

/-- PPS_OUT is low and no pulse is in progress. -/
def State.ppsLow (s : State) : State :=
  (if s.pins.ppsOut == .high then s.modPins (fun p => { p with ppsOut := .low }) else s).modClock (fun c =>
    { c with ppsEnd := none })

/-- CLOCK_GATE takes effect: a gated PPS holds PPS_OUT low (R522). -/
def State.applyGate (s : State) (en : Nat) : State :=
  let s := s.modClock (fun c => { c with gates := en })
  if bit en 1 then s else s.ppsLow

/-- PPS_CONFIG takes effect; a pulse in progress keeps its width (R529). -/
def State.applyPps (s : State) (c : PpsCfg) : State :=
  let s := s.modClock (fun k => { k with pps := c })
  let s := if c.inEn && c.discipline then s else s.modFabric (fun f => { f with steer := 0, steering := false })
  if c.outEn then s else s.ppsLow

/-- PPS_OUT may be driven: OUT_EN, its clock on, and a state in which the outputs follow their chapters. -/
def State.ppsOn (s : State) : Bool :=
  s.time.seq && s.clock.pps.outEn && bit s.clock.gates 1 && !s.boot.halted &&
    (s.boot.power == .run || s.boot.power == .boot)

/-- PPS_PULSE: PPS_OUT rises at an edge whose number is a multiple of 40,000 (R529). -/
def execPpsPulse (s : State) : Res :=
  if s.ppsOn && s.now % 40000 == 0 && s.clock.ppsEnd.isNone then
    .next ((s.modPins (fun p => { p with ppsOut := .high })).modClock (fun c =>
      { c with ppsEnd := some (s.now + c.pps.width) }))
  else .next s

/-- PPS_PULSE_END: PPS_OUT falls WIDTH ticks after it rose (R529). -/
def execPpsPulseEnd (s : State) : Res :=
  match s.clock.ppsEnd with
  | some e => if e ≤ s.now then .next s.ppsLow else .next s
  | none => .next s

/-- Two captures are 40,000 ticks apart, within 100 us (R530), in core cycles. -/
def inStep (a b : Nat × Nat) : Bool :=
  let x := a.1 * 31250 + a.2 + 1250000000
  let y := b.1 * 31250 + b.2
  decide (x ≤ y + 125000) && decide (y ≤ x + 125000)

/-- A steering offset in ns acts on the device's time (R459, R460, R530). -/
def State.steerBy (s : State) (offset : Int) : State :=
  s.modFabric (fun f => f.steered s.now offset)

/-- PPS_IN_CAPTURE: an edge of PPS_IN at core cycle `cycle`, the device's own second being `offset` ns ahead of it (R530). -/
def execPpsInCapture (cycle : Nat) (offset : Int) (s : State) : Res :=
  if s.live && s.clock.pps.inEn && bit s.clock.gates 1 then
    let k := match s.clock.capture with
      | some c => if inStep c (s.now, cycle) then s.fabric.steer + 1 else 1
      | none => 1
    let on := s.isTop && s.clock.pps.discipline && (s.fabric.steering || decide (4 ≤ k))
    let s := (s.modClock (fun c => { c with capture := some (s.now, cycle) })).modFabric (fun f =>
      { f with steer := Nat.min 4 k, steering := on })
    .next (if on then s.steerBy offset else s)
  else .next s

/-- STEERING_STOP: two consecutive expected edges of PPS_IN are missing (R530). -/
def execSteeringStop (s : State) : Res :=
  let late := match s.clock.capture with
    | some c => decide (c.1 + 80004 ≤ s.now)
    | none => true
  if s.fabric.steering && late then .next (s.modFabric (fun f => { f with steering := false, steer := 0 })) else .next s

/-! ## CLKOUT (R524 to R528) -/

/-- The loop behind a SRC code of CLKOUT_CTRL (R511, R524). -/
def clkoutLoop (src : Nat) : Nat := if src = 15 then 0 else if src < 7 then 0 else src - 6

/-- The monitor, which runs with PLL_CORE, reports a source of CLKOUT stopped, or its loop is unlocked (R518, R524). -/
def State.srcStopped (s : State) (src : Nat) : Bool :=
  match src with
  | 0 => s.coreRuns && !s.clock.runXa
  | 1 => s.coreRuns && !s.clock.runXb
  | 2 => s.coreRuns && !s.clock.runFio
  | 3 => s.coreRuns && !s.clock.runSio
  | n => !bit s.clock.locked (clkoutLoop n)

/-- The setting that a write to CLKOUT_CTRL asks for (R524). -/
def clkoutOf (w : Word) : ClkoutSet := ⟨bit w.toNat 31, fld w.toNat 16 12, fld w.toNat 0 4⟩

/-- CLKOUT follows CLKOUT_CTRL: firmware has started and the clocks run (R525, R528), or the device is in DAMPED, for which
R542 names R526 and R528 alone. DEDUCED: this holds in a DAMPED that the boot ROM entered too (log 36). -/
def State.clkoutLive (s : State) : Bool :=
  !s.boot.held && (s.boot.stage.fw || s.boot.power == .damped) && s.boot.power != .banked && s.boot.power != .ember &&
    s.boot.power != .cold && !s.saved

/-- A change of CLKOUT begins, unless the setting is in force already (R526). -/
def State.clkoutGo (s : State) (c : ClkoutSet) : State :=
  s.modClock (fun k => if k.clkNow = c then k else { k with clkNow := c, changing := true })

/-- A write to CLKOUT_CTRL: stored before FW_START, held while a change is in progress and from A4 of an entry until the resume,
otherwise a change (R525 to R528). -/
def State.clkoutWrite (s : State) (w : Word) : State :=
  let c := clkoutOf w
  let s := s.modClock (fun k => { k with clkout := c })
  if s.clkoutLive && !s.clock.changing then s.clkoutGo c
  else if s.boot.stage.fw || s.clkoutLive then s.modClock (fun k => { k with clkHeld := some c })
  else s

/-- At the resume from BANKED the last write held since A4 applies, and an enabled output starts again under step 2 of R526
(R526 to R528; log 36). -/
def State.clkoutResume (s : State) : State :=
  s.modClock (fun k =>
    let c := k.clkHeld.getD k.clkNow
    { k with clkNow := c, clkHeld := none, changing := k.changing || decide (c ≠ k.clkNow), clkWait := c.enable })

/-- The source in force of CLKOUT, reported stopped in `s`, runs again in `t`: the output stays low under step 2 of R526 (R528). -/
def State.clkoutBack (s t : State) : State :=
  if s.srcStopped t.clock.clkNow.src && !t.srcStopped t.clock.clkNow.src then t.modClock (fun k => { k with clkWait := k.clkNow.enable })
  else t

/-! ## The monitor (R518 to R521, R598) -/

/-- PLL_LOCK: a loop locks while its domain and the reference run (R511). -/
def execPllLock (loop : Nat) (s : State) : Res :=
  let on := match s.boot.power with
    | .boot | .run | .damped => true
    | .banked | .ember | .cold => false
  if decide (loop < 9) && !s.boot.held && on && s.boot.stage.fw && s.loopOn loop && s.clock.runs s.clock.ref then
    .next (s.clkoutBack (s.modClock (fun c => { c with locked := setBit c.locked loop true, first := setBit c.first loop true })))
  else .next s

/-- A loop that had locked loses lock: PLL_UNLOCK, with the loop's bit number (R519). -/
def State.unlock (s : State) (loop : Nat) : State :=
  (s.modClock (fun c => { c with locked := setBit c.locked loop false })).fatal 0x3B02 loop

/-- PLL_UNLOCK (R518, R519). -/
def execPllUnlock (loop : Nat) (s : State) : Res :=
  if decide (loop < 9) && bit s.clock.locked loop && bit s.clock.first loop then .next (s.unlock loop) else .next s

/-- A condition notice of the monitor: raised when its condition begins, and present while it lasts (R519, R539). -/
def State.watch (s : State) (code : Nat) (present : Bool) : State :=
  if s.faults.conds.contains (code, 0xFF) == present then s
  else
    let s := s.condition code 0xFF present
    if present then s.notice code 0xFF else s

/-- A crystal has stopped or runs again: XA and XB are no longer compared as before (R509, R518). -/
def State.crystal (s : State) (running : Bool) (xb : Bool) (count : Nat) : State :=
  let was := if xb then s.clock.runXb else s.clock.runXa
  let s := s.modClock (fun c =>
    { c with runXa := if xb then c.runXa else running
             runXb := if xb then running else c.runXb
             xbFreq := if !xb then c.xbFreq else if !running then 0 else if was then c.xbFreq else xbFreqOf count
             ppm := if running == was then c.ppm else none })
  if running then s else s.watch 0x2B01 false

/-- The loops have no running reference: each locked one loses lock (R519). -/
def State.unlockAll (s : State) : State := (bitsOf 9 (s.clock.locked &&& s.clock.first)).foldl State.unlock s

/-- FIO has stopped or runs again: as the reference it takes the loops with it (R519). -/
def State.fio (s : State) (running : Bool) : State :=
  let s := s.modClock (fun c => { c with runFio := running })
  if running then s.watch 0x2B02 false
  else if s.clock.ref == .fio then s.unlockAll
  else s.watch 0x2B02 true

/-- CLOCK_STOP_DETECT: the monitor finds XA (0), XB (1), FIO (2) or SIO (3) stopped or running again, with the count of XB
edges where it counts them (R509, R518, R519). -/
def execClockStopDetect (src : Nat) (running : Bool) (xbCount : Nat) (s : State) : Res :=
  if s.coreRuns then
    match src with
    | 0 => .next (s.clkoutBack (s.crystal running false 0))
    | 1 => .next (s.clkoutBack (s.crystal running true xbCount))
    | 2 => .next (s.clkoutBack (s.fio running))
    | 3 => .next (s.clkoutBack ((s.modClock (fun c => { c with runSio := running })).watch 0x2B03 (!running)))
    | _ => .next s
  else .next s

/-- REF_DEVIATION: the comparison of XA and XB over 2^20 XA cycles, in 0.1 ppm (R518, R519). -/
def execRefDeviation (ppm : Int) (s : State) : Res :=
  if s.coreRuns && s.clock.runXa && s.clock.runXb && s.clock.xbUsable then
    let x := if 32767 < ppm then 32767 else if ppm < -32767 then -32767 else ppm
    .next ((s.modClock (fun c => { c with ppm := some x })).watch 0x2B01 (decide (2000 < ppm) || decide (ppm < -2000)))
  else .next s

/-- The boot ROM runs: it waits in a boot without an image, or stands between its steps (R87, R89). -/
def State.romRuns (s : State) : Bool :=
  !s.boot.held && s.boot.power == .boot && (s.boot.stage == .romImage || s.boot.stage == .blankWait)

/-- FORCED_FAILOVER: the crystal in use is reported stopped; FIO takes over at once, a waiting switch is dropped, doorbell
19 and the NMI (R517, R520). With FIO stopped as well the loops lose lock (R519). In DAMPED nothing follows (R598). -/
def execForcedFailover (s : State) : Res :=
  let c := s.clock
  if s.coreRuns && c.ref != .fio && !c.runs c.ref then
    let s' := (s.modClock (fun k =>
      { k with ref := .fio, switch := none, switchLost := none, failovers := sat16 (k.failovers + 1)
               nmi := if s.fwRuns || s.romRuns then some c.ref.num else none })).doorbell 19
    .next (if c.runFio then s' else s'.unlockAll)
  else .next s

/-- The steward's NMI handler moves to XB where it runs at a usable frequency, and otherwise raises REF_LOST (R521). -/
def State.stewardNmi (lost : Nat) (s : State) : State :=
  if s.clock.runXb && s.clock.xbUsable then
    s.modClock (fun c => { c with switch := some .xb, switchLost := some lost })
  else s.fatal 0x3B01 0xFF

/-- The boot ROM's handler moves to a crystal that runs, XA before XB, and writes no record; with neither, the boot fails
for want of a clock (R598, R88). -/
def State.romNmi (s : State) : State :=
  if s.clock.runXa then s.modClock (fun c => { c with switch := some .xa, switchLost := none })
  else if s.clock.runXb && s.clock.xbUsable then
    s.modClock (fun c => { c with switch := some .xb, switchLost := none })
  else (s.modBoot (fun b => { b with stage := .bootFailed })).fatal 0x3A10 0xFF

/-- NMI_HANDLER: the handler of the steward acts (R521), or the boot ROM's where no firmware runs yet (R598). -/
def execNmiHandler (s : State) : Res :=
  match s.clock.nmi with
  | none => .next s
  | some l =>
    let t := s.modClock (fun c => { c with nmi := none })
    .next (if s.fwRuns then t.stewardNmi l else if s.romRuns then t.romNmi else s)

/-! ## CLKOUT_CHANGE and CLKOUT_CHANGE_END (R526 to R528) -/

/-- CLKOUT_CHANGE: a write to CLKOUT_CTRL (R526). -/
def execClkoutChange (data : Word) (s : State) : Res := .next (if s.awake then s.clkoutWrite data else s)

/-- Step 2 of R526 can end: the output is off, or its source runs. -/
def State.clkoutEnds (s : State) : Bool :=
  s.clkoutLive && (!s.clock.clkNow.enable || !s.srcStopped s.clock.clkNow.src)

/-- CLKOUT_CHANGE_END: the change in progress ends, or the low hold of a source that runs again; the last held write starts as a new
change (R526 to R528). A change to a source that is stopped goes on until that source runs. -/
def execClkoutChangeEnd (s : State) : Res :=
  if (s.clock.changing || s.clock.clkWait) && s.clkoutEnds then
    let s' := s.modClock (fun k => { k with changing := false, clkHeld := none, clkWait := false })
    match s.clock.clkHeld with
    | some c => .next (s'.clkoutGo c)
    | none => .next s'
  else .next s

end Machine
end Sys2Proof
end

