-- ==== Sys2Proof/Machine/SelfTest.lean ====
section
/-! DEFINITION. The full self-test (19, R571 to R576): planning the groups, isolation, results, and the commands 0x4103 and
0x4104. The references count as unit 0xFF. -/
namespace Sys2Proof
namespace Machine

/-- The self-test changed. -/
def State.modTest (s : State) (f : TestSt → TestSt) : State := { s with test := f s.test }

/-! ## Power (R76, R574, R575) -/

/-- Power of an enabled line channel in a mode, in mW (R76). A channel that has not yet negotiated a mode counts as LR10
(log 25). -/
def modePower (mode : Nat) : Nat :=
  if mode = 1 then 120 else if mode = 2 then 250 else if mode = 3 then 380 else if mode = 4 then 520
  else if mode = 5 then 700 else 850

/-- Power of a line channel for the configuration in force, in mW (R76). -/
def State.linePower (s : State) (ch : Nat) : Nat :=
  let l := s.line ch
  if !s.domOn (domOfRoot ch) then 0
  else if !l.cfg.enable then 10
  else modePower (if l.cfg.neg then l.mode else l.cfg.mode)

/-- Power of a drop, a trunk and a lane group, in mW (R76). DESIGN CHOICE: R76 gives no figure for a trunk that is disabled while its
domain is on; it counts 0 W (log 25). -/
def State.edgePower (s : State) (r : Nat) : Nat :=
  if !s.domOn (domOfRoot r) then 0
  else if r < 128 then (if (s.drop (r - 96)).cfg.enable then 40 else 5)
  else if r < 132 then (if (s.trunk (r - 128)).cfg.enable then 1100 else 0)
  else if (s.host (r - 132)).cfg.enable then 8 * 220 + 150 else 40

/-- The device's power for the configuration in force, in mW: P_now (R76, R575). -/
def State.powerNow (s : State) : Nat :=
  ((List.range 96).map s.linePower).foldl (· + ·) 0 + ((List.range 40).map (fun k => s.edgePower (96 + k))).foldl (· + ·) 0 +
    24000 + 2000 + 350 + (if s.domOn 12 then 5500 else 0) + (if s.domOn 13 then 5500 else 0)

/-- The headroom of a self-test, in mW (R575). -/
def State.headroom (s : State) : Nat := Nat.min 25000 (145000 - s.powerNow)

/-- Power that a unit under test adds, in mW (R574). -/
def testPower (u : Nat) : Nat :=
  if u < 96 then 800 else if u < 128 then 20 else if u < 132 then 1500 else if u < 136 then 2400 else 10

/-- Test time of a unit in ticks (R574). -/
def testTime (u : Nat) : Nat :=
  if u < 96 then 400 else if u < 128 then 80 else if u < 132 then 800 else if u < 136 then 400 else 40

/-! ## Planning (R575) -/

/-- The units of a TARGET bit, in the order in which they are taken. -/
def targetUnits (b : Nat) : List Nat :=
  if b < 4 then (List.range 24).map (fun k => 24 * b + k) ++ (List.range 8).map (fun k => 96 + 8 * b + k)
  else if b < 12 then [124 + b] else [0xFF]

/-- The units of a TARGET. -/
def unitsOf (target : Nat) : List Nat := (bitsOf 13 target).flatMap targetUnits

/-- Groups from a list of units: each joins the present group while the group's added power stays within the headroom. -/
def formGroups (room : Nat) : List Nat → List Nat → Nat → List (List Nat)
  | [], cur, _ => if cur.isEmpty then [] else [cur]
  | u :: t, cur, p =>
    if cur.isEmpty then formGroups room t [u] (testPower u)
    else if p + testPower u ≤ room then formGroups room t (cur ++ [u]) (p + testPower u)
    else cur :: formGroups room t [u] (testPower u)

/-- The unit's domain is on; the references always are. -/
def State.testable (s : State) (u : Nat) : Bool := u == 0xFF || s.domOn (domOfRoot u)

/-- The groups of a test (R575). -/
def State.planGroups (s : State) (target : Nat) : List (List Nat) :=
  formGroups s.headroom ((unitsOf target).filter s.testable) [] 0

/-- The time of a group: its longest test. -/
def groupTime (l : List Nat) : Nat := (l.map testTime).foldl Nat.max 0

/-- A power-state change or a domain change is in progress. -/
def State.powerBusy (s : State) : Bool := s.power.entry.isSome || !s.power.jobs.isEmpty

/-- A self-test is in progress, or waits for its edge. -/
def State.testBusy (s : State) : Bool :=
  s.test.state == 1 || s.cfgq.any (fun c => match c with
    | .selftest _ _ => true
    | _ => false)

/-- SELFTEST_RUN. -/
def cmdSelftestRun (m : Msg) (s : State) : Reply :=
  let t := m.get 1 0 13
  let groups := s.planGroups t
  .unless (t == 0 || m.stray 1 0x1FFF) .badArg <|
  .unless (!s.life.state.open) .notPermitted <|
  .unless (s.testBusy || s.powerBusy) .busy <|
  .ok [w32 groups.length, w32 ((groups.map groupTime).foldl (· + ·) 0)]
    (s.accept (.selftest groups ((unitsOf t).filter (fun u => !s.testable u))))

def selftestRunCmd : Cmd := ⟨0x4103, [2], true⟩
/-- SELFTEST_RUN plans a full self-test that starts at the next edge (R571, R575). -/
def execSelftestRun (m : Msg) (s : State) : Res := .next (s.mailbox selftestRunCmd m cmdSelftestRun)

/-- The test starts: units whose domain is off are skipped; in BENCH every skim under way is discarded (R575, R576). -/
def State.applySelftest (s : State) (groups : List (List Nat)) (skipped : List Nat) : State :=
  let s := s.modTest (fun t =>
    { t with state := if groups.isEmpty then 2 else 1, groups := groups, total := groups.length, done := 0, active := []
             start := s.now + 1
             results := skipped.foldl (fun r u => tset r u ⟨3, 0, s.now + 1⟩) t.results })
  if s.life.state == .bench then s.skimDiscard else s

/-! ## Isolation and results (R572, R573) -/

/-- A unit is isolated: it goes silent, and an enabled one waits (R572). -/
def State.isolate (s : State) (u : Nat) : State :=
  if u < 96 then
    let s := s.modLine u (fun l => { l with isolated := true })
    let s := s.endTdr u
    if (s.line u).cfg.enable then s.lineDown u .waiting else s
  else if u < 128 then
    (s.modDrop (u - 96) (fun d => { d with isolated := true })).dropStart (u - 96) s.now
  else if u < 132 then
    (s.modTrunk (u - 128) (fun t => { t with isolated := true, kindle := none })).trunkStart (u - 128) s.now
  else if u < 136 then
    (s.modHost (u - 132) (fun g => { g with isolated := true })).hostStart (u - 132) s.now
  else s

/-- A unit's isolation ends: coefficient bank and trims are cleared, the unit is calibrated in full and trains (R572). -/
def State.rejoinUnit (s : State) (u : Nat) : State :=
  if u < 96 then
    let s := (s.modLine u (fun l =>
      { l with isolated := false, bank := LineBank.empty })).tapsInvalid u
    ((s.calibrate u).lineStart u s.now false).decideStarts
  else if u < 128 then
    ((s.modDrop (u - 96) (fun d => { d with isolated := false })).calibrate u).dropStart (u - 96) s.now
  else if u < 132 then
    ((s.modTrunk (u - 128) (fun t => { t with isolated := false })).calibrate u).trunkStart (u - 128) s.now
  else if u < 136 then
    ((s.modHost (u - 132) (fun g => { g with isolated := false, coefValid := false })).calibrate u).hostStart (u - 132) s.now
  else s

/-- SELFTEST_GROUP_START: the units of the next group are isolated together (R572, R575). -/
def execSelftestGroupStart (s : State) : Res :=
  match s.test.groups with
  | [] => .next s
  | g :: rest =>
    if s.live && s.test.state == 1 && s.test.active.isEmpty && decide (s.test.start ≤ s.now) then
      .next ((g.foldl State.isolate s).modTest (fun t => { t with groups := rest, active := g, start := s.now }))
    else .next s

/-- A unit's test ends, with a failed check or 0; the group ends with its last unit, and the next group follows: at the edge that
ends the last test, or after a check that failed within a tick at the edge after it (R573, R575). -/
def State.testEnd (s : State) (u check : Nat) : State :=
  let s := s.modTest (fun t =>
    { t with active := t.active.filter (fun x => x != u)
             results := tset t.results u ⟨if check = 0 then 1 else 2, check, s.now⟩ })
  let s := s.rejoinUnit u
  let s := if check = 0 then s else s.notice 0x2E03 u
  if s.test.active.isEmpty then
    s.modTest (fun t => { t with done := t.done + 1, start := s.now + b2n (check != 0), state := if t.groups.isEmpty then 2 else 1 })
  else s

/-- The check applies to the unit: REFERENCE to the references only (R573); check 8 comes with a channel fault. -/
def checkFits (u check : Nat) : Bool :=
  if u = 0xFF then check == 7 else decide (1 ≤ check) && decide (check ≤ 6)

/-- SELFTEST_UNIT_END: a check fails, or the unit's test time is over without a failure (R573, R574). -/
def execSelftestUnitEnd (unit : Nat) (check : Nat) (s : State) : Res :=
  if s.live && s.test.state == 1 && s.test.active.contains unit &&
      (if check = 0 then decide (s.test.start + testTime unit ≤ s.now) else checkFits unit check) then
    .next (s.testEnd unit check)
  else .next s

/-- A channel-level fault on a unit under test ends its test with check 8 (R573). -/
def State.testFault (s : State) (u : Nat) : State := if s.test.active.contains u then s.testEnd u 8 else s

/-! ## SELFTEST_RESULT (0x4104) -/

/-- SELFTEST_RESULT. -/
def cmdSelftestResult (m : Msg) (s : State) : Reply :=
  let u := m.get 1 0 8
  let r := tget ⟨0, 0, 0⟩ s.test.results u
  .unless ((decide (135 < u) && u != 0xFF) || m.stray 1 0xFF) .badArg <|
  .ok [packW [(8, s.test.total), (8, s.test.done), (14, 0), (2, s.test.state)],
    packW [(2, r.result), (4, r.check)], w32 r.endTick] s

def selftestResultCmd : Cmd := ⟨0x4104, [2], false⟩
/-- SELFTEST_RESULT returns a unit's result (R573). -/
def execSelftestResult (m : Msg) (s : State) : Res := .next (s.mailbox selftestResultCmd m cmdSelftestResult)

end Machine
end Sys2Proof
end

