-- ==== Sys2Proof/Machine/Skim.lean ====
section
/-! DEFINITION. The skim test (19, R577 to R579): slices, results, and the commands 0x4105 and 0x4106. -/
namespace Sys2Proof
namespace Machine

/-- The skim test changed. -/
def State.modSkim (s : State) (f : SkimSt → SkimSt) : State := { s with skim := f s.skim }

/-- Life-cycle states in which the skim test runs (R577, R580). -/
def Life.skims (l : Life) : Bool := l == .bench || l == .field

/-- The skim test works: within the work window (R24), enabled, permitted, and no full self-test runs (R576, R577). -/
def State.skimActive (s : State) : Bool := s.working && s.skim.enable && s.life.state.skims && s.test.state != 1

/-- A unit's skim is due: its domain is on and its due edge has come (R578). -/
def State.skimDue (s : State) (u : Nat) : Bool :=
  decide (u < 136) && s.domOn (domOfRoot u) && decide ((s.skimUnit u).due ≤ s.now)

/-- The units under test. -/
def State.underSkim (s : State) : List Nat := (List.range 136).filter (fun u => (s.skimUnit u).slices.isSome)

/-- The engine takes the unit: it is under test, or among the lowest due roots for which there is room (R578). -/
def State.skimTakes (s : State) (u : Nat) : Bool :=
  let under := s.underSkim
  under.contains u ||
    (((List.range 136).filter (fun k => s.skimDue k && !under.contains k)).take (s.skim.count - under.length)).contains u

/-- A unit's skim ends with a result: doorbell 17 and its record, its counter, and a notice for FAIL (R579). -/
def State.skimEnd (s : State) (u result check : Nat) : State :=
  let s := s.modSkimUnit u (fun k =>
    { k with slices := none, ran := none, bad := 0, result := result, check := check, tick := s.now
             due := k.next, next := k.next + 4000 * s.skim.period
             tkPasses := k.tkPasses + (if result = 1 then 1 else 0)
             tkFails := k.tkFails + (if result = 2 then 1 else 0)
             tkOverdues := k.tkOverdues + (if result = 3 then 1 else 0) })
  let s := s.event 17 u (pack [(2, result), (4, check)])
  if result = 2 then s.notice 0x2E04 u else s

/-- The checks that a skim applies (R578). -/
def skimCheckOk (c : Nat) : Bool := c == 0 || c == 1 || c == 3 || c == 5 || c == 6

/-- The failed check of a skim after one more slice: the first that failed. -/
def SkimUnit.worst (k : SkimUnit) (check : Nat) : Nat := if k.bad = 0 then check else k.bad

/-- SKIM_SLICE: a slice of a due unit in a gap tick without a calibration slice, within PERIOD of its due edge; `check` is the
check that failed in it, or 0. A slice cut off is counted and repeated; one that is not cut off counts at the edge (R566, R577 to
R579). -/
def execSkimSlice (unit : Nat) (aborted : Bool) (check : Nat) (s : State) : Res :=
  let k := s.skimUnit unit
  let done := k.slices.getD 0
  if s.skimActive && s.skimDue unit && s.inGap unit && !s.cal.served.contains unit && k.ran.isNone && skimCheckOk check &&
      s.skimTakes unit && decide (s.now < k.next) then
    if aborted then
      .next (s.modSkimUnit unit (fun k => { k with slices := some done, tkAbandoned := k.tkAbandoned + 1 }))
    else .next (s.modSkimUnit unit (fun k => { k with slices := some done, ran := some check }))
  else .next s

/-- At the edge a unit's slice of the tick before it counts, and the last one ends its skim: FAIL with the first check that failed,
or PASS (R578, R579). -/
def State.skimEdgeUnit (s : State) (u : Nat) : State :=
  let k := s.skimUnit u
  match k.ran with
  | none => s
  | some c =>
    if k.slices.getD 0 + 1 < skimLen u then
      s.modSkimUnit u (fun k => { k with ran := none, slices := k.slices.map (· + 1), bad := k.worst c })
    else s.skimEnd u (if k.worst c = 0 then 1 else 2) (k.worst c)

/-- At the edge the slices of the tick before it count. -/
def State.skimEdge (s : State) : State := s.skim.units.foldl (fun s e => s.skimEdgeUnit e.1) s

/-- SKIM_OVERDUE: a skim is not completed within PERIOD of its due edge (R579). -/
def execSkimOverdue (unit : Nat) (s : State) : Res :=
  if s.skimActive && s.skimDue unit && decide ((s.skimUnit unit).next ≤ s.now) then .next (s.skimEnd unit 3 0)
  else .next s

/-! ## SKIM_CONFIG, SKIM_STATUS (0x4105, 0x4106) -/

/-- SKIM_CONFIG. -/
def cmdSkimConfig (m : Msg) (s : State) : Reply :=
  let period := m.get 1 16 16
  let units := m.get 1 0 3
  .unless (period == 0 || units == 0 || m.stray 1 0xFFFF8007) .badArg <|
  .unless (decide (4 < units)) .budget <|
  .unless (m.flag 1 15 && !s.life.state.skims) .notPermitted <|
  .ok [] (s.accept (.skim period (m.flag 1 15) units))

def skimConfigCmd : Cmd := ⟨0x4105, [2], true⟩
/-- SKIM_CONFIG (R578). -/
def execSkimConfig (m : Msg) (s : State) : Res := .next (s.mailbox skimConfigCmd m cmdSkimConfig)

/-- Every unit is due from an edge on. -/
def skimFrom (t : Table SkimUnit) (edge period : Nat) (us : List Nat) : Table SkimUnit :=
  us.foldl (fun t u => tmod SkimUnit.reset t u (fun k => { k with due := edge, next := edge + 4000 * period })) t

/-- SKIM_CONFIG takes effect at the edge: when the test is enabled every unit is due (log 26); a new PERIOD holds from each
unit's next due edge; disabling discards what is under way. -/
def State.applySkim (s : State) (period : Nat) (enable : Bool) (count : Nat) : State :=
  let e := s.now + 1
  let was := s.skim.enable
  let s := s.modSkim (fun x =>
    { x with
      period := period, enable := enable, count := count
      units := if enable && !was then skimFrom x.units e period (List.range 136)
        else tmap (fun _ k => if k.due ≤ e then k else { k with next := k.due + 4000 * period }) x.units })
  if enable then s else s.skimDiscard

/-- The counters of a unit's skim at commit step 6 (R219, R221). -/
def SkimUnit.snapshot (k : SkimUnit) : SkimUnit :=
  let f := fun (x y : Nat) => sat32 ((if bit k.clr 0 then 0 else x) + y)
  { k with
    passes := f k.passes k.tkPasses, fails := f k.fails k.tkFails, overdues := f k.overdues k.tkOverdues
    abandoned := f k.abandoned k.tkAbandoned, tkPasses := 0, tkFails := 0, tkOverdues := 0, tkAbandoned := 0, clr := 0 }

/-- SKIM_STATUS. -/
def cmdSkimStatus (m : Msg) (s : State) : Reply :=
  let u := m.get 1 0 8
  let k := s.skimUnit u
  .unless (decide (135 < u) || m.stray 1 0x1FF) .badArg <|
  .ok [packW [(2, k.result), (4, k.check)], w32 k.tick, w32 k.passes, w32 k.fails, w32 k.overdues, w32 k.abandoned]
    (if m.flag 1 8 then s.modSkimUnit u (fun k => { k with clr := 1 }) else s)

def skimStatusCmd : Cmd := ⟨0x4106, [2], false⟩
/-- SKIM_STATUS (R579). -/
def execSkimStatus (m : Msg) (s : State) : Res := .next (s.mailbox skimStatusCmd m cmdSkimStatus)

end Machine
end Sys2Proof
end

