-- ==== Sys2Proof/Machine/Keep.lean ====
section
/-! DEFINITION. The keep-store and the life-cycle (19, R580 to R593; R104): word writes, wear, the fuses, and the commands
0x4200 to 0x4203 and 0x0102. -/
namespace Sys2Proof
namespace Machine

/-! ## KEEP_WRITE, KEEP_STATUS (0x4200, 0x4201) -/

/-- KEEP_WRITE. -/
def cmdKeepWrite (m : Msg) (s : State) : Reply :=
  let count := m.get 1 8 4
  let index := m.get 1 0 8
  let ws := (List.range count).map (fun k => (index + k, w32 (m.word (k + 2))))
  .unless (count == 0 || decide (14 < count) || decide (256 < index + count) || m.len != count + 2 || m.stray 1 0xFFF) .badArg <|
  .unless (s.keepWorn ws) .endurance <|
  .unless s.keepBusy .busy <|
  .later (s.keepStart ws 0x4200 0 (s.replyTo m))

def keepWriteCmd : Cmd := ⟨0x4200, [3, 4, 5, 6, 7, 8, 9, 10, 11, 12, 13, 14, 15, 16], true⟩
/-- KEEP_WRITE writes user words; it is answered when the last is written (R586, R589). -/
def execKeepWrite (m : Msg) (s : State) : Res := .next (s.mailbox keepWriteCmd m cmdKeepWrite)

/-- Words of the store whose wear counter has reached a number. -/
def State.wornAt (s : State) (n : Nat) : Nat := (s.keep.wear.filter (fun e => decide (n ≤ e.2))).length

/-- KEEP_STATUS. -/
def cmdKeepStatus (m : Msg) (s : State) : Reply :=
  let count := m.get 1 12 4
  let index := m.get 1 0 9
  .unless (count == 0 || decide (14 < count) || decide (512 < index + count) || m.stray 1 0xF1FF) .badArg <|
  .ok (packW [(16, s.wornAt 100000), (16, s.wornAt 90000)] :: (List.range count).map (fun k => w32 (s.keepWear (index + k)))) s

def keepStatusCmd : Cmd := ⟨0x4201, [2], false⟩
/-- KEEP_STATUS returns wear counters (R591). -/
def execKeepStatus (m : Msg) (s : State) : Res := .next (s.mailbox keepStatusCmd m cmdKeepStatus)

/-! ## Fuses (R104, R580 to R584) -/

/-- A fuse pair counts as blown when either bit is (R584). -/
def fused (b : BitVec 2) : Bool := b != 0

/-- The state that the fuses hold: the furthest that is reached (R584). -/
def Fuses.life (f : Fuses) : Life :=
  if fused f.ret then .ret else if fused f.field then .field else if fused f.bench then .bench
  else if fused f.maker then .maker else .blank

/-- The code of a life-cycle state (R115). -/
def Life.num : Life → Nat
  | .blank => 0 | .maker => 1 | .bench => 2 | .field => 3 | .ret => 4

/-- The fuses changed. -/
def State.modFuses (s : State) (f : Fuses → Fuses) : State := { s with fuses := f s.fuses }

/-- Life-cycle command state changed. -/
def State.modLife (s : State) (f : LifeSt → LifeSt) : State := { s with life := f s.life }

/-- LIFECYCLE is read from the fuses before reset release; the staged token is cleared (R115, R584). -/
def State.readFuses (s : State) : State :=
  { s with life := ⟨s.fuses.life, fused s.fuses.testSeal, s.fuses.rollback, [], 0, false⟩ }

/-- The two fuse bits of a state are blown, unless the blow fails (R584; log 8). -/
def State.blowState (s : State) (target : Nat) : State :=
  if Config.fuseBlowFails (8 * s.now + target) then s
  else (s.modFuses (fun f =>
    { f with bench := if target = 2 then 3 else f.bench, field := if target = 3 then 3 else f.field
             ret := if target = 4 then 3 else f.ret })).modLife (fun l => { l with advanced := true })

/-- The two TEST_SEAL fuse bits are blown, unless the blow fails (R582, R584; log 8). -/
def State.blowSeal (s : State) : State :=
  if Config.fuseBlowFails (8 * s.now + 5) then s else s.modFuses (fun f => { f with testSeal := 3 })

/-- RET0 of LIFECYCLE_ADVANCE: the state and the seal as the fuses read back. -/
def Fuses.word (f : Fuses) : Word := packW [(3, f.life.num), (5, 0), (1, b2n (fused f.testSeal))]

/-! ## The end of each word write (R589 to R591, R593) -/

/-- What a keep command of the given opcode does when its last word is kept (R94, R317, R436, R593). -/
def State.keepDone (s : State) (j : KeepJob) : State :=
  let wear := (j.all.map s.keepWear).foldl Nat.max 0
  let s := s.modKeep (fun k => { k with job := none })
  if j.op = 0x1212 then (s.accept .bypass).ackLater j.reply .ok [s.keepWord 457]
  else if j.op = 0x3000 then (s.accept .identity).ackLater j.reply .ok [w32 wear]
  else if j.op = 0x4102 then s.ackLater j.reply .ok [w32 j.all.length, w32 wear]
  else if j.op = 0x4203 then s.ackLater j.reply .ok [s.fuses.word, w32 (j.extra / 16)]
  else s.ackLater j.reply .ok [w32 wear]

/-- The fuses that a life-cycle command blows before the log word that is next (LIFECYCLE_ADVANCE); none where the
read-back does not show them. -/
def State.keepFuses (s : State) (j : KeepJob) : Option State :=
  match j.words with
  | [] => some s
  | (w, _) :: _ =>
    if j.op != 0x4203 then some s
    else if w = 461 then
      let s := s.blowSeal
      if fused s.fuses.testSeal then some s else none
    else if 458 ≤ w ∧ w ≤ 460 then
      let s := s.blowState (w - 456)
      if s.fuses.life.num = w - 456 then some s else none
    else some s

/-- A keep-store command goes on to its next word, or ends. -/
def State.keepNext (s : State) (j : KeepJob) : State :=
  if j.words.isEmpty then s.keepDone j
  else match s.keepFuses j with
    | some s => s.modKeep (fun k => { k with job := some j })
    | none => (s.modKeep (fun k => { k with job := none })).ackLater j.reply .internal []

/-- The word being written is kept, and the command goes on. -/
def State.keepStep (s : State) : State :=
  match s.keep.job with
  | none => s
  | some j =>
    match j.words with
    | [] => s.keepDone j
    | (w, v) :: rest => (s.keepPut w v).keepNext { j with words := rest }

/-- KEEP_WORD_COMPLETE: the word being written is kept (R589 to R591). -/
def execKeepWordComplete (s : State) : Res := .next s.keepStep

/-! ## LIFECYCLE_TOKEN_LOAD (0x4202) -/

/-- LIFECYCLE_TOKEN_LOAD. -/
def cmdTokenLoad (m : Msg) (s : State) : Reply :=
  let off := m.get 1 8 5
  let count := m.get 1 0 4
  .unless (count == 0 || decide (14 < count) || decide (32 < off + count) || m.len != count + 2 || m.stray 1 0x1F0F) .badArg <|
  let s := s.modLife (fun l =>
    { l with token := (List.range count).foldl (fun t k => tset t (off + k) (w32 (m.word (k + 2)))) l.token
             loaded := (List.range count).foldl (fun w k => w ||| w32 (2 ^ (off + k))) l.loaded })
  .ok [s.life.loaded] s

def lifecycleTokenLoadCmd : Cmd := ⟨0x4202, [3, 4, 5, 6, 7, 8, 9, 10, 11, 12, 13, 14, 15, 16], true⟩
/-- LIFECYCLE_TOKEN_LOAD stages words of a RETURN token (R583). -/
def execLifecycleTokenLoad (m : Msg) (s : State) : Res := .next (s.mailbox lifecycleTokenLoadCmd m cmdTokenLoad)

/-! ## LIFECYCLE_ADVANCE (0x4203) -/

/-- Staged token words `a` to `a + 15` as one big-endian number (R583). -/
def LifeSt.tokenPart (l : LifeSt) (a : Nat) : Nat :=
  (List.range 16).foldl (fun n k => n * 2 ^ 32 + (tget 0 l.token (a + k)).toNat) 0

/-- The staged token is accepted (R583). -/
def State.tokenOk (s : State) : Bool :=
  let key := s.life.tokenPart 0
  let msg : List Byte := [0x4B, 0x59, 0x52, 0x54] ++ beBytes 8 s.fuses.serial
  s.life.loaded == 0xFFFFFFFF &&
    BitVec.ofNat 256 (ofBe (sha256 (beBytes 64 key))) == s.fuses.rootHash &&
    Config.ecdsaVerify (BitVec.ofNat 512 key) (BitVec.ofNat 256 (ofBe (sha256 msg))) (BitVec.ofNat 512 (s.life.tokenPart 16))

/-- The log word of an advance: bits [47:16] of the tick counter (R587). -/
def State.logWord (s : State) : Word := w32 (s.now / 2 ^ 16)

/-- The words that an advance writes, in their order (R585, LIFECYCLE_ADVANCE). -/
def State.advanceWords (s : State) (target : Nat) (doSeal : Bool) : List (Nat × Word) :=
  (if target = 4 then (448, 0) :: (List.range 8).map (fun i => (449 + i, 0)) else []) ++
  (if target = 0 then [] else [(456 + target, s.logWord)]) ++
  (if doSeal then [(461, s.logWord)] else [])

/-- LIFECYCLE_ADVANCE. -/
def cmdLifecycleAdvance (m : Msg) (s : State) : Reply :=
  let target := m.get 1 0 3
  let sealed := fused s.fuses.testSeal
  let doSeal := m.flag 1 8
  let ws := s.advanceWords target (doSeal && !sealed)
  let next := s.modLife (fun l => { l with token := [], loaded := 0 })
  .unless (m.get 1 16 16 != 0xC3A5 || (target == 0 && !doSeal) ||
    (target != 0 && (target < 2 || 4 < target || target != s.life.state.num + 1)) || m.stray 1 0xFFFF0107) .badArg <|
  .unless (target == 4 && !s.tokenOk) .authFail <|
  .unless (target != 0 && s.life.advanced) .wrongState <|
  .unless (s.keepWorn ws) .endurance <|
  .unless s.keepBusy .busy <|
  if ws.isEmpty then .ok [s.fuses.word, s.keepWord 461] next
  else .later (next.keepNext ⟨ws, ws.map Prod.fst, s.replyTo m, 0x4203, 16 * s.logWord.toNat⟩)

def lifecycleAdvanceCmd : Cmd := ⟨0x4203, [2], true⟩
/-- LIFECYCLE_ADVANCE blows the fuses of the next state or of TEST_SEAL and writes the log words (R582 to R585). -/
def execLifecycleAdvance (m : Msg) (s : State) : Res := .next (s.mailbox lifecycleAdvanceCmd m cmdLifecycleAdvance)

/-! ## FUSE_INSTRUCTION and ROLLBACK_ADVANCE -/

/-- The JTAG port works: life-cycle states other than FIELD, with TEST_SEAL not blown (R580, R581). -/
def State.jtagWorks (s : State) : Bool := s.life.state != .field && !s.life.sealed

/-- FUSE_INSTRUCTION: the JTAG port takes a BLANK device to MAKER and fuses the root key hash (R582). -/
def execFuseInstruction (hash : BitVec 256) (s : State) : Res :=
  if s.awake && s.jtagWorks && s.life.state == .blank && s.fuses.life == .blank then
    .next (s.modFuses (fun f => { f with maker := 3, rootHash := hash }))
  else .next s

/-- The number of blown anti-rollback bits that read back after an attempt to reach `count`: all of them, or, where the blow
fails, some number below it that is not below the present one (R104; log 8). -/
def State.rollbackGets (s : State) (count : Nat) : Nat :=
  if s.fuses.rollback < count ∧ Config.fuseBlowFails (8 * s.now + 6) = true then
    s.fuses.rollback + Config.fuseBlown (8 * s.now + 6) % (count - s.fuses.rollback)
  else count

/-- ROLLBACK_ADVANCE. -/
def cmdRollbackAdvance (m : Msg) (s : State) : Reply :=
  let count := m.get 1 0 7
  .unless (count == 0 || decide (64 < count) || decide (count < s.fuses.rollback) || m.stray 1 0x7F) .badArg <|
  .unless (decide (s.boot.runSv < count)) .conflict <|
  .unless (!(s.life.state == .bench || s.life.state == .field)) .wrongState <|
  let got := s.rollbackGets count
  let t := s.modFuses (fun f => { f with rollback := got })
  if got = count then .ok [w32 count] t else .part .internal [w32 got] t

def rollbackAdvanceCmd : Cmd := ⟨0x0102, [2], true⟩
/-- ROLLBACK_ADVANCE blows anti-rollback fuses (R104). -/
def execRollbackAdvance (m : Msg) (s : State) : Res := .next (s.mailbox rollbackAdvanceCmd m cmdRollbackAdvance)

end Machine
end Sys2Proof
end

