-- ==== Sys2Proof/Machine/Power.lean ====
section
/-! DEFINITION. Power states, domains and waking (16): the power commands, the steps of an entry, wakes that only the
hearth sees. The resume from BANKED and the reset of EMBER_WAKE stand with the configuration replay and the resets. -/
namespace Sys2Proof
namespace Machine

/-! ## POWER_DOMAIN_SET (0x0200) -/

/-- Fabric links of the device that are now in UP. -/
def State.linksUp (s : State) : List Nat := (List.range 132).filter (fun r => s.linkUp r)

/-- A trunk domain holds every fabric link now in UP, and the fabric holds another device (POWER_DOMAIN_SET). -/
def State.lastLinks (s : State) (d : Nat) : Bool :=
  (d == 8 || d == 9) && decide (1 < s.devices.length) && !s.linksUp.isEmpty &&
    s.linksUp.all (fun r => domOfRoot r == d)

/-- A unit of the domain is isolated for self-test. -/
def State.domIsolated (s : State) (d : Nat) : Bool :=
  (domRoots d).any s.isolatedUnit

/-- POWER_DOMAIN_SET. -/
def cmdPowerDomainSet (m : Msg) (s : State) : Reply :=
  let d := m.get 1 0 4
  let on := m.flag 1 8
  .unless (m.stray 1 0x10F || d < 4 || 11 < d) .badArg <|
  .unless (s.power.jobs.any (fun j => j.dom == d) || s.power.entry.isSome) .busy <|
  .unless (s.domIsolated d) .wrongState <|
  .unless (!on && s.lastLinks d) .conflict <|
  if s.domOn d = on then .ok (lohi s.nextEdge) s
  else .later (s.modPower (fun p => { p with jobs := p.jobs ++ [⟨d, on, s.nextEdge, s.replyTo m⟩] }))

def powerDomainSetCmd : Cmd := ⟨0x0200, [2], true⟩
/-- POWER_DOMAIN_SET: a unit domain closes from the next edge, or is switched on (R482 to R484). -/
def execPowerDomainSet (m : Msg) (s : State) : Res := .next (s.mailbox powerDomainSetCmd m cmdPowerDomainSet)

/-- DOMAIN_POWERED: a domain that is being switched on is powered (R484, R568). -/
def execDomainPowered (dom : Nat) (s : State) : Res :=
  match s.power.jobs.find? (fun j => j.dom == dom && j.on) with
  | none => .next s
  | some j =>
    if s.live && decide (j.start ≤ s.now) then
      let s := s.modPower (fun p => { p with jobs := p.jobs.filter (fun k => k.dom != dom) })
      .next ((s.domainOn dom).ackLater j.reply .ok (lohi s.now))
    else .next s

/-! ## POWER_ENTER (0x0201) -/

/-- A skim test is under way. -/
def State.skimming (s : State) : Bool := s.skim.units.any (fun e => e.2.slices.isSome)

/-- A fabric PREPARE awaits its COMMIT. -/
def State.preparing (s : State) : Bool :=
  match s.fabric.prep with
  | some p => !p.committed
  | none => false

/-- What POWER_ENTER answers BUSY for. -/
def State.enterBusy (s : State) : Bool :=
  s.keepBusy || s.boot.replaying || s.preparing || s.test.state == 1 || s.skimming || !s.power.jobs.isEmpty ||
    s.power.entry.isSome

/-- POWER_ENTER. -/
def cmdPowerEnter (m : Msg) (s : State) : Reply :=
  let st := m.get 1 16 2
  let ember := st == 2
  let hub := ofLohi (w32 (m.word 2)) (w32 (m.word 3))
  let zero := m.get 1 0 12 == 0 && m.word 2 == 0 && m.word 3 == 0
  .unless (st == 0 || st == 3 || m.stray 1 0x80030F0F || (ember && !zero)) .badArg <|
  .unless (!m.flag 1 31 && s.cellar.unacked && (ember || banksLost hub 60 63)) .conflict <|
  .unless (ember && decide (3000 < s.iWorst s.wakeSet)) .conflict <|
  .unless (!s.anyWake ember (m.get 1 8 4)) .conflict <|
  .unless s.enterBusy .busy <|
  .unless (!s.boot.ready) .wrongState <|
  .ok (lohi s.nextEdge) (s.modPower (fun p =>
    { p with entry := some ⟨ember, hub, m.get 1 0 4, m.get 1 8 4, s.nextEdge - 1, 0, 0, none, none, 0⟩
             railsOk := p.railsOk && !ember }))

def powerEnterCmd : Cmd := ⟨0x0201, [4], true⟩
/-- POWER_ENTER: an entry into BANKED or EMBER is accepted (R433, R487, R492, R495). -/
def execPowerEnter (m : Msg) (s : State) : Res := .next (s.mailbox powerEnterCmd m cmdPowerEnter)

/-- POWER_ENTRY_STEP: domains whose closing has reached A3 are off; the next step of an entry runs once its tick has come
(R482, R495 to R498). -/
def execPowerEntryStep (s : State) : Res :=
  if s.time.seq && !s.boot.halted && (s.boot.power == .run || s.boot.power == .boot) then
    let s := s.power.jobs.foldl State.closeDue s
    match s.power.entry with
    | none => .next s
    | some e => .next (if e.due ≤ s.now then s.entryStep e else s)
  else .next s

/-! ## WAKE_CONFIG, POWER_STATUS (0x0202, 0x0203) -/

/-- The settings that a WAKE_CONFIG asks for. -/
def wakeOf (m : Msg) : WakeCfg := ⟨m.get 1 28 4, m.get 1 24 4, m.get 1 20 4, m.flag 1 19, m.flag 1 18, m.word 2⟩

/-- WAKE_CONFIG. -/
def cmdWakeConfig (m : Msg) (s : State) : Reply :=
  .unless (m.stray 1 0xFFFC0000 || 2592000 < m.word 2) .badArg <|
  .ok [s.currents (wakeOf m)] (s.accept (.wake (wakeOf m)))

def wakeConfigCmd : Cmd := ⟨0x0202, [3], true⟩
/-- WAKE_CONFIG (R492, R501). -/
def execWakeConfig (m : Msg) (s : State) : Res := .next (s.mailbox wakeConfigCmd m cmdWakeConfig)

/-- RET0 of POWER_STATUS. -/
def PowerSt.word0 (p : PowerSt) : Word :=
  packW [(8, p.cause), (4, 0), (1, b2n p.latched), (1, b2n p.aborted), (2, p.lastState), (16, p.on)]

/-- POWER_STATUS. -/
def cmdPowerStatus (m : Msg) (s : State) : Reply :=
  let p := s.power
  .unless (m.stray 1 1) .badArg <|
  .ok (p.word0 :: w32 p.source :: lohi p.sleep ++ [s.currents p.wake, w32 p.lost])
    (if m.flag 1 0 then s.modPower (fun p => { p with cause := 0, lost := 0 }) else s)

def powerStatusCmd : Cmd := ⟨0x0203, [2], false⟩
/-- POWER_STATUS (R502). -/
def execPowerStatus (m : Msg) (s : State) : Res := .next (s.mailbox powerStatusCmd m cmdPowerStatus)

/-! ## Wakes -/

/-- EMBER_RAIL_FAIL: the rails are not up within 25 ms of an EMBER wake; EMBER resumes (R504). The next wake is one of the state, not
latched in an entry (R502). -/
def execEmberRailFail (s : State) : Res :=
  if s.boot.power == .ember && s.power.waking then
    .next ((s.modPins (fun p => { p with pwrenCore := .low, pwrenAna := .low, pwrenIo := .low })).modPower (fun p =>
      { p with waking := false, railsOk := false, railFail := true, fired := none, cause := 0x08, latched := false }))
  else .next s

/-- SIO_TIMER_WAKE: TIMER seconds have passed since the state was reached (R501). -/
def execSioTimerWake (s : State) : Res :=
  if (s.boot.power == .banked || s.boot.power == .ember) && s.power.wake.timer != 0 then
    .next (s.fireWake ⟨0x07, 0⟩ false)
  else .next s

/-- An entry is under way: its edge n + 1 has come (R495, R496). -/
def State.entering (s : State) : Bool :=
  match s.power.entry with
  | some e => decide (e.start < s.now)
  | none => false

/-- HOST_LANE_WAKE_DETECT: the partner's forwarded clock on an armed lane group, in RUN only while its domain is off; from edge n + 1 of
an entry it is latched (R496, R501). -/
def execHostLaneWakeDetect (g : Nat) (s : State) : Res :=
  let d := domOfRoot (132 + g)
  let armed := match s.boot.power with
    | .run => !s.domOn d || s.entering
    | .banked => true
    | .boot | .ember | .damped | .cold => false
  if decide (g < 4) && bit s.power.wake.host g && armed then .next (s.fireWake ⟨0x03, 132 + g⟩ false) else .next s

end Machine
end Sys2Proof
end

