-- ==== Sys2Proof/Machine/Reset.lean ====
section
/-! DEFINITION. Resets and the boot ROM (03, R80 to R93; R54 to R56, R504). -/
namespace Sys2Proof
namespace Machine

/-! ## Resets (R82 to R84) -/

/-- The place of a cause in the order of R83. -/
def Cause.rank : Cause → Nat
  | .powerOn => 0 | .brownout => 1 | .rail => 2 | .pin => 3 | .emberWake => 4 | .command => 5

/-- The code of a cause (R82). -/
def Cause.num : Cause → Nat
  | .powerOn => 1 | .pin => 2 | .rail => 3 | .brownout => 4 | .emberWake => 5 | .command => 6

/-- A cold reset clears the hearth (R82). -/
def Cause.cold : Cause → Bool
  | .powerOn | .brownout => true
  | .rail | .pin | .emberWake | .command => false

/-- RESET_CAUSE of a reset: within a reset that is still held the first cause in the order of R83 stands (R83, R84). -/
def State.resetCause (s : State) (cause : Cause) (rail : Nat) : ResetCause :=
  let old := s.boot.cause
  let merged := s.boot.held
  let keepOld := merged && decide (old.cause.rank ≤ cause.rank)
  let cold := cause.cold || (merged && old.cause.cold)
  { cause := if keepOld then old.cause else cause
    rail := if keepOld then old.rail else rail
    wasDamped := if merged then old.wasDamped else s.boot.power == .damped
    recordKept := !cold
    warmCount := if cold then 0 else if merged then old.warmCount else satTo 255 (old.warmCount + 1) }

/-- Thresholds after reset, by grade (R550). -/
def defaultThermal (gradeX : Bool) : ThermalSt := if gradeX then { State.reset.thermal with warn := 115, damp := 127 } else State.reset.thermal

/-- What a warm reset keeps of the power state in the hearth: the wake cause and the trace tail (R82). -/
def PowerSt.warm (p : PowerSt) : PowerSt :=
  { PowerSt.reset with
    lastState := p.lastState, aborted := p.aborted, latched := p.latched, cause := p.cause, source := p.source
    sleep := p.sleep, tail := p.tail }

/-- A PWREN output when a reset begins: a power-on reset starts its 50 us, another reset in that hold leaves them running, and
every other reset has it high (R51, R54). -/
def Pwren.reset (p : Pwren) (held : Bool) (cause : Cause) : Pwren :=
  if cause = .powerOn then .rising else if held && p == .rising then .rising else .high

/-- A reset begins, or is held on (R54, R82, R83): everything takes its reset value but the fuses, the keep-store, what a
warm reset keeps, and the queue of commands. LIFECYCLE is read from the fuses, the keep cache and the bypass policy from
the keep-store (R115, R317, R590). -/
def State.resetTo (s : State) (cause : Cause) (rail : Nat) : State :=
  let rc := s.resetCause cause rail
  let k := s.keepCutShort.keep
  ({ State.reset with
      pending := s.pending
      fuses := s.fuses
      fabric := FabricSt.withId (tget 0 k.words 448).toNat
      keep := ⟨k.words, k.wear, k.words, none⟩
      thermal := defaultThermal s.fuses.gradeX
      power := if rc.recordKept then s.power.warm else PowerSt.reset
      faults := if rc.recordKept then { State.reset.faults with record := s.faults.record } else State.reset.faults
      pins := { State.reset.pins with
        pwrenCore := s.pins.pwrenCore.reset s.boot.held cause
        pwrenAna := s.pins.pwrenAna.reset s.boot.held cause
        pwrenIo := s.pins.pwrenIo.reset s.boot.held cause }
      boot := { State.reset.boot with cause := rc, policy := fld (tget 0 k.words 457).toNat 0 5 } } : State).readFuses

/-- POWER_ON_RESET: VDDE18 passes its power-on threshold rising (R82). -/
def execPowerOnReset (s : State) : Res := .next (s.resetTo .powerOn 0)

/-- What a word that was being written holds after VDDE18 was lost: the old value or the new one (R589). -/
def State.keepTorn (s : State) : State :=
  match s.keep.job with
  | none => s
  | some j =>
    match j.words with
    | [] => s
    | (w, _) :: _ =>
      if Config.keepCut (s.now + w) then s.keepCutShort
      else s.modKeep (fun k => { k with wear := tset k.wear w (satTo (2 ^ 17 - 1) (s.keepWear w + 1)), job := none })

/-- VDDE18_COLLAPSE: the whole device is reset and COLD; every ball is high-impedance or pulled low (R56, R57), and no clock
runs, SIO included (R508). -/
def execVdde18Collapse (s : State) : Res :=
  let s := s.keepTorn.resetTo .powerOn 0
  .next (((s.modBoot (fun b => { b with power := .cold, cause := State.reset.boot.cause })).modPins (fun p =>
    { p with pwrenCore := .low, pwrenAna := .low, pwrenIo := .low, ppsOut := .hiZ, tdo := .hiZ, bfCsN := .hiZ })).modClock (fun c =>
      { c with runSio := false }))

/-- PIN_RESET (R64). -/
def execPinReset (s : State) : Res := if s.boot.power == .cold then .next s else .next (s.resetTo .pin 0)

/-- RAIL_RESET: bit c of `rails` is 1 for each rail of code c that has stayed below its threshold (R55, R84). A rail that
fails while a reset is held restarts its hold (R83). -/
def execRailReset (rails : Nat) (s : State) : Res :=
  let on := match s.boot.power with
    | .run | .banked | .damped => s.power.railsOk
    | .boot => s.boot.held
    | .ember | .cold => false
  match [1, 2, 3, 4, 5].find? (bit rails) with
  | some c => if on then .next (s.resetTo .rail c) else .next s
  | none => .next s

/-- HEARTH_BROWNOUT: in EMBER, where the regulator is in low-power mode (R82, R491), or while a reset is held, whose hold it
restarts (R83). -/
def execHearthBrownout (s : State) : Res :=
  if s.boot.power == .ember || (s.boot.held && s.boot.power != .cold) then .next (s.resetTo .brownout 0) else .next s

/-- EMBER_WAKE: the rails have been up for 1 ms after a wake in EMBER, and the warm reset begins (R504). `sleep` is the
length of the sleep in ticks. -/
def execEmberWake (sleep : Nat) (s : State) : Res :=
  if s.boot.power == .ember && s.power.waking then
    .next ((s.modPower (fun p => { p with sleep := wrap64 sleep })).resetTo .emberWake 0)
  else .next s

/-- RESET_RELEASE: the hold ends and the boot ROM starts on FIO (R54, R80, R87, R508). -/
def execResetRelease (s : State) : Res :=
  if s.boot.held && s.boot.power != .cold then
    .next (((s.modBoot (fun b => { b with held := false, stage := .romClock })).modPins (fun p =>
      { p with pwrenCore := .high, pwrenAna := .high, pwrenIo := .high, byp := .low, ppsOut := .low, tdo := .hiZ
               bfCsN := .high })).modClock (fun c => { c with runFio := true }))
  else .next s

/-! ## The boot ROM (R87 to R93) -/

/-- Bytes 0x000 to 0x07F of a header (R91). -/
def headerBytes (h : Header) : List Byte :=
  leBytes 4 h.magic.toNat ++ leBytes 4 h.version.toNat ++ leBytes 4 h.sv ++ leBytes 4 h.bodyLen ++
    List.replicate 16 0 ++ beBytes 32 h.sha.toNat ++ beBytes 64 h.pubKey.toNat

/-- The first three conditions of R92: magic, root public key, signature. -/
def headerSigned (f : Fuses) (magic : Word) (h : Header) : Bool :=
  h.magic == magic &&
    BitVec.ofNat 256 (ofBe (sha256 (beBytes 64 h.pubKey.toNat))) == f.rootHash &&
    Config.ecdsaVerify h.pubKey (BitVec.ofNat 256 (ofBe (sha256 (headerBytes h)))) h.sig

/-- A slot header is valid (R92). -/
def slotHeaderOk (f : Fuses) (h : Header) : Bool :=
  headerSigned f 0x5746594B h && decide (f.rollback ≤ h.sv) && decide (h.sv ≤ 64)

/-- A slot's body hashes to its header's value (R91, R92). -/
def slotBodyOk (h : Header) : Bool := decide (1 ≤ h.bodyLen) && decide (h.bodyLen ≤ 4190208) && h.bodySha == h.sha

/-- The slot of an index with a valid header. -/
def slotOf (f : Fuses) (fl : Flash) (b : Bool) : Option Header :=
  match if b then fl.slotB else fl.slotA with
  | some h => if slotHeaderOk f h then some h else none
  | none => none

/-- The slot that the ROM chooses first (R93): true is B. -/
def firstSlot (f : Fuses) (fl : Flash) : Option Bool :=
  match slotOf f fl false, slotOf f fl true with
  | some a, some b => some (decide (a.version.toNat < b.version.toNat))
  | some _, none => some false
  | none, some _ => some true
  | none, none => none

/-- The slot that boots: its index, whether it is a fallback, its header (R93). -/
def bootSlot (f : Fuses) (fl : Flash) : Option (Bool × Bool × Header) :=
  match firstSlot f fl with
  | none => none
  | some b =>
    match slotOf f fl b with
    | none => none
    | some h =>
      if slotBodyOk h then some (b, false, h)
      else match slotOf f fl (!b) with
        | some g => if slotBodyOk g then some (!b, true, g) else none
        | none => none

/-- The crystal that the ROM takes (R87): XA when it runs within 5 ms, otherwise XB, otherwise XA within 9.5 ms. -/
def bootRef (ck : BootClocks) : Option Ref :=
  let xb := ck.xbBy95 && xbFreqOf ck.xbCount != 3
  if ck.xaBy5 then some .xa else if xb then some .xb else if ck.xaBy95 then some .xa else none

/-- PLL_CORE runs on the crystal that was found (R87, R509, R511). -/
def State.romClock (s : State) (ck : BootClocks) (r : Ref) : State :=
  s.modClock (fun c =>
    { c with ref := r, runXa := ck.xaBy5 || ck.xaBy95, runXb := ck.xbBy95
             xbFreq := if ck.xbBy95 then xbFreqOf ck.xbCount else 0, locked := 1, first := 1 })

/-- The ROM fails: DAMPED with BOOT_FAILED and a FATAL fault (R88). -/
def State.bootFail (s : State) (code : Nat) : State := (s.modBoot (fun b => { b with stage := .bootFailed })).fatal code 0xFF

/-! ## FW_START (R81, R94, R95, R568, R588) -/

/-- Every bad calibration word raises CAL_WORD_BAD (R588). -/
def State.badWords (s : State) : State :=
  let s := (List.range 136).foldl (fun s u => if calWordOk (s.keepWord (256 + u)) then s else s.notice 0x2E05 u) s
  let s := (List.range 10).foldl (fun s k =>
    if calWordOk (s.keepWord (392 + k)) then s else s.notice 0x2E05 (Config.sensorUnit k).toNat) s
  if calWordOk (s.keepWord 402) then s else s.notice 0x2E05 0xFF

/-- Sensor offsets and reference trims come from their words, or are nominal (R587, R588). -/
def State.loadTrims (s : State) : State :=
  let off := fun (k : Nat) => let w := s.keepWord (392 + k); if calWordOk w then toInt 16 w.toNat else 0
  let s := (List.range 10).foldl (fun s k => s.modSensor k (fun x => { x with offset := off k })) s
  s.modCal (fun c =>
    { c with refTrim := if calWordOk (s.keepWord 402) then BitVec.ofNat 16 (s.keepWord 402).toNat else 0 })

/-- The loops of every domain that is on (R511). -/
def State.lockAll (s : State) : State :=
  let l := maskOf ((List.range 9).filter s.loopOn)
  s.modClock (fun c => { c with locked := l, first := l })

/-- What the wake from EMBER leaves to be recorded: the trace tail, a discontinuity, the wake (R502, R506). -/
def State.emberStart (s : State) : State :=
  if s.boot.cause.cause == .emberWake then
    let s := (s.modPower (fun p => { p with trace := p.tail })).traceBoth 0xF1 3 0 s.power.sleep
    (s.doorbell 21).wakeRecord s.power.cause s.power.source s.power.latched
  else s

/-- The firmware starts and runs its FW_START phase: loops lock, units are calibrated, the tick sequencer starts, and
CLKOUT takes its stored setting (R81, R94, R95, R114, R525, R568). -/
def State.fwStart (s : State) (b fallback : Bool) (h : Header) : State :=
  let s := s.modBoot (fun x =>
    { x with stage := .fwStart, slotB := b, slotFallback := fallback, runSv := h.sv
             fwVersion := packW [(16, h.version.toNat), (8, 2), (8, 4)] })
  let s := s.flushDeferred.lockAll.emberStart.badWords.loadTrims.calibrateAll (List.range 136)
  let s := s.clkoutGo s.clock.clkout
  { s with time := { s.time with seq := true } }

/-- The ROM's first steps: a crystal and PLL_CORE, then BLANK_WAIT for a blank device (R87 to R89, R509). -/
def State.romStart (s : State) (ck : BootClocks) : State :=
  match bootRef ck with
  | none => s.bootFail 0x3A10
  | some r => (s.romClock ck r).modBoot (fun b => { b with stage := if s.life.state == .blank then .blankWait else .romImage })

/-- The ROM's later steps: the image is read, verified and started (R87, R88, R92 to R95). -/
def State.romBoot (s : State) (fl : Flash) : State :=
  if !fl.answers then s.bootFail 0x3A11
  else match bootSlot s.fuses fl with
    | none => s.bootFail 0x3A12
    | some (b, fb, h) => s.fwStart b fb h

/-- BOOT_ROM (R87 to R95, R509): the row comes once for the clock, with what the crystals do, and once more for the image, with what
the boot flash holds, so that a forced switch can fall between the two (R598; log 39). -/
def execBootRom (ck : BootClocks) (fl : Flash) (s : State) : Res :=
  if !s.boot.held && s.boot.power == .boot then
    match s.boot.stage with
    | .romClock => .next (s.romStart ck)
    | .romImage => .next (s.romBoot fl)
    | .reset | .fwStart | .cellar | .config | .training | .readiness | .done | .blankWait | .bootFailed => .next s
  else .next s

end Machine
end Sys2Proof
end

