-- ==== Sys2Proof/Machine/Window.lean ====
section
/-! DEFINITION. The direct window (04, R107 to R112, R116 to R123, R130 to R132): writes by each port, the doorbell
registers, the mailbox control registers, and the channel of the fabric peers. -/
namespace Sys2Proof
namespace Machine

/-! ## Mailbox registers (R116, R118, R120, R121) -/

/-- A write to MSG0 to MSG15: ignored while BUSY is 1 (R120). -/
def State.msgWrite (s : State) (ch k : Nat) (data : Word) : State :=
  if (s.chan ch).busy then s else s.modChan ch (fun c => { c with msg := c.msg.set k data })

/-- A write that sets GO and not CANCEL is accepted while BUSY is 0; it may wake the device (R120, R121, R501). -/
def State.goWrite (s : State) (ch : Nat) (ctrl : Word) : State :=
  if bit ctrl.toNat 0 && !bit ctrl.toNat 1 && s.accepts ch then
    ((s.modChan ch (fun c => c.go c.msg)).aim ch).goWake ch
  else s

/-- A write that sets CANCEL and not GO, while BUSY is 1 (R121, R123). -/
def State.cancelWrite (s : State) (ch : Nat) (ctrl : Word) : State :=
  if bit ctrl.toNat 1 && !bit ctrl.toNat 0 && (s.chan ch).busy then s.modChan ch (fun c => { c with cancel := true }) else s

/-- A write to ACK_CLR: the ACK, the return words and the channel's doorbell bit are cleared (R118). -/
def State.ackClr (s : State) (ch : Nat) (data : Word) : State :=
  if bit data.toNat 0 && decide (ch < 7) && ch != 3 then
    let s := s.modChan ch (fun c => { c with ack := ⟨false, false, 0, 0, 0⟩, ret := List.replicate 16 0 })
    if ch < 3 then s.modMbx (fun m => { m with dbStatus := m.dbStatus &&& ~~~ (w32 (2 ^ ch)) }) else s
  else s

/-- MAILBOX_GO (R120). -/
def execMailboxGo (ch : Nat) (ctrl : Word) (s : State) : Res := .next (if s.awake then s.goWrite ch ctrl else s)

/-- MAILBOX_CANCEL (R121, R123). -/
def execMailboxCancel (ch : Nat) (ctrl : Word) (s : State) : Res :=
  .next (if s.awake && decide (ch < 7) && ch != 3 && s.bridged ch then s.cancelWrite ch ctrl else s)

/-- ACK_CLR (R118). -/
def execAckClr (ch : Nat) (data : Word) (s : State) : Res :=
  .next (if s.awake && s.bridged ch then s.ackClr ch data else s)

/-! ## Doorbell registers (R130 to R132) -/

/-- Bits of DB_STATUS and DB_MASK that are not reserved (R130). -/
def dbBits : Word := 0x80FFFFFF

/-- A W1C write to DB_STATUS: a bit whose source event falls in the same cycle stays set (R131). -/
def State.dbClear (s : State) (mask events : Word) : State :=
  s.modMbx (fun m => { m with dbStatus := (m.dbStatus &&& ~~~ mask) ||| (events &&& dbBits) })

/-- DB_STATUS_CLEAR; `events` are the source events of the same core cycle (R131). -/
def execDbStatusClear (mask events : Word) (s : State) : Res := .next (if s.awake then s.dbClear mask events else s)

/-- A write to DB_MASK (R130, R132). -/
def State.dbMaskWrite (s : State) (mask : Word) : State := s.modMbx (fun m => { m with dbMask := mask &&& dbBits })

/-- DB_MASK_WRITE (R132). -/
def execDbMaskWrite (mask : Word) (s : State) : Res := .next (if s.awake then s.dbMaskWrite mask else s)

/-- A write to DB_TEST (R130, R133). -/
def State.dbTest (s : State) (data : Word) : State := if bit data.toNat 31 then s.doorbell 31 else s

/-- DB_TEST (R130). -/
def execDbTest (data : Word) (s : State) : Res := .next (if s.awake then s.dbTest data else s)

/-! ## REGISTER_WRITE (R107, R110, R111, R116) -/

/-- The port reaches the registers of the channel (R116): channel 6 in BENCH only, and not while DEBUG_BRIDGE is gated, when
its registers read as zero and drop writes (R522). -/
def State.reaches (s : State) (p : Port) (ch : Nat) : Bool :=
  match p with
  | .msp => ch == 0
  | .ssp => ch == 2
  | .debug => ch == 6 && s.life.state == .bench && bit s.clock.gates 2
  | .internal => ch == 4
  | .skim => ch == 5

/-- A write at an offset of a channel (R118). -/
def State.chanWrite (s : State) (ch off : Nat) (data : Word) : State :=
  if off < 0x40 then s.msgWrite ch (off / 4) data
  else if off = 0x40 then (s.goWrite ch data).cancelWrite ch (if bit data.toNat 0 then 0 else data)
  else if off = 0x48 then s.ackClr ch data
  else s

/-- A write to the direct window: each register acts as its own rule says; read-only and unlisted addresses ignore writes
(R107, R110). Only MSP and SSP reach registers outside the mailbox channels. -/
def State.windowWrite (s : State) (p : Port) (addr : Nat) (data : Word) : State :=
  let a := addr / 4 * 4
  if 0x1000 ≤ a ∧ a < 0x1800 then
    if s.reaches p ((a - 0x1000) / 0x100) then s.chanWrite ((a - 0x1000) / 0x100) (a % 0x100) data else s
  else if p = .msp ∨ p = .ssp then
    if a = 0x2000 then s.dbClear data 0
    else if a = 0x2004 then s.dbMaskWrite data
    else if a = 0x200C then s.dbTest data
    else if a = 0x3000 then s.clkoutWrite data
    else s
  else s

/-- CS_N of a port changes: the TICK_HI that the transaction held is gone (R109, R112). -/
def State.csEnd (s : State) (p : Port) : State :=
  match p with
  | .msp => s.modMbx (fun m => { m with shadow := m.shadow.set 0 none })
  | .ssp => s.modMbx (fun m => { m with shadow := m.shadow.set 1 none })
  | .debug | .internal | .skim => s

/-- A read of TICK_LO on MSP or SSP holds TICK_HI for a read in the same transaction (R112). -/
def State.holdTick (s : State) (p : Port) : State :=
  let put := fun (i : Nat) => s.modMbx (fun m => { m with shadow := m.shadow.set i (some (w32 (s.now / 2 ^ 32))) })
  match p with
  | .msp => put 0
  | .ssp => put 1
  | .debug | .internal | .skim => s

/-- What a word access of a port does: a write, or a read, whose one effect is that of TICK_LO (R110, R112). -/
def State.access (s : State) (p : Port) : SpiAccess → State
  | .read addr => if addr / 4 = 5 then s.holdTick p else s
  | .write addr data => s.windowWrite p addr data

/-- Word accesses of MSP and SSP in the same core cycle: the MSP access takes effect first (R111). -/
def State.sameCycle (s : State) (msp ssp : SpiAccess) : State := (s.access .msp msp).access .ssp ssp

/-- REGISTER_WRITE: a completed data word of a WRITE transaction, which is another than the read before it, and the access of
the other SPI port in the same core cycle, if there is one (R107 to R112). -/
def execRegisterWrite (p : Port) (addr : Nat) (w : RegWrite) (s : State) : Res :=
  if !s.awake then .next s
  else
    let s := s.csEnd p
    match p, w.other with
    | .msp, some a => .next (s.sameCycle (.write addr w.data) a)
    | .ssp, some a => .next (s.sameCycle a (.write addr w.data))
    | _, _ => .next (s.windowWrite p addr w.data)

/-- TICK_LO_READ: TICK_HI is held for a read in the same transaction (R112). -/
def execTickLoRead (p : Port) (s : State) : Res := .next (if s.awake then s.holdTick p else s)

/-! ## The fabric-peer channel (R137 to R139) -/

/-- A sender's path fits the path that a slot is bound to: it is that path, or lies inside that group (R138, R474). -/
def pathInside (path bound : Nat) : Bool :=
  (List.range 5).any (fun lv => groupPath bound lv == bound && groupPath path lv == bound)

/-- A payload passes the conditions of R138 under a slot. -/
def payloadOk (p : PeerPayload) (k : PeerSlot) : Bool :=
  pathInside p.path k.path && p.tag == peerTag k.key p.path p.slot p.dir p.counter (p.words ++ [p.tail]) &&
    decide (k.counter < p.counter)

/-- An ACK to a peer without return words; SEQ is that of MSG0. -/
def State.refusePeer (s : State) (p : PeerPayload) (c : Code) : State :=
  s.answerPeer p.slot p.counter (Ack.word ⟨true, false, c.num, fld ((p.words.getD 0 0).toNat) 8 8, 0⟩) []

/-- PEER_MESSAGE: accepted, answered AUTH_FAIL or BUSY, or discarded (R137 to R139). -/
def execPeerMessage (p : PeerPayload) (s : State) : Res :=
  if s.fwRuns && p.dir == 1 then
    match tfind s.peers p.slot with
    | none => .next s
    | some k =>
      if payloadOk p k then
        let s := { s with peers := tset s.peers p.slot { k with counter := p.counter } }
        if 16 ≤ s.mbx.peerIn.length then .next (s.refusePeer p .busy)
        else .next (s.modMbx (fun m => { m with peerIn := m.peerIn ++ [⟨p.slot, p.counter, fill16 p.words⟩] }))
      else .next (s.refusePeer p .authFail)
  else .next s

end Machine
end Sys2Proof
end

