-- ==== Sys2Proof/Machine/Operands.lean ====
section
/-! DEFINITION. What a read of the direct window returns (04, R107 to R119, R130; 18, R547; 17, R524; 19, R586). A read
has no effect but the one of TICK_LO (R110, R112). -/
namespace Sys2Proof
namespace Machine

/-- DEV_ID (R113). -/
def State.devId (s : State) : Word := packW [(4, b2n s.fuses.gradeX), (4, 0), (4, 1), (4, 0), (16, 0x9632)]

/-- The code of BOOT_STAGE (R85). -/
def Stage.num : Stage → Nat
  | .reset => 0 | .romClock => 1 | .romImage => 2 | .fwStart => 3 | .cellar => 4 | .config => 5 | .training => 6
  | .readiness => 7 | .done => 8 | .blankWait => 14 | .bootFailed => 15

/-- The code of POWER_STATE in DEV_STATUS (R85). -/
def Power.code : Power → Nat
  | .boot => 0 | .run => 1 | .banked => 2 | .ember => 3 | .damped => 4 | .cold => 0

/-- The code of CONFIG_STATE (R85). -/
def ConfigState.num : ConfigState → Nat
  | .none => 0 | .complete => 1 | .partialStop => 2 | .replaying => 3

/-- DEV_STATUS (R85). -/
def State.devStatus (s : State) : Word :=
  packW [(4, s.boot.stage.num), (1, b2n (s.boot.ready && s.boot.power == .run)), (1, 0), (1, b2n s.boot.stewardSouth),
    (1, b2n s.boot.slotB), (1, b2n s.boot.slotFallback), (2, s.boot.configState.num), (1, s.boot.configArea),
    (3, s.boot.power.code)]

/-- RESET_CAUSE (R84). -/
def State.resetCauseWord (s : State) : Word :=
  let c := s.boot.cause
  packW [(8, c.cause.num), (4, c.rail), (1, b2n c.wasDamped), (1, b2n c.recordKept), (2, 0), (8, c.warmCount)]

/-- LIFECYCLE (R115). -/
def State.lifecycleWord (s : State) : Word :=
  packW [(3, s.life.state.num), (5, 0), (1, b2n s.life.sealed), (7, 0), (7, s.life.rollback)]

/-- TICK_HI: the shadow in a transaction of the port that has read TICK_LO, otherwise the live value (R112). -/
def State.tickHi (s : State) (shadow : Option Word) : Word := shadow.getD (w32 (s.now / 2 ^ 32))

/-- A register of a mailbox channel (R118). -/
def Chan.read (c : Chan) (off : Nat) : Word :=
  if off < 0x40 then c.msg.getD (off / 4) 0
  else if off = 0x40 then packW [(1, b2n c.busy), (1, b2n c.cancel), (6, 0), (1, b2n c.busy)]
  else if off = 0x44 then Ack.word c.ack
  else if 0x80 ≤ off ∧ off < 0xC0 then c.ret.getD ((off - 0x80) / 4) 0
  else 0

/-- DB_RAW: the present level of the level sources (R130, R133). -/
def State.dbRaw (s : State) : Word :=
  packW [(3, 0), (1, b2n (!s.mbx.ring.isEmpty)), (1, 0), (1, b2n (s.boot.power == .damped)),
    (1, b2n (s.thermal.sensors.any (fun x => x.warn))), (7, 0), (1, b2n (s.cellar.atLeast 80)),
    (1, b2n (s.cellar.atLeast 95)), (1, b2n (s.cal.units.any (fun e => e.2.stale)))]

/-- SRC_STOPPED of CLKOUT_CTRL: the source that the register selects (R524). -/
def State.clkoutStopped (s : State) : Bool := s.srcStopped s.clock.clkout.src

/-- CLKOUT_CTRL (R524). -/
def State.clkoutWord (s : State) : Word :=
  let c := s.clock.clkout
  packW [(4, c.src), (1, b2n s.clkoutStopped), (11, 0), (12, c.div), (2, 0), (1, b2n s.clock.changing), (1, b2n c.enable)]

/-- A word of the fault record (R547). -/
def Record.read (r : Record) (i : Nat) : Word :=
  let f := r.fatal.getD ⟨0, 0, 0⟩
  let e := r.ring.getD ((i - 8) / 2) ⟨0, 0, 0⟩
  match i with
  | 0 => packW [(1, b2n r.fatal.isSome), (7, 0), (8, r.next), (8, r.ring.length)]
  | 1 => packW [(16, f.code), (8, 0), (8, f.unit)]
  | 2 => w32 f.tick
  | 3 => w32 (f.tick / 2 ^ 32)
  | 4 => r.detail
  | 5 => w32 r.total
  | 6 => 0
  | 7 => 0
  | _ => if i % 2 = 0 then packW [(8, e.tick / 2 ^ 32), (8, e.unit), (16, e.code)] else w32 e.tick

/-- The keep-store read window: in EMBER the hearth's keep cache (R108); FABRIC_KEY reads as zero (R436, R586). -/
def State.keepRead (s : State) (i : Nat) : Word :=
  if 449 ≤ i ∧ i ≤ 456 then 0
  else if s.boot.power == .ember then tget 0 s.keep.cache i else s.keepWord i

/-- A read of the direct window in the transaction that is open on a port: every address not listed reads as zero, and so do
the channels that the port does not reach (R107, R116). -/
def State.windowRead (s : State) (p : Port) (addr : Nat) : Word :=
  let a := addr / 4 * 4
  if !s.awake && s.boot.power == .cold then 0
  else if 0x1000 ≤ a ∧ a < 0x1800 then
    if s.reaches p ((a - 0x1000) / 0x100) then (s.chan ((a - 0x1000) / 0x100)).read (a % 0x100) else 0
  else if p = .msp ∨ p = .ssp then
    if a = 0x0 then s.devId
    else if a = 0x4 then s.devStatus
    else if a = 0x8 then s.resetCauseWord
    else if a = 0xC then s.boot.fwVersion
    else if a = 0x10 then s.lifecycleWord
    else if a = 0x14 then w32 s.now
    else if a = 0x18 then s.tickHi (s.mbx.shadow.getD (if p = .msp then 0 else 1) none)
    else if a = 0x2000 then s.mbx.dbStatus
    else if a = 0x2004 then s.mbx.dbMask
    else if a = 0x2008 then s.dbRaw
    else if a = 0x3000 then s.clkoutWord
    else if 0x4000 ≤ a ∧ a < 0x4200 then s.faults.record.read ((a - 0x4000) / 4)
    else if 0x8000 ≤ a ∧ a < 0x8800 then s.keepRead ((a - 0x8000) / 4)
    else 0
  else 0

/-! ## Serial transactions (R109 to R112) -/

/-- A word read in a transaction: a read of TICK_LO holds TICK_HI for the port, and no other read has an effect (R110, R112). -/
def State.txRead (s : State) (p : Port) (addr : Nat) : State × Word :=
  (s.access p (.read addr), s.windowRead p addr)

/-- Words read from an address on, which advances by 4 after each, most significant byte first (R109, R110). -/
def State.readBurst (s : State) (p : Port) (addr : Nat) : Nat → State × List Byte
  | 0 => (s, [])
  | k + 1 =>
    let r := s.txRead p addr
    let t := r.1.readBurst p ((addr + 4) % 2 ^ 32) k
    (t.1, beBytes 4 r.2.toNat ++ t.2)

/-- Words written from an address on; a last word of fewer than 32 bits is discarded (R110). -/
def State.writeBurst (s : State) (p : Port) (addr : Nat) : List Byte → State
  | b0 :: b1 :: b2 :: b3 :: t =>
    (if s.awake then s.windowWrite p addr (w32 (ofBe [b0, b1, b2, b3])) else s).writeBurst p ((addr + 4) % 2 ^ 32) t
  | _ => s

/-- A transaction of MSP or SSP, from the fall of CS_N to its rise: the state it leaves, and the bytes on SDO for the bytes on
SDI. WRITE is 0x02, a 4-byte address and data words; READ is 0x0B, a 4-byte address, 4 dummy bytes and then data words for
as long as SCK runs; any other first byte is ignored (R109, R110, R112). DESIGN CHOICE: the transaction keeps to the timing of R65; what one that departs
from it reads or writes is not modelled, since R65 leaves it open (log 4). -/
def State.transaction (s : State) (p : Port) (sdi : List Byte) : State × List Byte :=
  let s := s.csEnd p
  let quiet := List.replicate sdi.length 0
  match sdi with
  | op :: a3 :: a2 :: a1 :: a0 :: rest =>
    let addr := ofBe [a3, a2, a1, a0]
    if op = 0x02 then ((s.writeBurst p addr rest).csEnd p, quiet)
    else if op = 0x0B then
      let r := s.readBurst p addr (ceilDiv (rest.length - 4) 4)
      (r.1.csEnd p, (List.replicate 9 0 ++ r.2).take sdi.length)
    else (s, quiet)
  | _ => (s, quiet)

/-- What a word access returns; a write returns nothing. -/
def State.accessWord (s : State) (p : Port) : SpiAccess → Option Word
  | .read addr => some (s.windowRead p addr)
  | .write _ _ => none

/-- What two accesses in the same core cycle return: that of SSP is read after the access of MSP has taken effect (R111). -/
def State.sameCycleWords (s : State) (msp ssp : SpiAccess) : Option Word × Option Word :=
  (s.accessWord .msp msp, (s.access .msp msp).accessWord .ssp ssp)

/-- The bits of a byte as they are sent, most significant bit first (R109). -/
def bitsMsb (b : Byte) : List Bool := (List.range 8).map (fun i => b.getMsbD i)

end Machine
end Sys2Proof
end

