-- ==== Sys2Proof/Machine/Flags.lean ====
section
/-! DEFINITION. The outputs and status flags that follow from the state: INT_N, CLKOUT, which transmitters send
(04, R132; 17, R525 to R528; 18, R542). -/
namespace Sys2Proof
namespace Machine

/-- The boot ROM runs, or waits in BLANK_WAIT: the outputs of R80 are held (R80, R89). -/
def State.romHolds (s : State) : Bool := s.boot.power == .boot && !s.boot.stage.fw

/-- INT_N is driven low: some doorbell whose mask bit is set is latched, and VDDE18 is present (R132); it is released while a
reset is held (R54) and until the firmware's first action (R80, R89). DEDUCED: R80's hold comes before R132 (log 82). -/
def State.intLow (s : State) : Bool := s.awake && !s.romHolds && s.mbx.dbStatus &&& s.mbx.dbMask != 0

/-- CLKOUT shows the divided source: its setting is in force and enabled, no change or low hold is in progress, and the
source runs (R525, R526, R528). -/
def State.clkoutShown (s : State) : Bool :=
  s.clkoutLive && s.clock.clkNow.enable && !s.clock.changing && !s.clock.clkWait && !s.srcStopped s.clock.clkNow.src

/-- What CLKOUT shows: the nominal frequency of its source in Hz, and the divisor (R512, R524): P and Q for the buses, and
DIV + 1. -/
def State.clkoutRate (s : State) : Option (Nat × Nat) :=
  if s.clkoutShown then
    let (hz, d) := s.clock.srcRate s.clock.clkNow.src
    some (hz, d * (s.clock.clkNow.div + 1))
  else none

/-- A drop sends beacons and frames: only in UP (R241, R251, R542). -/
def State.dropSends (s : State) (ds : Nat) : Bool := s.live && (s.drop ds).state == .up

/-- A trunk may send: in the path, enabled, and not silent (R318, R315, R542). -/
def State.trunkSends (s : State) (tr : Nat) : Bool :=
  s.live && s.inPath && ((s.trunk tr).state == .seek || (s.trunk tr).state == .training || (s.trunk tr).state == .up)

/-- A lane group's transmitter is out of electrical idle (R336, R349, R542). -/
def State.hostSends (s : State) (g : Nat) : Bool := s.live && s.domOn (domOfRoot (132 + g)) && !(s.host g).txEidle

/-- How an output ball is driven: low, high, high-impedance, pulled to VSS by its pull-down, silent (for a host lane: in
electrical idle), or carrying its signal. -/
inductive Drive where
  | low | high | hiZ | pulled | silent | live
deriving DecidableEq, Repr

/-- The output balls (R57, R80): single signals, and the pairs of a line channel, a drop, a trunk, a lane group with its
forwarded clock, and the two oscillators. -/
inductive Ball where
  | intN | clkout | bypA | bypB | pwrenCore | pwrenAna | pwrenIo | ppsOut | tdo | bfCsN | bfSck | bfIo | mspSdo | sspSdo
  | line (ch : Nat) | drop (ds : Nat) | trunk (tr : Nat) | lanes (g : Nat) | xaOut | xbOut
deriving DecidableEq, Repr

/-- A level as it is driven. -/
def Level.drive : Level → Drive
  | .low => .low | .high => .high | .hiZ => .hiZ

/-- A PWREN output `us` microseconds after VDDE18 passed its threshold (R51). -/
def Pwren.drive (p : Pwren) (us : Nat) : Drive :=
  match p with
  | .low => .low
  | .rising => if us < 50 then .low else .high
  | .high => .high

/-- A transmitter that sends, or is silent. -/
def sends (b : Bool) : Drive := if b then .live else .silent

/-- What an output ball carries with VDDE18 present, `us` microseconds after VDDE18's threshold, with CS_N of MSP and of SSP low
or high. SDO is high-impedance while CS_N is high (R65); the boot flash is driven by the boot ROM and the firmware from
reset release on (R80); with VDDIO18 off in EMBER, CLKOUT and the flash are not driven (R528). -/
def State.ballOn (s : State) (us : Nat) (mspLow sspLow : Bool) : Ball → Drive
  | .intN => if s.intLow then .low else .hiZ
  | .clkout => if s.boot.power == .ember then .hiZ else if s.clkoutShown then .live else .low
  | .bypA | .bypB => s.pins.byp.drive
  | .pwrenCore => s.pins.pwrenCore.drive us
  | .pwrenAna => s.pins.pwrenAna.drive us
  | .pwrenIo => s.pins.pwrenIo.drive us
  | .ppsOut => s.pins.ppsOut.drive
  | .tdo => s.pins.tdo.drive
  | .bfCsN => s.pins.bfCsN.drive
  | .bfSck | .bfIo => if s.boot.held || s.boot.power == .ember then .hiZ else .live
  | .mspSdo => if mspLow then .live else .hiZ
  | .sspSdo => if sspLow then .live else .hiZ
  | .line ch => sends (s.lineSends ch)
  | .drop ds => sends (s.dropSends ds)
  | .trunk tr => sends (s.trunkSends tr)
  | .lanes g => sends (s.hostSends g)
  | .xaOut => sends s.clock.runXa
  | .xbOut => sends s.clock.runXb

/-- What an output ball carries. With VDDE18 absent every ball is high-impedance but BYPA, BYPB and the PWREN outputs, which
are pulled to VSS (R57). -/
def State.ball (s : State) (us : Nat) (mspLow sspLow : Bool) (b : Ball) : Drive :=
  if s.boot.power == .cold then
    match b with
    | .bypA | .bypB | .pwrenCore | .pwrenAna | .pwrenIo => .pulled
    | .intN | .clkout | .ppsOut | .tdo | .bfCsN | .bfSck | .bfIo | .mspSdo | .sspSdo | .line _ | .drop _ | .trunk _ | .lanes _
    | .xaOut | .xbOut => .hiZ
  else s.ballOn us mspLow sspLow b

end Machine
end Sys2Proof
end

