-- ==== Sys2Proof/Machine/General.lean ====
section
/-! DEFINITION. The general commands (04): ECHO, EVENT_READ, STEWARD_MOVE, DEVICE_RESET, PEER_KEY_SET. -/
namespace Sys2Proof
namespace Machine

/-- Every value of LEN. -/
def anyLen : List Nat := [1, 2, 3, 4, 5, 6, 7, 8, 9, 10, 11, 12, 13, 14, 15, 16]

/-- ECHO. -/
def cmdEcho (m : Msg) (s : State) : Reply := .ok ((m.args ++ List.replicate 16 0).take (m.len - 1)) s

def echoCmd : Cmd := ⟨0x0000, anyLen, false⟩
/-- ECHO (R140). -/
def execEcho (m : Msg) (s : State) : Res := .next (s.mailbox echoCmd m cmdEcho)

/-- The two words of an event record, low word first (R135). -/
def Event.words (e : Event) : List Word := [packW [(16, e.data), (16, e.source)], packW [(8, e.type), (24, e.tick24)]]

/-- EVENT_READ. Records taken leave space, in which a RING_LOST record is written first (R136). -/
def cmdEventRead (m : Msg) (s : State) : Reply :=
  let l := s.mbx.ring.take (m.get 1 0 3)
  let s' := if m.flag 1 8 then s else s.modMbx (fun x => ringFlush s.now { x with ring := x.ring.drop (m.get 1 0 3) })
  .unless (m.get 1 0 3 == 0 || m.stray 1 0x107) .badArg <|
  .ok (packW [(16, l.length), (16, s'.mbx.ring.length)] :: l.flatMap Event.words) s'

def eventReadCmd : Cmd := ⟨0x0001, [2], false⟩
/-- EVENT_READ (R134 to R136). -/
def execEventRead (m : Msg) (s : State) : Res := .next (s.mailbox eventReadCmd m cmdEventRead)

/-- The complex that holds the token once every move accepted so far has taken place. -/
def State.nextSteward (s : State) : Bool :=
  match s.boot.stewardMove with
  | some (t, _) => t
  | none => s.boot.stewardSouth

/-- STEWARD_MOVE. -/
def cmdStewardMove (m : Msg) (s : State) : Reply :=
  let target := m.flag 1 0
  .unless (m.stray 1 1) .badArg <|
  .unless (s.boot.replaying || s.preparing || s.keepBusy) .busy <|
  .unless (!s.boot.ready) .wrongState <|
  if target = s.nextSteward then .ok (packW [(1, 0), (1, b2n target)] :: lohi s.now) s
  else .ok (packW [(1, 1), (1, b2n target)] :: lohi s.nextEdge)
    (s.modBoot (fun b => { b with stewardMove := some (target, s.nextEdge) }))

def stewardMoveCmd : Cmd := ⟨0x0003, [2], false⟩
/-- STEWARD_MOVE (R36, R37). -/
def execStewardMove (m : Msg) (s : State) : Res := .next (s.mailbox stewardMoveCmd m cmdStewardMove)

/-- DEVICE_RESET. -/
def cmdDeviceReset (m : Msg) (s : State) : Reply :=
  .unless (m.get 1 0 16 != 0xA5C3 || m.stray 1 0x1FFFF) .badArg <|
  .unless (s.cellar.unacked && !m.flag 1 16) .conflict <|
  .silent (s.modBoot (fun b => { b with resetAt := some s.nextEdge }))

def deviceResetCmd : Cmd := ⟨0x0004, [2], false⟩
/-- DEVICE_RESET: the reset begins at the next edge (R82). -/
def execDeviceReset (m : Msg) (s : State) : Res := .next (s.mailbox deviceResetCmd m cmdDeviceReset)

/-- PEER_KEY_SET. -/
def cmdPeerKeySet (m : Msg) (s : State) : Reply :=
  let slot := m.get 1 0 4
  let erase := m.flag 1 8
  let key : BitVec 256 := BitVec.ofNat 256 (pack ((List.range 8).map (fun i => (32, m.word (i + 3)))))
  let peers := if erase then tdel s.peers slot else tset s.peers slot ⟨key, m.get 2 0 16, 0⟩
  .unless (m.stray 1 0x10F || (!erase && (m.stray 2 0xFFFF || m.get 2 0 16 == 0))) .badArg <|
  .unless (m.chan != 0 && m.chan != 2 && m.chan != 8) .notPermitted <|
  .unless (decide (12 ≤ slot) && s.keepIdentity.2 != 0) .conflict <|
  .ok [w32 (maskOf (peers.map Prod.fst))] { s with peers := peers }

def peerKeySetCmd : Cmd := ⟨0x0005, [11], false⟩
/-- PEER_KEY_SET (R138, R474). -/
def execPeerKeySet (m : Msg) (s : State) : Res := .next (s.mailbox peerKeySetCmd m cmdPeerKeySet)

end Machine
end Sys2Proof
end

