-- ==== Sys2Proof/Machine/Host.lean ====
section
/-! DEFINITION. Host lane groups (11): the commands, training, electrical idle, lane packets, sideband, spool
acknowledgements and faults. -/
namespace Sys2Proof
namespace Machine

/-! ## HOST_CONFIG (0x1300) -/

/-- HOST_CONFIG. -/
def cmdHostConfig (m : Msg) (s : State) : Reply :=
  let g := m.get 1 0 2
  let cred := (List.range 4).map (fun k => m.get 2 (8 * k) 8) ++ (List.range 4).map (fun k => m.get 3 (8 * k) 8)
  let c : HostCfg := ⟨m.get 1 16 10, m.flag 1 11, m.flag 1 10, m.flag 1 8, cred⟩
  .unless (m.stray 1 0x03FF1D03 || c.eiIdle == 0 || decide (256 < cred.foldl (· + ·) 0) ||
    (c.sideEn && cred.getD 7 0 == 0)) .badArg <|
  .unless (!s.domOn (domOfRoot (132 + g))) .wrongState <|
  .ok (lohi s.nextEdge) (s.accept (.host g c (m.flag 1 12)))

def hostConfigCmd : Cmd := ⟨0x1300, [4], false⟩
/-- HOST_CONFIG enables or disables a group and sets electrical idle, sideband and credits from the next edge (R334,
R351). -/
def execHostConfig (m : Msg) (s : State) : Res := .next (s.mailbox hostConfigCmd m cmdHostConfig)

/-! ## HOST_STATUS (0x1301) -/

/-- HOST_STATUS. -/
def cmdHostStatus (m : Msg) (s : State) : Reply :=
  let g := m.get 1 0 2
  let x := s.host g
  .unless (m.stray 1 3) .badArg <|
  .ok ([packW [(3, x.state.num), (6, 0), (1, b2n x.coefValid), (1, b2n x.txEidle), (1, b2n x.rxEidle), (4, 0),
          (8, x.lastFail), (8, x.attempts)],
        packW [(1, b2n x.reversed), (7, 0), (8, x.pol)]] ++
      (List.range 2).map (fun k => packW ((List.range 4).map (fun j => (8, x.skew.getD (4 * k + j) 0)))) ++
      (List.range 4).map (fun k => packW ((List.range 2).flatMap (fun j =>
        [(4, x.coefPre.getD (2 * k + j) 0), (5, x.coefPost.getD (2 * k + j) 0), (7, 0)]))) ++
      [w32 x.upTick, w32 x.spoolAcked]) s

def hostStatusCmd : Cmd := ⟨0x1301, [2], false⟩
/-- HOST_STATUS returns a group's state (R342). -/
def execHostStatus (m : Msg) (s : State) : Res := .next (s.mailbox hostStatusCmd m cmdHostStatus)

/-! ## HOST_COUNTERS (0x1302) -/

/-- HOST_COUNTERS. -/
def cmdHostCounters (m : Msg) (s : State) : Reply :=
  let g := m.get 1 0 2
  let c := (s.host g).cnt
  .unless (m.stray 1 0x103) .badArg <|
  .ok (w32 s.snapEdge :: lohi c.txFrames ++ lohi c.rxFrames ++
      [w32 c.txResends, w32 c.nakSent, w32 c.hcrcErr, w32 c.crcErr, w32 c.hunts, w32 c.txDiscard, w32 c.fastExits,
       w32 c.fastFail, w32 c.spoolBad, w32 c.credViol, w32 (s.host g).recoveries])
    (if m.flag 1 8 then s.modHost g (fun x => { x with clr := 1 }) else s)

def hostCountersCmd : Cmd := ⟨0x1302, [2], false⟩
/-- HOST_COUNTERS returns a group's counters (R352). -/
def execHostCounters (m : Msg) (s : State) : Res := .next (s.mailbox hostCountersCmd m cmdHostCounters)

/-! ## HOST_PRBS (0x1303) -/

/-- The checker of lane `l` after what the lane has brought from the start of the test to edge `upto` (R353): what the lanes bring is a
free value (log 15). -/
def LaneGroup.checker (x : LaneGroup) (g l upto : Nat) : PrbsCheck :=
  prbsCheck x.prbs.pattern ((List.range (laneTickBits * (upto - x.prbs.start))).map (Config.prbsRx g x.prbs.stamp l))

/-- The result words of HOST_PRBS: LOCKED, and what the checkers have counted since they locked and since the last clear (R353).
DEDUCED: BITS, one number for the group, is the least count among its locked lanes (log 15). -/
def State.prbsWords (s : State) (g : Nat) : List Word :=
  let x := s.host g
  if x.state == .test && x.prbs.check then
    let lanes := (List.range 8).map (fun l => (x.checker g l s.now, x.checker g l x.prbs.clear))
    let bits := (lanes.filter (fun c => c.1.locked)).map (fun c => c.1.bits - c.2.bits)
    packW (lanes.map (fun c => (1, b2n c.1.locked))) :: lohi (wrap64 (bits.foldl Nat.min (bits.headD 0))) ++
      lanes.map (fun c => w32 (sat32 (c.1.errors - c.2.errors)))
  else List.replicate 11 0

/-- HOST_PRBS. -/
def cmdHostPrbs (m : Msg) (s : State) : Reply :=
  let g := m.get 1 0 2
  let x := s.host g
  let p : Prbs := ⟨m.get 1 8 2, m.flag 1 10, m.flag 1 11, 0, 0, 0⟩
  .unless (m.stray 1 0x1F03 || (p.pattern != 0 && !p.gen && !p.check)) .badArg <|
  .unless (!x.cfg.enable || !x.coefValid || !s.domOn (domOfRoot (132 + g))) .wrongState <|
  .ok (s.prbsWords g)
    ((if m.flag 1 12 then s.modHost g (fun x => { x with prbs := { x.prbs with clear := s.now } }) else s).accept
      (.hostPrbs g p))

def hostPrbsCmd : Cmd := ⟨0x1303, [2], false⟩
/-- HOST_PRBS starts or ends a test of a group at the next edge and returns its figures (R353). -/
def execHostPrbs (m : Msg) (s : State) : Res := .next (s.mailbox hostPrbsCmd m cmdHostPrbs)

/-! ## Training (R332 to R335) -/

/-- The physical lane that carries logical lane `n`. -/
def lanePhys (reversed : Bool) (n : Nat) : Nat := if reversed then 7 - n else n

/-- The lanes come in order, or reversed (R335). -/
def laneMap (l : List Nat) : Option Bool :=
  if l = [0, 1, 2, 3, 4, 5, 6, 7] then some false else if l = [7, 6, 5, 4, 3, 2, 1, 0] then some true else none

/-- The skew between the lanes of a group. -/
def skewSpan (l : List Nat) : Nat := l.foldl Nat.max 0 - l.foldl Nat.min (l.headD 0)

/-- ALIGN ends: polarity, order and deskew are fixed, or the attempt fails (R335). -/
def State.hostAlign (s : State) (g : Nat) (b : LaneBlocks) : State :=
  match laneMap b.lanes with
  | none => s.hostFail g 2
  | some rev =>
    if 32 < skewSpan b.skew then s.hostFail g 3
    else s.modHost g (fun x =>
      { x with reversed := rev
               pol := maskBits ((List.range 8).map (fun n => b.invert.getD (lanePhys rev n) false))
               skew := (List.range 8).map (fun n => b.skew.getD (lanePhys rev n) 0)
               stage := if x.retrain then .check else .tune, stageStart := s.now, checkGood := 0
               coefPre := if x.retrain then x.coefPre else List.replicate 8 4
               coefPost := if x.retrain then x.coefPost else List.replicate 8 8
               stPre := zeros8, stPost := zeros8, rxReady := false, req := ⟨0, 0, 0, false, true⟩ })

/-- One tap request (R333): hold clears the status; a new request changes the tap by one code or is answered at limit. -/
def tapRequest (req coef status limit : Nat) : Nat × Nat :=
  if req = 0 ∨ req = 3 then (coef, 0)
  else if status ≠ 0 then (coef, status)
  else if req = 1 then (if limit ≤ coef then (coef, 2) else (coef + 1, 1))
  else if coef = 0 then (coef, 2) else (coef - 1, 1)

/-- The partner's request is carried out on the lane it names (R333). -/
def LaneGroup.tune (x : LaneGroup) (b : LaneBlocks) : LaneGroup :=
  let l := b.reqLane % 8
  let x := { x with stLane := l }
  if b.preset then
    { x with coefPre := x.coefPre.set l 4, coefPost := x.coefPost.set l 8, stPre := x.stPre.set l 1
             stPost := x.stPost.set l 1 }
  else
    let p := tapRequest b.reqPre (x.coefPre.getD l 0) (x.stPre.getD l 0) 15
    let q := tapRequest b.reqPost (x.coefPost.getD l 0) (x.stPost.getD l 0) 31
    { x with coefPre := x.coefPre.set l p.1, coefPost := x.coefPost.set l q.1, stPre := x.stPre.set l p.2
             stPost := x.stPost.set l q.2 }

/-- The own request after the partner's status (R333): a request stays until the status for its lane reads updated or at limit for
each tap that it asks for; hold is then sent until the status reads not updated, and then the next request. What the receiver asks for
is its own choice (Config.laneWant, log 15). -/
def LaneGroup.request (x : LaneGroup) (g : Nat) (b : LaneBlocks) : LaneGroup :=
  let answered := b.stLane == x.req.lane && (x.req.pre == 0 && !x.req.preset || b.stPre != 0) &&
    (x.req.post == 0 && !x.req.preset || b.stPost != 0)
  if !x.req.hold then { x with req := { x.req with hold := answered } }
  else if b.stLane == x.req.lane && (b.stPre != 0 || b.stPost != 0) then x
  else
    let w := Config.laneWant g x.reqNum
    if w.2.1.val = 0 ∧ w.2.2.1.val = 0 ∧ !w.2.2.2 then { x with reqNum := x.reqNum + 1 }
    else { x with req := ⟨w.1.val, w.2.1.val, w.2.2.1.val, w.2.2.2, false⟩, reqNum := x.reqNum + 1 }

/-- The code of a stage in a training block (R332). Before ALIGN the blocks say ALIGN. -/
def HostStage.num : HostStage → Nat
  | .clock | .align => 1 | .tune => 2 | .check => 3

/-- The training block that logical lane `n` of a group sends (R332, R333, R337). -/
def LaneGroup.block (x : LaneGroup) (g n : Nat) : TrainBlock :=
  let ask := fun (v : Nat) => if x.req.hold then 0 else v
  ⟨n, g, if x.state == .training then x.stage.num else 4, x.rxReady, x.req.lane, ask x.req.pre, ask x.req.post,
    x.req.preset && !x.req.hold, x.stLane, x.stPre.getD x.stLane 0, x.stPost.getD x.stLane 0⟩

/-- The ns from the start of an exit from electrical idle at which the training block, the 8 bytes of scrambled zeros and the first
header begin, and by which the receiver is relocked; the clock starts at once (R337). -/
def fastExitTimes : List Nat := [192, 196, 198, 200]

/-- A FAST_EXIT block relocks at the retained polarity and order and within 2 UI of the retained skew (R337). -/
def LaneGroup.relocks (x : LaneGroup) (b : LaneBlocks) : Bool :=
  b.crcOk && laneMap b.lanes == some x.reversed &&
    (List.range 8).all (fun n =>
      b.invert.getD (lanePhys x.reversed n) false == bit x.pol n &&
        decide (b.skew.getD (lanePhys x.reversed n) 0 ≤ x.skew.getD n 0 + 2) &&
        decide (x.skew.getD n 0 ≤ b.skew.getD (lanePhys x.reversed n) 0 + 2))

/-- The partner leaves electrical idle: the receiver relocks, or the group will retrain (R337, R342). -/
def State.hostFastExit (s : State) (g : Nat) (b : LaneBlocks) : State :=
  if (s.host g).relocks b then s.modHost g (fun x => { x with rxEidle := false })
  else if s.edgeq.contains (.hostRetrain g) then s
  else ((s.hostCount g (fun c => { c with fastFail := c.fastFail + 1 })).modHost g (fun x =>
    { x with lastFail := 6 })).atEdge (.hostRetrain g)

/-- The group's units work. -/
def State.hostOn (s : State) (g : Nat) : Bool := decide (g < 4) && s.powered (132 + g)

/-- HOST_TRAINING_BLOCK: training blocks on the lanes of a group (R332 to R335, R337). -/
def execHostTrainingBlock (g : Nat) (b : LaneBlocks) (s : State) : Res :=
  let x := s.host g
  if s.hostOn g then
    match x.state with
    | .training =>
      match x.stage with
      | .clock => .next (s.modHost g (fun x => { x with stage := .align, stageStart := s.now, rxEidle := false }))
      | .align => .next (if b.crcOk then s.hostAlign g b else s)
      | .tune =>
        if b.crcOk then
          let s := s.modHost g (fun x =>
            { ((x.tune b).request g b) with rxReady := x.rxReady || b.tuned })
          .next (if (s.host g).rxReady && b.rxReady then
            s.modHost g (fun x => { x with stage := .check, stageStart := s.now, coefValid := true, checkGood := 0 })
          else s)
        else .next s
      | .check => .next s
    | .up => .next (if b.stage = 4 ∧ x.rxEidle then s.hostFastExit g b else s)
    | .off | .disabled | .test | .waiting => .next s
  else .next s

/-- The timeout of a stage in ticks and the failure it gives (R334). ALIGN has no failure of its own for a MARK that is
not found; ALIGN_MAP is given (log 15). -/
def hostLimit : HostStage → Nat × Nat
  | .clock => (8, 1) | .align => (8, 2) | .tune => (12000, 4) | .check => (8, 5)

/-- HOST_TRAINING_TIMEOUT (R334). -/
def execHostTrainingTimeout (g : Nat) (s : State) : Res :=
  let x := s.host g
  if s.hostOn g && x.state == .training && decide (x.stageStart + (hostLimit x.stage).1 ≤ s.now) then
    .next (s.hostFail g (hostLimit x.stage).2)
  else .next s

/-! ## Lane packets (R338 to R348) -/

/-- A NAK is sent (R340). -/
def State.sendNak (s : State) (g : Nat) : State :=
  (s.modHost g (fun x => { x.turned with nakOwed := true, nakSentAt := some s.now })).hostCount g (fun c =>
    { c with nakSent := c.nakSent + 1 })

/-- A rejected sequenced packet, or a hunt, draws one NAK until the expected SEQ arrives (R340). -/
def State.reject (s : State) (g : Nat) : State := if (s.host g).nakOwed then s else s.sendNak g

/-- A SPOOL_ACK (R348): ignored when N precedes the last accepted value, ignored and counted when it follows the highest
sequence sent, otherwise passed to the spool at the next edge. -/
def State.spoolAck (s : State) (g n : Nat) : State :=
  let x := s.host g
  let ahead := fun (a b : Nat) => decide ((b + 2 ^ 32 - a) % 2 ^ 32 < 2 ^ 31)
  if !ahead x.spoolAcked n then s
  else if !ahead n x.spoolSent then s.hostCount g (fun c => { c with spoolBad := c.spoolBad + 1 })
  else s.modHost g (fun x => { x with spoolAcked := n, ackNext := some n })

/-- A NAK asks for a resend unless it lies below one already acted on (R341). -/
def LaneGroup.nakActs (x : LaneGroup) (seq : Nat) : Bool :=
  match x.lastNakSeq with
  | none => true
  | some k => decide ((seq + 4096 - k) % 4096 < 2048)

/-- A resend (R341): everything after ACK_SEQ goes out again. -/
def State.laneResend (s : State) (g : Nat) : State :=
  if (s.host g).unacked.isEmpty then s
  else (s.modHost g (fun x => { x.sendAgain with resends := x.resends + 1, idle := 0 })).hostCount g (fun c =>
    { c with txResends := c.txResends + 1 })

/-- The acknowledgement and credit fields of a good header act on receipt (R340, R343). -/
def State.laneFields (s : State) (g : Nat) (p : LanePacket) : State :=
  let s := if p.ackType = 1 ∨ p.ackType = 2 then s.laneAcked g p.ackSeq else s
  let s := s.modHost g (fun x => { x with grantIn := x.grantIn.set (p.crSc % 8) (p.crGrant % 2 ^ 16) })
  let s := if p.ackType = 2 ∧ (s.host g).nakActs p.ackSeq then
      (s.modHost g (fun x => { x with lastNakSeq := some p.ackSeq })).laneResend g
    else s
  s.flushSide g

/-- A sequenced packet of class `sc` goes beyond the credit granted to the partner (R343, R345). -/
def LaneGroup.beyond (x : LaneGroup) (sc len : Nat) : Bool :=
  !decide ((x.grantOut.getD sc 0 + 2 ^ 16 - (x.usedIn.getD sc 0 + creditNeed len) % 2 ^ 16) % 2 ^ 16 < 2 ^ 15)

/-- An accepted packet consumes credits of its class (R343). -/
def LaneGroup.takeCredit (x : LaneGroup) (sc len : Nat) : LaneGroup :=
  { x with usedIn := x.usedIn.set sc ((x.usedIn.getD sc 0 + creditNeed len) % 2 ^ 16) }

/-- Credits go back at the commit of this tick (R345). -/
def LaneGroup.creditDue (x : LaneGroup) (sc len : Nat) : LaneGroup :=
  { x with grantDue := lmod x.grantDue sc (fun n => n + creditNeed len) }

/-- A packet beyond its credit is counted, and what it carries discarded (R345). -/
def State.creditViolation (s : State) (g : Nat) : State := s.hostCount g (fun c => { c with credViol := c.credViol + 1 })

/-- A FRAME packet that was accepted (R345): beyond its credit it is discarded and counted. A frame that fails its own check is
discarded, counted once, and never classified: its credits go back at the commit of its tick (R22; log 84). -/
def State.laneFrame (s : State) (g : Nat) (p : LanePacket) : State :=
  let sc := p.sc % 8
  let beyond := (s.host g).beyond sc p.len
  let s := (s.modHost g (fun x => x.takeCredit sc p.len)).hostCount g (fun c => { c with rxFrames := c.rxFrames + 1 })
  if beyond then s.creditViolation g
  else
    match p.frame with
    | some f =>
      if f.fits && !p.frameBad then s.arriveHost (132 + g) f sc (creditNeed p.len)
      else s.modHost g (fun x => { x.creditDue sc p.len with badFrames := x.badFrames + 1 })
    | none => s

/-- A SIDEBAND packet that was accepted consumes credits of class 7, which go back at the commit of its tick; beyond its credit it is
discarded and counted like a frame (R338, R343, R345; DEDUCED, log 15: R345 names frames only). -/
def State.laneSide (s : State) (g : Nat) (p : LanePacket) : State :=
  let beyond := (s.host g).beyond 7 p.len
  let s := s.modHost g (fun x => x.takeCredit 7 p.len)
  if beyond then s.creditViolation g
  else
    let s := s.modHost g (fun x => x.creditDue 7 p.len)
    match p.words with
    | [] => s
    | ctrl :: words => s.sideband g ctrl words

/-- A good packet of a sequenced type (R340): accepted when it is the expected one, otherwise rejected. -/
def State.laneSequenced (s : State) (g : Nat) (p : LanePacket) : State :=
  if p.seq = (s.host g).rxExpect then
    let s := s.modHost g (fun x =>
      { x with rxExpect := (x.rxExpect + 1) % 4096, nakOwed := false, nakSentAt := none, owes := true })
    if p.type = 1 then s.laneFrame g p else s.laneSide g p
  else s.reject g

/-- A lane packet in UP (R338 to R348). In hunt, a first header with a good HCRC is only the one that a second confirms, at the offset
that its LEN gives (R339; DEDUCED, log 15: the first one's packet is not taken). -/
def State.laneUp (s : State) (g : Nat) (p : LanePacket) : State :=
  if !p.hcrcOk then
    if (s.host g).hunting then s.modHost g (fun x => { x with huntOne := false })
    else ((s.modHost g (fun x => { x with hunting := true, huntOne := false })).hostCount g (fun c =>
      { c with hcrcErr := c.hcrcErr + 1, hunts := c.hunts + 1 })).reject g
  else if (s.host g).hunting && !(s.host g).huntOne then s.modHost g (fun x => { x with huntOne := true })
  else
    let s := s.modHost g (fun x => { x with hunting := false, huntOne := false })
    if !p.crcOk then
      let s := s.hostCount g (fun c => { c with crcErr := c.crcErr + 1 })
      if p.type = 1 ∨ p.type = 2 then s.reject g else s
    else
      let s := s.laneFields g p
      if p.type = 1 ∨ p.type = 2 then s.laneSequenced g p
      else if p.type = 3 then s.spoolAck g p.spoolSeq
      else if p.type = 4 then s.modHost g (fun x => { x with rxEidle := true })
      else s

/-- A lane packet in CHECK: 256 good ones in a row end it, and they carry the initial grants (R334). -/
def State.laneCheck (s : State) (g : Nat) (p : LanePacket) : State :=
  if p.hcrcOk && p.crcOk then
    let s := s.modHost g (fun x =>
      { x with checkGood := x.checkGood + 1, grantIn := x.grantIn.set (p.crSc % 8) (p.crGrant % 2 ^ 16) })
    if 256 ≤ (s.host g).checkGood then s.hostUp g else s
  else s.modHost g (fun x => { x with checkGood := 0 })

/-- LANE_PACKET_RX (R334, R338 to R348). -/
def execLanePacketRx (g : Nat) (p : LanePacket) (s : State) : Res :=
  let x := s.host g
  if s.hostOn g && x.state == .up then .next (s.laneUp g p)
  else if s.hostOn g && x.state == .training && x.stage == .check then .next (s.laneCheck g p)
  else .next s

/-- NAK_REPEAT: the NAK goes out again while the expected SEQ has not arrived (R340). -/
def execNakRepeat (g : Nat) (s : State) : Res :=
  if s.hostOn g && (s.host g).state == .up && (s.host g).nakOwed then .next (s.sendNak g) else .next s

/-- LANE_RESEND: 2 us without ACK progress, or a NAK (R341). -/
def execLaneResend (g : Nat) (s : State) : Res :=
  if s.hostOn g && (s.host g).state == .up then .next (s.laneResend g) else .next s

/-- A cause of R342 holds: 6 FAST_EXIT_FAIL, 7 RETRY_EXHAUSTED, 8 CLOCK_LOST. -/
def LaneGroup.retrainCause (x : LaneGroup) (cause : Nat) : Bool :=
  x.state == .up &&
    (match cause with
     | 6 => x.rxEidle
     | 7 => decide (8 ≤ x.resends)
     | 8 => !x.rxEidle
     | _ => false)

/-- HOST_RETRAIN: the group leaves UP at the next edge (R342), unless it is to do so already. -/
def execHostRetrain (g : Nat) (cause : Nat) (s : State) : Res :=
  if s.hostOn g && (s.host g).retrainCause cause && !s.edgeq.contains (.hostRetrain g) then
    let s := if cause = 6 then s.hostCount g (fun c => { c with fastFail := c.fastFail + 1 }) else s
    .next ((s.modHost g (fun x => { x with lastFail := cause })).atEdge (.hostRetrain g))
  else .next s

/-! ## Electrical idle (R336, R337) -/

/-- The EIDLE packet that a group sends before it enters electrical idle (R336, R338). -/
def LaneGroup.eidlePacket (x : LaneGroup) : LanePacket := x.fill false { idlePacket with type := 4 }

/-- A lane group goes into electrical idle: EI_EN with EI_IDLE ticks of quiet (R336), or because its domain closes, whatever EI_EN
is (R482). -/
def State.eidleDue (s : State) (g : Nat) : Bool :=
  let x := s.host g
  (x.cfg.eiEn && decide (x.cfg.eiIdle ≤ x.idle)) || s.domClosing (domOfRoot (132 + g))

/-- ELECTRICAL_IDLE_ENTRY: behind an EIDLE packet that acknowledges everything received (R336, R482). -/
def execElectricalIdleEntry (g : Nat) (s : State) : Res :=
  let x := s.host g
  if s.hostOn g && x.state == .up && s.eidleDue g && !x.txEidle && x.unacked.isEmpty && !x.nakOwed then
    .next (s.modHost g (fun x => { x.turned with txEidle := true, owes := false }))
  else .next s

/-- Something waits to be sent (R337). -/
def State.hostWants (s : State) (g : Nat) : Bool :=
  let x := s.host g
  s.sched.active.contains (132 + g) || !x.sideWait.isEmpty || !x.unacked.isEmpty || x.nakOwed || x.owes

/-- ELECTRICAL_IDLE_EXIT (R337); it ends a calibration gap (R566). -/
def execElectricalIdleExit (g : Nat) (s : State) : Res :=
  let x := s.host g
  if s.hostOn g && x.state == .up && x.txEidle && s.hostWants g then
    .next ((((s.cutSlice (132 + g)).modHost g (fun x =>
      { x with txEidle := false, idle := 0, owes := false })).hostCount g (fun c =>
      { c with fastExits := c.fastExits + 1 })).flushSide g)
  else .next s

/-! ## Sideband, spool acknowledgements, faults -/

/-- SIDEBAND_PACKET: an accepted host SIDEBAND packet carries a GO or CANCEL for channel 1 (R346, R347). -/
def execSidebandPacket (g : Nat) (ctrl : Word) (words : List Word) (s : State) : Res :=
  if s.hostOn g && (s.host g).state == .up then .next (s.sideband g ctrl words) else .next s

/-- SPOOL_ACK (R348). -/
def execSpoolAck (g : Nat) (n : Nat) (s : State) : Res :=
  if s.hostOn g && (s.host g).state == .up then .next (s.spoolAck g (n % 2 ^ 32)) else .next s

/-- The codes of R349. -/
def isHostFault (code : Nat) : Bool := code == 0x1501 || code == 0x1502

/-- HOST_LANE_FAULT (R349). -/
def execHostLaneFault (g : Nat) (code : Nat) (s : State) : Res :=
  if decide (g < 4) && isHostFault code then
    .next (if s.hostOn g then s.hostFault g code else s.dampedFault code (132 + g))
  else .next s

end Machine
end Sys2Proof
end

