-- ==== Sys2Proof/Machine/LineTx.lean ====
section
/-! DEFINITION. What a line channel's own transmitter sends in LR10 (05): its negotiation pages, its InfoFields, its superframes
with their flags and OAM blocks, and how it moves through low-power idle, sleep and wake, superframe by superframe. -/
namespace Sys2Proof
namespace Machine

/-! ## Negotiation pages and InfoFields (R147, R150, R172 to R176, R178) -/

/-- The own Halonny ability word (R148): LR10 and what the settings allow. -/
def Line.halOwn (l : Line) : Nat :=
  halWord (!l.cfg.neg || bit l.cfg.adv 5) l.cfg.lpiEn l.cfg.sleepEn l.cfg.resumeEn l.cfg.userEn

/-- The pages that a negotiating channel sends: the base page with the standard modes of ADV and the master-slave bits of ROLE,
and with LR10 in ADV the message page with the Halonny identifier and the page with the ability word (R147, R150). -/
def Line.anPages (l : Line) : List AnPage :=
  .base (l.cfg.adv % 32) (decide (l.cfg.role < 2)) (l.cfg.role % 2 == 1) ::
    (if bit l.cfg.adv 5 then [.message 0x6A2DC4#24, .unformatted (BitVec.ofNat 16 l.halOwn)] else [])

/-- The SEED_OFS that a channel announces: its position in its bundle group (R161, R200). -/
def seedOf (ch : Nat) : Nat := ch % 4

/-- The TYPE that an end sends in a stage (R173, R178): a resumed link counts down in RESUME frames. -/
def Line.infoType (l : Line) : Nat :=
  match l.train.stage with
  | 1 => 1
  | 2 => 2
  | 3 => 3
  | 4 => 4
  | 5 => if l.resumed then 6 else 5
  | _ => 6

/-- The InfoField of training frame `k` of the present stage, counted from 0, as the channel sends it (R172 to R176, R178); none in
stage 0, before the edge has decided the start, and at a slave before LOCK. `snr` is the own receive SNR. DESIGN CHOICE: a slave
sends RESUME_ID from stage 4 on as the master does; in stage 7, where the countdown of 16 frames is still to come, COUNTDOWN is
16 (log 88). -/
def Line.infoSent (l : Line) (ch snr k : Nat) : Option Info :=
  let t := l.train
  if l.state != .training || l.mode != 6 || t.fresh || t.stage == 0 || (t.stage == 1 && l.slave && !t.lockOwn) then none
  else
    let idx := k % 4
    some
      { type := l.infoType, version := 1, role := l.slave, lock := t.lockOwn, ack := decide (8 ≤ t.typeCount)
        pamRdy := t.pamOwn || decide (4 ≤ t.stage), pam4 := t.pam4 || decide (4 ≤ t.stage)
        eqDone := t.eqOwn || decide (4 ≤ t.stage), able := l.cfg.resumeEn, seed := seedOf ch
        count := if t.stage = 5 then 15 - k else if t.stage = 7 then 16 else 0
        snr := if l.locked then snr else 0xFFFF
        resume := if 4 ≤ t.stage then l.bank.resumeId.toNat else 0
        b8 := if t.stage = 2 then l.halOwn % 256 else if t.stage = 4 then idx else 0
        field := if t.stage = 2 then l.cfg.backoff
          else if t.stage = 4 then packCoefs ((List.range 4).map (fun j => l.bank.rxSet.coefs.getD (4 * idx + j) 0)) else 0
        ntaps := if t.stage = 4 then l.bank.rxSet.coefs.length else 0 }

/-- The symbols of the training frame that a channel sends: those of its InfoField, and in stage 7 and in a resumed stage 5
through its precoder, which runs on from the outputs `past` before it (R165, R172, R178). -/
def Line.frameSent (l : Line) (ch snr k : Nat) (past : List Int) : Option (List Int) :=
  (l.infoSent ch snr k).map (fun i =>
    let x := i.symbols
    if i.type = 6 then precodeRun l.bank.txSet.coefs past x else x.map (· * 512))

/-! ## The own SFM (R157, R158) -/

/-- The own RX_OK: locked, and no uncorrectable codeword in the last 64 superframes (R158). -/
def LineSfm.rxOk (f : LineSfm) : Bool := f.lock && f.okOwn == 0

/-- The transmitter is leaving low-power idle. -/
def Lpi.wakes : Lpi → Bool
  | .waking _ => true
  | .active | .entering _ | .quiet _ | .refresh _ => false

/-- The FLAGS of the SFM of the superframe that begins, once it has begun (R158, R171, R179, R180). DEDUCED: LPI_REQ stays set in the third superframe of an
entry, in which the sender is in low-power idle already (log 56). -/
def Line.sfmFlags (l : Line) : SfmFlags where
  rxOk := l.sfm.rxOk
  remFault := l.sfm.lost || l.sfm.okOwn != 0
  lpiReq := match l.lpiTx with
    | .entering _ | .refresh _ => true
    | .active | .quiet _ | .waking _ => false
  sleepReq := match l.sleep with
    | .sending _ => true
    | .none | .waking | .lpi | .silent | .tone _ => false
  sleepAck := l.slpAsked && l.cfg.sleepEn
  wake := l.lpiTx.wakes
  coefSet := l.bank.txSet.set
  down := match l.sleep with
    | .sending d => d
    | .none | .waking | .lpi | .silent | .tone _ => 0

/-- The SFM bytes of that superframe (R157). -/
def Line.sfmSent (l : Line) : List Byte := sfmBytes (l.sfTx.getD 0) l.sfmFlags

/-! ## The own OAM channel (R169, R170, R223) -/

/-- A signed number of 16 bits, least significant byte first. -/
def int16Bytes (x : Int) : List Byte := leBytes 2 (ofInt 16 x)

/-- The body of a STATUS message: MSE, SQI, and corrected symbols and uncorrectable codewords since the last, saturating (R170,
R223). -/
def Line.statusBody (l : Line) : List Byte :=
  int16Bytes (-l.statSnap.1) ++ leBytes 1 l.statSnap.2 ++ leBytes 2 (sat16 l.statCorr) ++ leBytes 2 (sat16 l.statUncorr)

/-- The body of a COEF message (R170, R171). -/
def coefBody (c : CoefSet) (act : Nat) : List Byte :=
  leBytes 1 c.set ++ leBytes 4 act ++ leBytes 1 c.coefs.length ++
    leBytes 24 (packCoefs ((List.range 16).map (fun i => c.coefs.getD i 0))) ++ leBytes 3 0

/-- The blocks of a message of a class as bytes, from SEQ `seq` on: LEN, then the body (R170). -/
def messageBlocks (cls seq : Nat) (body : List Byte) : List (List Byte) :=
  (oamBlocks cls 2 true seq (leBytes 1 body.length ++ body)).map OamBlock.bytes

/-- An EMPTY block (R170). -/
def emptyBlock (seq : Nat) : List Byte := OamBlock.bytes ⟨true, true, 0, seq % 256, []⟩

/-- A STATUS message is due: DESIGN CHOICE, 8 superframes after the one before, so that with a quiet period of 224 superframes
between it still goes out at least once every 256 (R170; log 56). -/
def statusDue : Nat := 8

/-- A channel that has nothing of a message left to send takes the next: COEF first, then STATUS, then USER (R170). A COEF message
names its ACT as it goes out, at least 64 superframes after the SF_COUNT last received (R171). -/
def Line.oamLoad (l : Line) : Line :=
  if !l.oamOut.isEmpty then l
  else if l.coefDue then
    match l.coefRx with
    | some (c, _, fold) =>
      let act := (l.sfm.lastSf + 64 + l.coefLater) % 2 ^ 32
      { l with coefDue := false, coefRx := some (c, act, fold), oamOut := messageBlocks 2 l.oamSeqTx (coefBody c act) }
    | none => { l with coefDue := false }
  else if statusDue ≤ l.statAge then
    { l with statAge := 0, statCorr := 0, statUncorr := 0, oamOut := messageBlocks 1 l.oamSeqTx l.statusBody }
  else
    match l.oamTx with
    | m :: t => { l with oamTx := t, oamOut := messageBlocks 3 l.oamSeqTx m }
    | [] => l

/-- The bytes of the next OAM block, and the channel after it: a block of a message, or EMPTY (R169, R170). -/
def Line.oamNext (l : Line) : List Byte × Line :=
  let l := l.oamLoad
  let seq := (l.oamSeqTx + 1) % 256
  match l.oamOut with
  | b :: t => (b, { l with oamOut := t, oamSeqTx := seq })
  | [] => (emptyBlock l.oamSeqTx, { l with oamSeqTx := seq })

/-! ## From superframe to superframe (R157, R171, R179 to R181, R229, R230) -/

/-- Low-power idle of the transmitter once its next superframe has begun, or would begin; `next` is the first tick that is quiet
as a whole. The entry takes three superframes, a refresh eight, a wake four, and quiet or data follow (R179). -/
def Lpi.begin (p : Lpi) (next : Nat) : Lpi :=
  match p with
  | .active => .active
  | .entering n => if 3 ≤ n then .quiet next else .entering (n + 1)
  | .quiet t => .quiet t
  | .refresh n => if 8 ≤ n then .quiet next else .refresh (n + 1)
  | .waking n => if 4 ≤ n then .active else .waking (n + 1)

/-- Low-power idle as the next superframe begins: a wake trigger abandons an entry whose first superframe has begun (R230). -/
def Line.lpiBegun (l : Line) (next : Nat) : Line :=
  match l.lpiTx, l.wakeReq with
  | .entering (_ + 1), true => { l with lpiTx := .waking 1, wakeReq := false }
  | p, _ => { l with lpiTx := p.begin next }

/-- The sleep handshake that waited for the end of a wake begins with the superframe after it (R181). -/
def Line.sleepBegun (l : Line) : Line :=
  if l.sleep = .waking ∧ l.lpiTx = Lpi.active then { l with sleep := .sending 15 } else l

/-- The precoder as the superframe `sf` begins: at ACT the coefficients received are taken over, and where ACT has already passed,
modulo 2^32, the present ones stay (R171). -/
def Line.coefSwitch (l : Line) (sf : Nat) : Line :=
  match l.coefTx with
  | none => l
  | some (c, act) =>
    if sf = act then { l with coefTx := none, bank := { l.bank with txSet := c } }
    else if (sf + 2 ^ 32 - act) % 2 ^ 32 < 2 ^ 31 then { l with coefTx := none }
    else l

/-- A channel whose next superframe has begun. -/
def Line.begun (l : Line) (next : Nat) : Line := ((l.lpiBegun next).sleepBegun).coefSwitch (l.sfTx.getD 0)

/-- The superframe of a channel that has begun it, with the MAC blocks it is given (R156, R157, R169, R179): its SFM and two OAM
blocks. -/
def Line.superframe (l : Line) (mac : List (List Bool)) : Superframe :=
  ⟨mac, l.sfmSent, l.oamNext.1, l.oamNext.2.oamNext.1⟩

/-- What its MAC blocks carry besides frames (R179): Clause 49 LPI in the superframe after the two with LPI_REQ and in a refresh,
idle in a wake. -/
def Line.macFill (l : Line) : MacChar :=
  match l.lpiTx with
  | .entering n => if 3 ≤ n then .lpi else .idle
  | .refresh _ => .lpi
  | .active | .quiet _ | .waking _ => .idle

/-- Its line symbols, in 2^-9, from the outputs before it (R154, R161, R165). -/
def Line.symbolsSent (l : Line) (ch : Nat) (mac : List (List Bool)) (past : List Int) : List Int :=
  (l.superframe mac).symbols l.slave (seedOf ch) l.bank.txSet.coefs past

/-- The sleep handshake after the SFM of a superframe: DOWNCOUNT 15 to 0, then silence (R180). -/
def Sleep.begin : Sleep → Sleep
  | .sending 0 => .silent
  | .sending (d + 1) => .sending d
  | .none => .none | .waking => .waking | .lpi => .lpi | .silent => .silent | .tone e => .tone e

/-- One superframe begins: low-power idle, sleep and precoder, its two OAM blocks unless the transmitter is quiet, SF_COUNT (R157,
R169). -/
def Line.sendSf (l : Line) (next : Nat) : Line :=
  let l := l.begun next
  let l := if l.lpiTx.quietNow then l else l.oamNext.2.oamNext.2
  { l with sfTx := l.sfTx.map (fun k => (k + 1) % 2 ^ 32), statAge := l.statAge + 1, sleep := l.sleep.begin }

/-- `n` superframes begin one after another. -/
def Line.sendSfs (l : Line) (next : Nat) : Nat → Line
  | 0 => l
  | n + 1 => (l.sendSf next).sendSfs next n

/-- A wake trigger of the tick that has ended, unless it has abandoned an entry, wakes the transmitter with the superframes from this
edge on: DESIGN CHOICE, a trigger counts at the end of its tick, the latest that R230 allows (log 56). -/
def Line.lpiTriggered (l : Line) : Line :=
  if l.wakeReq then { l with wakeReq := false, lpiTx := if l.lpiTx.wakes || l.lpiTx == .active then l.lpiTx else .waking 0 } else l

/-- Low-power idle of a standard mode from edge to edge: entry and wake take less than a tick (R183, R230). -/
def Lpi.std (p : Lpi) (next : Nat) : Lpi :=
  match p with
  | .entering _ => .quiet next
  | .waking _ => .active
  | .active => .active | .quiet t => .quiet t | .refresh n => .refresh n

/-- The transmitter of a channel at edge `now`: an LR10 channel in data mode has begun the superframes of 4.352 us that the tick held,
and one that has counted down begins superframe 0 at the first edge after it entered stage 5 (R156, R176; DESIGN CHOICE, log
56: the superframes of a tick are taken together at the edge that ends it, with a tick of 25 us). STATUS messages sent from
here on carry the snapshot just taken (R223). -/
def Line.txEdge (l : Line) (now : Nat) (snap : Int × Nat) : Line :=
  let l :=
    if l.mode = 6 then
      match l.sfTx with
      | some _ =>
        let n := ceilDiv (25000 - l.sfPhase) 4352
        { (l.sendSfs now n) with sfPhase := l.sfPhase + 4352 * n - 25000 }
      | none =>
        if l.state == .training && l.train.stage == 5 then { l with sfTx := some 0, sfPhase := 0 } else l
    else { l with lpiTx := l.lpiTx.std now }
  { l.lpiTriggered with statSnap := snap }

/-- What follows for the channel from its transmitter at an edge: a wake that has completed brings LPI back to UP, and the sleep
handshake that waited for it begins (R179, R181); low-power idle that LINE_CONFIG no longer allows ends (R229); a handshake or
LPI assertion that is over leaves the channel ASLEEP and silent (R180, R183); after its tone the channel resumes (R182). -/
def State.txOutcome (s : State) (ch : Nat) (allowed : Bool) : State :=
  let l := s.line ch
  let s := if l.state == .lpi && l.lpiTx == .active then s.lineSt ch .up else s
  let s := match l.sleep with
    | .waking => if l.lpiTx = Lpi.active then s.modLine ch Line.sleepBegun else s
    | .lpi => if l.lpiTx.quietNow then s.modLine ch (fun l => { l with sleep := .silent }) else s
    | .none | .sending _ | .silent | .tone _ => s
  let s := if l.state == .lpi && !allowed && l.sleep == .none && !l.lpiTx.wakes && l.lpiTx != .active then
    s.modLine ch (fun l => { l with lpiTx := .waking 0, idle := 0 }) else s
  match (s.line ch).sleep with
  | .silent => if (s.line ch).linked then (s.lineDown ch .asleep).modLine ch (fun l => { l with sleep := .silent }) else s
  | .tone e => if e ≤ s.now then s.lineStart ch s.now true else s
  | .none | .waking | .lpi | .sending _ => s

end Machine
end Sys2Proof
end

