-- ==== Sys2Proof/Machine/Line.lean ====
section
/-! DEFINITION. Line mode commands and the reception of line signals (05): LINE_CONFIG to LINE_OAM_READ, negotiation,
training, superframes, OAM, precoder, low-power idle, sleep and wake. -/
namespace Sys2Proof
namespace Machine

/-! ## LINE_CONFIG (0x1000) -/

/-- The settings that a LINE_CONFIG carries. -/
def lineCfgOf (m : Msg) : LineCfg where
  enable := m.flag 1 8
  neg := m.flag 1 9
  role := m.get 1 10 2
  mode := m.get 1 12 4
  lpiEn := m.flag 1 16
  sleepEn := m.flag 1 17
  userEn := m.flag 1 18
  resumeEn := m.flag 1 19
  backoff := m.get 2 8 4
  adv := m.get 2 0 6

/-- BAD_ARG of LINE_CONFIG. -/
def lineCfgBad (m : Msg) : Bool :=
  let c := lineCfgOf m
  m.stray 1 0x000FFF7F || m.stray 2 0x00000F3F || decide (95 < m.get 1 0 7) ||
  (!c.neg && (decide (c.mode < 1) || decide (6 < c.mode) || decide (2 ≤ c.role))) ||
  (c.neg && (c.mode != 0 || (c.adv == 0 && c.enable)))

/-- A line channel is designated as a fabric link by every command completed so far (R435). -/
def State.designated (s : State) (root : Nat) : Bool :=
  s.cfgq.foldl (fun d e => match e with
    | .fabLink r on _ _ => if r = root then on else d
    | _ => d) (match tfind s.fabric.links root with | some l => l.designated | none => false)

/-- CONFLICT of LINE_CONFIG (R145, R201, R435). -/
def State.lineCfgConflict (s : State) (ch : Nat) (c : LineCfg) : Bool :=
  let b := s.bundleCfg (ch / 4)
  (b.1 && (c.role == 1 || c.role == 3)) ||
  (s.designated ch && (if c.neg then c.adv &&& 0x0F != 0 else c.mode != 0 && c.mode != 5 && c.mode != 6)) ||
  (b.1 && c.enable && (c.neg || c.mode != b.2))

/-- LINE_CONFIG. -/
def cmdLineConfig (m : Msg) (s : State) : Reply :=
  let ch := m.get 1 0 7
  let c := lineCfgOf m
  .unless (lineCfgBad m) .badArg <|
  .unless (s.lineCfgConflict ch c) .conflict <|
  .unless (!s.domOn (domOfRoot ch) || (s.line ch).isolated) .wrongState <|
  .ok (lohi s.nextEdge) (s.accept (.line ch c))

/-- The row of LINE_CONFIG. -/
def lineConfigCmd : Cmd := ⟨0x1000, [3], false⟩
/-- LINE_CONFIG enables, disables or reconfigures a line channel at the next edge (R142, R185). -/
def execLineConfig (m : Msg) (s : State) : Res := .next (s.mailbox lineConfigCmd m cmdLineConfig)

/-! ## LINE_STATUS (0x1001) -/

/-- RET0 of LINE_STATUS. -/
def Line.status0 (l : Line) : Word :=
  packW [(3, l.state.num), (1, 0), (3, if l.mode = 6 && l.state == .training then l.train.stage else 0), (1, 0),
    (4, l.mode), (1, b2n l.slave), (1, 0), (1, b2n l.resumed), (1, 0), (8, l.lastFail), (8, l.attempts)]

/-- LINE_STATUS. -/
def cmdLineStatus (m : Msg) (s : State) : Reply :=
  let ch := m.get 1 0 7
  let l := s.line ch
  .unless (m.stray 1 0x7F || decide (95 < ch)) .badArg <|
  .ok ([l.status0, packW [(16, l.peerHal), (6, l.peerStd)]] ++ lohi l.upTick ++
    [packW [(16, l.peerSnr), (4, l.peerSeed), (4, l.sfm.coefSet)]]) s

def lineStatusCmd : Cmd := ⟨0x1001, [2], false⟩
/-- LINE_STATUS returns a channel's state (R177). -/
def execLineStatus (m : Msg) (s : State) : Res := .next (s.mailbox lineStatusCmd m cmdLineStatus)

/-! ## LINE_RETRAIN (0x1002) -/

/-- LINE_RETRAIN. -/
def cmdLineRetrain (m : Msg) (s : State) : Reply :=
  let ch := m.get 1 0 7
  .unless (m.stray 1 0x17F || decide (95 < ch)) .badArg <|
  .unless (!(s.lineCfg ch).enable || !s.domOn (domOfRoot ch) || (s.line ch).isolated) .wrongState <|
  .ok (lohi s.nextEdge) (s.accept (.lineRetrain ch (m.flag 1 8)))

def lineRetrainCmd : Cmd := ⟨0x1002, [2], false⟩
/-- LINE_RETRAIN takes a link down at the next edge and restarts its training (R178). -/
def execLineRetrain (m : Msg) (s : State) : Res := .next (s.mailbox lineRetrainCmd m cmdLineRetrain)

/-! ## LINE_OAM_SEND (0x1003), LINE_OAM_READ (0x1004) -/

/-- The first `n` data bytes of a message from word `k` on, lowest byte first. -/
def msgBytes (m : Msg) (k n : Nat) : List Byte :=
  ((m.args.drop (k - 1)).flatMap (fun w => leBytes 4 w.toNat)).take n

/-- LINE_OAM_SEND. -/
def cmdLineOamSend (m : Msg) (s : State) : Reply :=
  let ch := m.get 1 0 7
  let len := m.get 1 8 8
  let l := s.line ch
  .unless (m.stray 1 0xFF7F || decide (95 < ch) || len == 0 || decide (48 < len) ||
    m.len != 2 + ceilDiv len 4) .badArg <|
  .unless (l.mode != 6 || l.state != .up || !l.cfg.userEn || !bit l.peerHal 4) .wrongState <|
  .unless (decide (4 ≤ l.oamTx.length)) .noResource <|
  .ok [packW [(3, 3 - l.oamTx.length)]]
    (s.modLine ch (fun l => { l with oamTx := l.oamTx ++ [msgBytes m 2 len] }))

def lineOamSendCmd : Cmd := ⟨0x1003, [2, 3, 4, 5, 6, 7, 8, 9, 10, 11, 12, 13, 14, 15, 16], false⟩
/-- LINE_OAM_SEND queues a USER message on a channel's OAM channel (R170). -/
def execLineOamSend (m : Msg) (s : State) : Res := .next (s.mailbox lineOamSendCmd m cmdLineOamSend)

/-- LINE_OAM_READ. -/
def cmdLineOamRead (m : Msg) (s : State) : Reply :=
  let ch := m.get 1 0 7
  let l := s.line ch
  let data := l.oamRx.headD []
  .unless (m.stray 1 0x7F || decide (95 < ch)) .badArg <|
  .ok (packW [(8, data.length), (8, l.oamRx.length - 1), (16, l.oamLost)] :: bytesToWords 12 data)
    (s.modLine ch (fun l => { l with oamRx := l.oamRx.tail, oamLost := 0 }))

def lineOamReadCmd : Cmd := ⟨0x1004, [2], false⟩
/-- LINE_OAM_READ returns and removes the oldest received USER message (R187). -/
def execLineOamRead (m : Msg) (s : State) : Res := .next (s.mailbox lineOamReadCmd m cmdLineOamRead)

/-! ## Negotiation (R147 to R150) -/

/-- The mode that a negotiation resolves to: the first that both ends offer (R149). -/
def anResolve (adv std : Nat) (hal : Option Nat) : Option Nat :=
  let lr := match hal with | some h => bit h 0 && fld h 8 4 == 1 | none => false
  if bit adv 5 && lr then some 6
  else if bit adv 4 && bit std 4 then some 5
  else if bit adv 3 && bit std 3 then some 4
  else if bit adv 2 && bit std 2 then some 3
  else if bit adv 1 && bit std 1 then some 2
  else if bit adv 0 && bit std 0 then some 1
  else none

/-- The own role after an exchange (R150): true for slave, none for AN_MS_FAULT. A forced end governs; equal
preferences are settled by the exchange itself. -/
def anRole (role : Nat) (x : AnExchange) : Option Bool :=
  let ownForced := decide (role < 2)
  let ownSlave := role % 2 == 1
  if ownForced && x.forced then (if ownSlave == x.slave then none else some ownSlave)
  else if ownForced then some ownSlave
  else if x.forced then some (!x.slave)
  else if ownSlave != x.slave then some ownSlave
  else some (!x.weMaster)

/-- AN_PAGE_RX: a Clause 98 exchange resolves the mode and the role and training starts as part of the same attempt, or it
fails and, but for AN_MS_FAULT, starts again (R96, R149, R150). -/
def execAnPageRx (ch : Nat) (x : AnExchange) (s : State) : Res :=
  let l := s.line ch
  if !(decide (ch < 96) && s.powered ch && l.state == .negotiating) then .next s
  else
    let s := s.modLine ch (fun l =>
      { l with peerStd := x.std % 64, peerHal := (x.hal.getD 0) % 65536, eee := x.eee && l.cfg.lpiEn })
    match anResolve l.cfg.adv x.std x.hal with
    | none => .next (s.lineFail ch 0x09)
    | some mode =>
      match anRole l.cfg.role x with
      | none => .next ((s.modLine ch (fun l =>
          { l with lastFail := 0x0A, attemptsDone := l.attemptsDone + 2 })).lineDown ch .waiting)
      | some slave => .next (s.lineTrain ch mode slave (s.now + 1) true false)

/-! ## LR10 training frames (R172 to R178) -/

/-- What every InfoField tells: the partner's SEED_OFS, SNR, LOCK, ACK and how often its present TYPE has come. -/
def Line.hear (l : Line) (i : Info) : Line :=
  { l with peerSeed := i.seed, peerSnr := i.snr
           train := { l.train with
             lockOwn := true, lockPeer := i.lock, ackPeer := i.ack
             typeSeen := i.type
             typeCount := if l.train.typeSeen = i.type then l.train.typeCount + 1 else 1 } }

/-- A stage ends and the next begins (R173). -/
def Line.stageTo (l : Line) (k start : Nat) : Line :=
  { l with train := { l.train with stage := k, stageStart := start, ackPeer := false, typeSeen := 0, typeCount := 0 } }

/-- Full training from stage 1 after a resume that failed (R178). -/
def State.resumeReject (s : State) (ch : Nat) : State :=
  (s.modLine ch (fun l => { l with lastFail := 0x08 })).lineStart ch (s.now + 1) false

/-- All four PRECODER INDEX values have been received. -/
def LineTrain.indexAll (t : LineTrain) : Bool := (List.range 4).all (fun i => t.indexes.any (fun e => e.1 == i))

/-- The coefficients received in the four PRECODER frames (R172). -/
def LineTrain.coefs (t : LineTrain) : List (BitVec 12) :=
  ((List.range 4).flatMap (fun i => match tfind t.indexes i with | some l => l | none => [])).take t.ntaps

/-- The partner's data mode begins: the DFE starts again from zero (R176, R192). -/
def Line.dataBegins (l : Line) : Line :=
  if l.train.dataRx then l
  else { l with train := { l.train with dataRx := true }, bank := l.bank.clear (fun i => i == 2) }

/-- Stage 2 (R173, R174): CAPS tell the partner's abilities and the backoff it requests; with ACK both ways stage 3 begins, and the
backoff is applied from its first frame. -/
def State.stageInfo (s : State) (ch : Nat) (i : Info) : State :=
  let l := s.line ch
  if i.type ≠ 2 then s
  else if i.role == l.slave then s.lineFail ch 0x03
  else
    let s := s.modLine ch (fun l =>
      { l with peerHal := i.b8 % 256 + 256 * i.version
               train := { l.train with capsSeen := true, backoffReq := fld i.field 0 4 } })
    if 8 ≤ l.train.typeCount ∧ l.train.ackPeer then
      s.modLine ch (fun l => { (l.stageTo 3 s.now) with txBackoff := l.train.backoffReq })
    else s

/-- Stage 3 (R173, R175, R192): both ends converge, go over to PAM4 and end it with EQ_DONE in PAM4 frames; the DFE taps are then
rounded to the coefficients for the partner, and a master chooses RESUME_ID (R176). -/
def State.stageEqualise (s : State) (ch : Nat) (f : TrainingFrame) (i : Info) : State :=
  let l := s.line ch
  let t := l.train
  let own := t.pamOwn || f.pamConv
  let peer := t.pamPeer || i.pamRdy
  let pam := t.pam4 || (if l.slave then i.pam4 else own && peer)
  let eo := t.eqOwn || (f.eqDone && pam)
  let ep := t.eqPeer || (i.eqDone && i.pam4)
  let s := s.modLine ch (fun l =>
    { l with train := { l.train with pamOwn := own, pamPeer := peer, pam4 := pam, eqOwn := eo, eqPeer := ep } })
  if eo && ep then
    s.modLine ch (fun l =>
      let l := l.stageTo 4 s.now
      { l with bank := { l.bank with
          rxSet := ⟨0, trimCoefs (foldCoefs [] (l.bank.dfe ch))⟩
          resumeId := if l.slave then l.bank.resumeId else Config.resumeId ch s.now
          resumeAble := l.cfg.resumeEn && i.able } })
  else s

/-- Stage 4 (R173, R176): the partner's coefficients come in four PRECODER frames; with all of them and ACK both ways stage 5
begins, with its precoder set in use. -/
def State.stagePrecode (s : State) (ch : Nat) (i : Info) : State :=
  let s := s.modLine ch (fun l =>
    { l with bank := { l.bank with resumeId := if l.slave then BitVec.ofNat 16 i.resume else l.bank.resumeId
                                   resumeAble := l.cfg.resumeEn && i.able } })
  if i.type ≠ 4 then s
  else
    let s := s.modLine ch (fun l =>
      { l with train := { l.train with ntaps := i.ntaps, indexes := tset l.train.indexes i.b8 (readCoefs 4 i.field) } })
    let t := (s.line ch).train
    if t.indexAll && decide (8 ≤ t.typeCount) && t.ackPeer then
      s.modLine ch (fun l =>
        let l := { l with bank := { l.bank with txSet := ⟨0, l.train.coefs⟩ } }
        l.stageTo 5 s.now)
    else s

/-- Stage 7 (R178): RESUME frames are counted; a wrong RESUME_ID or a missing RESUME_ABLE falls back to full training. When each end
has received 8, the ends count down into data mode. -/
def State.stageResume (s : State) (ch : Nat) (i : Info) : State :=
  let l := s.line ch
  let n := l.train.resumeSeen + 1
  if i.type ≠ 6 then s
  else if BitVec.ofNat 16 i.resume ≠ l.bank.resumeId ∨ !i.able then s.resumeReject ch
  else if n < 8 ∨ !i.ack then s.modLine ch (fun l => { l with train := { l.train with resumeSeen := n } })
  else s.modLine ch (fun l => { l with resumed := true, train := { l.train with resumeSeen := n, stage := 5 } })

/-- The stage work of a good InfoField at a channel in LR10 training (R173 to R178). -/
def State.trainStage (s : State) (ch : Nat) (f : TrainingFrame) (i : Info) : State :=
  let t := (s.line ch).train
  match t.stage with
  | 1 => if t.lockOwn && t.lockPeer then s.modLine ch (fun l => l.stageTo 2 s.now) else s
  | 2 => s.stageInfo ch i
  | 3 => s.stageEqualise ch f i
  | 4 => s.stagePrecode ch i
  | 5 => if i.type = 5 ∨ i.type = 6 then
      s.modLine ch (fun l =>
        let l := { l with train := { l.train with countSeen := some i.count } }
        if i.count = 0 then l.dataBegins else l)
    else s
  | 7 => s.stageResume ch i
  | _ => s

/-- TRAINING_FRAME_RX: a training frame advances the training (R172 to R178). A delimiter of another mode or a VERSION
other than 0x1 ends the attempt; a frame whose CRC fails is ignored. A channel surveys deaf (R207). -/
def execTrainingFrameRx (ch : Nat) (f : TrainingFrame) (s : State) : Res :=
  let l := s.line ch
  if !(decide (ch < 96) && s.powered ch && l.state == .training && l.mode == 6 && l.train.stage != 0 && !l.train.fresh) then
    .next s
  else if !f.delimOk then .next (s.lineFail ch 0x04)
  else match infoRead f.bytes with
    | none => .next s
    | some i =>
      if i.version ≠ 1 then .next (s.lineFail ch 0x04)
      else .next ((s.modLine ch (fun l => l.hear i)).trainStage ch f i)

/-- The reason and length of a stage's timeout (R173, LAST_FAIL). DESIGN CHOICE: LAST_FAIL has no code for stage 0, whose timeout
records 0x00 (log 52). -/
def stageTimeout (stage : Nat) : Nat × Nat :=
  match stage with
  | 0 => (0x00, 2400)
  | 1 => (0x01, 1600)
  | 2 => (0x02, 800)
  | 3 => (0x05, 8000)
  | 4 => (0x06, 800)
  | _ => (0x07, 2400)

/-- LINE_TRAINING_TIMEOUT: a stage of LR10 training, or an attempt of 400 ms, has run out of time (R96, R173, R177). Fast resume
has a row of its own. DESIGN CHOICE: an attempt that ends while negotiating records 0x00, for which LAST_FAIL has no code either
(log 52). -/
def execLineTrainingTimeout (ch : Nat) (s : State) : Res :=
  let l := s.line ch
  let timeUp := decide (l.attemptStart + 16000 ≤ s.now)
  if !(decide (ch < 96) && s.powered ch) then .next s
  else if l.state == .negotiating then .next (if timeUp then s.lineFail ch 0x00 else s)
  else if l.state == .training && l.mode == 6 then
    if l.train.stage ≠ 7 ∧ !l.resumed ∧ !l.train.fresh ∧
        (timeUp ∨ l.train.stageStart + (stageTimeout l.train.stage).2 ≤ s.now) then
      .next (s.lineFail ch (stageTimeout l.train.stage).1)
    else .next s
  else if l.state == .training then .next (if timeUp then s.lineFail ch 0x0B else s)
  else .next s

/-- RESUME_TIMEOUT: fast resume has not completed within 200 ticks (R178). -/
def execResumeTimeout (ch : Nat) (s : State) : Res :=
  let l := s.line ch
  if decide (ch < 96) && s.powered ch && l.state == .training && l.mode == 6 && (l.train.stage == 7 || l.resumed) &&
      decide (l.train.stageStart + 200 ≤ s.now) then
    .next (s.resumeReject ch)
  else .next s

/-! ## Superframe markers (R157 to R159, R173 stage 5, R180, R219) -/

/-- Lock after a MARKER with the given errors (R159); `lost` is a lock lost and not regained. -/
def LineSfm.marker (f : LineSfm) (errs : Nat) : LineSfm :=
  let lock := if errs ≤ 8 then f.lock || decide (3 ≤ f.hits + 1) else f.lock && decide (f.misses + 1 < 4)
  { f with lock := lock, lost := !lock && (f.lost || f.lock)
           hits := if errs ≤ 8 then f.hits + 1 else 0
           misses := if errs ≤ 8 then 0 else f.misses + 1 }

/-- The receive direction's low-power idle after a superframe, with its FLAGS when they could be read (R163, R179, R230); `next` is
the first tick that is quiet as a whole when the quiet begins. The partner is quiet after the superframe that follows two with
LPI_REQ, of which one may have been unreadable, and after 8 of a refresh; a wake has four superframes. `blind` are the
superframes after a quiet that could not be read: they belong to the refresh or the wake. -/
def Lpi.heard (p : Lpi) (g : Option SfmFlags) (next blind : Nat) : Lpi :=
  match g with
  | some g =>
    if g.wake then
      (match p with
       | .waking n => .waking (n + 1)
       | .quiet _ => .waking (blind + 1)
       | .active | .entering _ | .refresh _ => .waking 1)
    else
      match p with
      | .entering n => if n < 2 ∧ g.lpiReq then .entering (n + 1) else .quiet next
      | .quiet _ => if g.lpiReq then .refresh (blind + 1) else .active
      | .refresh n => if !g.lpiReq then .active else if 7 ≤ n then .quiet next else .refresh (n + 1)
      | .active | .waking _ => if g.lpiReq then .entering 1 else .active
  | none =>
    match p with
    | .entering n => if 2 ≤ n then .quiet next else .entering n
    | .refresh n => if 7 ≤ n then .quiet next else .refresh (n + 1)
    | .waking n => if 4 ≤ n then .active else .waking (n + 1)
    | .active => .active
    | .quiet t => .quiet t

/-- A COEF update for the partner, after an SFM with `sf` and COEF_SET (R171, R193): until its message has gone out, and before
ACT, it waits; with the new set the
folded amounts leave the DFE taps; with the old one the update goes out again with a later ACT. -/
def Line.coefSeen (l : Line) (sf set : Nat) : Line :=
  match l.coefRx with
  | none => l
  | some (c, act, fold) =>
    let ahead := (act + 2 ^ 32 - sf) % 2 ^ 32
    if l.coefDue ∨ (0 < ahead ∧ ahead < 2 ^ 31) then l
    else if set = c.set then
      let folded := (List.range 16).map (fun i => l.bank.folded.getD i 0 + fold.getD i 0)
      { l with coefRx := none, bank := { l.bank with folded := folded } }
    else { l with coefDue := true, coefLater := 0 }

/-- The channel's view of the partner after SF_COUNT and FLAGS of an SFM (R158, R171, R173, R180, R224). Superframes with RX_OK both
ways count once the own superframes go out. -/
def Line.flags (l : Line) (sf : Nat) (g : SfmFlags) : Line :=
  let l := l.coefSeen sf g.coefSet
  { l with
    sfm := { l.sfm with lastSf := sf, peerRxOk := g.rxOk, coefSet := g.coefSet
                        remFault := if g.remFault then l.sfm.remFault + 1 else 0
                        good := if g.rxOk && l.sfm.rxOk && l.sfTx.isSome then l.sfm.good + 1 else 0 }
    slpAsked := l.slpAsked || g.sleepReq
    slpAcked := l.slpAcked || g.sleepAck }

/-- A received superframe counts (R158, R163, R219): its codewords, a failed SFM CRC in lock, a request for low-power idle, and a wake
whose first data codeword is uncorrectable. `bad` is the mask of uncorrectable codewords; codeword 0 holds the SFM. -/
def Line.sfmCount (l : Line) (errs bad corr : Nat) (g : Option SfmFlags) (next : Nat) : Line :=
  let f := l.sfm.marker errs
  let n := popCount 9 bad
  let asks := g.any (fun g => g.lpiReq && !g.wake)
  let woken := match l.lpiRx with
    | .waking k => decide (4 ≤ k)
    | .active | .entering _ | .quiet _ | .refresh _ => false
  let awake := match l.lpiRx with
    | .active | .waking _ => true
    | .entering _ | .quiet _ | .refresh _ => false
  { l with
    sfm := { f with okOwn := if n = 0 then f.okOwn - 1 else 64, heard := true
                    blind := if l.lpiRx.quietNow && g.isNone then f.blind + 1 else 0 }
    lpiRx := l.lpiRx.heard g next f.blind
    statCorr := l.statCorr + corr, statUncorr := l.statUncorr + n
    cntTick := { l.cntTick with
      fecCw := l.cntTick.fecCw + 9, fecCorr := l.cntTick.fecCorr + corr, fecUncorr := l.cntTick.fecUncorr + n
      sfmCrcErr := l.cntTick.sfmCrcErr + b2n (f.lock && g.isNone)
      lpiRxEnt := l.cntTick.lpiRxEnt + b2n (asks && awake)
      wakeErr := l.cntTick.wakeErr + b2n (woken && bit bad 0) } }

/-- SFM_RX: a superframe marker with its errors, the 32 bytes of the SFM, the mask of uncorrectable codewords and the corrected
symbols of its superframe (R157 to R159, R163, R219). With 64 consecutive superframes of RX_OK both ways the link is UP
(R173); a partner that has counted its sleep handshake down leaves the channel ASLEEP (R180). DESIGN CHOICE: also one that counts
down itself: of two handshakes the one that is over first ends both (R181; log 88). -/
def execSfmRx (ch : Nat) (markErr : Nat) (bytes : List Byte) (bad : Nat) (corr : Nat) (s : State) : Res :=
  let l := s.line ch
  if !(decide (ch < 96) && s.powered ch && l.mode == 6 &&
      (l.linked || (l.state == .training && l.train.stage == 5))) then .next s
  else
    let read := if bit bad 0 then none else sfmRead bytes
    let s := s.modLine ch (fun l => l.dataBegins.sfmCount markErr bad corr (read.map Prod.snd) (s.now + 1))
    match read with
    | none => .next (s.modLine ch (fun l => { l with sfm := { l.sfm with good := 0 } }))
    | some (sf, g) =>
      let s := s.modLine ch (fun l => l.flags sf g)
      let l := s.line ch
      if l.state == .training && decide (64 ≤ l.sfm.good) then .next (s.lineUp ch)
      else if l.linked && g.sleepReq && g.down == 0 && l.cfg.sleepEn then
        .next ((s.lineDown ch .asleep).modLine ch (fun l => { l with sleep := .silent }))
      else .next s

/-! ## OAM and the precoder (R163, R170, R171, R193) -/

/-- LEN fits the class of a message (R170). -/
def oamLenOk (cls len : Nat) : Bool :=
  match cls with
  | 1 => len == 7
  | 2 => len == 33
  | 3 => decide (1 ≤ len) && decide (len ≤ 48)
  | _ => true

/-- What a received message does: STATUS and COEF act, USER is stored or lost (R170, R171, R187). A COEF message that arrives after
its superframe has begun changes nothing. -/
def Line.oam (l : Line) (now cls : Nat) (body : List Byte) : Line :=
  if !oamLenOk cls body.length then
    (if cls = 3 then { l with oamLost := sat16 (l.oamLost + 1) } else l)
  else match cls with
  | 1 => { l with partStat := some (toInt 16 (ofLe (body.take 2)), ofLe ((body.drop 2).take 1), now) }
  | 2 =>
    let n := ofLe ((body.drop 5).take 1)
    let act := ofLe ((body.drop 1).take 4)
    let ahead := (act + 2 ^ 32 - l.sfTx.getD 0) % 2 ^ 32
    if ahead < 2 ^ 31 then
      { l with coefTx := some (⟨ofLe (body.take 1) % 16, (readCoefs 16 (ofLe ((body.drop 6).take 24))).take n⟩, act) }
    else l
  | 3 =>
    if l.oamRx.length < 8 then { l with oamRx := l.oamRx ++ [body] }
    else { l with oamLost := sat16 (l.oamLost + 1) }
  | _ => l

/-- The SEQ of the last block of a message, from its bytes. -/
def lastOamSeq (blocks : List (List Byte)) : Option Nat :=
  match blocks.reverse with
  | [] => none
  | b :: _ => some (ofLe ((b.drop 1).take 1))

/-- The first block of a message claims class USER. DESIGN CHOICE: the spec does not say how the class of a message is known whose
first block fails its CRC; its CLASS bits are taken as they are (log 57). -/
def claimsUser (blocks : List (List Byte)) : Bool :=
  match blocks with
  | [] => false
  | b :: _ => fld (ofLe (b.take 1)) 0 4 == 3

/-- OAM_MESSAGE_RX: a whole message, each block with whether its codeword was decoded, is taken, or discarded when a block was
discarded with its codeword, fails its CRC, skips a SEQ or has a reserved class; a USER message so lost is counted (R163, R170,
R187). DESIGN CHOICE: the SEQ of the next message's first block is compared with the SEQ byte of this message's last block, also
where that block failed its CRC or was lost with its codeword (log 88). -/
def execOamMessageRx (ch : Nat) (blocks : List (Bool × List Byte)) (s : State) : Res :=
  let l := s.line ch
  if !(decide (ch < 96) && s.powered ch && l.mode == 6 && l.linked) then .next s
  else
    let bytes := blocks.map Prod.snd
    let got := if blocks.all Prod.fst then oamMessage l.oamSeq bytes else none
    let s := s.modLine ch (fun l => { l with oamSeq := lastOamSeq bytes })
    match got with
    | none => .next (if claimsUser bytes then
        s.modLine ch (fun l => { l with oamLost := sat16 (l.oamLost + 1) }) else s)
    | some (cls, body) => .next (s.modLine ch (fun l => l.oam s.now cls body))

/-- PRECODER_SWITCH: the own transmitter begins superframe `sf`, the one that its SF_COUNT names next; at ACT it takes over the
coefficients received, and keeps its present ones when ACT has already passed (R171). The superframes that an edge takes
together switch in the same way. -/
def execPrecoderSwitch (ch : Nat) (sf : Nat) (s : State) : Res :=
  let l := s.line ch
  if decide (ch < 96) && s.powered ch && l.mode == 6 && l.linked && l.sfTx == some sf then
    .next (s.modLine ch (fun l => l.coefSwitch sf))
  else .next s

/-- PRECODER_UPDATE: some residual DFE tap has stayed at or above PRE_UPD for 40 consecutive ticks; it is folded into the precoder
and a COEF message goes out (R193). Its ACT, set when it goes out, is at least 64 superframes after the SF_COUNT last received; the
device chooses how many more, `later` (R171; log 57). -/
def execPrecoderUpdate (ch later : Nat) (s : State) : Res :=
  let l := s.line ch
  if decide (ch < 96) && s.powered ch && l.mode == 6 && l.linked && !l.adapt.frzPre && l.coefRx.isNone &&
      l.preRun.any (fun n => decide (40 ≤ n)) then
    let old := l.bank.rxSet
    let c : CoefSet := ⟨(old.set + 1) % 16, trimCoefs (foldCoefs old.coefs (l.bank.dfe ch))⟩
    .next (s.modLine ch (fun l =>
      { l with coefRx := some (c, (l.sfm.lastSf + 64 + later) % 2 ^ 32, foldAmounts old.coefs c.coefs)
               coefDue := true, coefLater := later
               preUpdates := sat16 (l.preUpdates + 1), bank := { l.bank with rxSet := c } }))
  else .next s

/-! ## Low-power idle, sleep and wake (R179 to R183, R229, R230, R232) -/

/-- The channel may send low-power idle (R229). -/
def Line.lpiAllowed (l : Line) : Bool :=
  l.cfg.lpiEn && ((decide (2 ≤ l.mode) && decide (l.mode ≤ 5) && l.eee) || (l.mode == 6 && bit l.peerHal 1))

/-- The transmitter begins to enter low-power idle, which is counted (R179, R219), and STATE reads LPI. DESIGN CHOICE: STATE follows
the own transmitter; a channel of which only the receive direction is idle stays UP (log 88). -/
def State.lpiEnter (s : State) (ch : Nat) : State :=
  (s.modLine ch (fun l =>
    { l with lpiTx := .entering 0, cntTick := { l.cntTick with lpiTxEnt := l.cntTick.lpiTxEnt + 1 } })).lineSt ch .lpi

/-- LPI_ENTRY: after LPI_IDLE idle ticks the transmitter begins to enter low-power idle (R179, R229). -/
def execLpiEntry (ch : Nat) (s : State) : Res :=
  let l := s.line ch
  if decide (ch < 96) && s.unitOn ch && l.state == .up && l.lpiAllowed && decide (l.watch.lpiIdle ≤ l.idle) then
    .next (s.lpiEnter ch)
  else .next s

/-- LPI_REFRESH: after 224 superframes of quiet, 974.848 us, the LR10 transmitter sends a refresh (R179). -/
def execLpiRefresh (ch : Nat) (s : State) : Res :=
  let l := s.line ch
  match l.lpiTx with
  | .quiet since =>
    if decide (ch < 96) && s.powered ch && l.mode == 6 && l.state == .lpi &&
        decide (224 * 4352 ≤ (s.now - since) * 25000) then
      .next (s.modLine ch (fun l => { l with lpiTx := .refresh 0 }))
    else .next s
  | .active | .entering _ | .refresh _ | .waking _ => .next s

/-- The roots with an eligible queue. -/
def State.eligRoots (s : State) : List Nat :=
  (s.sched.queues.filter (fun e => e.2.elig)).filterMap (fun e => s.queueRoot e.1)

/-- A frame under root `r` is eligible or becomes so, or a frame for it was classified in this tick (R230). -/
def State.rootWants (s : State) (r : Nat) : Bool := s.sched.active.contains r || s.eligRoots.contains r

/-- LPI_WAKE: a frame for the root, or a sleep handshake that must start, wakes the transmitter, which an entry under way gives way to
(R181, R230). A channel that has begun to go to sleep is not woken. -/
def execLpiWake (ch : Nat) (s : State) : Res :=
  let l := s.line ch
  if decide (ch < 96) && s.powered ch && l.state == .lpi && !l.lpiTx.wakes && l.lpiTx != .active && l.sleep == .none &&
      (s.rootWants ch || (s.domClosing (domOfRoot ch) && l.mode == 6 && l.cfg.sleepEn)) then
    .next (s.modLine ch (fun l => { l with wakeReq := true, idle := 0 }))
  else .next s

/-- LINK_SLEEP: in a domain that closes, an LR10 channel with SLEEP_EN runs the handshake of 16 SFMs, waking first from low-power
idle with its next superframe, and goes silent (R180, R181). Any other channel asserts low-power idle where EEE was negotiated,
unless it asserts it already, and then stops transmitting (R183, R482). -/
def execLinkSleep (ch : Nat) (s : State) : Res :=
  let l := s.line ch
  if decide (ch < 96) && s.powered ch && s.domClosing (domOfRoot ch) && l.linked && l.sleep == .none then
    if l.mode = 6 ∧ l.cfg.sleepEn then
      .next (s.modLine ch (fun l =>
        if l.state == .up then { l with sleep := .sending 15 }
        else { l with sleep := .waking, idle := 0, wakeReq := false
                      lpiTx := if l.lpiTx.wakes then l.lpiTx else .waking 0 }))
    else if l.mode != 6 && l.eee && (l.state == .up || l.lpiTx.wakes || l.lpiTx == .active) then .next ((s.lpiEnter ch).modLine ch (fun l => { l with sleep := .lpi }))
    else .next ((s.lineDown ch .asleep).modLine ch (fun l => { l with sleep := .silent }))
  else .next s

/-- WAKE_TONE_DETECT: the wake tone reaches a channel that is asleep, and fast resume starts (R182, R208). DESIGN CHOICE: a channel
that detects it while it still sends its own ends its tone and resumes at the next edge, as the end that has detected a tone
(log 88). -/
def execWakeToneDetect (ch : Nat) (s : State) : Res :=
  if decide (ch < 96) && s.unitOn ch && (s.line ch).state == .asleep then .next (s.lineStart ch (s.now + 1) true)
  else .next s

/-- LINE_WAKE_DETECT: a channel in ASLEEP whose LINE domain is on detects a wake (R232), a wake source (R501). In RUN it
then proceeds under R182; during an entry into BANKED or EMBER it is latched until the state is reached (R496), from A4 on by the hearth
for the dies held for wake, which alone keep detecting then (R488); in BANKED only a die held for wake detects. -/
def execLineWakeDetect (ch : Nat) (s : State) : Res :=
  let d := ch / 24
  let asleep := decide (ch < 96) && (s.line ch).state == .asleep
  match s.boot.power with
  | .run =>
    let held := match s.power.entry with
      | some e => s.awake && s.saved && e.holds (d + 4)
      | none => false
    if asleep && (s.powered ch || held) then
      let s := s.fireWake ⟨0x01, ch⟩ false
      .next (if s.domClosing (domOfRoot ch) then s else s.lineStart ch (s.now + 1) true)
    else .next s
  | .banked =>
    match s.power.banked with
    | some e => if asleep && bit e.lineWake d then .next (s.fireWake ⟨0x01, ch⟩ false) else .next s
    | none => .next s
  | .boot | .ember | .damped | .cold => .next s

/-! ## Modes 0x1 to 0x5 (R143, R183, R194, R219) -/

/-- The Clause 149 precoder that the own receiver requests: of the four, the one whose slicer SNR in training is highest, the first
of equals (R194; PRESUMED that Clause 149 has four, log 85). -/
def stdPrecoder (ch tick : Nat) : Nat :=
  (List.range 4).foldl (fun b k => if Config.stdPrecSnr ch b tick < Config.stdPrecSnr ch k tick then k else b) 0

/-- PAM4 symbols, 0 to 3, of a Clause 149 mode through the selected precoder: none, 1 - D, 1 + D, 1 - D^2 (PRESUMED, log 85); `past` are
the outputs before, newest first. -/
def stdPrecode (sel : Nat) : List Nat → List Nat → List Nat
  | _, [] => []
  | past, g :: t =>
    let p := match sel with
      | 0 => g % 4
      | 1 => (g + past.getD 0 0) % 4
      | 2 => (g + 4 - past.getD 0 0 % 4) % 4
      | _ => (g + past.getD 1 0) % 4
    p :: stdPrecode sel (p :: past.take 1) t

/-- The symbols that a channel of a Clause 149 mode sends: through the precoder that the partner's receiver requested in training
(R143). -/
def Line.stdSymbols (l : Line) (past x : List Nat) : List Nat := stdPrecode l.stdPrec past x

/-- STANDARD_TRAINING: what the IEEE clause of modes 0x1 to 0x5 brings: the link UP or STD_TRAINING_FAIL, low-power idle
of the partner, wake errors, codewords, and PHY OAM messages, which firmware answers and software does not see (R143, R194, R219). -/
def execStandardTraining (ch : Nat) (e : StdEvent) (s : State) : Res :=
  let l := s.line ch
  if !(decide (ch < 96) && s.powered ch && decide (1 ≤ l.mode) && decide (l.mode ≤ 5)) then .next s
  else
    let surveyed := l.train.fresh || (l.train.stage == 0 && (s.bundle (ch / 4)).enabled)
    let c149 := decide (3 ≤ l.mode)
    match e with
    | .trained eee prec =>
      if l.state == .training && !surveyed then
        .next ((s.modLine ch (fun l =>
          { l with eee := eee && l.cfg.lpiEn && l.mode != 1, stdPrec := if c149 then prec % 4 else 0
                   stdReq := if c149 then stdPrecoder ch s.now else 0 })).lineUp ch)
      else .next s
    | .trainFail => if l.state == .training then .next (s.lineFail ch 0x0B) else .next s
    | .lpiStart =>
      if l.linked && l.lpiRx == .active && l.eee then
        .next (s.modLine ch (fun l =>
          { l with lpiRx := .quiet (s.now + 1), cntTick := { l.cntTick with lpiRxEnt := l.cntTick.lpiRxEnt + 1 } }))
      else .next s
    | .lpiEnd => if l.linked then .next (s.modLine ch (fun l => { l with lpiRx := .active })) else .next s
    | .wakeError =>
      if l.linked && l.eee then
        .next (s.modLine ch (fun l => { l with cntTick := { l.cntTick with wakeErr := l.cntTick.wakeErr + 1 } }))
      else .next s
    | .fec cw corr uncorr =>
      if l.linked && decide (2 ≤ l.mode) then
        .next (s.modLine ch (fun l =>
          { l with cntTick := { l.cntTick with fecCw := l.cntTick.fecCw + cw, fecCorr := l.cntTick.fecCorr + corr
                                               fecUncorr := l.cntTick.fecUncorr + uncorr } }))
      else .next s
    | .oam body =>
      if l.linked && decide (2 ≤ l.mode) then
        .next (s.modLine ch (fun l => { l with stdOam := some (Config.oamAnswer body) }))
      else .next s

end Machine
end Sys2Proof
end

