-- ==== Sys2Proof/Machine/LineRx.lean ====
section
/-! DEFINITION. The line receiver and the bundle groups (06): BUNDLE_CONFIG to RX_TAPS_READ, survey and joins. -/
namespace Sys2Proof
namespace Machine

/-! ## BUNDLE_CONFIG (0x1010) -/

/-- Positions of a group whose channel goes down and trains when the command takes effect: enabled, and neither in a quiet period,
nor under TDR, nor isolated (R203, R228, R233). -/
def State.takenMask (s : State) (bg : Nat) : Nat :=
  maskBits ((groupChans bg).map (fun c =>
    let l := s.line c
    (s.lineCfg c).enable && l.quietP.isNone && !s.faultPending c && l.tdr.isNone && !l.isolated))

/-- An enabled channel of the group breaks R201 for a mode. -/
def State.bundleClash (s : State) (bg mode : Nat) : Bool :=
  (groupChans bg).any (fun c =>
    let l := s.lineCfg c
    l.enable && (l.neg || l.mode != mode || l.role != 0))

/-- BUNDLE_CONFIG. -/
def cmdBundleConfig (m : Msg) (s : State) : Reply :=
  let bg := m.get 1 0 5
  let mode := m.get 1 12 4
  let enable := m.flag 1 16
  let b := s.bundleCfg bg
  let again := enable && b.1 && b.2 == mode
  .unless (m.stray 1 0x1F01F || decide (23 < bg) || (enable && (decide (mode < 3) || decide (6 < mode))) ||
    (!enable && mode != 0)) .badArg <|
  .unless (enable && (s.bundleClash bg mode || (b.1 && b.2 != mode))) .conflict <|
  .unless (!s.domOn (4 + bg / 6) || (groupChans bg).any (fun c => (s.line c).isolated)) .wrongState <|
  .ok (lohi s.nextEdge ++ [w32 (if enable && !again then s.takenMask bg else 0)])
    (if again then s else s.accept (.bundle bg enable mode))

def bundleConfigCmd : Cmd := ⟨0x1010, [2], false⟩
/-- BUNDLE_CONFIG enables a bundle group or disables it (R203, R204). -/
def execBundleConfig (m : Msg) (s : State) : Res := .next (s.mailbox bundleConfigCmd m cmdBundleConfig)

/-! ## BUNDLE_STATUS (0x1011) -/

/-- POS_STATE of a position. -/
def State.posState (s : State) (ch : Nat) : Nat :=
  let l := s.line ch
  let b := s.bundle (ch / 4)
  let valid := b.valid.getD (ch % 4) false
  if b.survey == 1 && b.surveyPos.contains (ch % 4) && l.state == .training && l.train.stage == 0 then 2
  else if !l.busy then b2n valid
  else if l.joinStart.isSome then 3
  else if !valid then 4
  else 5

/-- The least depth of a section that the spec gives, in 0.5 dB: 25 dB once the taps for aggressor `a` are valid, unless the victim
is itself joining, and 12 dB from 400 ticks after the start of a join of the aggressor on (R211, R213). -/
def State.depthLeast (s : State) (bg v a : Nat) : Nat :=
  if (s.bundle bg).valid.getD a false && (s.line (4 * bg + v)).joining.isNone then 50
  else match (s.line (4 * bg + a)).joining with
    | some t => if t + 400 ≤ s.now then 24 else 0
    | none => 0

/-- The present depth of the section for aggressor `a` at victim `v`: 0 where it is cleared. -/
def State.depthOf (s : State) (bg v a : Nat) : Nat :=
  match (s.line (4 * bg + v)).bank.taps.getD (3 + a) [] with
  | [] => 0
  | r :: _ => if (s.bundle bg).enabled then max (s.depthLeast bg v a) (Config.bundleDepth bg v a r.last).toNat else 0

/-- The 12 DEPTH bytes: the present cancellation depth of each section, 0x00 where it is cleared. -/
def State.depthBytes (s : State) (bg : Nat) : List Byte :=
  (List.range 4).flatMap (fun v => (othersOf v).map (fun a => BitVec.ofNat 8 (s.depthOf bg v a)))

/-- BUNDLE_STATUS. -/
def cmdBundleStatus (m : Msg) (s : State) : Reply :=
  let bg := m.get 1 0 5
  let b := s.bundle bg
  .unless (m.stray 1 0x1F || decide (23 < bg)) .badArg <|
  .unless (!s.domOn (4 + bg / 6)) .wrongState <|
  .ok ([packW [(1, b2n b.enabled), (3, 0), (4, b.mode), (2, b.survey), (6, 0),
          (12, pack ((groupChans bg).map (fun c => (3, if b.enabled then s.posState c else 0)))), (4, 0)]] ++
       padWords 3 (b.coupling.map (BitVec.ofNat 8)) ++ padWords 3 (s.depthBytes bg) ++
       [w32 (ofInt 16 b.noise)] ++ lohi b.surveyTick) s

def bundleStatusCmd : Cmd := ⟨0x1011, [2], false⟩
/-- BUNDLE_STATUS returns a group's state and figures (R205). -/
def execBundleStatus (m : Msg) (s : State) : Res := .next (s.mailbox bundleStatusCmd m cmdBundleStatus)

/-! ## RX_ADAPT_CONFIG (0x1012) -/

/-- RX_ADAPT_CONFIG. -/
def cmdRxAdaptConfig (m : Msg) (s : State) : Reply :=
  let ch := m.get 1 0 7
  let c : LineAdapt :=
    { echoT := m.get 2 0 4, echoD := m.get 2 4 4, ffeT := m.get 2 8 4, ffeD := m.get 2 12 4, dfeT := m.get 2 16 4
      dfeD := m.get 2 20 4, bunT := m.get 2 24 4, bunD := m.get 2 28 4, frzEcho := m.flag 1 12, frzFfe := m.flag 1 13
      frzDfe := m.flag 1 14, frzBun := m.flag 1 15, frzPre := m.flag 1 16, preUpd := m.get 3 0 4 }
  .unless (m.stray 1 0x1F07F || m.stray 3 0xF || decide (95 < ch) || decide (7 < c.echoT) || decide (7 < c.ffeT) ||
    decide (7 < c.dfeT) || decide (7 < c.bunT) || decide (9 < c.preUpd)) .badArg <|
  .unless (!s.domOn (domOfRoot ch)) .wrongState <|
  .ok [] (s.accept (.lineAdapt ch c))

def rxAdaptConfigCmd : Cmd := ⟨0x1012, [4], false⟩
/-- RX_ADAPT_CONFIG sets a channel's adaptation from the next edge (R196, R197). -/
def execRxAdaptConfig (m : Msg) (s : State) : Res := .next (s.mailbox rxAdaptConfigCmd m cmdRxAdaptConfig)

/-! ## RX_STATUS (0x1013), RX_TAPS_READ (0x1014) -/

/-- RX_STATUS: everything as it stood at the edge that began the tick (R199). -/
def cmdRxStatus (m : Msg) (s : State) : Reply :=
  let ch := m.get 1 0 7
  let l := s.line ch
  let v := l.view
  let b := v.bank
  .unless (m.stray 1 0x7F || decide (95 < ch)) .badArg <|
  .unless (!s.domOn (domOfRoot ch)) .wrongState <|
  .ok [packW [(16, if v.locked then (Config.lineSnr ch v.tick).toNat else 0x8000), (16, ofInt 16 (l.freqOfs ch))],
       packW [(16, ofInt 16 (blwOf ch b.clkStamp)), (8, (Config.linePga ch b.pgaStamp).val)],
       packW [(6, (Config.linePhase ch b.clkStamp).toNat), (2, 0), (4, b.rxSet.set), (4, b.txSet.set), (16, v.preUpdates)],
       w32 v.held] s

def rxStatusCmd : Cmd := ⟨0x1013, [2], false⟩
/-- RX_STATUS returns a receiver's figures at the edge that began the tick (R199). -/
def execRxStatus (m : Msg) (s : State) : Res := .next (s.mailbox rxStatusCmd m cmdRxStatus)

/-- A tap as it stood at the edge that began the tick (R199). -/
def State.tapAt (s : State) (ch set agg i : Nat) : Nat :=
  let b := (s.line ch).view.bank
  if tapCount set ≤ i then 0
  else if set = 4 then ofInt 16 (b.rxSet.coefs.getD i 0).toInt
  else ofInt 16 (b.tap ch (if set = 3 then 3 + agg else set) i)

/-- RX_TAPS_READ. -/
def cmdRxTapsRead (m : Msg) (s : State) : Reply :=
  let ch := m.get 1 0 7
  let set := m.get 1 8 3
  let agg := m.get 1 12 2
  let start := m.get 1 16 12
  let l := s.line ch
  let count := min 28 (tapCount set - start)
  .unless (m.stray 1 0x0FFF377F || decide (95 < ch) || decide (4 < set) || decide (tapCount set ≤ start) ||
    (set == 3 && agg == ch % 4)) .badArg <|
  .unless (!s.domOn (domOfRoot ch) || (set == 3 && !(s.bundle (ch / 4)).enabled) || (set == 4 && l.mode != 6))
    .wrongState <|
  .ok ([packW [(5, count), (11, 0), (16, tapCount set)], w32 s.now] ++
    (List.range (ceilDiv count 2)).map (fun k =>
      packW [(16, s.tapAt ch set agg (start + 2 * k)),
             (16, if 2 * k + 1 < count then s.tapAt ch set agg (start + 2 * k + 1) else 0)])) s

def rxTapsReadCmd : Cmd := ⟨0x1014, [2], false⟩
/-- RX_TAPS_READ returns up to 28 taps (R199). -/
def execRxTapsRead (m : Msg) (s : State) : Res := .next (s.mailbox rxTapsReadCmd m cmdRxTapsRead)

/-! ## Survey and joins (R206 to R211) -/

/-- Positions of a group that take part in a survey: in stage 0 of a training. -/
def State.surveyors (s : State) (bg : Nat) : List Nat :=
  (List.range 4).filter (fun p =>
    let l := s.line (4 * bg + p)
    l.state == .training && l.train.stage == 0 && !l.train.fresh)

/-- BUNDLE_SURVEY: the silent survey of an enabled group starts with the channels whose training starts in stage 0
(R206, R207). -/
def execBundleSurvey (bg : Nat) (s : State) : Res :=
  let b := s.bundle bg
  match s.surveyors bg with
  | [] => .next s
  | p :: t =>
    if decide (bg < 24) && s.live && s.domOn (4 + bg / 6) && b.enabled && b.survey != 1 then
      .next (s.modBundle bg (fun b =>
        { b with survey := 1, surveyPos := p :: t, surveyOut := []
                 surveyStart := (s.line (4 * bg + p)).train.stageStart }))
    else .next s

/-- The coupling bytes of a survey: measured pairs only, 0xFF elsewhere. -/
def surveyCoupling (pos : List Nat) (vals : List Nat) : List Nat :=
  (List.range 12).map (fun k =>
    let v := k / 3
    let a := (othersOf v).getD (k % 3) 0
    if pos.contains v && pos.contains a then min 255 (vals.getD k 255) else 0xFF)

/-- SURVEY_COMPLETE: the survey ends after its slots. The taps for the positions that sent their burst are valid, the channels still
in stage 0 go on with stage 1, and the channels it held train from stage 1 as joiners, without fast resume (R205, R207,
R208). -/
def execSurveyComplete (bg : Nat) (noise : Int) (coupling : List Nat) (s : State) : Res :=
  let b := s.bundle bg
  if !(decide (bg < 24) && s.live && b.survey == 1 && decide (b.surveyStart + surveyTicks b.surveyPos.length ≤ s.now))
  then .next s
  else
    let done := b.surveyPos.filter (fun p => !b.surveyOut.contains p)
    let s := s.modBundle bg (fun b =>
      { b with survey := 2, surveyTick := s.now, noise := noise, coupling := surveyCoupling done coupling
               valid := (List.range 4).map (fun p => b.valid.getD p false || done.contains p)
               surveyPos := [], surveyOut := [] })
    let s := (s.surveyors bg).foldl (fun s p => s.modLine (4 * bg + p) (fun l => l.afterSurvey s.now)) s
    .next (s.releaseHeld bg s.now).decideStarts

/-- JOIN_SOFT_START_END: a joining channel without valid taps steps to full amplitude at the edge after its first 400
ticks (R210). -/
def execJoinSoftStartEnd (ch : Nat) (s : State) : Res :=
  match (s.line ch).joinStart with
  | some t =>
    if decide (ch < 96) && s.powered ch && decide (t + 400 ≤ s.now) then
      .next (s.modLine ch (fun l => { l with joinStart := none }))
    else .next s
  | none => .next s

/-- BLW_SATURATION: the baseline wander correction has stayed at an end of its range for 40 consecutive ticks and is counted (R190).
DESIGN CHOICE: one that stays there longer counts again every 40 ticks (log 57). -/
def execBlwSaturation (ch : Nat) (s : State) : Res :=
  if decide (ch < 96) && s.powered ch && decide (40 ≤ (s.line ch).blwRun) then
    .next (s.modLine ch (fun l =>
      { l with blwRun := l.blwRun - 40, cntTick := { l.cntTick with blwSat := l.cntTick.blwSat + 1 } }))
  else .next s

end Machine
end Sys2Proof
end

