-- ==== Sys2Proof/Machine/Quiet.lean ====
section
/-! DEFINITION. The end of a unit's quiet period (18, R535 to R537). -/
namespace Sys2Proof
namespace Machine

/-- The quiet period of the unit behind a root, when one runs. -/
def State.quietOf (s : State) (root : Nat) : Option Quiet :=
  if root < 96 then (s.line root).quietP
  else if root < 128 then (s.drop (root - 96)).quietP
  else if root < 132 then (s.trunk (root - 128)).quietP
  else if root < 136 then (s.host (root - 132)).quietP
  else none

/-- The quiet period ends at this edge: one recovery is counted, and the unit trains again or returns to UP, as far as it is
enabled and powered (R227, R228, R251, R315, R349, R536, R537). -/
def State.quietEnd (s : State) (root : Nat) : State :=
  if root < 96 then
    ((s.modLine root (fun l => { l with quietP := none, recoveries := sat16 (l.recoveries + 1) })).lineStart root s.now true).decideStarts
  else if root < 128 then
    (s.modDrop (root - 96) (fun d => { d with quietP := none, recoveries := sat16 (d.recoveries + 1) })).dropStart (root - 96) s.now
  else if root < 132 then
    (s.modTrunk (root - 128) (fun t => { t with quietP := none, recoveries := sat16 (t.recoveries + 1) })).trunkStart
      (root - 128) s.now
  else
    (s.modHost (root - 132) (fun g => { g with quietP := none, recoveries := sat16 (g.recoveries + 1) })).hostStart
      (root - 132) s.now

/-- QUIET_PERIOD_END (R535 to R537). -/
def execQuietPeriodEnd (root : Nat) (s : State) : Res :=
  match s.quietOf root with
  | some q => if s.live && q.done s.now then .next (s.quietEnd root) else .next s
  | none => .next s

end Machine
end Sys2Proof
end

