-- ==== Sys2Proof/Machine/TrunkWire.lean ====
section
/-! DEFINITION. The wire formats of a trunk (09, 10): slots, bins, cells, pilots, training bits, the scrambler, and the bytes
of TLUs and control records. The samples' real values stand in Wave.lean. -/
namespace Sys2Proof
namespace Machine

/-! ## Bins and slots (R255, R257, R259) -/

/-- What a bin of the transform block carries (R255). -/
inductive BinUse where
  | zero
  | pilot (j : Nat)
  | data (j q : Nat)
deriving DecidableEq, Repr

/-- The use of bin `k`, 0 to 4,096 (R255). -/
def binUse (k : Nat) : BinUse :=
  if k ≤ 40 ∨ 4096 ≤ k then .zero
  else if (k - 41) % 64 = 0 then .pilot ((k - 41) / 64)
  else .data ((k - 41) / 64) ((k - 41) % 64 - 1)

/-- The sample of the 8,192-sample block that sample `n` of a data or training slot repeats: a cyclic prefix of 1,808
samples stands in front (R257). -/
def blockSample (n : Nat) : Nat := if n < 1808 then n + 6384 else n - 1808

/-- What a sample of a preamble slot carries (R259). -/
inductive PreSample where
  | silence
  | rampUp (i : Nat)
  | up (i : Nat)
  | down (i : Nat)
deriving DecidableEq, Repr

/-- Sample `n` of a preamble slot, with the sample of its chirp (R259). -/
def preSample (n : Nat) : PreSample :=
  if n < 1648 then .silence
  else if n < 1808 then .rampUp (n - 1648 + 3936)
  else if n < 5904 then .up (n - 1808)
  else .down (n - 5904)

/-- What a sample of a trunk transmitter carries in a burst (R257 to R260): a preamble's sample, a sample of the block of a
later slot, a sample of the last slot's block under the falling envelope, or silence. -/
inductive BurstSample where
  | preamble (x : PreSample)
  | block (slot n : Nat)
  | rampDown (slot n : Nat)
  | silence
deriving DecidableEq, Repr

/-- Sample `n` of a burst of `slots` slots, from the first sample of its preamble slot: the amplifier ramps down in the first 160
samples after the last slot and is silent for the rest of that slot; it never ramps between slots (R257, R259, R260). -/
def burstSample (slots n : Nat) : BurstSample :=
  if n < 10000 then .preamble (preSample n)
  else if n < 10000 * slots then .block (n / 10000) (blockSample (n % 10000))
  else if n < 10000 * slots + 160 then .rampDown (slots - 1) (n - 10000 * slots)
  else .silence

/-- The order of the chirps of the kindle pattern: true is an up-chirp (R321). -/
def kindleOrder : List Bool :=
  [true, true, true, false, false, true, false, true, true, false, true, true, false, false, true, false]

/-- What sample `n` of the kindle pattern carries, from the first sample of its slot: 16 chirps of class L64 from sample
1,808, behind the ramp of R260 and before it (R321). -/
def kindleSample (n : Nat) : PreSample :=
  if n < 1648 then .silence
  else if n < 1808 then .rampUp (n - 1648 + 3936)
  else match kindleOrder[(n - 1808) / 4096]? with
    | some true => .up ((n - 1808) % 4096)
    | some false => .down ((n - 1808) % 4096)
    | none => .silence

/-- The samples of the kindle pattern from its ramp-up to the end of its ramp-down: 160 + 16 x 4,096 + 160 (R260, R321). -/
def kindleSpan : Nat := 160 + 65536 + 160

/-! ## PRBS and scrambler (R266, R268, R278) -/

/-- One step of the PRBS x^11 + x^9 + 1 (R266, R278). -/
def trunkStep (s : Nat) : Bool × Nat :=
  let o := bit s 10 != bit s 8
  (o, (2 * s) % 2 ^ 11 + b2n o)

/-- `n` bits of that PRBS from a state. -/
def trunkPrbs : Nat → Nat → List Bool
  | 0, _ => []
  | n + 1, s => (trunkStep s).1 :: trunkPrbs n (trunkStep s).2

/-- What the pilots of a burst with loading set `set` are loaded with (R266). -/
def pilotSeed (set : Nat) : Nat := 0x7FF ^^^ (set * 0x41)

/-- The pilot bits of data symbol `n`, from 0, of a burst: pilot j takes the j-th of 64 (R266). -/
def symbolPilots (set n : Nat) : List Bool := (trunkPrbs (64 * (n + 1)) (pilotSeed set)).drop (64 * n)

/-- The bits of a training symbol, bins 41 to 4,095 in order (R278). -/
def trainingBits : List Bool := trunkPrbs 4055 0x5A5

/-- The scrambler's state at the first bit of codeword `i` of a fill unit (R268). -/
def codewordSeed (i : Nat) : Nat := (0x2D5A96C3 ^^^ (i * 0x00010001)) % 2 ^ 31

/-- One step of the additive scrambler 1 + x^28 + x^31 (R268). -/
def tluStep (s : Nat) : Bool × Nat :=
  let o := bit s 30 != bit s 27
  (o, (2 * s) % 2 ^ 31 + b2n o)

/-- Bits scrambled from a state (R268). -/
def tluScramble : Nat → List Bool → List Bool
  | _, [] => []
  | s, b :: t => (b != (tluStep s).1) :: tluScramble (tluStep s).2 t

/-- The scrambler's state after `n` bits. -/
def tluAfter : Nat → Nat → Nat
  | 0, s => s
  | n + 1, s => tluAfter n (tluStep s).2

/-! ## The code of a codeword (R269). PRESUMED: the parity-check matrix of IEEE Std 802.11 for 1,944 bits at rate 5/6 (log 85). -/

/-- The parity-check matrix in blocks of 81 by 81: the shift of a block's permutation, -1 for a zero block. -/
def ldpcShifts : List (List Int) :=
  [[13, 48, 80, 66, 4, 74, 7, 30, 76, 52, 37, 60, -1, 49, 73, 31, 74, 73, 23, -1, 1, 0, -1, -1],
   [69, 63, 74, 56, 64, 77, 57, 65, 6, 16, 51, -1, 64, -1, 68, 9, 48, 62, 54, 27, -1, 0, 0, -1],
   [51, 15, 0, 80, 24, 25, 42, 54, 44, 71, 71, 9, 67, 35, -1, 58, -1, 29, -1, 53, 0, -1, 0, 0],
   [16, 29, 36, 41, 44, 56, 59, 37, 50, 24, -1, 65, 4, 65, 52, -1, 4, -1, 73, 52, 1, -1, -1, 0]]

/-- Two blocks of bits added. -/
def xorBits (a b : List Bool) : List Bool := List.zipWith (fun x y => x != y) a b

/-- A block of 81 bits behind the permutation of a shift. -/
def ldpcBlock (shift : Int) (x : List Bool) : List Bool :=
  if shift < 0 then List.replicate 81 false else x.drop shift.toNat ++ x.take shift.toNat

/-- Block `k` of a codeword. -/
def ldpcPart (l : List Bool) (k : Nat) : List Bool := (l.drop (81 * k)).take 81

/-- What the blocks of one row of the matrix add up to over the bits `l`. -/
def ldpcRow (row : List Int) (l : List Bool) : List Bool :=
  (List.range (l.length / 81)).foldl (fun a k => xorBits a (ldpcBlock (row.getD k (-1)) (ldpcPart l k))) (List.replicate 81 false)

/-- The codeword of 1,620 information bits: they come first, in their order, and 324 parity bits follow (R269). -/
def ldpcEncode (info : List Bool) : List Bool :=
  let s := ldpcShifts.map (fun r => ldpcRow r info)
  let a := fun k => s.getD k []
  let p0 := xorBits (xorBits (a 0) (a 1)) (xorBits (a 2) (a 3))
  let p1 := xorBits (a 0) (ldpcBlock 1 p0)
  let p2 := xorBits (a 1) p1
  let p3 := xorBits (xorBits (a 2) p0) p2
  info ++ p0 ++ p1 ++ p2 ++ p3

/-- Every parity check of a codeword is satisfied (R270). -/
def ldpcOk (l : List Bool) : Bool := ldpcShifts.all (fun r => (ldpcRow r l).all (fun b => !b))

/-! ## Cells (R264, R265, R271) -/

/-- The index of a binary-reflected Gray code word, most significant bit first (R265). -/
def grayIndex (l : List Bool) : Nat :=
  (l.foldl (fun (x : Bool × Nat) b => (x.1 != b, 2 * x.2 + b2n (x.1 != b))) (false, 0)).2

/-- A level of `h` bits before the scaling to mean power 1 (R265). -/
def grayLevel (h : Nat) (l : List Bool) : Int := 2 * (grayIndex l : Int) - ((2 : Int) ^ h - 1)

/-- The in-phase and quadrature levels of a cell with the bits `l`, before the scaling (R265). -/
def cellLevels (l : List Bool) : Int × Int :=
  match l with
  | [] => (0, 0)
  | [b] => (if b then 1 else -1, 0)
  | _ => (grayLevel (l.length / 2) (l.take (l.length / 2)), grayLevel (l.length / 2) (l.drop (l.length / 2)))

/-- Three times the mean power of a cell with `h` bits each way before the scaling of R265. -/
def levelPower (h : Nat) : Nat := 2 * (4 ^ h - 1)

/-- Where bit `k` of a data slot goes, from segment `j` on: segment, cell and bit of the cell (R271). -/
def bitPlace (codes : List Nat) : Nat → Nat → Nat → Option (Nat × Nat × Nat)
  | 0, _, _ => none
  | n + 1, j, k =>
    let b := codeBits (codes.getD j 0)
    if k < segCells j * b then some (j, k / b, k % b) else bitPlace codes n (j + 1) (k - segCells j * b)

/-- Where bit `k` of a fill unit goes: data slot, segment, cell and bit (R271). -/
def unitPlace (codes : List Nat) (k : Nat) : Option (Nat × Nat × Nat × Nat) :=
  if loadBits codes = 0 then none
  else (bitPlace codes 64 0 (k % loadBits codes)).map (fun p => (k / loadBits codes, p))

/-- The number of pad bits of a fill unit of `d` data slots (R271). -/
def padBits (d : Nat) (codes : List Nat) : Nat := d * loadBits codes % 1944

/-- The pad bits behind `n` codewords: the scrambler goes on from its state after the last one, with zero input (R271). A fill
unit too small for a codeword has no such state, and the spec gives its pad bits no value (log 86). -/
def padValues (n pad : Nat) : List Bool :=
  if n = 0 then (List.range pad).map Config.padBit
  else tluScramble (tluAfter 1620 (codewordSeed (n - 1))) (List.replicate pad false)

/-- The bits of a fill unit of `d` data slots that carries the TLUs `l`, each as its 1,620 bits: scrambled, encoded, in order, and
the pad bits (R268, R269, R271). -/
def unitBits (d : Nat) (codes : List Nat) (l : List (List Bool)) : List Bool :=
  (List.zip (List.range l.length) l).flatMap (fun x => ldpcEncode (tluScramble (codewordSeed x.1) x.2)) ++
    padValues l.length (padBits d codes)

/-- The bits of cell `m` of segment `j` in data slot `d` of a fill unit (R264, R271). -/
def cellBits (codes : List Nat) (unit : List Bool) (d j m : Nat) : List Bool :=
  let b := codeBits (codes.getD j 0)
  let before := ((List.range j).map (fun i => segCells i * codeBits (codes.getD i 0))).foldl (· + ·) 0
  (unit.drop (d * loadBits codes + before + m * b)).take b

/-! ## TLUs and control records (R275, R308, R309) -/

/-- A LOAD record's body (R275). -/
def loadBody (set : Nat) (codes : List Nat) : List Byte :=
  leBytes 1 (set % 16) ++ (List.range 32).flatMap (fun i => leBytes 1 (pack [(4, codes.getD (2 * i) 0), (4, codes.getD (2 * i + 1) 0)]))

/-- TYPE of a control record (R309). -/
def TrunkRecord.type : TrunkRecord → Nat
  | .status _ _ => 1
  | .ident _ _ _ _ _ => 2
  | .load _ _ => 3
  | .cls _ => 4
  | .frame _ _ _ _ _ => 5
  | .time _ => 6
  | .sound => 7
  | .reflect _ => 8

/-- A control record's body (R309). -/
def TrunkRecord.body : TrunkRecord → List Byte
  | .status base map => leBytes 2 (base % 4096) ++ leBytes 10 (maskBits (map.take 80))
  | .ident serial tick turn tr follower =>
    leBytes 8 serial ++ leBytes 8 tick ++ leBytes 4 turn ++ leBytes 1 tr ++ leBytes 1 (b2n follower) ++ [0#8, 0#8]
  | .load set codes => loadBody set codes
  | .cls c => leBytes 1 (c % 4)
  | .frame at_ split aligned long c =>
    leBytes 4 at_ ++ leBytes 1 split ++ leBytes 1 (b2n aligned + 2 * b2n long) ++ leBytes 1 c ++ [0#8]
  | .time locked => leBytes 1 (b2n locked)
  | .sound => [1#8]
  | .reflect at_ => leBytes 4 at_

/-- A control record as its bytes: TYPE, LEN, body (R309). -/
def TrunkRecord.bytes (r : TrunkRecord) : List Byte := leBytes 1 (TrunkRecord.type r) ++ leBytes 1 (TrunkRecord.body r).length ++ TrunkRecord.body r

/-- The payload of a CONTROL TLU: its records and the end of the list (R308, R309). -/
def controlPayload (l : List TrunkRecord) : List Byte := (l.flatMap TrunkRecord.bytes ++ List.replicate 198 0#8).take 198

/-- Bytes `lo` to `lo + n - 1` of a record's body as a little-endian number. -/
def bodyAt (b : List Byte) (lo n : Nat) : Nat := ofLe ((b.drop lo).take n)

/-- A control record from its TYPE and body (R275, R309). A record of another TYPE or length is none. -/
def recordRead (type : Nat) (b : List Byte) : Option TrunkRecord :=
  match type, b.length with
  | 1, 12 => some (.status (bodyAt b 0 2 % 4096) ((List.range 80).map (fun i => bit (bodyAt b 2 10) i)))
  | 2, 24 => some (.ident (bodyAt b 0 8) (bodyAt b 8 8) (bodyAt b 16 4) (bodyAt b 20 1) (bit (bodyAt b 21 1) 0))
  | 3, 33 => some (.load (bodyAt b 0 1 % 16) ((List.range 64).map (fun j => fld (bodyAt b (1 + j / 2) 1) (4 * (j % 2)) 4)))
  | 4, 1 => some (.cls (bodyAt b 0 1 % 4))
  | 5, 8 => some (.frame (bodyAt b 0 4) (bodyAt b 4 1) (bit (bodyAt b 5 1) 0) (bit (bodyAt b 5 1) 1) (bodyAt b 6 1))
  | 6, 1 => some (.time (bit (bodyAt b 0 1) 0))
  | 7, 1 => some .sound
  | 8, 4 => some (.reflect (bodyAt b 0 4))
  | _, _ => none

/-- The records of a CONTROL payload, up to the TYPE 0x00 that ends the list (R308, R309). -/
def recordsRead : Nat → List Byte → List TrunkRecord
  | k + 1, t :: n :: rest =>
    if t = 0#8 then [] else (recordRead t.toNat (rest.take n.toNat)).toList ++ recordsRead k (rest.drop n.toNat)
  | _, _ => []

/-- Frame bytes in the payloads of DATA TLUs: back to back, each behind its 2-byte length (R308). -/
def frameStream (l : List (List Byte)) : List Byte := l.flatMap (fun b => leBytes 2 b.length ++ b)

/-- The payload of a DATA TLU that begins `off` bytes into the stream of the frames: a frame may span TLUs. DEDUCED: bytes behind the
last frame are zero (R308; log 86). -/
def dataPayload (l : List (List Byte)) (off : Nat) : List Byte :=
  ((frameStream l).drop off ++ List.replicate 198 0#8).take 198

/-- START of that TLU: the offset in its payload of the first frame header that begins in it, 0xFFFF if none (R308). -/
def dataStart (l : List (List Byte)) (off : Nat) : Nat :=
  match (List.range l.length).find? (fun k => decide (off ≤ (frameStream (l.take k)).length)) with
  | some k => if (frameStream (l.take k)).length < off + 198 then (frameStream (l.take k)).length - off else 0xFFFF
  | none => 0xFFFF

/-- A TLU as 202 bytes (R308). -/
def tluBytes (seq kind start : Nat) (payload : List Byte) : List Byte :=
  leBytes 2 (pack [(12, seq), (4, kind)]) ++ leBytes 2 start ++ (payload ++ List.replicate 198 0#8).take 198

/-- A TLU as the 1,620 information bits of its codeword: the last 4 are zero (R308). -/
def tluBits (l : List Byte) : List Bool := l.flatMap byteBits ++ List.replicate 4 false

/-- SEQ, KIND and START of a TLU (R308). -/
def tluRead (l : List Byte) : Nat × Nat × Nat :=
  (fld (ofLe (l.take 2)) 0 12, fld (ofLe (l.take 2)) 12 4, ofLe ((l.drop 2).take 2))

end Machine
end Sys2Proof
end

