-- ==== Sys2Proof/Machine/TrunkCmd.lean ====
section
/-! DEFINITION. Trunk commands (09, 10): signal settings, status and counters, TRUNK_CONFIG, the bypass policy, TRUNK_KINDLE
and TRUNK_REFLECT, with the kindle pattern, the kindle detector and trunk faults. -/
namespace Sys2Proof
namespace Machine

/-- A trunk's domain is on. -/
def State.trunkOn (s : State) (tr : Nat) : Bool := s.domOn (domOfRoot (128 + tr))

/-! ## TRUNK_SIGNAL_CONFIG (0x1200) -/

/-- TRUNK_SIGNAL_CONFIG. -/
def cmdTrunkSignalConfig (m : Msg) (s : State) : Reply :=
  let tr := m.get 1 0 2
  let c : SigCfg := ⟨m.get 1 21 5, m.get 1 19 2, m.get 1 15 4, m.get 1 12 3, m.word 2 + 2 ^ 32 * m.word 3⟩
  .unless (m.stray 1 0x03FFF003 || c.range == 3 || decide (18 < c.atten) || c.maxB == 0) .badArg <|
  .unless (!s.trunkOn tr || (s.trunk tr).isolated) .wrongState <|
  .ok (lohi s.nextEdge) (s.accept (.trunkSig tr c))

def trunkSignalConfigCmd : Cmd := ⟨0x1200, [4], false⟩
/-- TRUNK_SIGNAL_CONFIG sets a trunk's transmit level and loading limits from the next edge (R291 to R293). -/
def execTrunkSignalConfig (m : Msg) (s : State) : Res := .next (s.mailbox trunkSignalConfigCmd m cmdTrunkSignalConfig)

/-! ## TRUNK_SIGNAL_STATUS (0x1201) -/

/-- AGC_GAIN: the frozen gain, or what the gain loop has reached (R284; a free value, log 86). -/
def Trunk.gain (t : Trunk) (tr now : Nat) : Nat := if t.frozen now then t.agcGain else (Config.agcGain tr now).val

/-- TX_SET: the loading set that the transmitter uses; it is 0 in the L classes (R273). -/
def Trunk.setTx (t : Trunk) : Nat := if t.cls = 0 then t.txSet else 0

/-- TRUNK_SIGNAL_STATUS. -/
def cmdTrunkSignalStatus (m : Msg) (s : State) : Reply :=
  let tr := m.get 1 0 2
  let t := s.trunk tr
  .unless (m.stray 1 3) .badArg <|
  .unless (!s.trunkOn tr) .wrongState <|
  .ok [packW [(16, match t.freqOfs with | some f => ofInt 16 f | none => 0x8000), (6, 0), (1, b2n (t.frozen s.now)),
         (5, t.attenNow), (2, t.rangeNow), (2, t.classRx)],
       w32 (ofInt 32 t.delayRx), packW [(16, ofInt 16 t.snrAvg), (4, t.setTx), (4, t.rxSet), (8, t.gain tr s.now)],
       w32 t.burstTick] s

def trunkSignalStatusCmd : Cmd := ⟨0x1201, [2], false⟩
/-- TRUNK_SIGNAL_STATUS returns a trunk's signal figures (R288). -/
def execTrunkSignalStatus (m : Msg) (s : State) : Res := .next (s.mailbox trunkSignalStatusCmd m cmdTrunkSignalStatus)

/-! ## TRUNK_LOADING_READ (0x1202) -/

/-- The byte of a segment SNR: (SNR + 20 dB) / 0.5 dB, 0 to 255. -/
def snrByte (x : Int) : Nat := satTo 255 ((x + 200) / 5).toNat

/-- Eight words from 64 codes or 32 bytes. -/
def packWords (w n : Nat) (l : List Nat) : List Word :=
  (List.range 8).map (fun k => packW ((List.range n).map (fun j => (w, l.getD (n * k + j) 0))))

/-- The set of the loading last computed for reception: the one in use where it is the same loading, and otherwise the one it was sent
under (R275). -/
def Trunk.setRx (t : Trunk) : Nat := if t.rxLoad = t.useLoad then t.useSet else t.rxSent

/-- The loading that a trunk uses for transmission, or last computed for reception: fixed in the L classes. -/
def Trunk.loadTable (t : Trunk) (rx : Bool) : List Nat :=
  if t.cls = 0 then (if rx then t.rxLoad else t.txLoad) else fixedLoad t.cls

/-- TRUNK_LOADING_READ. -/
def cmdTrunkLoadingRead (m : Msg) (s : State) : Reply :=
  let tr := m.get 1 0 2
  let sel := m.get 1 2 2
  let t := s.trunk tr
  let set := if t.cls ≠ 0 then 0 else if sel = 0 then t.setTx else if sel = 1 then t.setRx else 0
  .unless (m.stray 1 0xF) .badArg <|
  .unless (!s.trunkOn tr) .wrongState <|
  .ok (packW [(4, if sel < 2 then set else 0), (2, t.cls)] ::
    (if sel < 2 then packWords 4 8 (t.loadTable (sel == 1))
     else match t.segSnr with
       | some l => packWords 8 4 ((List.range 32).map (fun e => snrByte (l.getD (32 * (sel - 2) + e) (-200))))
       | none => List.replicate 8 0)) s

def trunkLoadingReadCmd : Cmd := ⟨0x1202, [2], false⟩
/-- TRUNK_LOADING_READ returns a loading table or segment SNRs (R274). -/
def execTrunkLoadingRead (m : Msg) (s : State) : Res := .next (s.mailbox trunkLoadingReadCmd m cmdTrunkLoadingRead)

/-! ## TRUNK_SIGNAL_COUNTERS (0x1203) -/

/-- TRUNK_SIGNAL_COUNTERS. -/
def cmdTrunkSignalCounters (m : Msg) (s : State) : Reply :=
  let tr := m.get 1 0 2
  let c := (s.trunk tr).sigCnt
  .unless (m.stray 1 0x103) .badArg <|
  .ok (lohi s.snapEdge ++ lohi c.burstsRx ++ lohi c.burstsTx ++ lohi c.cwRx ++
      [w32 c.cwFail, w32 c.half, w32 c.missed, w32 (sat32 (c.foreign.foldl (· + ·) 0)), w32 c.ofsReject, w32 c.agcClip])
    (if m.flag 1 8 then s.modTrunk tr (fun t => { t with clr := 1 }) else s)

def trunkSignalCountersCmd : Cmd := ⟨0x1203, [2], false⟩
/-- TRUNK_SIGNAL_COUNTERS returns a trunk's signal counters (R294). -/
def execTrunkSignalCounters (m : Msg) (s : State) : Res :=
  .next (s.mailbox trunkSignalCountersCmd m cmdTrunkSignalCounters)

/-! ## TRUNK_CONFIG (0x1210) -/

/-- The TRUNK_CONFIG settings that hold when a command accepted now takes effect. -/
def State.trunkCfg (s : State) (tr : Nat) : TrunkCfg :=
  s.cfgq.foldl (fun c e => match e with
    | .trunk k c' => if k = tr then c' else c
    | _ => c) (s.trunk tr).cfg

/-- TRUNK_CONFIG. -/
def cmdTrunkConfig (m : Msg) (s : State) : Reply :=
  let tr := m.get 1 0 2
  let c : TrunkCfg := ⟨m.flag 1 21, m.get 1 19 2, m.get 1 17 2, m.get 1 15 2, m.get 1 12 3, m.flag 1 11, m.get 2 0 10⟩
  .unless (m.stray 1 0x003FF803 || m.stray 2 0x3FF || c.split == 0 || c.pair == 3 || decide (c.slow < c.fast) ||
    decide (c.nvp < 500) || decide (900 < c.nvp)) .badArg <|
  .unless (c.pair != 0 && !(s.trunkCfg (trunkMate tr)).enable) .conflict <|
  .unless (!s.trunkOn tr || (s.trunk tr).isolated) .wrongState <|
  .ok (lohi s.nextEdge) (s.accept (.trunk tr c))

def trunkConfigCmd : Cmd := ⟨0x1210, [3], false⟩
/-- TRUNK_CONFIG enables or disables a trunk and sets its limits from the next edge (R301, R306, R316). -/
def execTrunkConfig (m : Msg) (s : State) : Res := .next (s.mailbox trunkConfigCmd m cmdTrunkConfig)

/-! ## TRUNK_STATUS (0x1211) -/

/-- TRUNK_STATUS. -/
def cmdTrunkStatus (m : Msg) (s : State) : Reply :=
  let tr := m.get 1 0 2
  let t := s.trunk tr
  .unless (m.stray 1 3) .badArg <|
  .ok ([packW [(3, t.state.num), (1, b2n t.follower), (1, b2n t.aligned), (1, b2n t.long), (1, b2n (s.standby tr)),
          (1, b2n s.inPath), (2, t.cls), (3, t.split), (3, 0), (8, t.lastFail), (8, t.attempts)],
        w32 t.delay] ++ lohi t.peerSerial ++ [w32 t.retx, w32 t.tluDrop, w32 t.frameLost, w32 t.upTick]) s

def trunkStatusCmd : Cmd := ⟨0x1211, [2], false⟩
/-- TRUNK_STATUS returns a trunk's state (R304). -/
def execTrunkStatus (m : Msg) (s : State) : Res := .next (s.mailbox trunkStatusCmd m cmdTrunkStatus)

/-! ## BYPASS_SET_POLICY (0x1212) -/

/-- BYPASS_SET_POLICY. -/
def cmdBypassSetPolicy (m : Msg) (s : State) : Reply :=
  let ws := [(457, w32 (m.get 1 0 5))]
  .unless (m.stray 1 0x1F || decide (4 < m.get 1 2 3) || decide (1 < m.get 1 0 2)) .badArg <|
  .unless (s.keepWorn ws) .endurance <|
  .unless s.keepBusy .busy <|
  .later (s.keepStart ws 0x1212 (m.get 1 0 5) (s.replyTo m))

def bypassSetPolicyCmd : Cmd := ⟨0x1212, [2], true⟩
/-- BYPASS_SET_POLICY writes the bypass policy keep word (R317, R589). -/
def execBypassSetPolicy (m : Msg) (s : State) : Res := .next (s.mailbox bypassSetPolicyCmd m cmdBypassSetPolicy)

/-! ## TRUNK_KINDLE (0x1213) and the kindle pattern (R321, R322) -/

/-- TRUNK_KINDLE. -/
def cmdTrunkKindle (m : Msg) (s : State) : Reply :=
  let tr := m.get 1 0 2
  let t := s.trunk tr
  .unless (m.stray 1 3) .badArg <|
  .unless (t.state == .up || !s.trunkOn tr || t.isolated) .wrongState <|
  .unless (t.heard s.now || t.kindle.isSome ||
    s.cfgq.any (fun e => match e with | .trunkKindle k => k == tr | _ => false)) .busy <|
  .ok [w32 s.nextEdge] (s.accept (.trunkKindle tr))

def trunkKindleCmd : Cmd := ⟨0x1213, [2], false⟩
/-- TRUNK_KINDLE starts the kindle pattern on a trunk that is not UP (R322). -/
def execTrunkKindle (m : Msg) (s : State) : Res := .next (s.mailbox trunkKindleCmd m cmdTrunkKindle)

/-- KINDLE_PATTERN_SEND: the repetition that is due is sent, 8 ticks after the one before, 50 in all (R321). Once a preamble has
been declared on the trunk the pattern is no longer sent (R322); a trunk whose domain closes sends nothing further (R482). -/
def execKindlePatternSend (tr : Nat) (s : State) : Res :=
  match (s.trunk tr).kindle with
  | some (due, left) =>
    if decide (tr < 4) && s.unitOn (128 + tr) && decide (due ≤ s.now) then
      if (s.trunk tr).heard s.now then .next (s.modTrunk tr (fun t => { t with kindle := none }))
      else .next (s.modTrunk tr (fun t =>
        { t with kindle := if left ≤ 1 then none else some (due + 8, left - 1)
                 txSpan := some (10000 * s.now + 1648, 10000 * s.now + 1648 + kindleSpan) }))
    else .next s
  | none => .next s

/-! ## TRUNK_REFLECT (0x1214) (R324) -/

/-- TRUNK_REFLECT: in an L class of a trunk in UP, a REFLECT record announces the frame at which its slots begin. -/
def cmdTrunkReflect (m : Msg) (s : State) : Reply :=
  let tr := m.get 1 0 2
  let t := s.trunk tr
  .unless (m.stray 1 3) .badArg <|
  .unless (t.state == .bypassed || t.quietP.isSome || t.isolated || !s.trunkOn tr) .wrongState <|
  .unless t.reflect.isSome .busy <|
  .later (s.modTrunk tr (fun t =>
    { t with reflect := some (s.nextEdge, s.replyTo m), reflAt := s.reflectAt tr s.nextEdge
             ctl := if t.state == .up && t.cls != 0 then t.ctl ++ [.reflect (s.reflectAt tr s.nextEdge % 2 ^ 32)] else t.ctl }))

def trunkReflectCmd : Cmd := ⟨0x1214, [2], false⟩
/-- TRUNK_REFLECT starts gathering the echoes of 64 up-chirps (R324). -/
def execTrunkReflect (m : Msg) (s : State) : Res := .next (s.mailbox trunkReflectCmd m cmdTrunkReflect)

/-- A list of reflections in rising distance. -/
def insertRefl (x : Reflection) : List Reflection → List Reflection
  | [] => [x]
  | y :: t => if x.dist < y.dist then x :: y :: t else y :: insertRefl x t

/-- The class of a trunk reflection (R235, R324). -/
def trunkReflClass (rho : Int) : Nat :=
  if 600 ≤ rho then 1 else if rho ≤ -600 then 2 else if 0 < rho then 3 else if rho < 0 then 4 else 0

/-- The reflections that TRUNK_REFLECT reports: 2 m to 1,500 m, nearest first, at most 4 (R324). -/
def reflectReport (l : List Reflection) : List Reflection :=
  (((l.filter (fun r => decide (20 ≤ r.dist) && decide (r.dist ≤ 15000))).foldl (fun acc r => insertRefl r acc) [])).take 4

/-- RET0 to RET4 of TRUNK_REFLECT. -/
def reflectWords (l : List Reflection) : List Word :=
  packW [(3, l.length)] :: (List.range 4).map (fun k => match l[k]? with
    | some r => packW [(4, trunkReflClass r.rho), (1, b2n r.varies), (3, 0), (8, r.rl), (16, r.dist)]
    | none => 0)

/-- REFLECT_COMPLETE: 64 echoes have been gathered within 800 ticks, or the 800 ticks have passed without (R324). -/
def execReflectComplete (tr : Nat) (echoes : Nat) (refl : List Reflection) (s : State) : Res :=
  match (s.trunk tr).reflect with
  | none => .next s
  | some (start, reply) =>
    if decide (tr < 4) && s.live then
      let s' := s.modTrunk tr (fun t => { t with reflect := none })
      if decide (64 ≤ echoes) && s.trunkOn tr && decide (start < s.now) && decide (s.now ≤ start + 800) then
        .next (s'.ackLater reply .ok (reflectWords (reflectReport refl)))
      else if start + 800 ≤ s.now then .next (s'.ackLater reply .timeout [])
      else .next s
    else .next s

/-! ## Faults (R315) -/

/-- TRUNK_CHANNEL_FAULT (R315). -/
def execTrunkChannelFault (tr : Nat) (code : Nat) (s : State) : Res :=
  if decide (tr < 4) && isTrunkFault code then
    .next (if s.powered (128 + tr) then s.trunkFault tr code else s.dampedFault code (128 + tr))
  else .next s

/-! ## The kindle detector (R323) -/

/-- The tick counter runs: not in BANKED, EMBER or COLD (R27). -/
def State.ticking (s : State) : Bool :=
  s.time.seq && s.boot.power != .banked && s.boot.power != .ember && s.boot.power != .cold

/-- A trunk's kindle detector is armed: its domain is off and KINDLE is set for it (R323, R501). -/
def State.kindleArmed (s : State) (tr : Nat) : Bool := bit s.power.wake.kindle tr && !s.trunkOn tr && s.awake

/-- 2 ms have passed since a tick; where the tick counter stands still, the command itself says so. -/
def State.twoMs (s : State) (since : Nat) : Bool := !s.ticking || decide (since + 80 ≤ s.now)

/-- KINDLE_ENERGY: band energy above -80 dBm starts a correlation, unless the detector still rests (R323). -/
def execKindleEnergy (tr : Nat) (dbm : Int) (s : State) : Res :=
  let ready := match (s.trunk tr).detector with
    | .rest => true
    | .correlating _ => false
    | .resting since => s.twoMs since
  if decide (tr < 4) && s.kindleArmed tr && decide (-80 < dbm) && ready then
    .next (s.modTrunk tr (fun t => { t with detector := .correlating s.now }))
  else .next s

/-- KINDLE_DETECT: at least 14 of 16 chirps matched, with at least -65 dBm: a wake (R323, R501). -/
def execKindleDetect (tr : Nat) (matched : Nat) (dbm : Int) (s : State) : Res :=
  match (s.trunk tr).detector with
  | .correlating _ =>
    if decide (tr < 4) && s.kindleArmed tr && decide (14 ≤ matched) && decide (-65 ≤ dbm) then
      .next ((s.modTrunk tr (fun t => { t with detector := .resting s.now })).fireWake ⟨0x04, 128 + tr⟩ true)
    else .next s
  | .rest => .next s
  | .resting _ => .next s

/-- KINDLE_CORRELATE_TIMEOUT: 2 ms without the pattern; the detector rests (R323). -/
def execKindleCorrelateTimeout (tr : Nat) (s : State) : Res :=
  match (s.trunk tr).detector with
  | .correlating since =>
    if decide (tr < 4) && s.kindleArmed tr && s.twoMs since then
      .next (s.modTrunk tr (fun t => { t with detector := .resting s.now }))
    else .next s
  | .rest => .next s
  | .resting _ => .next s

end Machine
end Sys2Proof
end

