-- ==== Sys2Proof/Machine/TrunkTx.lean ====
section
/-! DEFINITION. What a trunk sends (09, 10): probes, and bursts with their control, retransmitted, new and fill TLUs. -/
namespace Sys2Proof
namespace Machine

/-! ## Probes (R302, R319) -/

/-- A burst of one slot is not sent because RANGE changes; the following burst goes out in the new range (R292; log 86). -/
def Trunk.skipBurst (t : Trunk) : Trunk := { t with rangeNow := t.sig.range, attenNow := t.sig.atten }

/-- The relay wait has passed (R319). -/
def Trunk.relaySettled (t : Trunk) (now : Nat) : Bool :=
  match t.relayEnd with
  | some e => decide (e ≤ now)
  | none => true

/-- TRUNK_PROBE: in SEEK, in the slot that opens an own frame, with the one random bit drawn for it (R301, R302, R319). A change of
RANGE keeps the probe from being sent and is carried into the following one (R292; log 86). -/
def execTrunkProbe (tr : Nat) (bit : Bool) (s : State) : Res :=
  let t := s.trunk tr
  if decide (tr < 4) && s.unitOn (128 + tr) && s.inPath && t.state == .seek && t.kindle.isNone &&
      t.relaySettled s.now && s.now % 8 == 0 && t.drawTick != some s.now then
    .next (s.modTrunk tr (fun t =>
      let t := { t with drawTick := some s.now }
      if !bit then t
      else if t.sig.range = t.rangeNow then
        { (t.spanned s.now 0 1) with attenNow := t.sig.atten, txTick := some s.now
                                     sigTick := { t.sigTick with burstsTx := t.sigTick.burstsTx + 1 } }
      else t.skipBurst))
  else .next s

/-- RELAY_SETTLE_END: the wait of 200 ticks after entry into the path has ended (R319). -/
def execRelaySettleEnd (tr : Nat) (s : State) : Res :=
  let t := s.trunk tr
  if decide (tr < 4) && s.live && t.relayEnd.isSome && t.relaySettled s.now then
    .next (s.modTrunk tr (fun t => { t with relayEnd := none }))
  else .next s

/-! ## Packing frames into TLUs (R300, R308) -/

/-- What one TLU takes from the waiting frames: the frames that end in it, the offset of the first header that
begins in it, the frame left
unfinished with its bytes to go, and how many frames were begun. -/
structure Packed where
  ends   : List Frame
  start  : Nat
  part   : Option (Frame × Nat)
  begun  : Nat
deriving DecidableEq, Repr

/-- Frames are laid back to back into `room` bytes, each behind its 2-byte length (R308). -/
def packFrames : Nat → Nat → List Frame → Packed
  | 0, _, _ => ⟨[], 0xFFFF, none, 0⟩
  | _ + 1, _, [] => ⟨[], 0xFFFF, none, 0⟩
  | k + 1, room, f :: rest =>
    if room = 0 then ⟨[], 0xFFFF, none, 0⟩
    else
      let size := f.outer + 2
      if size ≤ room then
        let p := packFrames k (room - size) rest
        ⟨f :: p.ends, tluRoom - room, p.part, p.begun + 1⟩
      else ⟨[], tluRoom - room, some (f, size - room), 1⟩

/-- One TLU's share, first of the frame begun earlier (R308). -/
def packTlu (part : Option (Frame × Nat)) (l : List Frame) : Packed :=
  match part with
  | none => packFrames 8 tluRoom l
  | some (f, left) =>
    if left ≤ tluRoom then
      let p := packFrames 8 (tluRoom - left) l
      { p with ends := f :: p.ends }
    else ⟨[], 0xFFFF, some (f, left - tluRoom), 0⟩

/-- Up to `n` DATA TLUs from SEQ `seq` on, the frame left unfinished, and how many frames were begun (R310). -/
def dataTlus : Nat → Nat → Option (Frame × Nat) → List Frame → List Tlu × Option (Frame × Nat) × Nat
  | 0, _, part, _ => ([], part, 0)
  | n + 1, seq, part, l =>
    if part.isNone && l.isEmpty then ([], none, 0)
    else
      let p := packTlu part l
      let more := dataTlus n (seq + 1) p.part (l.drop p.begun)
      (⟨seq % 4096, 1, true, p.start, part.isSome && !p.ends.isEmpty, p.ends, [], 0⟩ :: more.1, more.2.1,
        p.begun + more.2.2)

/-! ## Control TLUs (R309, R310) -/

/-- The oldest SEQ of those received. -/
def oldestSeq (first : Nat) (l : List (Nat × Bool)) : Nat :=
  l.foldl (fun b x => if 2048 ≤ seqDist b x.1 then x.1 else b) first

/-- STATUS records for the TLUs last received, 80 to a record, from the oldest SEQ on (R309, R310). -/
def statusRecords (l : List (Nat × Bool)) : List TrunkRecord :=
  match l with
  | [] => [.status 0 (List.replicate 80 false)]
  | (first, _) :: _ =>
    let base := oldestSeq first l
    let good := fun (q : Nat) => l.any (fun x => x.1 == q % 4096 && x.2)
    let far := (l.map (fun x => seqDist base x.1)).foldl Nat.max 0
    (List.range (far / 80 + 1)).map (fun k =>
      .status ((base + 80 * k) % 4096) ((List.range 80).map (fun i => good (base + 80 * k + i))))

/-- What the lead wants in force: split, aligned mode, long form, class (R296, R298, R306). -/
def State.frameWish (s : State) (tr : Nat) : Nat × Bool × Bool × Nat :=
  let t := s.trunk tr
  (t.cfg.split, s.fabric.locked && t.peerLocked, t.long, linkClass t.choice (t.peerChoice.getD t.choice))

/-- What is in force or announced. -/
def Trunk.frameNow (t : Trunk) : Nat × Bool × Bool × Nat :=
  match t.ann with
  | some a => (a.split, a.aligned, a.long, a.cls)
  | none => (t.split, t.aligned, t.long, t.cls)

/-- The lead announces a change: the record goes out with the next fill unit, and the activation frame lies 8 frames and the time of
one unit beyond that (R298, R301). DEDUCED: the announcement is made in the burst after the cause, however far the next unit is,
since the copies of a unit are alike (R272; log 86). -/
def State.trunkAnnounce (s : State) (tr : Nat) : State :=
  let t := s.trunk tr
  let w := s.frameWish tr
  let due := (t.state == .training && t.stage == 3 && t.ann.isNone) || (t.state == .up && t.frameNow != w)
  if !t.follower && due then
    let at_ := (s.now / 8 + t.unitAhead + 8 + symbolPeriod t.cls (t.slots - 1) / 8) % 2 ^ 32
    s.modTrunk tr (fun t => { t with ann := some ⟨at_, w.1, w.2.1, w.2.2.1, w.2.2.2⟩
                                     ctl := t.ctl ++ [.frame at_ w.1 w.2.1 w.2.2.1 w.2.2.2] })
  else s

/-- TURN (R299, R309): from the arrival of the lead's up-chirp to the own one, in 1/64 sample. -/
def Trunk.turn (t : Trunk) (now : Nat) : Nat :=
  ((((now - t.burstTick) * 640000 + 115712 : Nat) : Int) - t.delayRx).toNat

/-- The bytes of records. -/
def recordBytes (l : List TrunkRecord) : Nat := (l.map (fun r => (TrunkRecord.bytes r).length)).foldl (· + ·) 0

/-- The records that fit into `room` bytes, in order, and the rest. -/
def fitRecords : Nat → List TrunkRecord → List TrunkRecord × List TrunkRecord
  | _, [] => ([], [])
  | room, r :: t =>
    if (TrunkRecord.bytes r).length ≤ room then
      let p := fitRecords (room - (TrunkRecord.bytes r).length) t
      (r :: p.1, p.2)
    else ([], r :: t)

/-- The records of the control TLU (R309, R310): STATUS first, TIME, ID in HANDSHAKE, then what waits; and what does not fit into
its 198 bytes and waits for the next. -/
def State.controlRecords (s : State) (tr : Nat) : List TrunkRecord × List TrunkRecord :=
  let t := s.trunk tr
  let own := statusRecords t.statusFor ++ [.time s.fabric.locked] ++
    (if t.state == .training && t.stage == 1 then
      [.ident s.fuses.serial s.now (t.turn s.now) tr t.follower] else [])
  let p := fitRecords (tluRoom - recordBytes own) t.ctl
  (own ++ p.1, p.2)

/-! ## One fill unit (R310, R312) -/

/-- The TLUs sent in a burst before the present one: not acknowledged, they have failed (R312). -/
def Trunk.older (t : Trunk) (now : Nat) : List TxTlu := t.txq.filter (fun x => x.tick != now)

/-- The TLUs due again, oldest first: every one not acknowledged since an earlier burst; a third failure abandons it (R312). -/
def Trunk.dueAgain (t : Trunk) (now : Nat) : List TxTlu := (t.older now).filter (fun x => decide (x.sends < 3))

/-- The TLUs abandoned now (R312). -/
def Trunk.givenUp (t : Trunk) (now : Nat) : Nat := ((t.older now).filter (fun x => decide (3 ≤ x.sends))).length

/-- The waiting frames that a trunk's bursts take: selected before this tick, of its own root and in a pair of the other
root as well (R300, R316). -/
def State.txFrames (s : State) (tr : Nat) : List (Nat × Frame) :=
  let own := fun (r : Nat) => ((s.root (128 + r)).sending.filter (fun x => decide (x.tick < s.now))).map (fun x =>
    (128 + r, x.frame))
  if s.carrier tr ≠ tr then []
  else own tr ++ (if (s.trunk tr).cfg.pair = 0 then [] else own (trunkMate tr))

/-- A fill unit of `n` codewords is built and recorded (R310): control, retransmissions, new data, fill. In training and
on a standby link there is no data; TLUs are kept for retransmission while the partner's bursts can acknowledge
them (R297, R312, R316). -/
def State.sendUnit (s : State) (tr n : Nat) : State :=
  let t := s.trunk tr
  let rec_ := s.controlRecords tr
  let ctl : Tlu := ⟨t.txSeq, 2, true, 0xFFFF, false, [], rec_.1, 0⟩
  let again := (t.dueAgain s.now).take (n - 1)
  let wait := (t.dueAgain s.now).drop (n - 1)
  let here := t.txq.filter (fun x => x.tick == s.now)
  let room := n - 1 - again.length
  let standby := s.standby tr && s.carrier tr != tr
  let frames := if t.state == .up then s.txFrames tr else []
  let d := dataTlus room (t.txSeq + 1) t.txPart (frames.map Prod.snd)
  let seq := t.txSeq + 1 + d.1.length
  let fill : List Tlu := if standby then [] else
    (List.range (room - d.1.length)).map (fun k => ⟨(seq + k) % 4096, 0, true, 0xFFFF, false, [], [], 0⟩)
  let new := ctl :: d.1 ++ fill
  let keep := decide (2 ≤ t.peerSlots)
  let s := s.modTrunk tr (fun t =>
    { t with txBurst := ctl :: again.map TxTlu.tlu ++ d.1 ++ fill
             txSeq := (seq + fill.length) % 4096
             txPart := d.2.1
             retx := sat32 (t.retx + again.length)
             tluDrop := sat32 (t.tluDrop + t.givenUp s.now)
             abandonNow := t.abandonNow || t.givenUp s.now != 0
             ctl := rec_.2
             classTx := t.classTx || rec_.1.any (fun r => match r with | .cls _ => true | _ => false)
             txq := if keep then again.map (fun x => { x with sends := x.sends + 1, failed := false, tick := s.now }) ++ wait ++
                      here ++ new.map (fun x => ⟨x, 1, false, s.now⟩)
                    else [] })
  ((frames.take d.2.2).map Prod.fst).foldl (fun s r => s.depart r) s

/-- `k` fill units in a row. -/
def State.sendUnits (s : State) (tr n : Nat) : Nat → State
  | 0 => s
  | k + 1 => (s.sendUnit tr n).sendUnits tr n k

/-! ## Bursts (R258, R291, R292, R296, R311) -/

/-- The tick in which a loose follower answers the burst last taken: it begins at the follower's first edge at or after it has
received the end of the lead's slot 2, in 1/64 samples. The lead's slot 0 arrives 1,808 samples ahead of its up-chirp, and one slot
more where a guard slot came first (R259, R261, R292, R296, R303). -/
def Trunk.answerTick (t : Trunk) : Nat :=
  ((t.burstTick : Int) + -(-(t.delayRx - 115712 + (3 - b2n t.lateRx) * 640000) / 640000)).toNat

/-- A burst of this end begins in the present slot (R261, R296). -/
def Trunk.slotDue (t : Trunk) (now : Nat) : Bool :=
  if t.aligned then now % 8 == burstStart t.long t.follower t.split
  else if t.follower then now == t.answerTick else now % 8 == 0

/-- The loading record that waits comes into use for a burst at least 2 ticks after it was decoded (R276). -/
def Trunk.takeLoad (t : Trunk) (now : Nat) : Trunk :=
  match t.loadWait with
  | some (set, codes, k) => if k + 2 ≤ now then { t with txSet := set, txLoad := codes, loadWait := none } else t
  | none => t

/-- The slots that a burst stays silent for before its preamble: one guard slot when RANGE changes (R292). -/
def Trunk.guardSlots (t : Trunk) : Nat := b2n (t.sig.range != t.rangeNow)

/-- The burst begins: level and loading in force for its preamble slot (R276, R291, R292). -/
def Trunk.beginBurst (t : Trunk) (now : Nat) : Trunk :=
  { ((t.takeLoad (now + t.guardSlots)).spanned now t.guardSlots t.slots) with
    attenNow := t.sig.atten, rangeNow := t.sig.range, txTick := some now, txBurst := [], txPair := false
    txRefl := false, abandonNow := false
    sigTick := { t.sigTick with burstsTx := t.sigTick.burstsTx + 1 } }

/-- The data slots of a burst: a change of RANGE costs one (R292). -/
def Trunk.dataSlots (t : Trunk) : Nat := t.slots - 1 - t.guardSlots

/-- The last data slot of the burst goes to reflectometry: in an L class of a trunk in UP, from the frame announced in a REFLECT record
that has gone out (R324). -/
def State.reflects (s : State) (tr : Nat) : Bool :=
  let t := s.trunk tr
  t.state == .up && t.cls != 0 && t.reflect.isSome && decide (t.reflAt ≤ s.leadFrame tr s.now) &&
    !t.ctl.any (fun r => match r with | .reflect _ => true | _ => false)

/-- What a burst of `d` data slots carries (R272, R301, R310, R311, R324): in SOUND a training pair until 32 are sent; on the partner's request
a pair in place of the first two data slots; and the fill units that begin in its data slots. The copies that a pair or a
reflectometry slot displaces in an L class are lost. -/
def State.fillBurst (s : State) (tr d : Nat) : State :=
  let s := s.trunkAnnounce tr
  let t := s.trunk tr
  if t.state == .training && t.stage == 2 && decide (t.soundTx < 32) && decide (2 ≤ d) then
    s.modTrunk tr (fun t => { t with soundTx := t.soundTx + 1, txPair := true })
  else
    let pair := t.soundReq && decide (2 ≤ d)
    let refl := s.reflects tr && decide (1 ≤ d)
    let s := s.modTrunk tr (fun t => { t with txPair := pair, txRefl := refl, soundReq := t.soundReq && !pair })
    let dd := if pair && t.cls == 0 then d - 2 else d
    let n := unitCodewords t.cls dd t.txLoad
    let units := if n = 0 then 0 else unitsBegun t.cls t.txPos d
    (s.sendUnits tr n units).modTrunk tr (fun t => { t with txPos := t.txPos + d })

/-- TRUNK_BURST_TX: a burst of this end is built and sent. A burst of one slot that a change of RANGE would shorten is
not sent (R258, R291, R292, R296, R310, R312, R314). DEDUCED: a partner whose bursts carry no TLUs cannot tell that it has taken a
burst of the link class, and sending one counts there (R297, R301; log 86). -/
def execTrunkBurstTx (tr : Nat) (s : State) : Res :=
  let t := s.trunk tr
  if decide (tr < 4) && s.unitOn (128 + tr) && s.inPath && (t.state == .up || t.state == .training) &&
      t.slotDue s.now && t.txTick != some s.now then
    if t.slots ≤ 1 ∧ t.sig.range ≠ t.rangeNow then
      .next (s.modTrunk tr (fun t => { t.skipBurst with txTick := some s.now }))
    else
      let d := t.dataSlots
      let s := (s.modTrunk tr (fun t => t.beginBurst s.now)).fillBurst tr d
      let s := s.modTrunk tr (fun t =>
        { t with abandonFrames := if t.abandonNow then t.abandonFrames + 1 else 0
                 startTx := t.startTx || (t.stage == 4 && decide (t.peerSlots ≤ 1)) })
      .next (s.trunkAdvance tr)
  else .next s

end Machine
end Sys2Proof
end

