-- ==== Sys2Proof/Machine/Select.lean ====
section
/-! DEFINITION. The dispatcher (04, R122 to R128, R595): the opcode table, configuration replays and CONFIG_LOAD (R100 to
R103), MESSAGE_SELECT, and the phases of start-up after FW_START (R94 to R97). -/
namespace Sys2Proof
namespace Machine

/-! ## The opcodes of the manual (R126, R140) -/

/-- A command and its body. -/
abbrev Row := Cmd × (Msg → State → Reply)

/-- Group 0x00xx. -/
def generalRows : List Row :=
  [(echoCmd, cmdEcho),
   (eventReadCmd, cmdEventRead),
   (stewardMoveCmd, cmdStewardMove),
   (deviceResetCmd, cmdDeviceReset),
   (peerKeySetCmd, cmdPeerKeySet)]

/-- Group 0x01xx. -/
def bootRows : List Row :=
  [(rollbackAdvanceCmd, cmdRollbackAdvance)]

/-- Group 0x02xx. -/
def powerRows : List Row :=
  [(powerDomainSetCmd, cmdPowerDomainSet),
   (powerEnterCmd, cmdPowerEnter),
   (wakeConfigCmd, cmdWakeConfig),
   (powerStatusCmd, cmdPowerStatus)]

/-- Group 0x03xx. -/
def clockRows : List Row :=
  [(clockPlanCmd, cmdClockPlan),
   (clockStatusCmd, cmdClockStatus),
   (clockGateCmd, cmdClockGate),
   (ppsConfigCmd, cmdPpsConfig)]

/-- Group 0x10xx. -/
def lineRows : List Row :=
  [(lineConfigCmd, cmdLineConfig),
   (lineStatusCmd, cmdLineStatus),
   (lineRetrainCmd, cmdLineRetrain),
   (lineOamSendCmd, cmdLineOamSend),
   (lineOamReadCmd, cmdLineOamRead),
   (bundleConfigCmd, cmdBundleConfig),
   (bundleStatusCmd, cmdBundleStatus),
   (rxAdaptConfigCmd, cmdRxAdaptConfig),
   (rxStatusCmd, cmdRxStatus),
   (rxTapsReadCmd, cmdRxTapsRead),
   (lineCountersCmd, cmdLineCounters),
   (lineQualityCmd, cmdLineQuality),
   (lineWatchConfigCmd, cmdLineWatchConfig),
   (lineTdrCmd, cmdLineTdr),
   (cableHealthCmd, cmdCableHealth)]

/-- Group 0x11xx. -/
def dropRows : List Row :=
  [(dropConfigCmd, cmdDropConfig),
   (dropStatusCmd, cmdDropStatus),
   (dropCountersCmd, cmdDropCounters)]

/-- Group 0x12xx. -/
def trunkRows : List Row :=
  [(trunkSignalConfigCmd, cmdTrunkSignalConfig),
   (trunkSignalStatusCmd, cmdTrunkSignalStatus),
   (trunkLoadingReadCmd, cmdTrunkLoadingRead),
   (trunkSignalCountersCmd, cmdTrunkSignalCounters),
   (trunkConfigCmd, cmdTrunkConfig),
   (trunkStatusCmd, cmdTrunkStatus),
   (bypassSetPolicyCmd, cmdBypassSetPolicy),
   (trunkKindleCmd, cmdTrunkKindle),
   (trunkReflectCmd, cmdTrunkReflect)]

/-- Group 0x13xx. -/
def hostRows : List Row :=
  [(hostConfigCmd, cmdHostConfig),
   (hostStatusCmd, cmdHostStatus),
   (hostCountersCmd, cmdHostCounters),
   (hostPrbsCmd, cmdHostPrbs)]

/-- Group 0x20xx. -/
def forwardRows : List Row :=
  [(portBridgeConfigCmd, cmdPortBridgeConfig),
   (vlanSetCmd, cmdVlanSet),
   (fdbConfigCmd, cmdFdbConfig),
   (fdbEntryCmd, cmdFdbEntry),
   (fdbStatusCmd, cmdFdbStatus),
   (streamSetCmd, cmdStreamSet),
   (nodeSetCmd, cmdNodeSet),
   (queueSetCmd, cmdQueueSet),
   (queueFlushCmd, cmdQueueFlush),
   (queueStatsCmd, cmdQueueStats)]

/-- Group 0x21xx. -/
def rateRows : List Row :=
  [(rootSetCmd, cmdRootSet),
   (shaperSetCmd, cmdShaperSet),
   (shaperReadCmd, cmdShaperRead),
   (policerSetCmd, cmdPolicerSet),
   (policerStatsCmd, cmdPolicerStats),
   (gateListWriteCmd, cmdGateListWrite),
   (gateListCommitCmd, cmdGateListCommit),
   (guaranteeSetCmd, cmdGuaranteeSet),
   (guaranteeStatusCmd, cmdGuaranteeStatus)]

/-- Group 0x22xx. -/
def cellarRows : List Row :=
  [(spoolConfigCmd, cmdSpoolConfig),
   (spoolStatusCmd, cmdSpoolStatus),
   (spoolReplayCmd, cmdSpoolReplay),
   (cellarStatusCmd, cmdCellarStatus)]

/-- Group 0x30xx. -/
def fabricRows : List Row :=
  [(fabricSetIdentityCmd, cmdFabricSetIdentity),
   (fabricLinkSetCmd, cmdFabricLinkSet),
   (fabricStatusCmd, cmdFabricStatus),
   (fabricStageCmd, cmdFabricStage),
   (fabricPrepareCmd, cmdFabricPrepare),
   (frerStatusCmd, cmdFrerStatus)]

/-- Group 0x40xx. -/
def faultRows : List Row :=
  [(faultStatusCmd, cmdFaultStatus),
   (faultClearCmd, cmdFaultClear),
   (faultConfigCmd, cmdFaultConfig),
   (thermalSetCmd, cmdThermalSet),
   (thermalStatusCmd, cmdThermalStatus),
   (dinConfigCmd, cmdDinConfig),
   (dinStatusCmd, cmdDinStatus),
   (faultInjectCmd, cmdFaultInject)]

/-- Group 0x41xx. -/
def testRows : List Row :=
  [(calConfigCmd, cmdCalConfig),
   (calStatusCmd, cmdCalStatus),
   (calCommitCmd, cmdCalCommit),
   (selftestRunCmd, cmdSelftestRun),
   (selftestResultCmd, cmdSelftestResult),
   (skimConfigCmd, cmdSkimConfig),
   (skimStatusCmd, cmdSkimStatus)]

/-- Group 0x42xx. -/
def keepRows : List Row :=
  [(keepWriteCmd, cmdKeepWrite),
   (keepStatusCmd, cmdKeepStatus),
   (lifecycleTokenLoadCmd, cmdTokenLoad),
   (lifecycleAdvanceCmd, cmdLifecycleAdvance)]

/-- Every opcode that the manual defines but CONFIG_LOAD, whose body reads the flash. -/
def rows : List Row :=
  generalRows ++ bootRows ++ powerRows ++ clockRows ++ lineRows ++ dropRows ++ trunkRows ++ hostRows ++ forwardRows ++ rateRows ++ cellarRows ++ fabricRows ++ faultRows ++ testRows ++ keepRows

/-- The command of an opcode; none for an opcode that the manual does not define (R126). -/
def rowOf (op : Nat) : Option Row := rows.find? (fun r => r.1.op == op)

/-- CONFIG_LOAD for the dispatcher (R103). -/
def configLoadCmd : Cmd := ⟨0x0101, [2], false⟩

/-! ## Configuration replay (R100 to R103) -/

/-- The OPCODE of a message (R119). -/
def opOf (ws : List Word) : Nat := fld (ws.headD 0).toNat 16 16

/-- The message that stands in MSG0 to MSG15 (R118, R119). -/
def msgOf (chan slot counter : Nat) (ws : List Word) : Msg :=
  let w := (ws.headD 0).toNat
  ⟨chan, fld w 8 8, fld w 5 3, fld w 0 5, (ws.drop 1).take (fld w 0 5 - 1), slot, counter⟩

/-- How a replay stands: the state, the messages executed with OK, the message that stopped it with its code, and whether
it waits for the work of its present message (boot.replay holds how it goes on). -/
structure Replay where
  s     : State
  done  : Nat
  stop  : Option (Nat × Code)
  waits : Bool

/-- What a message of a configuration image is answered, under the rules of a command from channel 0 (R102). A CONFIG_LOAD
in it finds a replay in progress; its area's validity is that of the image last read (R103, R595). -/
def State.answerImage (s : State) (ws : List Word) : Reply :=
  let m := msgOf 8 0 0 (fill16 ws)
  if opOf ws = 0x0101 then
    s.execute (some configLoadCmd) 0x0101 m (fun m s =>
      .unless (m.stray 1 0x101) .badArg <|
      .unless (s.boot.images.getD (m.get 1 0 1) none).isNone .authFail <|
      .err .busy)
  else match rowOf (opOf ws) with
    | some (c, body) => s.execute (some c) (opOf ws) m body
    | none => s.execute none (opOf ws) m (fun _ s => .silent s)

/-- The end of a replay: CONFIG_STATE tells whether it was stopped (R85, R102). -/
def State.replayOver (s : State) (done : Nat) (stop : Option (Nat × Code)) : Replay :=
  ⟨s.modBoot (fun b => { b with replaying := false, replay := none
                                configState := if stop.isNone then .complete else .partialStop }), done, stop, false⟩

/-- The messages of an image from some place on, in order, until one is not OK, or starts work that ends later (R102). -/
def State.replayOn (s : State) (done : Nat) (reply : Option ReplyTo) : List (List Word) → Replay
  | [] => s.replayOver done none
  | ws :: rest =>
    match s.answerImage ws with
    | .ok _ s => s.replayOn (done + 1) reply rest
    | .later s => ⟨s.modBoot (fun b => { b with replay := some ⟨done, rest, reply, none⟩ }), done, none, true⟩
    | .err c => s.replayOver done (some (done, c))
    | .part c _ s => s.replayOver done (some (done, c))
    | .silent s => s.replayOver (done + 1) none

/-- The messages of an image are replayed in order, until one is not OK (R102). `reply` is who waits for the end. -/
def State.replay (s : State) (area : Nat) (reply : Option ReplyTo) (msgs : List (List Word)) : Replay :=
  (s.modBoot (fun b => { b with replaying := true, configArea := area, configState := .replaying })).replayOn 0 reply msgs

/-- The answer of a CONFIG_LOAD whose replay has ended (R103). -/
def Replay.words (r : Replay) : Code × List Word :=
  match r.stop with
  | none => (.ok, [w32 r.done, 0xFFFFFFFF, 0])
  | some (k, c) => (c, [w32 r.done, w32 k, w32 c.num])

/-- A replay whose message has ended goes on with the next one; at its end a CONFIG_LOAD is answered (R102, R103). -/
def State.replayNext (s : State) : State :=
  match s.boot.replay with
  | none => s
  | some run =>
    match run.code with
    | none => s
    | some c =>
      let r := if c = .ok then s.replayOn (run.done + 1) run.reply run.rest
        else s.replayOver run.done (some (run.done, c))
      if r.waits then r.s else r.s.ackLater run.reply r.words.1 r.words.2

/-- A configuration image is valid (R100). -/
def imageOk (f : Fuses) (i : Image) : Bool :=
  headerSigned f 0x4643594B i.hdr && decide (1 ≤ i.hdr.bodyLen) && decide (i.hdr.bodyLen ≤ 8384512)

/-- The image of an area as the flash holds it, when it is valid. -/
def flashImage (f : Fuses) (fl : Flash) (area : Nat) : Option Image :=
  match if area = 0 then fl.area0 else fl.area1 with
  | some i => if imageOk f i then some i else none
  | none => none

/-- The flash completes its reads in time (R103). -/
def Flash.reads (fl : Flash) : Bool := fl.answers && fl.timely

/-- CONFIG_LOAD. -/
def cmdConfigLoad (fl : Flash) (m : Msg) (s : State) : Reply :=
  let area := m.get 1 0 1
  .unless (m.stray 1 0x101) .badArg <|
  .unless (Flash.reads fl && (flashImage s.fuses fl area).isNone) .authFail <|
  .unless s.boot.replaying .busy <|
  .unless (!Flash.reads fl) .timeout <|
  match flashImage s.fuses fl area with
  | none => .err .authFail
  | some i =>
    if m.flag 1 8 then .ok [0, 0xFFFFFFFF, 0] s
    else
      let r := (s.modBoot (fun b => { b with images := b.images.set area (some i) })).replay area (s.replyTo m) i.msgs
      if r.waits then .later r.s
      else match r.words.1 with
        | .ok => .ok r.words.2 r.s
        | c => .part c r.words.2 r.s

/-- CONFIG_LOAD (R103). -/
def execConfigLoad (m : Msg) (fl : Flash) (s : State) : Res := .next (s.mailbox configLoadCmd m (cmdConfigLoad fl))

/-! ## MESSAGE_SELECT (R122 to R124) -/

/-- The pending message of a channel. -/
def State.pendingMsg (s : State) (ch : Nat) : Nat × Msg :=
  if ch = 3 then
    match s.mbx.peerIn with
    | p :: _ => (opOf p.words, msgOf 3 p.slot p.counter p.words)
    | [] => (0, msgOf 3 0 0 [])
  else (opOf (s.chan ch).msg, msgOf ch 0 0 (s.chan ch).msg)

/-- What a message is answered by the command of its opcode (R126, R595). -/
def State.answer (s : State) (fl : Flash) (op : Nat) (m : Msg) : Reply :=
  if op = 0x0101 then s.execute (some configLoadCmd) op m (cmdConfigLoad fl)
  else match rowOf op with
    | some (c, body) => s.execute (some c) op m body
    | none => s.execute none op m (fun _ s => .silent s)

/-- A dispatcher selects the message of a channel, and answers it CANCELLED, executes it, or passes it to the other complex,
where it waits for that complex's dispatcher (R19, R122, R123). -/
def State.selectChan (s : State) (ch : Nat) (cancelLands : Bool) (fl : Flash) : State :=
  let x := s.pendingMsg ch
  let rt : ReplyTo := ⟨ch, x.2.seq, x.2.slot, x.2.counter⟩
  let cancelled := ch != 3 && (s.chan ch).cancel
  let s := s.select ch
  if cancelled then s.ack rt .cancelled []
  else
    let s := if cancelLands && ch != 3 then s.modChan ch (fun c => { c with cancel := true }) else s
    if s.foreign x.1 x.2 then s.passOver x.1 x.2 false else s.settle rt (s.answer fl x.1 x.2)

/-- The channel from which the dispatcher of a complex selects: the steward's by its order, the other's its end of channel 4
(R122). -/
def State.dispatches (s : State) (south : Bool) : Option Nat :=
  if south = s.boot.stewardSouth then s.nextChan
  else if s.isPending 4 && s.mbx.fourSouth == south then some 4 else none

/-- A complex's dispatcher selects the message passed to its end of channel 4, executes it, and the originating channel is
answered (R19, R122). -/
def State.selectFar (s : State) (p : Passed) (fl : Flash) : State :=
  let s := (s.modMbx (fun m => { m with far := m.far.map (fun q => if q = p then { q with selected := true } else q) })).setLast
    p.south 4
  s.settle p.rt (s.answer fl (opOf p.words) (msgOf p.rt.chan p.rt.slot p.rt.counter p.words))

/-- MESSAGE_SELECT: the dispatcher of complex `south` selects, checks and executes the next pending message; `cancelLands`
tells that a CANCEL lands in the same core cycle (R19, R122, R123). It reads the steward token, whose parity is checked (R545). -/
def execMessageSelect (south cancelLands : Bool) (fl : Flash) (s : State) : Res :=
  if !s.fwRuns then .next s
  else if !s.boot.tokenParity then .next s.tokenCheck
  else match s.farFor south, s.dispatches south with
    | some p, _ => .next (s.selectFar p fl)
    | none, some ch => .next (s.selectChan ch cancelLands fl)
    | none, none => .next s

/-! ## Phases after FW_START (R94 to R97) -/

/-- CELLAR_PHASE: the cellar trains while the configuration images are read and checked (R94, R101, R422). -/
def execCellarPhase (trained : Bool) (fl : Flash) (s : State) : Res :=
  if s.fwRuns && s.boot.stage == .fwStart then
    let get := fun (a : Nat) => if Flash.reads fl then flashImage s.fuses fl a else none
    let s := s.modBoot (fun b => { b with stage := .cellar, images := [get 0, get 1] })
    if trained then .next (s.modCellar (fun c => { c with trained := true })) else .next (s.fatal 0x3802 0xFF)
  else .next s

/-- CONFIG_REPLAY: area 0 is replayed when it is valid, otherwise area 1, otherwise nothing (R101, R102). -/
def execConfigReplay (s : State) : Res :=
  if s.fwRuns && s.boot.stage == .cellar && s.cellar.trained then
    let s := s.modBoot (fun b => { b with stage := .config })
    match s.boot.images.getD 0 none, s.boot.images.getD 1 none with
    | some i, _ => .next (s.replay 0 none i.msgs).s
    | none, some i => .next (s.replay 1 none i.msgs).s
    | none, none => .next (s.modBoot (fun b => { b with configState := .none }))
  else .next s

/-- A line channel has trained, or has ended its second attempt, or cannot train now (R94, R96; log 30). -/
def State.lineSettled (s : State) (ch : Nat) (l : Line) : Bool :=
  !l.cfg.enable || !s.domOn (domOfRoot ch) || l.linked || (l.state == .asleep && !l.sleep.toning) ||
    decide (2 ≤ l.attemptsDone) || l.quietP.isSome || l.isolated

/-- The same for a trunk. -/
def State.trunkSettled (s : State) (tr : Nat) (t : Trunk) : Bool :=
  !t.cfg.enable || !s.domOn (domOfRoot (128 + tr)) || t.state == .up || t.state == .bypassed || decide (2 ≤ t.attemptsDone) ||
    t.quietP.isSome || t.isolated

/-- The same for a lane group. -/
def State.hostSettled (s : State) (g : Nat) (x : LaneGroup) : Bool :=
  !x.cfg.enable || !s.domOn (domOfRoot (132 + g)) || x.state == .up || x.state == .test || decide (2 ≤ x.attemptsDone) ||
    x.quietP.isSome || x.isolated

/-- Every enabled unit has trained or has ended its second attempt (R94, R96, R105). -/
def State.settled (s : State) : Bool :=
  s.cfgq.isEmpty && s.lines.all (fun e => s.lineSettled e.1 e.2) && s.trunks.all (fun e => s.trunkSettled e.1 e.2) &&
    s.hosts.all (fun e => s.hostSettled e.1 e.2)

/-- TRAINING_PHASE begins when the replay has ended; the bypass may open from then on (R94, R317). -/
def execTrainingPhase (s : State) : Res :=
  if s.live && s.boot.stage == .config && !s.boot.replaying then
    .next ((s.modBoot (fun b => { b with stage := .training })).updateBypass s.now)
  else .next s

/-- The first HELLO goes out on every open fabric link (R94). -/
def State.firstHello (s : State) : State :=
  if s.fabOn then (List.range 132).foldl (fun s r => if s.linkOpen r then s.helloGo r else s) s else s

/-- READINESS_PHASE: once every unit has trained or ended its second attempt, the fabric engine starts; READY becomes 1 and
POWER_STATE RUN, with doorbell 20 and its record (R86, R94, R97, R499). -/
def execReadinessPhase (s : State) : Res :=
  if s.live && s.boot.stage == .training && s.settled then
    let s := s.fabStart.firstHello
    let s := s.modBoot (fun b => { b with stage := .done, ready := true, power := .run })
    .next ((s.doorbell 20).record 0x14 0 (powerData 1 0 false 0))
  else .next s

end Machine
end Sys2Proof
end

