-- ==== Sys2Proof/Machine/Resume.lean ====
section
/-! DEFINITION. Leaving BANKED (16, R503, R105). -/
namespace Sys2Proof
namespace Machine

/-- The message adds a static forwarding entry: FDB_ENTRY with OP 1. -/
def addsStatic (ws : List Word) : Bool := opOf ws == 0x2003 && fld ((ws.getD 1 0).toNat) 30 2 == 1

/-- What the firmware replays when hub banks were not retained: the configuration area last replayed, or its static
forwarding entries only (R486). -/
def State.resumeReplay (s : State) (hub : Nat) : State :=
  if s.boot.configState == .none then s
  else match s.boot.images.getD s.boot.configArea none with
    | none => s
    | some i =>
      if banksLost hub 0 39 then (s.replay s.boot.configArea none i.msgs).s
      else if banksLost hub 40 47 then
        (i.msgs.filter addsStatic).foldl (fun s ws => match s.answerImage ws with
          | .ok _ s => s
          | .err _ | .part _ _ _ | .later _ | .silent _ => s) s
      else s

/-- Discrete inputs after resume: run counts start at zero, and each agreed value is the one last held (R560). -/
def Din.resume (d : Din) : Din := { d with cand := d.value, filt := 0, run := 0, quiet := 0, hearth := 0 }

/-- The clocks run again: the counter is advanced by the sleep length, FIO and the loops of the domains that are on run, and
supervision restarts (R503, R511, R554, R560). CLKOUT applies what was written last from A4 on, and shows its clock after step 2 of R526
(R526 to R528). -/
def State.restart (s : State) (sleep : Nat) : State :=
  let s := { s with
    time := ⟨wrap64 (s.now + sleep), s.time.seq, true⟩
    din := { s.din with inputs := s.din.inputs.map Din.resume } }
  let s := s.thermalRestart.modBoot (fun b => { b with power := .run })
  let s := (s.modClock (fun c => { c with runFio := true })).lockAll
  (s.modPower (fun p => { p with sleep := sleep, fired := none })).clkoutResume.modCellar (fun c => { c with selfRefresh := false })

/-- The first records after resume: the discontinuity in both trace banks, records that waited for firmware, the wake, and the
change of POWER_STATE with doorbell 20 (R499, R502, R505, R538). -/
def State.resumeRecords (s : State) (w : Wake) : State :=
  let s := (s.traceBoth 0xF1 Power.banked.num s.now s.power.sleep).flushDeferred
  ((s.wakeRecord w.cause w.source s.power.latched).doorbell 20).record 0x14 0 (powerData 1 2 false 0)

/-- Attempts are counted anew from a resume on: R105 speaks of the second attempt after it. -/
def State.freshAttempts (s : State) : State :=
  { s with
    lines := tmap (fun _ l => { l with attemptsDone := 0 }) s.lines
    trunks := tmap (fun _ t => { t with attemptsDone := 0 }) s.trunks
    hosts := tmap (fun _ g => { g with attemptsDone := 0 }) s.hosts }

/-- The unit domains that the entry closed: a held die works again, the others are switched on (R484, R488, R503). -/
def State.reopen (s : State) (e : Entry) (w : Wake) : State :=
  e.domains.foldl (fun s d =>
    if e.holds d then s.heldOn d (some w)
    else s.modPower (fun p => { p with jobs := p.jobs ++ [⟨d, true, s.now, none⟩] })) s.freshAttempts

/-- BANKED_RESUME: a wake source has fired in BANKED, and the device resumes after `sleep` ticks (R105, R503). -/
def execBankedResume (sleep : Nat) (s : State) : Res :=
  match s.boot.power, s.power.fired, s.power.banked with
  | .banked, some w, some e =>
    .next ((((s.restart sleep).resumeRecords w).loseBanks e.hubBanks).resumeReplay e.hubBanks |>.reopen e w)
  | _, _, _ => .next s

end Machine
end Sys2Proof
end

