-- ==== Sys2Proof/Machine/Apply.lean ====
section
/-! DEFINITION. What each accepted change of configuration does when the tick sequencer applies it, at commit step 8
(R25, R26). -/
namespace Sys2Proof
namespace Machine

/-- The bypass policy of the keep-store is in force (R317). -/
def State.applyBypass (s : State) : State :=
  (s.modBoot (fun b => { b with policy := (s.keepWord 457).toNat })).updateBypass (s.now + 1)

/-- One accepted change takes effect at the edge that ends the present tick (R26). -/
def State.applyCfg (s : State) : Cfg → State
  | .line ch c => s.applyLine ch c
  | .lineRetrain ch full => s.applyRetrain ch full
  | .lineAdapt ch c => s.modLine ch (fun l => { l with adapt := c })
  | .lineWatch ch c => s.modLine ch (fun l => { l with watch := c })
  | .lineTdr ch job => s.applyTdr ch job.reply
  | .bundle bg enable mode => s.applyBundle bg enable mode
  | .drop ds c => s.applyDrop ds c
  | .trunkSig tr c => s.applyTrunkSig tr c
  | .trunk tr c => s.applyTrunk tr c
  | .trunkKindle tr => s.applyKindle tr
  | .bypass => s.applyBypass
  | .host g c retune => s.applyHost g c retune
  | .hostPrbs g p => s.applyPrbs g p
  | .port p c => s.applySched (.port p c)
  | .vlan vid mask => s.applySched (.vlan vid mask)
  | .fdbCfg age slice => s.applySched (.fdbCfg age slice)
  | .fdbAdd mac vid mask => s.applySched (.fdbAdd mac vid mask)
  | .fdbDel mac vid => s.applySched (.fdbDel mac vid)
  | .streamSet i e => s.applySched (.streamSet i e)
  | .streamDel i => s.applySched (.streamDel i)
  | .nodeSet n p level weight => s.applySched (.nodeSet n p level weight)
  | .nodeDel n => s.applySched (.nodeDel n)
  | .queueSet q c => s.applySched (.queueSet q c)
  | .queueDel q => s.applySched (.queueDel q)
  | .root r rate ovh => s.applySched (.root r rate ovh)
  | .shaper node id en cir pir cbs pbs => s.applySched (.shaper node id en cir pir cbs pbs)
  | .policer i en m1 aw yd ovh cir pir cbs pbs => s.applySched (.policer i en m1 aw yd ovh cir pir cbs pbs)
  | .gates r l => s.applySched (.gates r l)
  | .guar i rate burst target y => s.applySched (.guar i rate burst target y)
  | .guarDel i => s.applySched (.guarDel i)
  | .run cause => s.applySched (.run cause)
  | .spool size ow h rq => s.applySched (.spool size ow h rq)
  | .spoolReplay g => s.modSpool g (fun k => { k with startDue := some (s.now + 1) })
  | .identity => s.rejoin
  | .fabLink root fab mac bd => s.applyLink root fab mac bd
  | .wake c => s.modPower (fun p => { p with wake := c })
  | .clockPlan p q ref => s.applyPlan p q ref
  | .clockGate en => s.applyGate en
  | .pps c => s.applyPps c
  | .quiet c => s.modFaults (fun f => { f with quiet := c })
  | .thermal warn damp => s.applyThermal warn damp
  | .din c => s.applyDin c
  | .cal c => s.modCal (fun k => { k with cfg := c })
  | .selftest groups skipped => s.applySelftest groups skipped
  | .skim period enable count => s.applySkim period enable count

/-- The number of the tick that the coming edge opens: the next one, or the one to which fabric time steps (R27, R460). -/
def State.nextTick (s : State) : Nat :=
  match s.fabric.step with
  | none => s.now + 1
  | some n => n

/-- Events that take effect at the edge carry the number of the tick that it opens (R135). -/
def stampNext (n tick : Nat) (m : MbxSt) : MbxSt :=
  { m with ring := m.ring.take n ++ (m.ring.drop n).map (fun e => { e with tick24 := tick % 2 ^ 24 }) }

/-- Commit step 8 takes the changes accepted so far for the next edge (R25, R26). -/
def State.commitConfig (s : State) : State := { s with cfgDue := s.cfgq.length }

/-- The changes that the commit took come into effect at the edge, in the order of their acceptance (R26). Those accepted
within the commit window wait for the next commit. -/
def State.configEdge (s : State) : State :=
  let n := s.mbx.ring.length
  ((s.cfgq.take s.cfgDue).foldl State.applyCfg { s with cfgq := s.cfgq.drop s.cfgDue, cfgDue := 0 }).modMbx (stampNext n s.nextTick)

/-- A change that hardware carries in DAMPED, where supervision, the discrete inputs and the clocks go on (R542, R543). Every other
change is to what firmware and engines work with, and nothing of that is seen before the reset that ends DAMPED. -/
def Cfg.inDamped : Cfg → Bool
  | .thermal _ _ | .din _ | .quiet _ | .clockPlan _ _ _ | .clockGate _ => true
  | _ => false

/-- At the edge after a FATAL fault, commit step 8 of its tick, where it was committed before the fault, stays in place (R541). -/
def State.configKept (s : State) : State :=
  (((s.cfgq.take s.cfgDue).filter Cfg.inDamped).foldl State.applyCfg { s with cfgq := s.cfgq.drop s.cfgDue, cfgDue := 0 })

end Machine
end Sys2Proof
end

