-- ==== Sys2Proof/Machine/Shift.lean ====
section
/-! DEFINITION. The step of fabric time (R460): what it adds to every tick value that the device holds for its own
scheduling, and to those from which it counts the ticks since an event. Ticks that only report a past event (UP_TICK, END_TICK,
T_c, event records) are not changed. -/
namespace Sys2Proof
namespace Machine

/-- A tick value after a step. -/
def shiftTick (d : Int) (t : Nat) : Nat := ((t : Int) + d).toNat

/-- A tick value after a step, when there is one. -/
def shiftOpt (d : Int) (t : Option Nat) : Option Nat := t.map (shiftTick d)

/-- A quiet period after a step. -/
def Quiet.shift (d : Int) (q : Quiet) : Quiet := { q with start := shiftTick d q.start }

/-- Low-power idle of a direction after a step. -/
def Lpi.shift (d : Int) : Lpi → Lpi
  | .quiet t => .quiet (shiftTick d t)
  | .active => .active
  | .entering n => .entering n
  | .refresh n => .refresh n
  | .waking n => .waking n

/-- Link sleep after a step. -/
def Sleep.shift (d : Int) : Sleep → Sleep
  | .tone t => .tone (shiftTick d t)
  | .none => .none
  | .waking => .waking
  | .lpi => .lpi
  | .sending n => .sending n
  | .silent => .silent

/-- A line channel after a step. -/
def Line.shift (d : Int) (l : Line) : Line :=
  { l with
    attemptStart := shiftTick d l.attemptStart
    train := { l.train with stageStart := shiftTick d l.train.stageStart }
    lpiTx := l.lpiTx.shift d
    lpiRx := l.lpiRx.shift d
    sleep := l.sleep.shift d
    quietP := l.quietP.map (Quiet.shift d)
    partStat := l.partStat.map (fun p => (p.1, p.2.1, shiftTick d p.2.2))
    tdr := l.tdr.map (fun j => { j with start := shiftTick d j.start })
    joinStart := shiftOpt d l.joinStart
    joining := shiftOpt d l.joining }

/-- A trunk after a step; the partner's counter less the own one changes the other way. -/
def Trunk.shift (d : Int) (t : Trunk) : Trunk :=
  { t with
    agcUntil := shiftOpt d t.agcUntil
    burstTick := shiftTick d t.burstTick
    preTick := shiftOpt d t.preTick
    trackTick := shiftOpt d t.trackTick
    loadWait := t.loadWait.map (fun x => (x.1, x.2.1, shiftTick d x.2.2))
    stageStart := shiftTick d t.stageStart
    loadDue := shiftTick d t.loadDue
    evalDue := shiftTick d t.evalDue
    soundDue := shiftTick d t.soundDue
    peerOfs := t.peerOfs - d
    ann := if t.follower then t.ann
           else t.ann.map (fun a => { a with at_ := (((a.at_ : Int) + d / 8) % 2 ^ 32).toNat })
    rxGot := t.rxGot.map (fun x => (shiftTick d x.1, x.2))
    missTick := shiftOpt d t.missTick
    halfTick := shiftOpt d t.halfTick
    txSpan := t.txSpan.map (fun x => (shiftTick (10000 * d) x.1, shiftTick (10000 * d) x.2))
    txTick := shiftOpt d t.txTick
    drawTick := shiftOpt d t.drawTick
    txq := t.txq.map (fun x => { x with tick := shiftTick d x.tick })
    reflAt := if t.follower then t.reflAt else (((t.reflAt : Int) + d / 8) % 2 ^ 32).toNat
    quietP := t.quietP.map (Quiet.shift d)
    kindle := t.kindle.map (fun k => (shiftTick d k.1, k.2))
    relayEnd := shiftOpt d t.relayEnd
    reflect := t.reflect.map (fun r => (shiftTick d r.1, r.2))
    detector := (match t.detector with
      | .rest => .rest
      | .correlating k => .correlating (shiftTick d k)
      | .resting k => .resting (shiftTick d k)) }

/-- A lane group after a step. -/
def LaneGroup.shift (d : Int) (g : LaneGroup) : LaneGroup :=
  { g with prbs := { g.prbs with start := shiftTick d g.prbs.start, clear := shiftTick d g.prbs.clear }
           stageStart := shiftTick d g.stageStart, nakSentAt := shiftOpt d g.nakSentAt, quietP := g.quietP.map (Quiet.shift d) }

/-- A gate list after a step: its phase is kept, also where ACT would fall before tick 0 (R398, R460). -/
def GateList.shift (d : Int) (g : GateList) : GateList :=
  let a := (g.act : Int) + d
  { g with act := (if 0 ≤ a then a else a % ((g.entries.map GateEntry.ticks).foldl (· + ·) 0 : Nat)).toNat }

/-- An accepted change after a step: the ACT of a gate list. -/
def Cfg.shift (d : Int) : Cfg → Cfg
  | .gates r l => .gates r (l.shift d)
  | x => x

/-- A descriptor after a step. -/
def Desc.shift (d : Int) (x : Desc) : Desc := { x with elig := shiftTick d x.elig }

/-- A root after a step. -/
def Root.shift (d : Int) (r : Root) : Root :=
  { r with oper := r.oper.map (GateList.shift d), wait := r.wait.map (GateList.shift d)
           sending := r.sending.map (fun x => { x with desc := x.desc.shift d, tick := shiftTick d x.tick }) }

/-- The fabric engine after a step. -/
def FabricSt.shift (d : Int) (f : FabricSt) : FabricSt :=
  { f with
    adjs := f.adjs.map (fun a => { a with rxTick := shiftTick d a.rxTick })
    topoTick := f.topoTick.map (shiftTick d)
    elected := shiftOpt d f.elected
    topoSent := shiftTick d f.topoSent
    helloSent := tmap (fun _ t => shiftTick d t) f.helloSent
    helloExtra := tmap (fun _ t => shiftTick d t) f.helloExtra
    pendRoute := f.pendRoute.map (fun r => { r with tc := shiftTick d r.tc })
    actTick := shiftTick d f.actTick
    prep := f.prep.map (fun p => { p with act := if p.act = 0 then 0 else shiftTick d p.act
                                          reach := if p.act = 0 then shiftTick d p.reach else p.reach })
    catchup := f.catchup.map (fun c => (c.1, c.2.1, shiftTick d c.2.2))
    syncPass := f.syncPass.map (fun h => { h with due := shiftTick d h.due, rx := h.rx + 25000 * d })
    recov := tmap (fun _ (r : Recovery) => { r with passTick := shiftTick d r.passTick }) f.recov }

/-- The step is added to every tick value held for scheduling (R460). -/
def State.shift (s : State) (d : Int) : State :=
  { s with
    cfgq := s.cfgq.map (Cfg.shift d)
    boot := { s.boot with
      stewardMove := s.boot.stewardMove.map (fun m => (m.1, shiftTick d m.2)), resetAt := shiftOpt d s.boot.resetAt }
    lines := tmap (fun _ l => Line.shift d l) s.lines
    bundles := tmap (fun _ (b : Bundle) => { b with surveyStart := shiftTick d b.surveyStart }) s.bundles
    drops := tmap (fun _ (x : Drop) => { x with quietP := x.quietP.map (Quiet.shift d) }) s.drops
    trunks := tmap (fun _ t => Trunk.shift d t) s.trunks
    hosts := tmap (fun _ g => LaneGroup.shift d g) s.hosts
    bridge := { s.bridge with
      fdb := s.bridge.fdb.map (fun e => { e with last := if e.static then e.last else e.last + d }) }
    sched := { s.sched with
      queues := tmap (fun _ (q : Queue) => { q with held := q.held.map (Desc.shift d) }) s.sched.queues
      roots := tmap (fun _ r => Root.shift d r) s.sched.roots }
    arrived := s.arrived.map (fun a => { a with tick := shiftTick d a.tick })
    cellar := { s.cellar with
      scrubFrom := shiftTick d s.cellar.scrubFrom
      groups := s.cellar.groups.map (fun (k : SpoolGroup) => { k with startDue := shiftOpt d k.startDue }) }
    fabric := s.fabric.shift d
    power := { s.power with
      jobs := s.power.jobs.map (fun j => { j with start := shiftTick d j.start })
      entry := s.power.entry.map (fun e => { e with start := shiftTick d e.start, abandonAt := shiftTick d e.abandonAt }) }
    clock := { s.clock with
      ppsEnd := shiftOpt d s.clock.ppsEnd, capture := s.clock.capture.map (fun c => (shiftTick d c.1, c.2)) }
    cal := { s.cal with units := tmap (fun _ (c : CalUnit) => { c with doneTick := shiftTick d c.doneTick }) s.cal.units }
    test := { s.test with start := shiftTick d s.test.start }
    skim := { s.skim with
      units := tmap (fun _ (k : SkimUnit) => { k with due := shiftTick d k.due, next := shiftTick d k.next }) s.skim.units } }

end Machine
end Sys2Proof
end

