-- ==== Sys2Proof/Machine/Tick.lean ====
section
/-! DEFINITION. The tick sequencer (01): the churn tick edge, and the commit in its eight steps. -/
namespace Sys2Proof
namespace Machine

/-! ## TICK_COMMIT (R24, R25) -/

/-- The tick sequencer runs and commits: it has started, and neither a reset, a sleep nor a kill line stops it. -/
def State.commits (s : State) : Bool :=
  s.time.seq && !s.boot.held && !s.boot.halted && (s.boot.power == .run || s.boot.power == .boot)

/-- Step 6: the counts of the tick are added to every counter (R219, R220). -/
def State.commitCounters (s : State) : State :=
  { s with
    lines := tmap (fun ch l => Line.snapshot l s.now ch) s.lines
    drops := tmap (fun _ d => Drop.snapshot d) s.drops
    trunks := tmap (fun _ t => Trunk.snapshot t) s.trunks
    hosts := tmap (fun _ g => LaneGroup.snapshot g) s.hosts
    bridge := s.bridge.snapshot
    sched := { s.sched with
      queues := tmap (fun _ q => Queue.snapshot q) s.sched.queues
      policers := tmap (fun _ p => Policer.snapshot p) s.sched.policers }
    cellar := s.cellar.snapshot
    fabric := s.fabric.snapshot
    skim := { s.skim with units := tmap (fun _ k => SkimUnit.snapshot k) s.skim.units } }

/-- The credits of a lane group's frames classified in this tick go back to its partner (R345). -/
def LaneGroup.returnCredits (g : LaneGroup) : LaneGroup :=
  if g.grantDue.all (· == 0) then g
  else { g with grantOut := (List.range 8).map (fun c => (g.grantOut.getD c 0 + g.grantDue.getD c 0) % 2 ^ 16)
                grantDue := zeros8, owes := true }

/-- The credits of every lane group (R345). -/
def State.commitCredits (s : State) : State := { s with hosts := tmap (fun _ g => LaneGroup.returnCredits g) s.hosts }

/-- The commit of a tick, each step seeing the results of all earlier ones (R25). Frames of the tick before that are still to
be classified are classified first, since the classifier finishes within the work window (R20, R24). The
configuration of step 8 comes into force at the edge (R26). -/
def State.commit (s : State) : State :=
  let s := s.classifyAll.dropTags
  let s := s.commitLearns
  let s := s.commitAging
  let s := s.commitFlushes
  let s := s.commitEnqueues
  let s := s.commitRefill.countCtl
  let s := s.commitCounters.commitCredits
  let s := s.commitGates (s.now + 1)
  let s := s.commitConfig
  { s with time := { s.time with committed := true } }

/-- TICK_COMMIT: at cycle 30,000 the tick sequencer commits the tick's results (R24, R25). -/
def execTickCommit (s : State) : Res := .next (if s.commits && !s.time.committed then s.commit else s)

/-! ## TICK_EDGE (R23, R27) -/

/-- The unit behind a root goes silent (R224, R251, R315, R349). -/
def State.silence (s : State) (root code : Nat) : State :=
  let s :=
    if root < 96 then s.lineSilence root code
    else if root < 128 then s.dropSilence (root - 96)
    else if root < 132 then s.trunkSilence (root - 128)
    else s.hostSilence (root - 132)
  s.testFault root

/-- What waited for this edge happens. -/
def State.edgeAct (s : State) : EdgeAct → State
  | .relink ch => s.lineRelink ch
  | .trunkDrop tr => s.trunkDropNow tr
  | .hostRetrain g => s.hostRetrainNow g
  | .silence root code => s.silence root code

/-- The tick counter at the edge, with the commit window of the tick that opens lengthened or shortened while an offset is left
(R459): the next number, or the number of the edge of fabric time that was made to fall here, with
every tick value held for scheduling moved along (R27, R460). -/
def State.advance (s : State) : State :=
  let s := { s with time := { s.time with tick := wrap64 (s.now + 1), committed := false } }
  match s.fabric.step with
  | none => s.modFabric (fun f => { f with adjust := f.owed.sign, owed := f.owed - f.owed.sign })
  | some n =>
    let d : Int := (n : Int) - s.now
    let s := (s.shift d).ppsLow
    ({ s with time := { s.time with tick := wrap64 n } } : State).modFabric (fun f =>
      { f with step := none, adjust := 0, owed := 0, syncNext := ceilDiv (4 * n) 625 })

/-- A tick that ends without a frame selected, eligible or classified for the root counts towards LPI_IDLE (R229). -/
def Line.idleTick (l : Line) (busy : Bool) : Line := { l with idle := if l.linked && !busy then l.idle + 1 else 0 }

/-- A tick that ends without a frame selected and with no sequenced packet unacknowledged counts towards EI_IDLE (R336). The
credit that has arrived counts from the edge on (R344). -/
def LaneGroup.idleTick (g : LaneGroup) (picked : Bool) : LaneGroup :=
  { g with idle := if g.state == .up && !picked && g.still && g.unacked.isEmpty then g.idle + 1 else 0
           still := g.unacked.isEmpty, grantEdge := g.grantIn }

/-- What the tick that has ended leaves in the line channels: adapted taps (R195) and idle ticks (R229). -/
def State.edgeLines (s : State) : State :=
  let busy := s.sched.active ++ s.eligRoots
  { s with lines := tmap (fun ch l => (s.adapt ch s.now l).idleTick (busy.contains ch)) s.lines }

/-- The transmitter of a line channel at the edge: the superframes of the tick that has ended (R156, R179 to R183), unless the
channel does not run. -/
def State.edgeTx (s : State) (ch : Nat) : State :=
  if s.powered ch then
    (s.modLine ch (fun l => l.txEdge s.now (l.snrAvg, l.sqi))).txOutcome ch (s.line ch).lpiAllowed
  else s

/-- The receivers as the reads of the tick that opens return them; `ended` is the tick before (R199). -/
def State.edgeViews (s : State) (ended : Nat) : State :=
  { s with lines := tmap (fun ch l => { l with view := s.viewOf ch ended l }) s.lines }

/-- A join whose 4,000 ticks are over has converged: the taps for its position are valid (R205, R211; log 31). -/
def State.edgeJoin (s : State) (ch : Nat) : State :=
  match (s.line ch).joining with
  | some t =>
    if t + 4000 ≤ s.now then
      (s.modLine ch (fun l => { l with joining := none })).modBundle (ch / 4) (fun b => b.setValid (ch % 4) true)
    else s
  | none => s

/-- An acknowledgement that came in the tick before reaches the spool (R348). -/
def State.edgeSpool (s : State) (g : Nat) : State :=
  match (s.host g).ackNext with
  | some n => (s.modHost g (fun x => { x with ackNext := none })).spoolPass g n
  | none => s

/-- The steward token changes owner at its edge (R36). -/
def State.edgeSteward (s : State) : State :=
  match s.boot.stewardMove with
  | some (south, e) =>
    if e ≤ s.now then s.modBoot (fun b => { b with stewardSouth := south, stewardMove := none }) else s
  | none => s

/-- READY returns to 1 once every unit has been powered again and has restarted, trained or ended its second attempt after BANKED (R105). -/
def State.edgeReady (s : State) : State :=
  if s.boot.stage == .done && s.boot.power == .run && !s.boot.ready && s.settled &&
      !s.power.jobs.any (fun j => j.on) then s.modBoot (fun b => { b with ready := true })
  else s

/-- The results of the tick that has ended take effect, and what waited for the edge happens (R23). -/
def State.open (s : State) : State :=
  let ended := s.now
  let s := s.dropTags.edgeLines
  let s := { s with hosts := tmap (fun g x => LaneGroup.idleTick x (s.sched.picked.contains (132 + g))) s.hosts }
  let s := s.configEdge
  let s := s.commitGates (s.now + 1)
  let s := s.advance
  let s := s.replayNext
  let s := s.modSched (fun d =>
    { d with active := [], picked := [], queues := tmap (fun _ (q : Queue) => { q with leaving := 0 }) d.queues })
  let s := (s.countCtl.modFabric (fun f => { f with outbox := [], ctlCounted := 0 })).modMbx (fun m => { m with peerOut := [] })
  let s := s.modFaults (fun f => { f with raised := [] })
  let s := s.edgeSteward
  let acts := s.edgeq
  let s := acts.foldl State.edgeAct { s with edgeq := [] }
  let s := (List.range 4).foldl State.edgeSpool s
  let s := (s.lines.map Prod.fst).foldl State.edgeTx s
  let s := (s.lines.map Prod.fst).foldl State.edgeJoin s.decideStarts
  let s := s.calEdge.skimEdge.adjSweep
  let s := s.runsEdge.runEdge
  (s.watermarks.wakeTags.edgeViews ended).edgeReady

/-- The edge of a tick: DEVICE_RESET begins at its edge, once no keep-store command is in progress (R82, DEVICE_RESET);
DAMPED is entered at the edge after a FATAL fault, and the counter goes on in it (R27, R541); otherwise the tick before it
takes effect. The parity of the steward token is checked (R545), and a confirmed DAMP can clear (R549). -/
def State.edge (s : State) : State :=
  let s := s.dampEdge
  if s.boot.resetAt.any (fun e => decide (e ≤ s.now + 1)) && s.keep.job.isNone then s.resetTo .command 0
  else if s.boot.halted || s.boot.power == .damped then
    let s := ({ s.configKept with time := { s.time with tick := wrap64 (s.now + 1), committed := false } } : State).modFaults (fun f =>
      { f with raised := [] })
    if s.faults.dampedDue then s.enterDamped else s
  else s.open.tokenCheck

/-- The next edge can come: the sequencer has started, no reset or sleep holds it, and the tick has been committed. -/
def State.edgeComes (s : State) : Bool :=
  s.time.seq && !s.boot.held &&
    (s.boot.halted || s.boot.power == .damped ||
      (s.time.committed && (s.boot.power == .run || s.boot.power == .boot)))

/-- TICK_EDGE: a churn tick edge opens a tick (R23, R27). With clock ratios outside R513 in force the core clock is undefined. -/
def execTickEdge (s : State) : Res :=
  if !s.edgeComes then .next s
  else if s.ratiosOk then .next s.edge
  else .fault .clockRatiosUndefined

end Machine
end Sys2Proof
end

