-- ==== Sys2Proof/Machine/Dispatch.lean ====
section
/-! DEFINITION. The dispatch: one arm for each command, each one direct call of its meaning. -/
namespace Sys2Proof
namespace Machine

def exec (i : Instr) (s : State) : Host.Outcome State Fault Refusal :=
  match i with
  | .powerOnReset => Sys2Proof.Machine.execPowerOnReset s
  | .vdde18Collapse => Sys2Proof.Machine.execVdde18Collapse s
  | .pinReset => Sys2Proof.Machine.execPinReset s
  | .railReset rails => Sys2Proof.Machine.execRailReset rails s
  | .hearthBrownout => Sys2Proof.Machine.execHearthBrownout s
  | .resetRelease => Sys2Proof.Machine.execResetRelease s
  | .bootRom ck fl => Sys2Proof.Machine.execBootRom ck fl s
  | .cellarPhase trained fl => Sys2Proof.Machine.execCellarPhase trained fl s
  | .configReplay => Sys2Proof.Machine.execConfigReplay s
  | .trainingPhase => Sys2Proof.Machine.execTrainingPhase s
  | .readinessPhase => Sys2Proof.Machine.execReadinessPhase s
  | .tickEdge => Sys2Proof.Machine.execTickEdge s
  | .tickCommit => Sys2Proof.Machine.execTickCommit s
  | .tickOverrun engine die finish => Sys2Proof.Machine.execTickOverrun engine die finish s
  | .registerWrite p addr w => Sys2Proof.Machine.execRegisterWrite p addr w s
  | .tickLoRead p => Sys2Proof.Machine.execTickLoRead p s
  | .mailboxGo ch ctrl => Sys2Proof.Machine.execMailboxGo ch ctrl s
  | .mailboxCancel ch ctrl => Sys2Proof.Machine.execMailboxCancel ch ctrl s
  | .ackClr ch data => Sys2Proof.Machine.execAckClr ch data s
  | .dbStatusClear mask events => Sys2Proof.Machine.execDbStatusClear mask events s
  | .dbMaskWrite mask => Sys2Proof.Machine.execDbMaskWrite mask s
  | .dbTest data => Sys2Proof.Machine.execDbTest data s
  | .clkoutChange data => Sys2Proof.Machine.execClkoutChange data s
  | .clkoutChangeEnd => Sys2Proof.Machine.execClkoutChangeEnd s
  | .messageSelect south cancelLands fl => Sys2Proof.Machine.execMessageSelect south cancelLands fl s
  | .peerMessage p => Sys2Proof.Machine.execPeerMessage p s
  | .echo m => Sys2Proof.Machine.execEcho m s
  | .eventRead m => Sys2Proof.Machine.execEventRead m s
  | .stewardMove m => Sys2Proof.Machine.execStewardMove m s
  | .deviceReset m => Sys2Proof.Machine.execDeviceReset m s
  | .peerKeySet m => Sys2Proof.Machine.execPeerKeySet m s
  | .configLoad m fl => Sys2Proof.Machine.execConfigLoad m fl s
  | .rollbackAdvance m => Sys2Proof.Machine.execRollbackAdvance m s
  | .powerDomainSet m => Sys2Proof.Machine.execPowerDomainSet m s
  | .domainPowered dom => Sys2Proof.Machine.execDomainPowered dom s
  | .powerEnter m => Sys2Proof.Machine.execPowerEnter m s
  | .powerEntryStep => Sys2Proof.Machine.execPowerEntryStep s
  | .wakeConfig m => Sys2Proof.Machine.execWakeConfig m s
  | .powerStatus m => Sys2Proof.Machine.execPowerStatus m s
  | .bankedResume sleep => Sys2Proof.Machine.execBankedResume sleep s
  | .emberWake sleep => Sys2Proof.Machine.execEmberWake sleep s
  | .emberRailFail => Sys2Proof.Machine.execEmberRailFail s
  | .sioTimerWake => Sys2Proof.Machine.execSioTimerWake s
  | .hostLaneWakeDetect g => Sys2Proof.Machine.execHostLaneWakeDetect g s
  | .clockPlan m => Sys2Proof.Machine.execClockPlan m s
  | .refSwitchComplete => Sys2Proof.Machine.execRefSwitchComplete s
  | .clockStatus m => Sys2Proof.Machine.execClockStatus m s
  | .clockGate m => Sys2Proof.Machine.execClockGate m s
  | .ppsConfig m => Sys2Proof.Machine.execPpsConfig m s
  | .pllLock loop => Sys2Proof.Machine.execPllLock loop s
  | .pllUnlock loop => Sys2Proof.Machine.execPllUnlock loop s
  | .clockStopDetect src running xbCount => Sys2Proof.Machine.execClockStopDetect src running xbCount s
  | .refDeviation ppm => Sys2Proof.Machine.execRefDeviation ppm s
  | .forcedFailover => Sys2Proof.Machine.execForcedFailover s
  | .nmiHandler => Sys2Proof.Machine.execNmiHandler s
  | .ppsPulse => Sys2Proof.Machine.execPpsPulse s
  | .ppsPulseEnd => Sys2Proof.Machine.execPpsPulseEnd s
  | .ppsInCapture cycle offset => Sys2Proof.Machine.execPpsInCapture cycle offset s
  | .lineConfig m => Sys2Proof.Machine.execLineConfig m s
  | .lineStatus m => Sys2Proof.Machine.execLineStatus m s
  | .lineRetrain m => Sys2Proof.Machine.execLineRetrain m s
  | .lineOamSend m => Sys2Proof.Machine.execLineOamSend m s
  | .lineOamRead m => Sys2Proof.Machine.execLineOamRead m s
  | .bundleConfig m => Sys2Proof.Machine.execBundleConfig m s
  | .bundleStatus m => Sys2Proof.Machine.execBundleStatus m s
  | .rxAdaptConfig m => Sys2Proof.Machine.execRxAdaptConfig m s
  | .rxStatus m => Sys2Proof.Machine.execRxStatus m s
  | .rxTapsRead m => Sys2Proof.Machine.execRxTapsRead m s
  | .lineCounters m => Sys2Proof.Machine.execLineCounters m s
  | .lineQuality m => Sys2Proof.Machine.execLineQuality m s
  | .lineWatchConfig m => Sys2Proof.Machine.execLineWatchConfig m s
  | .lineTdr m => Sys2Proof.Machine.execLineTdr m s
  | .tdrComplete ch partner refl => Sys2Proof.Machine.execTdrComplete ch partner refl s
  | .cableHealth m => Sys2Proof.Machine.execCableHealth m s
  | .baselineCapture ch => Sys2Proof.Machine.execBaselineCapture ch s
  | .anPageRx ch x => Sys2Proof.Machine.execAnPageRx ch x s
  | .trainingFrameRx ch f => Sys2Proof.Machine.execTrainingFrameRx ch f s
  | .lineTrainingTimeout ch => Sys2Proof.Machine.execLineTrainingTimeout ch s
  | .bundleSurvey bg => Sys2Proof.Machine.execBundleSurvey bg s
  | .surveyComplete bg noise coupling => Sys2Proof.Machine.execSurveyComplete bg noise coupling s
  | .joinSoftStartEnd ch => Sys2Proof.Machine.execJoinSoftStartEnd ch s
  | .sfmRx ch markErr bytes bad corr => Sys2Proof.Machine.execSfmRx ch markErr bytes bad corr s
  | .oamMessageRx ch blocks => Sys2Proof.Machine.execOamMessageRx ch blocks s
  | .precoderSwitch ch sf => Sys2Proof.Machine.execPrecoderSwitch ch sf s
  | .precoderUpdate ch later => Sys2Proof.Machine.execPrecoderUpdate ch later s
  | .resumeTimeout ch => Sys2Proof.Machine.execResumeTimeout ch s
  | .blwSaturation ch => Sys2Proof.Machine.execBlwSaturation ch s
  | .lpiEntry ch => Sys2Proof.Machine.execLpiEntry ch s
  | .lpiRefresh ch => Sys2Proof.Machine.execLpiRefresh ch s
  | .lpiWake ch => Sys2Proof.Machine.execLpiWake ch s
  | .linkSleep ch => Sys2Proof.Machine.execLinkSleep ch s
  | .wakeToneDetect ch => Sys2Proof.Machine.execWakeToneDetect ch s
  | .lineWakeDetect ch => Sys2Proof.Machine.execLineWakeDetect ch s
  | .linkDrop ch criterion => Sys2Proof.Machine.execLinkDrop ch criterion s
  | .lineChannelFault ch code => Sys2Proof.Machine.execLineChannelFault ch code s
  | .quietPeriodEnd root => Sys2Proof.Machine.execQuietPeriodEnd root s
  | .dropConfig m => Sys2Proof.Machine.execDropConfig m s
  | .dropStatus m => Sys2Proof.Machine.execDropStatus m s
  | .dropCounters m => Sys2Proof.Machine.execDropCounters m s
  | .plcaBeacon ds => Sys2Proof.Machine.execPlcaBeacon ds s
  | .plcaOpportunityTimeout ds => Sys2Proof.Machine.execPlcaOpportunityTimeout ds s
  | .dropFrameRx ds id collision arr f => Sys2Proof.Machine.execDropFrameRx ds id collision arr f s
  | .foreignBeaconRx ds => Sys2Proof.Machine.execForeignBeaconRx ds s
  | .coordConflictClear ds => Sys2Proof.Machine.execCoordConflictClear ds s
  | .dropChannelFault ds code => Sys2Proof.Machine.execDropChannelFault ds code s
  | .dropWakeDetect ds => Sys2Proof.Machine.execDropWakeDetect ds s
  | .trunkSignalConfig m => Sys2Proof.Machine.execTrunkSignalConfig m s
  | .trunkSignalStatus m => Sys2Proof.Machine.execTrunkSignalStatus m s
  | .trunkLoadingRead m => Sys2Proof.Machine.execTrunkLoadingRead m s
  | .trunkSignalCounters m => Sys2Proof.Machine.execTrunkSignalCounters m s
  | .trunkConfig m => Sys2Proof.Machine.execTrunkConfig m s
  | .trunkStatus m => Sys2Proof.Machine.execTrunkStatus m s
  | .bypassSetPolicy m => Sys2Proof.Machine.execBypassSetPolicy m s
  | .trunkKindle m => Sys2Proof.Machine.execTrunkKindle m s
  | .kindlePatternSend tr => Sys2Proof.Machine.execKindlePatternSend tr s
  | .trunkReflect m => Sys2Proof.Machine.execTrunkReflect m s
  | .reflectComplete tr echoes refl => Sys2Proof.Machine.execReflectComplete tr echoes refl s
  | .trunkProbe tr bit => Sys2Proof.Machine.execTrunkProbe tr bit s
  | .relaySettleEnd tr => Sys2Proof.Machine.execRelaySettleEnd tr s
  | .preambleDetect tr p => Sys2Proof.Machine.execPreambleDetect tr p s
  | .halfPreamble tr => Sys2Proof.Machine.execHalfPreamble tr s
  | .missedBurst tr => Sys2Proof.Machine.execMissedBurst tr s
  | .trunkBurstRx tr b => Sys2Proof.Machine.execTrunkBurstRx tr b s
  | .trunkBurstTx tr => Sys2Proof.Machine.execTrunkBurstTx tr s
  | .loadingCompute tr snr => Sys2Proof.Machine.execLoadingCompute tr snr s
  | .classEvaluation tr => Sys2Proof.Machine.execClassEvaluation tr s
  | .soundRequest tr => Sys2Proof.Machine.execSoundRequest tr s
  | .tluGapTimeout tr => Sys2Proof.Machine.execTluGapTimeout tr s
  | .frameActivation tr => Sys2Proof.Machine.execFrameActivation tr s
  | .trunkTrainingTimeout tr => Sys2Proof.Machine.execTrunkTrainingTimeout tr s
  | .trunkLinkDrop tr => Sys2Proof.Machine.execTrunkLinkDrop tr s
  | .trunkChannelFault tr code => Sys2Proof.Machine.execTrunkChannelFault tr code s
  | .kindleEnergy tr dbm => Sys2Proof.Machine.execKindleEnergy tr dbm s
  | .kindleDetect tr matched dbm => Sys2Proof.Machine.execKindleDetect tr matched dbm s
  | .kindleCorrelateTimeout tr => Sys2Proof.Machine.execKindleCorrelateTimeout tr s
  | .hostConfig m => Sys2Proof.Machine.execHostConfig m s
  | .hostStatus m => Sys2Proof.Machine.execHostStatus m s
  | .hostCounters m => Sys2Proof.Machine.execHostCounters m s
  | .hostPrbs m => Sys2Proof.Machine.execHostPrbs m s
  | .hostTrainingBlock g b => Sys2Proof.Machine.execHostTrainingBlock g b s
  | .hostTrainingTimeout g => Sys2Proof.Machine.execHostTrainingTimeout g s
  | .lanePacketRx g p => Sys2Proof.Machine.execLanePacketRx g p s
  | .nakRepeat g => Sys2Proof.Machine.execNakRepeat g s
  | .laneResend g => Sys2Proof.Machine.execLaneResend g s
  | .hostRetrain g cause => Sys2Proof.Machine.execHostRetrain g cause s
  | .electricalIdleEntry g => Sys2Proof.Machine.execElectricalIdleEntry g s
  | .electricalIdleExit g => Sys2Proof.Machine.execElectricalIdleExit g s
  | .sidebandPacket g ctrl words => Sys2Proof.Machine.execSidebandPacket g ctrl words s
  | .spoolAck g n => Sys2Proof.Machine.execSpoolAck g n s
  | .hostLaneFault g code => Sys2Proof.Machine.execHostLaneFault g code s
  | .frameArrival port arr f => Sys2Proof.Machine.execFrameArrival port arr f s
  | .frameClassify => Sys2Proof.Machine.execFrameClassify s
  | .frerRecoveryReset handle => Sys2Proof.Machine.execFrerRecoveryReset handle s
  | .schedulerSelect root => Sys2Proof.Machine.execSchedulerSelect root s
  | .frameDeparture root corrected => Sys2Proof.Machine.execFrameDeparture root corrected s
  | .portBridgeConfig m => Sys2Proof.Machine.execPortBridgeConfig m s
  | .vlanSet m => Sys2Proof.Machine.execVlanSet m s
  | .fdbConfig m => Sys2Proof.Machine.execFdbConfig m s
  | .fdbEntry m => Sys2Proof.Machine.execFdbEntry m s
  | .fdbStatus m => Sys2Proof.Machine.execFdbStatus m s
  | .streamSet m => Sys2Proof.Machine.execStreamSet m s
  | .nodeSet m => Sys2Proof.Machine.execNodeSet m s
  | .queueSet m => Sys2Proof.Machine.execQueueSet m s
  | .queueFlush m => Sys2Proof.Machine.execQueueFlush m s
  | .queueStats m => Sys2Proof.Machine.execQueueStats m s
  | .rootSet m => Sys2Proof.Machine.execRootSet m s
  | .shaperSet m => Sys2Proof.Machine.execShaperSet m s
  | .shaperRead m => Sys2Proof.Machine.execShaperRead m s
  | .policerSet m => Sys2Proof.Machine.execPolicerSet m s
  | .policerStats m => Sys2Proof.Machine.execPolicerStats m s
  | .gateListWrite m => Sys2Proof.Machine.execGateListWrite m s
  | .gateListCommit m => Sys2Proof.Machine.execGateListCommit m s
  | .guaranteeSet m => Sys2Proof.Machine.execGuaranteeSet m s
  | .guaranteeStatus m => Sys2Proof.Machine.execGuaranteeStatus m s
  | .spoolConfig m => Sys2Proof.Machine.execSpoolConfig m s
  | .spoolStatus m => Sys2Proof.Machine.execSpoolStatus m s
  | .spoolReplay m => Sys2Proof.Machine.execSpoolReplay m s
  | .spoolReplayStart g => Sys2Proof.Machine.execSpoolReplayStart g s
  | .replayPlace g => Sys2Proof.Machine.execReplayPlace g s
  | .cellarStatus m => Sys2Proof.Machine.execCellarStatus m s
  | .cellarUe site => Sys2Proof.Machine.execCellarUe site s
  | .patrolScrub pages corrected bad => Sys2Proof.Machine.execPatrolScrub pages corrected bad s
  | .fabricSetIdentity m => Sys2Proof.Machine.execFabricSetIdentity m s
  | .fabricLinkSet m => Sys2Proof.Machine.execFabricLinkSet m s
  | .fabricStatus m => Sys2Proof.Machine.execFabricStatus m s
  | .fabricStage m => Sys2Proof.Machine.execFabricStage m s
  | .fabricPrepare m => Sys2Proof.Machine.execFabricPrepare m s
  | .frerStatus m => Sys2Proof.Machine.execFrerStatus m s
  | .helloSend root => Sys2Proof.Machine.execHelloSend root s
  | .helloRx root h => Sys2Proof.Machine.execHelloRx root h s
  | .adjacencyExpiry root => Sys2Proof.Machine.execAdjacencyExpiry root s
  | .topoSend => Sys2Proof.Machine.execTopoSend s
  | .topoRx root r => Sys2Proof.Machine.execTopoRx root r s
  | .leaderElection => Sys2Proof.Machine.execLeaderElection s
  | .routeSend => Sys2Proof.Machine.execRouteSend s
  | .routeRx r => Sys2Proof.Machine.execRouteRx r s
  | .keyRx k wrapped => Sys2Proof.Machine.execKeyRx k wrapped s
  | .fabricCommitTick => Sys2Proof.Machine.execFabricCommitTick s
  | .syncSend => Sys2Proof.Machine.execSyncSend s
  | .syncRx y => Sys2Proof.Machine.execSyncRx y s
  | .prepareRx epoch digest act origin cfg => Sys2Proof.Machine.execPrepareRx epoch digest act origin cfg s
  | .prepAckRx path code => Sys2Proof.Machine.execPrepAckRx path code s
  | .prepareDeadline => Sys2Proof.Machine.execPrepareDeadline s
  | .commitRx c => Sys2Proof.Machine.execCommitRx c s
  | .abortRx a => Sys2Proof.Machine.execAbortRx a s
  | .fabricConfigActivate => Sys2Proof.Machine.execFabricConfigActivate s
  | .catchupReqRx root => Sys2Proof.Machine.execCatchupReqRx root s
  | .catchupRx epoch digest cfg => Sys2Proof.Machine.execCatchupRx epoch digest cfg s
  | .catchupApply => Sys2Proof.Machine.execCatchupApply s
  | .mkaFrameRx root ckn icvOk k => Sys2Proof.Machine.execMkaFrameRx root ckn icvOk k s
  | .fatalFault code unit detail => Sys2Proof.Machine.execFatalFault code unit detail s
  | .faultStatus m => Sys2Proof.Machine.execFaultStatus m s
  | .faultClear m => Sys2Proof.Machine.execFaultClear m s
  | .faultConfig m => Sys2Proof.Machine.execFaultConfig m s
  | .faultInject m => Sys2Proof.Machine.execFaultInject m s
  | .thermalSet m => Sys2Proof.Machine.execThermalSet m s
  | .thermalStatus m => Sys2Proof.Machine.execThermalStatus m s
  | .temperatureReading readings => Sys2Proof.Machine.execTemperatureReading readings s
  | .thermalWarnConfirm sensor => Sys2Proof.Machine.execThermalWarnConfirm sensor s
  | .thermalWarnClear sensor => Sys2Proof.Machine.execThermalWarnClear sensor s
  | .thermalDamp sensor => Sys2Proof.Machine.execThermalDamp sensor s
  | .sensorLost sensor => Sys2Proof.Machine.execSensorLost sensor s
  | .sensorRecover sensor => Sys2Proof.Machine.execSensorRecover sensor s
  | .dinConfig m => Sys2Proof.Machine.execDinConfig m s
  | .dinStatus m => Sys2Proof.Machine.execDinStatus m s
  | .dinSample a b => Sys2Proof.Machine.execDinSample a b s
  | .dinChange k => Sys2Proof.Machine.execDinChange k s
  | .dinDiscrepancy k => Sys2Proof.Machine.execDinDiscrepancy k s
  | .dinDiscrepancyClear k => Sys2Proof.Machine.execDinDiscrepancyClear k s
  | .dinHearthSample a b => Sys2Proof.Machine.execDinHearthSample a b s
  | .referenceSlice vref rset => Sys2Proof.Machine.execReferenceSlice vref rset s
  | .calSlice unit aborted trims temp => Sys2Proof.Machine.execCalSlice unit aborted trims temp s
  | .calStale unit => Sys2Proof.Machine.execCalStale unit s
  | .calConfig m => Sys2Proof.Machine.execCalConfig m s
  | .calStatus m => Sys2Proof.Machine.execCalStatus m s
  | .calCommit m => Sys2Proof.Machine.execCalCommit m s
  | .selftestRun m => Sys2Proof.Machine.execSelftestRun m s
  | .selftestGroupStart => Sys2Proof.Machine.execSelftestGroupStart s
  | .selftestUnitEnd unit check => Sys2Proof.Machine.execSelftestUnitEnd unit check s
  | .selftestResult m => Sys2Proof.Machine.execSelftestResult m s
  | .skimConfig m => Sys2Proof.Machine.execSkimConfig m s
  | .skimStatus m => Sys2Proof.Machine.execSkimStatus m s
  | .skimSlice unit aborted check => Sys2Proof.Machine.execSkimSlice unit aborted check s
  | .skimOverdue unit => Sys2Proof.Machine.execSkimOverdue unit s
  | .keepWrite m => Sys2Proof.Machine.execKeepWrite m s
  | .keepWordComplete => Sys2Proof.Machine.execKeepWordComplete s
  | .keepStatus m => Sys2Proof.Machine.execKeepStatus m s
  | .lifecycleTokenLoad m => Sys2Proof.Machine.execLifecycleTokenLoad m s
  | .lifecycleAdvance m => Sys2Proof.Machine.execLifecycleAdvance m s
  | .fuseInstruction hash => Sys2Proof.Machine.execFuseInstruction hash s
  | .standardTraining ch e => Sys2Proof.Machine.execStandardTraining ch e s
  | .peerDelayExchange root d => Sys2Proof.Machine.execPeerDelayExchange root d s
  | .steeringStop => Sys2Proof.Machine.execSteeringStop s

end Machine
end Sys2Proof
end

