-- ==== Sys2Proof/Safety.lean ====
section
/-! DEFINITION. What counts as a safe run, and when a command is carried out, in the terms that statements use. -/
namespace Sys2Proof

/-- Who is answered for a message (R124, R137). -/
def Msg.rt (m : Msg) : Machine.ReplyTo := ⟨m.chan, m.seq, m.slot, m.counter⟩

namespace Machine

/-- In DAMPED nothing is sent on any line channel, drop, trunk or host lane, and BYPA and BYPB are low (R39, R542). -/
def State.silent (s : State) : Prop :=
  (∀ ch, s.lineSends ch = false) ∧ (∀ ds, s.dropSends ds = false) ∧ (∀ tr, s.trunkSends tr = false) ∧
    (∀ g, s.hostSends g = false) ∧ s.pins.byp = .low

/-- The kill lines are asserted, or DAMPED has been reached through them (R541, R542). -/
def State.killed (s : State) : Prop := s.boot.halted = true

/-- Memory in its one canonical form (R586): indices rise strictly, every index lies below `n`, and no entry is equal to what
an unlisted index reads as. -/
def Memory.wf (t : Table Word) (n : Nat) : Bool := tsorted t && t.all (fun e => decide (e.1 < n) && e.2 != 0)

/-- The keep-store and the hearth's cache are in canonical form, and a command under way writes words of the store only. -/
def State.keepWf (s : State) : Prop :=
  Memory.wf s.keep.words 512 = true ∧ Memory.wf s.keep.cache 512 = true ∧
    ∀ j, s.keep.job = some j → ∀ e ∈ j.words, e.1 < 512

/-- The state in which a message's body runs: submitted on its channel, selected, and passed to the complex that executes
it (R19, R120, R123). -/
def State.dispatched (s : State) (op : Nat) (m : Msg) : State := ((s.submit op m).select m.chan).passOn op m

/-- The message of a command is carried out at once: firmware runs, the message stands on its channel with no CANCEL, the
dispatcher comes to it, and the checks 1 to 5 of R595 pass; `d` is the state in which its body runs (R120 to R124). -/
def State.selects (s : State) (cmd : Cmd) (m : Msg) (d : State) : Prop :=
  d = s.dispatched cmd.op m ∧ (s.submit cmd.op m).fwRuns = true ∧ (s.submit cmd.op m).waits cmd.op m = true ∧
    (s.submit cmd.op m).turn m.chan = true ∧
    (m.chan ≠ 3 → ((s.submit cmd.op m).chan m.chan).cancel = false) ∧ d.check (some cmd) cmd.op m = none

end Machine
end Sys2Proof
end

