-- ==== Sys2Proof/Certificates/Slice0/Obligations.lean ====
section
/-! DEFINITION. The statements for the provers. A mailbox command's statements speak of the state `d` in which its body runs
(`State.selects`) and of the answer that its message then gets (`State.ack`). -/
open Sys2Proof Sys2Proof.Machine

/-- A step runs the command at the front of the queue. Step at a state whose queue begins with c is exec of c at that
state with the queue's rest; on an empty queue the block idles: it answers the same state (log 32, the model's own
queue and idling). -/
def Obligations.StepRunsCommand : Prop :=
  (∀ (c : Instr) (rest : List Instr) (s : State),
    step { s with pending := c :: rest } = exec c { s with pending := rest }) ∧
  (∀ s : State, s.pending = [] → step s = .next s)

/-- A well-formed message on a free channel is carried out at once when no other waits. While firmware runs and READY is 1, a
message of an opcode that its channel accepts, with LEN as the command's table and the message itself ask and the
reserved bits of MSG0 zero, sent on channel 0, 1, 2, 4, 5 or 6 (6 in BENCH with the debug bridge clocked) while BUSY is 0
and no other message waits for the dispatcher, is selected at once and passes the checks 1 to 5 of R595, unless it is a
steward's write on channel 4. That the dispatcher selects at once is the model's choice (log 9): a command row stands for
the GO, the selection and the execution of its message. -/
def Obligations.FreeChannelMessageIsSelected : Prop :=
  ∀ (cmd : Cmd) (m : Msg) (s : State),
    s.fwRuns = true → s.boot.ready = true → s.power.entry = none → s.mbx.chans.length = 8 → m.chan < 7 → m.chan ≠ 3 →
    (s.chan m.chan).busy = false → (m.chan = 6 → s.life.state = .bench ∧ bit s.clock.gates 2 = true) →
    s.boot.tokenParity = true → (∀ south, s.farFor south = none) → (∀ c, c < 7 → c ≠ m.chan → s.isPending c = false) → groupOk m.chan cmd.op = true →
    m.len ∈ cmd.lens → lenFits cmd.op m = true → 1 ≤ m.len → m.len ≤ 16 → m.rsv = 0 → ¬ (cmd.steward = true ∧ m.chan = 4) →
    s.selects cmd m (s.dispatched cmd.op m)

/-- A selected message runs its body and is answered with its SEQ. For every command row's shape: when the message is
selected and its body answers OK with return words, refuses with a code, or refuses with a code and return words, the
message is answered so; when its ACK is left for later, or it has none, nothing is answered now. An answer on a channel
other than 3 makes ACK VALID with the code, the message's SEQ and RLEN the number of return words, BUSY 0 and the
return words stand in RET, with CANCEL_LATE where a CANCEL stood, and on channels 0, 1 and 2 the channel's doorbell bit
is set. -/
def Obligations.SelectedMessageIsAnswered : Prop :=
  ∀ (cmd : Cmd) (m : Msg) (body : Msg → State → Reply) (s d d' : State) (ret : List Word),
    s.selects cmd m d →
    (body m d = .ok ret d' → s.mailbox cmd m body = d'.ack m.rt .ok ret) ∧
    (∀ c, body m d = .err c → s.mailbox cmd m body = d.ack m.rt c []) ∧
    (∀ c, body m d = .part c ret d' → s.mailbox cmd m body = d'.ack m.rt c ret) ∧
    (body m d = .later d' ∨ body m d = .silent d' → s.mailbox cmd m body = d') ∧
    (∀ c, m.chan < 7 → m.chan ≠ 3 → d'.mbx.chans.length = 8 →
      let t := d'.ack m.rt c ret
      t.chan m.chan = { d'.chan m.chan with
        busy := false, cancel := false, selected := false, ret := fill16 ret
        ack := ⟨true, (d'.chan m.chan).cancel && c != .cancelled, c.num, m.seq, ret.length⟩ } ∧
      (m.chan < 3 → t.mbx.dbStatus &&& w32 (2 ^ m.chan) ≠ 0))

/-- GO is accepted only while BUSY is 0 and without CANCEL. A write with GO set is ignored while BUSY is 1 and when it
also sets CANCEL; an accepted GO, on channel 6 in BENCH with the debug bridge clocked, clears ACK and RET0 to RET15,
sets BUSY and keeps MSG0 to MSG15; writes to MSG0 to MSG15 while BUSY is 1 are ignored. -/
def Obligations.GoIsAcceptedOnlyWhileNotBusy : Prop :=
  ∀ (ch : Nat) (ctrl : Word) (k : Nat) (data : Word) (s : State),
    ((s.chan ch).busy = true → s.goWrite ch ctrl = s) ∧
    (bit ctrl.toNat 1 = true → s.goWrite ch ctrl = s) ∧
    ((s.chan ch).busy = true → s.msgWrite ch k data = s) ∧
    (ch < 7 → ch ≠ 3 → (ch = 6 → s.life.state = .bench ∧ bit s.clock.gates 2 = true) → s.mbx.chans.length = 8 → (s.chan ch).busy = false → bit ctrl.toNat 0 = true →
      bit ctrl.toNat 1 = false →
      ((s.goWrite ch ctrl).chan ch).busy = true ∧ ((s.goWrite ch ctrl).chan ch).msg = fill16 (s.chan ch).msg ∧
        ((s.goWrite ch ctrl).chan ch).ack = ⟨false, false, 0, 0, 0⟩ ∧
        ((s.goWrite ch ctrl).chan ch).ret = List.replicate 16 0)

/-- CANCEL without BUSY, or together with GO, is ignored. A write that sets CANCEL while BUSY is 0 changes nothing, and a
write of both GO and CANCEL to the control register changes nothing. -/
def Obligations.CancelWriteIsIgnoredWithoutBusyOrWithGo : Prop :=
  ∀ (ch : Nat) (ctrl : Word) (s : State),
    ((s.chan ch).busy = false → s.cancelWrite ch ctrl = s) ∧
    (bit ctrl.toNat 0 = true → bit ctrl.toNat 1 = true → s.chanWrite ch 0x40 ctrl = s)

/-- Doorbell bits latch whatever their mask; an event wins over a clear in its cycle. An event sets its doorbell bit
whatever DB_MASK holds and leaves every other bit; a second event of the kind changes nothing; after DB_STATUS_CLEAR a
bit whose event falls in the same cycle is set, a cleared bit without one is 0, and a bit outside the mask keeps its
value. -/
def Obligations.DoorbellBitsLatchAndClear : Prop :=
  (∀ (s : State) (b i : Nat), b < 32 → i < 32 →
    ((s.doorbell b).mbx.dbStatus.getLsbD i = (s.mbx.dbStatus.getLsbD i || decide (i = b))) ∧
    (s.doorbell b).doorbell b = s.doorbell b ∧ (s.doorbell b).mbx.dbMask = s.mbx.dbMask) ∧
  (∀ (s : State) (mask events : Word) (i : Nat), i < 24 ∨ i = 31 →
    (s.dbClear mask events).mbx.dbStatus.getLsbD i =
      ((s.mbx.dbStatus.getLsbD i && !mask.getLsbD i) || events.getLsbD i))

/-- Writes and reads of the direct window complete with their register effect. With VDDE18 present and no reset held:
REGISTER_WRITE is the write of that port at that address in a transaction of its own, and with an access of the other SPI port in
its core cycle the access of MSP comes first; MAILBOX_GO is the write of GO and
MAILBOX_CANCEL that of CANCEL, ACK_CLR clears ACK and the return words and leaves BUSY, DB_STATUS_CLEAR clears the bits of
its mask, DB_MASK_WRITE sets the mask and leaves the status, DB_TEST sets doorbell 31 where its bit 31 is set and otherwise
changes nothing, CLKOUT_CHANGE stores the setting; TICK_LO_READ of MSP or SSP holds TICK_HI in the port's shadow, and of
another port changes nothing. Channel 6 takes its writes while the debug bridge is clocked. -/
def Obligations.RegisterCommandsComplete : Prop :=
  ∀ (s : State), s.awake = true →
    (∀ p addr data, exec (.registerWrite p addr ⟨data, none⟩) s = .next ((s.csEnd p).windowWrite p addr data)) ∧
    (∀ addr data a, exec (.registerWrite .msp addr ⟨data, some a⟩) s =
      .next (((s.csEnd .msp).windowWrite .msp addr data).access .ssp a)) ∧
    (∀ addr data a, exec (.registerWrite .ssp addr ⟨data, some a⟩) s =
      .next (((s.csEnd .ssp).access .msp a).windowWrite .ssp addr data)) ∧
    (∀ ch ctrl, exec (.mailboxGo ch ctrl) s = .next (s.goWrite ch ctrl)) ∧
    (∀ ch ctrl, ch < 7 → ch ≠ 3 → s.bridged ch = true → exec (.mailboxCancel ch ctrl) s = .next (s.cancelWrite ch ctrl)) ∧
    (∀ ch data, ch < 7 → ch ≠ 3 → s.bridged ch = true → s.mbx.chans.length = 8 → bit data.toNat 0 = true →
      ∃ t, exec (.ackClr ch data) s = .next t ∧ (t.chan ch).ack = ⟨false, false, 0, 0, 0⟩ ∧
        (t.chan ch).ret = List.replicate 16 0 ∧ (t.chan ch).busy = (s.chan ch).busy) ∧
    (∀ mask events, exec (.dbStatusClear mask events) s = .next (s.dbClear mask events)) ∧
    (∀ mask, ∃ t, exec (.dbMaskWrite mask) s = .next t ∧ t.mbx.dbMask = mask &&& 0x80FFFFFF ∧
      t.mbx.dbStatus = s.mbx.dbStatus) ∧
    (∀ data, exec (.dbTest data) s = .next (if bit data.toNat 31 then s.doorbell 31 else s)) ∧
    (∀ data, ∃ t, exec (.clkoutChange data) s = .next t ∧
      t.clock.clkout = ⟨bit data.toNat 31, fld data.toNat 16 12, fld data.toNat 0 4⟩) ∧
    (s.mbx.shadow.length = 2 →
      ∃ t, exec (.tickLoRead .msp) s = .next t ∧ t.mbx.shadow[0]? = some (some (w32 (s.now / 2 ^ 32)))) ∧
    (s.mbx.shadow.length = 2 →
      ∃ t, exec (.tickLoRead .ssp) s = .next t ∧ t.mbx.shadow[1]? = some (some (w32 (s.now / 2 ^ 32)))) ∧
    (∀ p, p ≠ .msp → p ≠ .ssp → exec (.tickLoRead p) s = .next s)

/-- A port reaches its own mailbox channel only. A write by MSP at an address of a channel other than 0, by SSP of one
other than 2, by the debug port of one other than 6, outside BENCH or with the debug bridge gated, by the internal port
of one other than 4 and by the skim engine of one other than 5 changes nothing, and a read there gives zero; and a write by a port other than MSP
and SSP outside the channels changes nothing. -/
def Obligations.WindowReachesChannelsOfTheirOwnersOnly : Prop :=
  ∀ (p : Port) (addr : Nat) (data : Word) (s : State),
    (0x1000 ≤ addr → addr < 0x1800 → s.reaches p ((addr - 0x1000) / 0x100) = false →
      s.windowWrite p addr data = s ∧ s.windowRead p addr = 0) ∧
    (addr < 0x1000 ∨ 0x1800 ≤ addr → p ≠ .msp → p ≠ .ssp → s.windowWrite p addr data = s) ∧
    (∀ ch, s.reaches .msp ch = (ch == 0) ∧ s.reaches .ssp ch = (ch == 2) ∧ s.reaches .internal ch = (ch == 4) ∧
      s.reaches .skim ch = (ch == 5) ∧ s.reaches .debug ch = (ch == 6 && s.life.state == .bench && bit s.clock.gates 2))

/-- TICK_HI in the transaction that read TICK_LO is the shadow. After a read of TICK_LO by MSP or SSP, the port's read of
TICK_HI in the same transaction gives TICK_HI as it was then, however the counter has gone on; without one in its
transaction, which the end of the transaction before it leaves so, a read of TICK_HI gives the live value; the read of
TICK_LO changes nothing else, and the other port's shadow stays. A burst read of two words from 0x0000_0014 on
returns both halves of the tick counter. -/
def Obligations.TickHiShadowHoldsForItsTransaction : Prop :=
  ∀ (s : State), s.awake = true → s.mbx.shadow.length = 2 → s.boot.power ≠ .cold →
    (∃ t, exec (.tickLoRead .msp) s = .next t ∧ (∀ n, ({ t with time := { t.time with tick := n } } : State).windowRead .msp 0x18 =
      w32 (s.now / 2 ^ 32)) ∧ t = { s with mbx := { s.mbx with shadow := t.mbx.shadow } } ∧
      t.mbx.shadow[1]? = s.mbx.shadow[1]?) ∧
    (∃ t, exec (.tickLoRead .ssp) s = .next t ∧ (∀ n, ({ t with time := { t.time with tick := n } } : State).windowRead .ssp 0x18 =
      w32 (s.now / 2 ^ 32)) ∧ t = { s with mbx := { s.mbx with shadow := t.mbx.shadow } } ∧
      t.mbx.shadow[0]? = s.mbx.shadow[0]?) ∧
    (s.csEnd .msp).mbx.shadow[0]? = some none ∧ (s.csEnd .ssp).mbx.shadow[1]? = some none ∧
    (s.transaction .msp ([0x0B, 0, 0, 0, 0x14] ++ List.replicate 12 0)).2 =
      List.replicate 9 0 ++ beBytes 4 (w32 s.now).toNat ++ beBytes 4 (w32 (s.now / 2 ^ 32)).toNat ∧
    (s.mbx.shadow[0]? = some none → s.windowRead .msp 0x18 = w32 (s.now / 2 ^ 32)) ∧
    (s.mbx.shadow[1]? = some none → s.windowRead .ssp 0x18 = w32 (s.now / 2 ^ 32))

/-- ECHO, EVENT_READ, STEWARD_MOVE, DEVICE_RESET, PEER_KEY_SET complete. ECHO returns its words. EVENT_READ with COUNT 1
to 7 returns up to COUNT records and removes them unless PEEK, a waiting RING_LOST record taking the space.
STEWARD_MOVE schedules the token for the edge at which the command takes effect, or answers at once when the target
holds it. DEVICE_RESET sets the edge of the reset and is not answered. PEER_KEY_SET binds or erases the slot and
returns the mask of slots in use. -/
def Obligations.GeneralMessagesAreAnswered : Prop :=
  ∀ (m : Msg) (s d : State),
    (s.selects echoCmd m d → exec (.echo m) s =
      .next (d.ack m.rt .ok ((m.args ++ List.replicate 16 0).take (m.len - 1)))) ∧
    (s.selects eventReadCmd m d → 1 ≤ m.get 1 0 3 → m.stray 1 0x107 = false →
      let taken := d.mbx.ring.take (m.get 1 0 3)
      let d' := if m.flag 1 8 then d
        else d.modMbx (fun x => ringFlush d.now { x with ring := x.ring.drop (m.get 1 0 3) })
      exec (.eventRead m) s = .next (d'.ack m.rt .ok
        (packW [(16, taken.length), (16, d'.mbx.ring.length)] :: taken.flatMap Event.words))) ∧
    (s.selects stewardMoveCmd m d → m.stray 1 1 = false → d.boot.replaying = false → d.preparing = false →
      d.keep.job = none → d.boot.ready = true →
      exec (.stewardMove m) s = .next (
        if m.flag 1 0 = d.nextSteward then d.ack m.rt .ok (packW [(1, 0), (1, b2n (m.flag 1 0))] :: lohi d.now)
        else (d.modBoot (fun b => { b with stewardMove := some (m.flag 1 0, d.nextEdge) })).ack m.rt .ok
          (packW [(1, 1), (1, b2n (m.flag 1 0))] :: lohi d.nextEdge))) ∧
    (s.selects deviceResetCmd m d → m.get 1 0 16 = 0xA5C3 → m.stray 1 0x1FFFF = false →
      (d.cellar.unacked = false ∨ m.flag 1 16 = true) →
      exec (.deviceReset m) s = .next (d.modBoot (fun b => { b with resetAt := some d.nextEdge }))) ∧
    (s.selects peerKeySetCmd m d → m.stray 1 0x10F = false → m.chan = 0 ∨ m.chan = 2 →
      (m.flag 1 8 = true ∨ (m.stray 2 0xFFFF = false ∧ m.get 2 0 16 ≠ 0)) → (m.get 1 0 4 < 12 ∨ d.keepIdentity.2 = 0) →
      ∃ peers, exec (.peerKeySet m) s =
          .next (({ d with peers := peers } : State).ack m.rt .ok [w32 (maskOf (peers.map Prod.fst))]) ∧
        peers = (if m.flag 1 8 then tdel d.peers (m.get 1 0 4)
          else tset d.peers (m.get 1 0 4) ⟨BitVec.ofNat 256 (pack ((List.range 8).map (fun i => (32, m.word (i + 3))))),
            m.get 2 0 16, 0⟩))

/-- A payload from a fabric peer is queued, refused or discarded. While firmware runs: a payload of DIR 1 under a bound
slot that fits the slot, carries the right TAG and a greater COUNTER is queued with its COUNTER kept when fewer than
16 wait, and answered BUSY otherwise; one that fails is answered AUTH_FAIL and the slot keeps its COUNTER; one for an
unbound slot is discarded. -/
def Obligations.PeerMessageIsAcceptedOnce : Prop :=
  ∀ (p : PeerPayload) (s : State) (k : PeerSlot), s.fwRuns = true → p.dir = 1 →
    (tfind s.peers p.slot = none → exec (.peerMessage p) s = .next s) ∧
    (tfind s.peers p.slot = some k → payloadOk p k = true → s.mbx.peerIn.length < 16 →
      exec (.peerMessage p) s = .next { s with
        peers := tset s.peers p.slot { k with counter := p.counter }
        mbx := { s.mbx with peerIn := s.mbx.peerIn ++ [⟨p.slot, p.counter, fill16 p.words⟩] } }) ∧
    (tfind s.peers p.slot = some k → payloadOk p k = true → 16 ≤ s.mbx.peerIn.length →
      exec (.peerMessage p) s =
        .next (({ s with peers := tset s.peers p.slot { k with counter := p.counter } } : State).refusePeer p .busy)) ∧
    (tfind s.peers p.slot = some k → payloadOk p k = false → exec (.peerMessage p) s = .next (s.refusePeer p .authFail))

/-- MESSAGE_SELECT serves channel 4 first, else round robin. While firmware runs and the token's parity is good, each complex's
dispatcher takes first the message that was passed to its end of channel 4, and answers it on the channel it came from. With
none there, the steward's takes the pending message of its end of channel 4 if there is one, and otherwise of the first pending
channel after the one it selected last; the other's takes its end of channel 4 only. A message with CANCEL set is answered
CANCELLED unexecuted; one for a unit of the other complex is passed over channel 4; any other is checked, executed and
answered, and a CANCEL that lands in the cycle of the selection stands in the channel; with nothing pending nothing changes.
That one message passed over waits at a time is the model's choice (log 9). -/
def Obligations.MessageSelectServesTheNextChannel : Prop :=
  ∀ (fl : Flash) (cl : Bool) (s : State) (ch : Nat) (south : Bool), s.fwRuns = true → s.boot.tokenParity = true →
    (s.farFor s.boot.stewardSouth = none → s.isPending 4 = true → s.mbx.fourSouth = s.boot.stewardSouth → s.nextChan = some 4) ∧
    (s.nextChan = some ch → s.isPending ch = true ∧ ch < 7) ∧
    (s.nextChan = some ch → ch ≠ 4 → s.lastChan s.boot.stewardSouth < 7 →
      (s.isPending 4 = true → s.mbx.fourSouth ≠ s.boot.stewardSouth) ∧ ∀ c, c < 7 → c ≠ 4 → s.isPending c = true →
        (ch + 6 - s.lastChan s.boot.stewardSouth) % 7 ≤ (c + 6 - s.lastChan s.boot.stewardSouth) % 7) ∧
    s.dispatches s.boot.stewardSouth = s.nextChan ∧
    (s.dispatches (!s.boot.stewardSouth) = some ch → ch = 4 ∧ s.isPending 4 = true ∧ s.mbx.fourSouth ≠ s.boot.stewardSouth) ∧
    (s.farFor south = none → s.dispatches south = none → exec (.messageSelect south cl fl) s = .next s) ∧
    (s.farFor south = none → s.dispatches south = some ch → ch ≠ 3 → (s.chan ch).cancel = true →
      exec (.messageSelect south cl fl) s =
        .next ((s.select ch).ack ⟨ch, (s.pendingMsg ch).2.seq, (s.pendingMsg ch).2.slot, (s.pendingMsg ch).2.counter⟩
          .cancelled [])) ∧
    (s.farFor south = none → s.dispatches south = some ch → (ch ≠ 3 → (s.chan ch).cancel = false) →
      let m := (s.pendingMsg ch).2
      let t := if cl && ch != 3 then (s.select ch).modChan ch (fun c => { c with cancel := true }) else s.select ch
      exec (.messageSelect south cl fl) s =
        .next (if s.foreign (s.pendingMsg ch).1 m then t.passOver (s.pendingMsg ch).1 m false
          else t.settle ⟨ch, m.seq, m.slot, m.counter⟩ (t.answer fl (s.pendingMsg ch).1 m))) ∧
    (∀ p, s.farFor south = some p →
      let t := (s.modMbx (fun m =>
        { m with far := m.far.map (fun q => if q = p then { q with selected := true } else q) })).setLast south 4
      exec (.messageSelect south cl fl) s =
        .next (t.settle p.rt (t.answer fl (opOf p.words) (msgOf p.rt.chan p.rt.slot p.rt.counter p.words))))

/-- Messages that only read leave everything but the mailbox as it is. Whatever the answer, OK or refused, and for every
message on a channel other than channel 1, ECHO, CLOCK_STATUS, BUNDLE_STATUS, LINE_STATUS, RX_STATUS, RX_TAPS_READ,
TRUNK_SIGNAL_STATUS, TRUNK_LOADING_READ, TRUNK_STATUS, HOST_STATUS, SHAPER_READ, GUARANTEE_STATUS, FAULT_STATUS,
THERMAL_STATUS, DIN_STATUS, CAL_STATUS, SELFTEST_RESULT and KEEP_STATUS, with no entry under way and the device awake,
change the mailbox channels, their queues and the doorbells only: no register, FIFO, counter or mode outside the mailbox
changes. -/
def Obligations.ReadingMessagesChangeOnlyTheMailbox : Prop :=
  ∀ (m : Msg) (s : State), s.power.entry = none → s.boot.power ≠ .banked → s.boot.power ≠ .ember → m.chan ≠ 1 →
    ∀ c ∈ [Instr.echo m, .clockStatus m, .bundleStatus m, .lineStatus m, .rxStatus m, .rxTapsRead m, .trunkSignalStatus m,
      .trunkLoadingRead m, .trunkStatus m, .hostStatus m, .shaperRead m, .guaranteeStatus m, .faultStatus m, .thermalStatus m,
      .dinStatus m, .calStatus m, .selftestResult m, .keepStatus m],
    ∃ t : State, exec c s = .next t ∧ t = { s with mbx := { s.mbx with
      chans := t.mbx.chans, peerIn := t.mbx.peerIn, peerOut := t.mbx.peerOut, lastNorth := t.mbx.lastNorth
      lastSouth := t.mbx.lastSouth, fourSouth := t.mbx.fourSouth, far := t.mbx.far, dbStatus := t.mbx.dbStatus } }

/-- A FATAL fault silences every unit at once and is the first summary of the fault record. A FATAL fault outside DAMPED
asserts the kill lines: both complexes halt, no line channel, drop, trunk or lane group sends, BYPA and BYPB and the
PPS output are low, the entry and the domain changes under way end, no keep-store command is left, and the fault, with
the UNIT and the detail that R547 gives it (STEWARD_PARITY with the token bit as read, here bit 0 of the operand), is the summary of the record when none was held; the lines, the queues, the
bridge and the fabric state stay. Another FATAL fault is then only recorded, as the record's next entry. -/
def Obligations.FatalFaultsSilenceTheDevice : Prop :=
  ∀ (code unit : Nat) (detail : Word) (s : State), s.awake = true → isFatal code = true →
    fatalCan code unit detail = true → (code = 0x0D02 → s.faults.parityA = true ∧ s.faults.parityB = true) →
    let u := if code = 0x0D03 then b2n (bit unit 0) else fatalUnit code unit
    ((s.faults.record.ring.length < 60 ∧ s.faults.record.next = s.faults.record.ring.length) ∨
      (s.faults.record.ring.length = 60 ∧ s.faults.record.next < 60)) →
    (s.boot.halted = false → s.boot.power ≠ .damped → s.faults.record.fatal = none →
      ∃ t : State, exec (.fatalFault code unit detail) s = .next t ∧ t.killed ∧ t.silent ∧ t.fwRuns = false ∧
        t.pins.ppsOut = .low ∧ t.power.entry = none ∧ t.power.jobs = [] ∧ t.keep.job = none ∧
        t.faults.record.fatal = some ⟨code, u, s.now⟩ ∧ t.faults.record.detail = fatalDetail code detail ∧
        t.lines = s.lines ∧ t.sched = s.sched ∧ t.bridge = s.bridge ∧ t.fabric = s.fabric) ∧
    (s.boot.halted = true →
      ∃ t : State, exec (.fatalFault code unit detail) s = .next t ∧
        t = { s with faults := { s.faults with record := t.faults.record, parityA := t.faults.parityA
                                               parityB := t.faults.parityB, same := t.faults.same }
                     boot := { s.boot with tokenParity := s.boot.tokenParity && code != 0x0D03
                                           stewardSouth := if code = 0x0D03 then bit unit 0 else s.boot.stewardSouth } } ∧
        t.faults.record.total = min 0xFFFFFFFF (s.faults.record.total + 1) ∧
        t.faults.record.ring[s.faults.record.next]? = some ⟨code, u, s.now⟩)

/-- The event ring keeps at most 1,024 records, in order, and tells how many it lost. A new record goes to the end of the
ring while it has space; a full ring discards it and counts it. When space returns, a RING_LOST record with the
saturated number of lost records comes before the next record. The ring never holds more than 1,024 records, and the
records held keep their order. -/
def Obligations.EventRingHoldsAtMost1024Records : Prop :=
  ∀ (now : Nat) (m : MbxSt) (e : Event), m.ring.length ≤ 1024 →
    (ringAdd now m e).ring.length ≤ 1024 ∧ (ringFlush now m).ring.length ≤ 1024 ∧
    (∃ l, (ringAdd now m e).ring = m.ring ++ l ∧ l.length ≤ 2) ∧
    (m.ring.length < 1024 → m.ringLost = 0 → (ringAdd now m e).ring = m.ring ++ [e] ∧ (ringAdd now m e).ringLost = 0) ∧
    (m.ring.length = 1024 → (ringAdd now m e).ring = m.ring ∧ (ringAdd now m e).ringLost = m.ringLost + 1) ∧
    (m.ring.length < 1023 → 0 < m.ringLost →
      (ringAdd now m e).ring = m.ring ++ [⟨now % 2 ^ 24, 0x3F, 0, min 0xFFFF m.ringLost⟩, e] ∧
        (ringAdd now m e).ringLost = 0) ∧
    (m.ring.length = 1023 → 0 < m.ringLost →
      (ringAdd now m e).ring = m.ring ++ [⟨now % 2 ^ 24, 0x3F, 0, min 0xFFFF m.ringLost⟩] ∧
        (ringAdd now m e).ringLost = 1) ∧
    (m.ring = [] → (ringAdd now m e).dbStatus.getLsbD 3 = true)

/-- Refill caps each bucket and keeps its remainder; policing colours and charges a frame. Step 5 adds (rate + remainder)
/ 5 in 1/64 byte, keeps the remainder of that division and never lets a bucket exceed its size; n refills of an empty
bucket that they do not fill bring n times a fifth of the rate, no remainder lost. A policer's charge leaves no bucket
negative that was not, a green frame is charged in mode 0 to both buckets, in mode 1 to one, a red frame to none, and
each frame is counted in exactly one colour. -/
def Obligations.BucketsAndPolicersKeepTheirBounds : Prop :=
  (∀ (rate size : Nat) (tok : Int) (rem : Nat), rem < 5 →
    (refill rate size tok rem).1 ≤ ((size * 64 : Nat) : Int) ∧ (refill rate size tok rem).2 < 5 ∧
    (tok + (((rate + rem) / 5 : Nat) : Int) ≤ ((size * 64 : Nat) : Int) →
      5 * (refill rate size tok rem).1 + ((refill rate size tok rem).2 : Int) = 5 * tok + (rate : Int) + (rem : Int)) ∧
    (tok ≤ ((size * 64 : Nat) : Int) → tok ≤ (refill rate size tok rem).1)) ∧
  (∀ (rate size n : Nat), rate * n ≤ size * 64 * 5 →
    5 * (((List.range n).foldl (fun x _ => refill rate size x.1 x.2) ((0 : Int), 0)).1) +
      ((((List.range n).foldl (fun x _ => refill rate size x.1 x.2) ((0 : Int), 0)).2 : Nat) : Int) = (rate * n : Nat)) ∧
  (∀ (p : Policer) (len : Nat) (pre : Bool), 0 ≤ p.tokC → 0 ≤ p.tokP →
    let b : Int := 64 * (len : Int)
    let q := (p.police len pre).2
    0 ≤ q.tokC ∧ 0 ≤ q.tokP ∧
    ((p.police len pre).1 = .green → q.tokC = p.tokC - b ∧ q.tokP = (if p.mode1 then p.tokP else p.tokP - b)) ∧
    ((p.police len pre).1 = .yellow → q.tokC = p.tokC ∧ q.tokP = p.tokP - b) ∧
    ((p.police len pre).1 = .red → q.tokC = p.tokC ∧ q.tokP = p.tokP) ∧
    q.tkGf + q.tkYf + q.tkRf = p.tkGf + p.tkYf + p.tkRf + 1 ∧ q.tkGb + q.tkYb + q.tkRb = p.tkGb + p.tkYb + p.tkRb + len ∧
    (p.aware = true → pre = true → (p.police len pre).1 ≠ .green))

/-- Superframe markers, OAM blocks and messages, and InfoFields read back as they were sent. For every SF_COUNT and FLAGS,
every OAM block, every OAM message of up to 255 bytes in any class from any SEQ on, and every InfoField, with each
field at every value its width admits: the bytes that are sent pass the receiver's CRC check and read back as exactly
what was sent. -/
def Obligations.WireFormatsReadBack : Prop :=
  (∀ (count : Nat) (f : SfmFlags), count < 2 ^ 32 → f.coefSet < 16 → f.down < 256 →
    (sfmBytes count f).length = 32 ∧ sfmRead (sfmBytes count f) = some (count, f)) ∧
  (∀ b : OamBlock, b.cls < 16 → b.seq < 256 → b.payload.length = 28 →
    b.bytes.length = 32 ∧ oamRead b.bytes = some b) ∧
  (∀ (cls seq : Nat) (body : List Byte), cls < 4 → seq < 256 → body.length ≤ 255 →
    oamMessage none ((oamBlocks cls 10 true seq (BitVec.ofNat 8 body.length :: body)).map OamBlock.bytes) = some (cls, body)) ∧
  (∀ i : Info, i.type < 16 → i.version < 16 → i.seed < 16 → i.count < 256 → i.snr < 2 ^ 16 → i.resume < 2 ^ 16 →
    i.b8 < 256 → i.field < 2 ^ 48 → i.ntaps < 256 →
    i.bytes.length = 18 ∧ infoRead i.bytes = some i)

/-- Each reset condition begins its reset and records its cause. POWER_ON_RESET always; PIN_RESET outside COLD; RAIL_RESET
in RUN, BANKED and DAMPED while the rails are compared, and in a reset that is held, with the lowest failed rail;
HEARTH_BROWNOUT in EMBER and in a reset that is held, EMBER_WAKE in EMBER once PWREN has been driven high: each is the
reset of its cause, which RESET_CAUSE names, within a held reset the first of the causes in the order of R83.
VDDE18_COLLAPSE leaves the device COLD, where no clock runs. RESET_RELEASE ends the hold: the boot ROM starts on FIO, with PWREN driven high,
BYPA, BYPB and PPS_OUT low and BF_CS_N high. -/
def Obligations.ResetsBegin : Prop :=
  ∀ (s : State),
    (∀ c rail, (s.resetTo c rail).boot.held = true ∧
      (s.resetTo c rail).boot.cause.cause =
        (if s.boot.held && decide (s.boot.cause.cause.rank ≤ c.rank) then s.boot.cause.cause else c)) ∧
    exec .powerOnReset s = .next (s.resetTo .powerOn 0) ∧
    (s.boot.power ≠ .cold → exec .pinReset s = .next (s.resetTo .pin 0)) ∧
    (∀ rails c, ((s.boot.power = .run ∨ s.boot.power = .banked ∨ s.boot.power = .damped) ∧ s.power.railsOk = true) ∨
        (s.boot.power = .boot ∧ s.boot.held = true) →
      [1, 2, 3, 4, 5].find? (bit rails) = some c → exec (.railReset rails) s = .next (s.resetTo .rail c)) ∧
    (s.boot.power = .ember ∨ (s.boot.held = true ∧ s.boot.power ≠ .cold) → exec .hearthBrownout s = .next (s.resetTo .brownout 0)) ∧
    (∀ sleep, s.boot.power = .ember → s.power.waking = true →
      exec (.emberWake sleep) s =
        .next ((s.modPower (fun p => { p with sleep := sleep % 2 ^ 64 })).resetTo .emberWake 0)) ∧
    (∃ t, exec .vdde18Collapse s = .next t ∧ t.boot.power = .cold ∧ t.boot.held = true ∧ t.pins.ppsOut = .hiZ ∧
      t.clock.runSio = false ∧ t.clock.runFio = false ∧ t.fuses = s.fuses) ∧
    (s.boot.held = true → s.boot.power ≠ .cold →
      ∃ t, exec .resetRelease s = .next t ∧ t.boot.held = false ∧ t.boot.stage = .romClock ∧ t.clock.runFio = true ∧
        t.pins = { s.pins with pwrenCore := .high, pwrenAna := .high, pwrenIo := .high, byp := .low, ppsOut := .low,
                               tdo := .hiZ, bfCsN := .high } ∧
        t.mbx = s.mbx ∧ t.keep = s.keep ∧ t.faults = s.faults)

/-- What a reset keeps and what it puts back. A reset of any cause that begins while none is held keeps the fuses, and the
keep-store's wear and words as a word in progress leaves them, with the cache equal to the words; it empties the event
ring, every mailbox channel and peer slot, every unit's settings, what waits for an edge and every queue of frames, and
puts the tick counter to 0. A warm reset keeps the fault record,
the wake cause and the trace tail; a cold one clears them. Where the spec gives no reset value, the value is that of
log 1 and log 6. -/
def Obligations.ResetKeepsFusesKeepStoreAndHearth : Prop :=
  ∀ (c : Cause) (rail : Nat) (s : State), s.boot.held = false →
    let t := s.resetTo c rail
    t.fuses = s.fuses ∧ t.keep.words = s.keepCutShort.keep.words ∧ t.keep.cache = t.keep.words ∧ t.keep.job = none ∧
    t.keep.wear = s.keepCutShort.keep.wear ∧ t.time = State.reset.time ∧ t.mbx = MbxSt.reset ∧ t.peers = [] ∧
    t.cfgq = [] ∧ t.edgeq = [] ∧ t.lines = [] ∧ t.bundles = [] ∧ t.drops = [] ∧ t.trunks = [] ∧ t.hosts = [] ∧ t.sched = State.reset.sched ∧ t.bridge = BridgeSt.reset ∧
    t.fabric = FabricSt.withId (tget 0 t.keep.words 448).toNat ∧ t.cellar = CellarSt.reset ∧ t.clock = ClockSt.reset ∧ t.boot.ready = false ∧
    t.boot.held = true ∧ t.boot.cause.cause = c ∧ t.boot.cause.wasDamped = (s.boot.power == .damped) ∧
    (c = .powerOn ∨ c = .brownout →
      t.faults.record = Record.empty ∧ t.boot.cause.warmCount = 0 ∧ t.power.tail = [] ∧ t.power.cause = 0) ∧
    (c ≠ .powerOn → c ≠ .brownout →
      t.faults.record = s.faults.record ∧ t.power.tail = s.power.tail ∧ t.power.cause = s.power.cause ∧
      t.boot.cause.warmCount = min 255 (s.boot.cause.warmCount + 1))

/-- The state right after a power-on reset has the values that the spec states. After reset: no firmware runs, DEV_STATUS
and the doorbell registers read 0, RESET_CAUSE is POWER_ON, BYPA, BYPB, PPS_OUT and CLKOUT are low, the PWREN outputs are low for
50 us and then high, INT_N is released, line channels, drops, trunks and lane groups have the reset settings of their command tables
(LINE_CONFIG disabled, LINE_WATCH_CONFIG, RX_ADAPT_CONFIG, DROP_CONFIG, TRUNK_CONFIG, HOST_CONFIG), every port is in VLAN 1, POLICY is 0x0029CB6D, FIO is the
reference with P 4 and Q 2, and the queue of commands is empty. -/
def Obligations.ResetValues : Prop :=
  State.reset.fwRuns = false ∧ State.reset.devStatus = 0 ∧ State.reset.mbx.dbStatus = 0 ∧ State.reset.mbx.dbMask = 0 ∧
  State.reset.boot.cause = ⟨.powerOn, 0, false, false, 0⟩ ∧ (∀ us a b, State.reset.ball us a b .bypA = .low ∧
    State.reset.ball us a b .bypB = .low ∧ State.reset.ball us a b .ppsOut = .low ∧ State.reset.ball us a b .clkout = .low ∧
    State.reset.ball us a b .intN = .hiZ ∧
    (∀ p, p = .pwrenCore ∨ p = .pwrenAna ∨ p = .pwrenIo → State.reset.ball us a b p = if us < 50 then .low else .high)) ∧
  (∀ ch, (State.reset.line ch).cfg.enable = false ∧ (State.reset.line ch).watch = ⟨128, 6, 40, 700, 12, 30, 0⟩ ∧
    (State.reset.line ch).adapt = ⟨2, 8, 3, 9, 3, 9, 2, 8, false, false, false, false, false, 3⟩) ∧
  (∀ ds, (State.reset.drop ds).cfg.plca = ⟨14, 32, 0, 128⟩ ∧ (State.reset.drop ds).cfg.termEn = true) ∧
  (∀ tr, (State.reset.trunk tr).cfg = ⟨true, 0, 3, 0, 4, false, 660⟩) ∧
  (∀ g, (State.reset.host g).cfg = ⟨40, false, true, false, List.replicate 8 32⟩) ∧
  State.reset.bridge.vlans = [(1, 2 ^ 136 - 1)] ∧ State.reset.fabric.cfg.policy = 0x0029CB6D#32 ∧
  State.reset.clock.ref = .fio ∧ State.reset.clock.p = 4 ∧ State.reset.clock.q = 2 ∧ State.reset.pending = []

/-- The boot ROM and the start-up phases run in their order. From ROM_CLOCK with a crystal the ROM goes on, outside BLANK, to the
image, and with a bootable slot starts the firmware of that slot, and the tick sequencer runs; in BLANK it waits in
BLANK_WAIT. With no crystal, no answer of the flash or no bootable slot the ROM fails with its cause. That a row ends between
the clock and the image is the model's choice (log 39). Then CELLAR follows, which ends in a
FATAL fault where the cellar does not train, CONFIG (area 0 before area 1), TRAINING, and READINESS once every unit has
settled; at READINESS the device is READY in RUN with doorbell 20. -/
def Obligations.StartUpPhasesComplete : Prop :=
  ∀ (s : State) (ck : BootClocks) (fl : Flash),
    (s.boot.held = false → s.boot.stage = .romClock → s.boot.power = .boot →
      (bootRef ck = none → exec (.bootRom ck fl) s = .next (s.bootFail 0x3A10)) ∧
      (∀ r, bootRef ck = some r →
        (s.life.state = .blank → ∃ t, exec (.bootRom ck fl) s = .next t ∧ t.boot.stage = .blankWait ∧ t.clock.ref = r) ∧
        (s.life.state ≠ .blank → ∃ t, exec (.bootRom ck fl) s = .next t ∧ t.boot.stage = .romImage ∧ t.clock.ref = r ∧
          t.clock.locked = 1))) ∧
    (s.boot.held = false → s.boot.stage = .romImage → s.boot.power = .boot →
      (fl.answers = false → exec (.bootRom ck fl) s = .next (s.bootFail 0x3A11)) ∧
      (fl.answers = true →
        exec (.bootRom ck fl) s = .next (match bootSlot s.fuses fl with
          | none => s.bootFail 0x3A12
          | some x => s.fwStart x.1 x.2.1 x.2.2) ∧
        ∀ b fb h, (s.fwStart b fb h).time.seq = true)) ∧
    (s.fwRuns = true → s.boot.stage = .fwStart →
      ∃ t, exec (.cellarPhase true fl) s = .next t ∧ t.boot.stage = .cellar ∧ t.cellar = { s.cellar with trained := true }) ∧
    (s.fwRuns = true → s.boot.stage = .fwStart → ∃ t, exec (.cellarPhase false fl) s = .next t ∧ t.boot.halted = true) ∧
    (s.fwRuns = true → s.boot.stage = .cellar → s.cellar.trained = true →
      (∀ i, s.boot.images.getD 0 none = some i →
        exec .configReplay s = .next ((s.modBoot (fun b => { b with stage := .config })).replay 0 none i.msgs).s) ∧
      (∀ i, s.boot.images.getD 0 none = none → s.boot.images.getD 1 none = some i →
        exec .configReplay s = .next ((s.modBoot (fun b => { b with stage := .config })).replay 1 none i.msgs).s) ∧
      (s.boot.images.getD 0 none = none → s.boot.images.getD 1 none = none →
        ∃ t, exec .configReplay s = .next t ∧ t.boot.stage = .config ∧ t.boot.configState = .none)) ∧
    (s.live = true → s.boot.stage = .config → s.boot.replaying = false →
      exec .trainingPhase s = .next ((s.modBoot (fun b => { b with stage := .training })).updateBypass s.now)) ∧
    (s.live = true → s.boot.stage = .training → s.settled = true →
      ∃ t, exec .readinessPhase s = .next t ∧ t.boot.stage = .done ∧ t.boot.ready = true ∧ t.boot.power = .run ∧
        t.mbx.dbStatus &&& w32 (2 ^ 20) ≠ 0)

/-- The power commands are carried out. POWER_DOMAIN_SET for a unit domain with no change under way, no unit in isolation
and no last fabric link starts the change at its edge, or answers at once when the domain is so already. POWER_ENTER
that passes its checks begins an entry. WAKE_CONFIG is accepted for its edge and answers the currents. POWER_STATUS
answers the wake state and clears the cause and BANKED_LOST with CLR. CLOCK_PLAN, CLOCK_GATE and PPS_CONFIG are
accepted for their edge. -/
def Obligations.PowerMessagesAreAnswered : Prop :=
  ∀ (m : Msg) (s d : State),
    (s.selects powerDomainSetCmd m d → m.stray 1 0x10F = false → 4 ≤ m.get 1 0 4 → m.get 1 0 4 ≤ 11 →
      d.power.jobs.any (fun j => j.dom == m.get 1 0 4) = false → d.power.entry = none → d.domIsolated (m.get 1 0 4) = false →
      (m.flag 1 8 = true ∨ d.lastLinks (m.get 1 0 4) = false) →
      exec (.powerDomainSet m) s = .next (
        if d.domOn (m.get 1 0 4) = m.flag 1 8 then d.ack m.rt .ok (lohi d.nextEdge)
        else d.modPower (fun p => { p with jobs := p.jobs ++ [⟨m.get 1 0 4, m.flag 1 8, d.nextEdge, d.replyTo m⟩] }))) ∧
    (s.selects powerEnterCmd m d → m.get 1 16 2 = 1 ∨ m.get 1 16 2 = 2 → m.stray 1 0x80030F0F = false →
      (m.get 1 16 2 = 2 → m.get 1 0 12 = 0 ∧ m.word 2 = 0 ∧ m.word 3 = 0 ∧ d.iWorst d.wakeSet ≤ 3000) →
      (m.flag 1 31 = true ∨ d.cellar.unacked = false ∨
        (m.get 1 16 2 = 1 ∧ banksLost (ofLohi (w32 (m.word 2)) (w32 (m.word 3))) 60 63 = false)) → d.anyWake (m.get 1 16 2 == 2) (m.get 1 8 4) = true →
      d.enterBusy = false → d.boot.ready = true →
      exec (.powerEnter m) s = .next ((d.modPower (fun p =>
        { p with entry := some ⟨m.get 1 16 2 == 2, ofLohi (w32 (m.word 2)) (w32 (m.word 3)), m.get 1 0 4, m.get 1 8 4,
                                d.nextEdge - 1, 0, 0, none, none, 0⟩
                 railsOk := p.railsOk && !(m.get 1 16 2 == 2) })).ack m.rt .ok (lohi d.nextEdge))) ∧
    (s.selects wakeConfigCmd m d → m.stray 1 0xFFFC0000 = false → m.word 2 ≤ 2592000 →
      exec (.wakeConfig m) s = .next ((d.accept (.wake ⟨m.get 1 28 4, m.get 1 24 4, m.get 1 20 4, m.flag 1 19, m.flag 1 18,
        m.word 2⟩)).ack m.rt .ok [d.currents (wakeOf m)])) ∧
    (s.selects powerStatusCmd m d → m.stray 1 1 = false →
      exec (.powerStatus m) s = .next ((if m.flag 1 0 then d.modPower (fun p => { p with cause := 0, lost := 0 }) else d).ack
        m.rt .ok (d.power.word0 :: w32 d.power.source :: lohi d.power.sleep ++
          [d.currents d.power.wake, w32 d.power.lost]))) ∧
    (s.selects clockPlanCmd m d → m.get 1 0 2 ≤ 1 → m.stray 1 0xFF3 = false → d.clock.runs d.clock.ref = true →
      d.clock.runs (if m.get 1 0 2 = 0 then .xa else .xb) = true → (m.get 1 0 2 = 1 → d.clock.xbFreq ≠ 3) →
      d.clock.switch = none →
      exec (.clockPlan m) s = .next ((d.accept (.clockPlan (m.get 1 4 4) (m.get 1 8 4)
        (if m.get 1 0 2 = 0 then .xa else .xb))).ack m.rt .ok (lohi d.nextEdge))) ∧
    (s.selects clockGateCmd m d → m.stray 1 0x1F = false →
      exec (.clockGate m) s = .next ((d.accept (.clockGate (m.get 1 0 5))).ack m.rt .ok [w32 (m.get 1 0 5)])) ∧
    (s.selects ppsConfigCmd m d → 1 ≤ m.get 1 16 16 → m.get 1 16 16 ≤ 39999 → m.stray 1 0xFFFF0007 = false →
      ((m.flag 1 0 = false ∧ m.flag 1 1 = false) ∨ bit d.gateSet 1 = true) →
      exec (.ppsConfig m) s = .next ((d.accept (.pps ⟨m.get 1 16 16, m.flag 1 2, m.flag 1 1, m.flag 1 0⟩)).ack m.rt .ok []))

/-- Domain changes, entries and resumes complete. DOMAIN_POWERED powers a domain that is being switched on once its edge
has come, and answers its command. POWER_ENTRY_STEP closes domains that have reached A3 and runs the next step of an
entry that is due, and none before its tick. BANKED_RESUME resumes after a wake. EMBER_RAIL_FAIL drives PWREN low again. A
wake source that is armed fires: SIO_TIMER_WAKE in BANKED and EMBER, HOST_LANE_WAKE_DETECT of an armed lane group in
BANKED, and in RUN, outside an entry, while its domain is off. -/
def Obligations.DomainsAndEntriesGoOn : Prop :=
  ∀ (s : State),
    (∀ dom j, s.live = true → s.power.jobs.find? (fun j => j.dom == dom && j.on) = some j → j.start ≤ s.now →
      exec (.domainPowered dom) s = .next (((s.modPower (fun p =>
        { p with jobs := p.jobs.filter (fun k => k.dom != dom) })).domainOn dom).ackLater j.reply .ok (lohi s.now))) ∧
    (∀ e, s.time.seq = true → s.boot.halted = false → s.boot.power = .run → s.power.jobs = [] → s.power.entry = some e →
      exec .powerEntryStep s = .next (if e.due ≤ s.now then s.entryStep e else s)) ∧
    (s.time.seq = true → s.boot.halted = false → s.boot.power = .run →
      (s.power.jobs.foldl State.closeDue s).power.entry = none →
      exec .powerEntryStep s = .next (s.power.jobs.foldl State.closeDue s)) ∧
    (∀ sleep w e, s.boot.power = .banked → s.power.fired = some w → s.power.banked = some e →
      exec (.bankedResume sleep) s = .next (((((s.restart sleep).resumeRecords w).loseBanks e.hubBanks).resumeReplay
        e.hubBanks).reopen e w) ∧ (s.restart sleep).boot.power = .run ∧
        (s.restart sleep).time.tick = (s.now + sleep) % 2 ^ 64) ∧
    (s.boot.power = .ember → s.power.waking = true →
      ∃ t, exec .emberRailFail s = .next t ∧ t.pins.pwrenCore = .low ∧ t.pins.pwrenAna = .low ∧ t.pins.pwrenIo = .low ∧
        t.power.cause = 0x08 ∧ t.boot = s.boot) ∧
    (s.boot.power = .banked ∨ s.boot.power = .ember → s.power.wake.timer ≠ 0 → s.power.fired = none →
      ∃ t, exec .sioTimerWake s = .next t ∧ t.power.fired = some ⟨0x07, 0⟩ ∧
        t.mbx.dbStatus &&& w32 (2 ^ 21) ≠ 0) ∧
    (∀ g, g < 4 → s.boot.power = .banked → bit s.power.wake.host g = true → s.power.fired = none →
      ∃ t, exec (.hostLaneWakeDetect g) s = .next t ∧ t.power.fired = some ⟨0x03, 132 + g⟩ ∧
        t.mbx.dbStatus &&& w32 (2 ^ 21) ≠ 0) ∧
    (∀ g, g < 4 → s.boot.power = .run → bit s.power.wake.host g = true → s.power.entry = none →
      s.domOn (domOfRoot (132 + g)) = false →
      exec (.hostLaneWakeDetect g) s = .next (s.event 21 (132 + g) 3))

/-- An entry passes A1 to A4 and reaches its state in order. The five steps of an entry of tick n are due at ticks n+1, n+4,
n+5, n+6 and n+8. One that no wake of an earlier tick abandons goes on with its step; at the last POWER_STATE becomes
BANKED or EMBER with doorbell 20, the counter stays, and READY is 0. One that such a wake abandons ends at its step, with
ABORTED set and POWER_STATE as before. -/
def Obligations.EntryStepsFollowTheirTicks : Prop :=
  ∀ (e : Entry) (s : State),
    (e.steps = 0 → e.due = e.start + 1) ∧ (e.steps = 1 → e.due = e.start + 4) ∧ (e.steps = 2 → e.due = e.start + 5) ∧
    (e.steps = 3 → e.due = e.start + 6) ∧ (e.steps = 4 → e.due = e.start + 8) ∧
    (e.givesUp = none → e.steps < 4 → (s.entryStep e).power.entry.map Entry.steps = some (e.steps + 1)) ∧
    (e.givesUp = none → e.steps = 4 →
      let t := s.entryStep e
      t.power.entry = none ∧ t.boot.power = (if e.ember then .ember else .banked) ∧ t.boot.ready = false ∧
        t.time = s.time ∧ t.mbx.dbStatus &&& w32 (2 ^ 20) ≠ 0) ∧
    (∀ w, e.givesUp = some w →
      (s.entryStep e).power.entry = none ∧ (s.entryStep e).power.aborted = true ∧ (s.entryStep e).boot.power = s.boot.power)

/-- Locks, losses, stops and fail-over act on the clock state. PLL_LOCK locks a loop whose domain and reference run;
PLL_UNLOCK of a locked loop clears its bit and raises PLL_UNLOCK with the loop's number. CLOCK_STOP_DETECT keeps what
the monitor reports, with FIO_STOPPED and SIO_STOPPED while the source is stopped. REF_DEVIATION keeps the deviation
and raises its notice beyond 200 ppm. FORCED_FAILOVER, with FIO running, puts FIO in use with doorbell 19 and counts. The
steward's NMI_HANDLER starts a switch to XB where XB runs at a usable frequency and raises REF_LOST otherwise.
REF_SWITCH_COMPLETE puts the waiting reference in use, XB at a usable frequency only. FIO_STOPPED is meant while FIO is not the reference. -/
def Obligations.ClockEventsComplete : Prop :=
  ∀ (s : State),
    (∀ loop, loop < 9 → s.boot.power = .run → s.boot.held = false → s.boot.stage.fw = true → s.loopOn loop = true →
      s.clock.runs s.clock.ref = true →
      ∃ t, exec (.pllLock loop) s = .next t ∧ t = { s with clock := { s.clock with
        locked := setBit s.clock.locked loop true, first := setBit s.clock.first loop true, clkWait := t.clock.clkWait } }) ∧
    (∀ loop, loop < 9 → bit s.clock.locked loop = true → bit s.clock.first loop = true →
      exec (.pllUnlock loop) s =
        .next ((s.modClock (fun c => { c with locked := setBit c.locked loop false })).fatal 0x3B02 loop)) ∧
    (∀ running n, s.coreRuns = true →
      (∃ t, exec (.clockStopDetect 0 running n) s = .next t ∧ t.clock.runXa = running) ∧
      (∃ t, exec (.clockStopDetect 1 running n) s = .next t ∧ t.clock.runXb = running) ∧
      (∃ t, exec (.clockStopDetect 2 running n) s = .next t ∧ t.clock.runFio = running ∧
        (s.clock.ref ≠ .fio → t.faults.conds.contains (0x2B02, 0xFF) = !running)) ∧
      (∃ t, exec (.clockStopDetect 3 running n) s = .next t ∧ t.clock.runSio = running ∧
        t.faults.conds.contains (0x2B03, 0xFF) = !running)) ∧
    (∀ ppm : Int, s.coreRuns = true → s.clock.runXa = true → s.clock.runXb = true → s.clock.xbUsable = true →
      -32767 ≤ ppm → ppm ≤ 32767 →
      ∃ t, exec (.refDeviation ppm) s = .next t ∧ t.clock.ppm = some ppm ∧
        t.faults.conds.contains (0x2B01, 0xFF) = (decide (2000 < ppm) || decide (ppm < -2000))) ∧
    (s.coreRuns = true → s.clock.ref ≠ .fio → s.clock.runs s.clock.ref = false → s.clock.runFio = true →
      ∃ t, exec .forcedFailover s = .next t ∧ t.clock.ref = .fio ∧ t.clock.switch = none ∧
        t.clock.failovers = sat16 (s.clock.failovers + 1) ∧ t.mbx.dbStatus &&& w32 (2 ^ 19) ≠ 0 ∧ t.faults = s.faults) ∧
    (∀ l, s.clock.nmi = some l → s.fwRuns = true →
      exec .nmiHandler s = .next (
        if s.clock.runXb && s.clock.xbUsable then
          { s with clock := { s.clock with nmi := none, switch := some .xb, switchLost := some l } }
        else ({ s with clock := { s.clock with nmi := none } } : State).fatal 0x3B01 0xFF)) ∧
    (∀ r, s.clock.switch = some r → s.coreRuns = true → s.clock.runs s.clock.ref = true → s.clock.selectable r = true →
      ∃ t, exec .refSwitchComplete s = .next t ∧ t.clock.ref = r ∧ t.clock.switch = none)

/-- PPS pulses, captures and CLKOUT changes complete. With OUT_EN and the PPS clock on, PPS_OUT rises at an edge whose
number is a multiple of 40,000 and falls WIDTH ticks later. A capture of PPS_IN keeps its tick and core cycle.
STEERING_STOP ends steering when no capture came for two seconds. The end of a CLKOUT change, or of the low hold of a source
that runs again, puts the last held write in progress; while the new source of an enabled output is stopped nothing ends. -/
def Obligations.PpsAndClkoutComplete : Prop :=
  ∀ (s : State),
    (s.ppsOn = true → s.now % 40000 = 0 → s.clock.ppsEnd = none →
      exec .ppsPulse s = .next { s with
        pins := { s.pins with ppsOut := .high }, clock := { s.clock with ppsEnd := some (s.now + s.clock.pps.width) } }) ∧
    (∀ e, s.clock.ppsEnd = some e → e ≤ s.now →
      ∃ t, exec .ppsPulseEnd s = .next t ∧ t.pins.ppsOut ≠ .high ∧ t.clock.ppsEnd = none) ∧
    (∀ cycle offset, s.live = true → s.clock.pps.inEn = true → bit s.clock.gates 1 = true →
      ∃ t, exec (.ppsInCapture cycle offset) s = .next t ∧ t.clock.capture = some (s.now, cycle)) ∧
    (∀ c, s.fabric.steering = true → s.clock.capture = some c → c.1 + 80004 ≤ s.now →
      exec .steeringStop s = .next { s with fabric := { s.fabric with steering := false, steer := 0 } }) ∧
    (s.clock.changing = true ∨ s.clock.clkWait = true → s.clkoutLive = true →
      s.clock.clkNow.enable = false ∨ s.srcStopped s.clock.clkNow.src = false →
      (s.clock.clkHeld = none →
        ∃ t, exec .clkoutChangeEnd s = .next t ∧ t.clock.changing = false ∧ t.clock.clkWait = false ∧
          t.clock.clkHeld = none ∧ t.clock.clkNow = s.clock.clkNow) ∧
      (∀ c, s.clock.clkHeld = some c → c ≠ s.clock.clkNow →
        ∃ t, exec .clkoutChangeEnd s = .next t ∧ t.clock.changing = true ∧ t.clock.clkNow = c ∧ t.clock.clkHeld = none)) ∧
    (s.clock.clkNow.enable = true → s.srcStopped s.clock.clkNow.src = true → exec .clkoutChangeEnd s = .next s)

/-- The keep-store and life-cycle commands are carried out. KEEP_WRITE of user words that are not worn starts the write.
KEEP_STATUS returns the wear counters. LIFECYCLE_TOKEN_LOAD stages its words and answers the mask of words staged. LIFECYCLE_ADVANCE to the next state with
its magic, with a token that verifies where the target is RETURN, once per reset, or of TEST_SEAL alone, on unworn words,
starts its words, each log word behind the fuses it records, or answers at once where TEST_SEAL alone is asked for and
blown; the staged token is gone. ROLLBACK_ADVANCE up to the running image's SV raises the count and answers it, or
answers INTERNAL with the count that reads back where the blow fails. FUSE_INSTRUCTION takes a BLANK device to MAKER. CLOCK_STATUS returns six words, the third the gates. -/
def Obligations.KeepStoreMessagesAreAnswered : Prop :=
  ∀ (m : Msg) (s d : State),
    (s.selects keepWriteCmd m d → 1 ≤ m.get 1 8 4 → m.get 1 8 4 ≤ 14 → m.get 1 0 8 + m.get 1 8 4 ≤ 256 →
      m.len = m.get 1 8 4 + 2 → m.stray 1 0xFFF = false →
      let ws := (List.range (m.get 1 8 4)).map (fun k => (m.get 1 0 8 + k, w32 (m.word (k + 2))))
      d.keepWorn ws = false → d.keep.job = none →
      exec (.keepWrite m) s = .next (d.keepStart ws 0x4200 0 (d.replyTo m))) ∧
    (s.selects keepStatusCmd m d → 1 ≤ m.get 1 12 4 → m.get 1 12 4 ≤ 14 → m.get 1 0 9 + m.get 1 12 4 ≤ 512 →
      m.stray 1 0xF1FF = false →
      exec (.keepStatus m) s = .next (d.ack m.rt .ok (packW [(16, d.wornAt 100000), (16, d.wornAt 90000)] ::
        (List.range (m.get 1 12 4)).map (fun k => w32 (d.keepWear (m.get 1 0 9 + k)))))) ∧
    (s.selects lifecycleTokenLoadCmd m d → 1 ≤ m.get 1 0 4 → m.get 1 0 4 ≤ 14 → m.get 1 8 5 + m.get 1 0 4 ≤ 32 →
      m.len = m.get 1 0 4 + 2 → m.stray 1 0x1F0F = false →
      ∃ l, exec (.lifecycleTokenLoad m) s = .next (({ d with life := l } : State).ack m.rt .ok [l.loaded]) ∧
        l.state = d.life.state ∧
        l.token = (List.range (m.get 1 0 4)).foldl (fun t k => tset t (m.get 1 8 5 + k) (w32 (m.word (k + 2)))) d.life.token ∧
        l.loaded = (List.range (m.get 1 0 4)).foldl
          (fun w k => w ||| w32 (2 ^ (m.get 1 8 5 + k))) d.life.loaded) ∧
    (s.selects lifecycleAdvanceCmd m d → m.get 1 16 16 = 0xC3A5 → m.stray 1 0xFFFF0107 = false →
      (m.get 1 0 3 = 0 ∧ m.flag 1 8 = true) ∨ (2 ≤ m.get 1 0 3 ∧ m.get 1 0 3 ≤ 4 ∧ m.get 1 0 3 = d.life.state.num + 1 ∧
        (m.get 1 0 3 = 4 → d.tokenOk = true) ∧ d.life.advanced = false) →
      let ws := d.advanceWords (m.get 1 0 3) (m.flag 1 8 && !fused d.fuses.testSeal)
      d.keepWorn ws = false → d.keep.job = none →
      let t := d.modLife (fun l => { l with token := [], loaded := 0 })
      exec (.lifecycleAdvance m) s = .next (if ws = [] then t.ack m.rt .ok [d.fuses.word, d.keepWord 461]
        else t.keepNext ⟨ws, ws.map Prod.fst, d.replyTo m, 0x4203, 16 * d.logWord.toNat⟩)) ∧
    (s.selects rollbackAdvanceCmd m d → 1 ≤ m.get 1 0 7 → m.get 1 0 7 ≤ 64 → d.fuses.rollback ≤ m.get 1 0 7 →
      m.stray 1 0x7F = false → m.get 1 0 7 ≤ d.boot.runSv → d.life.state = .bench ∨ d.life.state = .field →
      ∃ got, d.fuses.rollback ≤ got ∧ got ≤ m.get 1 0 7 ∧
        (Config.fuseBlowFails (8 * d.now + 6) = false → got = m.get 1 0 7) ∧
        exec (.rollbackAdvance m) s = .next ((d.modFuses (fun f => { f with rollback := got })).ack m.rt
          (if got = m.get 1 0 7 then .ok else .internal) [w32 got])) ∧
    (∀ hash, s.awake = true → s.life.state = .blank → s.life.sealed = false → s.fuses.life = .blank →
      exec (.fuseInstruction hash) s = .next { s with fuses := { s.fuses with maker := 3, rootHash := hash } }) ∧
    (s.selects clockStatusCmd m d → m.stray 1 0 = false →
      ∃ ret, exec (.clockStatus m) s = .next (d.ack m.rt .ok ret) ∧ ret.length = 6 ∧ ret[2]? = some (w32 d.clock.gates))

/-- A word write changes its word, its cache and its wear, and nothing else in the store. KEEP_WORD_COMPLETE with a word
under way: that word and the cache read the new value, every other word reads as before, the word's wear counter is
one higher (saturating at 17 bits), every other wear counter is unchanged, and the command goes on with the next word
or is answered when none is left. With no command under way nothing changes. -/
def Obligations.KeepWordCompletes : Prop :=
  ∀ (s : State) (j : KeepJob) (w : Nat) (v : Word) (rest : List (Nat × Word)),
    (s.keep.job = none → exec .keepWordComplete s = .next s) ∧
    (s.keep.job = some j → j.words = (w, v) :: rest →
      ∃ t, exec .keepWordComplete s = .next t ∧
        t = (s.keepPut w v).keepNext { j with words := rest } ∧
        (s.keepPut w v).keepWord w = v ∧ (∀ x, x ≠ w → (s.keepPut w v).keepWord x = s.keepWord x) ∧
        (s.keepPut w v).keepWear w = min 131071 (s.keepWear w + 1) ∧
        (∀ x, x ≠ w → (s.keepPut w v).keepWear x = s.keepWear x) ∧
        (∀ x, x ≠ w → tget 0 (s.keepPut w v).keep.cache x = tget 0 s.keep.cache x) ∧
        t.keep.words = (s.keepPut w v).keep.words ∧ t.lines = s.lines ∧ t.sched = s.sched ∧ t.time = s.time)

/-- Every step keeps the keep-store in its canonical form. For every state whose keep-store and cache list strictly rising
word indices below 512 with no word equal to zero (what an unlisted word reads as), and whose command under way writes
words of the store only: if a step of any command answers a next state, that state's keep-store is of the same form. -/
def Obligations.KeepStoreStaysCanonical : Prop :=
  ∀ (s t : State), s.keepWf → step s = .next t → t.keepWf

/-- The keep-store after reset is canonical. State.reset satisfies the invariant that every step keeps. -/
def Obligations.ResetKeepStoreIsCanonical : Prop :=
  State.reset.keepWf

/-- LINE_CONFIG, LINE_STATUS, LINE_RETRAIN, LINE_OAM_SEND, LINE_OAM_READ complete. A LINE_CONFIG whose values its table
allows, on a channel that its bundle group and the fabric leave free, powered and not isolated, is accepted for its
edge, with that edge as answer. LINE_STATUS answers STATE, stage, mode, role, LAST_FAIL and ATTEMPTS, the partner's
abilities, UP_TICK and the partner's SNR, SEED_OFS and COEF_SET, and changes nothing. LINE_RETRAIN of a powered,
enabled channel that is not isolated is accepted for its edge. LINE_OAM_SEND on an LR10 link in UP with USER messages
agreed appends the message to the queue of four and answers the places left. LINE_OAM_READ returns and removes the oldest
message and clears the count of lost ones. -/
def Obligations.LineModeMessagesAreAnswered : Prop :=
  ∀ (m : Msg) (s d : State),
    (s.selects lineConfigCmd m d → lineCfgBad m = false → d.lineCfgConflict (m.get 1 0 7) (lineCfgOf m) = false →
      d.domOn (domOfRoot (m.get 1 0 7)) = true → (d.line (m.get 1 0 7)).isolated = false →
      exec (.lineConfig m) s = .next ((d.accept (.line (m.get 1 0 7) (lineCfgOf m))).ack m.rt .ok (lohi d.nextEdge))) ∧
    (s.selects lineStatusCmd m d → m.stray 1 0x7F = false → m.get 1 0 7 ≤ 95 →
      let l := d.line (m.get 1 0 7)
      exec (.lineStatus m) s = .next (d.ack m.rt .ok ([l.status0, packW [(16, l.peerHal), (6, l.peerStd)]] ++ lohi l.upTick ++
        [packW [(16, l.peerSnr), (4, l.peerSeed), (4, l.sfm.coefSet)]])) ∧
      l.status0 = packW [(3, l.state.num), (1, 0), (3, if l.mode = 6 && l.state == .training then l.train.stage else 0),
        (1, 0), (4, l.mode), (1, b2n l.slave), (1, 0), (1, b2n l.resumed), (1, 0), (8, l.lastFail), (8, l.attempts)]) ∧
    (s.selects lineRetrainCmd m d → m.stray 1 0x17F = false → m.get 1 0 7 ≤ 95 →
      (d.lineCfg (m.get 1 0 7)).enable = true → d.domOn (domOfRoot (m.get 1 0 7)) = true →
      (d.line (m.get 1 0 7)).isolated = false →
      exec (.lineRetrain m) s = .next ((d.accept (.lineRetrain (m.get 1 0 7) (m.flag 1 8))).ack m.rt .ok (lohi d.nextEdge))) ∧
    (s.selects lineOamSendCmd m d → m.stray 1 0xFF7F = false → m.get 1 0 7 ≤ 95 → 1 ≤ m.get 1 8 8 → m.get 1 8 8 ≤ 48 →
      m.len = 2 + ceilDiv (m.get 1 8 8) 4 →
      let l := d.line (m.get 1 0 7)
      l.mode = 6 → l.state = .up → l.cfg.userEn = true → bit l.peerHal 4 = true → l.oamTx.length < 4 →
      ∃ t : State, exec (.lineOamSend m) s = .next (t.ack m.rt .ok [packW [(3, 3 - l.oamTx.length)]]) ∧
        t = { d with lines := t.lines } ∧
        t.line (m.get 1 0 7) = { l with oamTx := l.oamTx ++ [msgBytes m 2 (m.get 1 8 8)] } ∧
        ∀ c, c ≠ m.get 1 0 7 → t.line c = d.line c) ∧
    (s.selects lineOamReadCmd m d → m.stray 1 0x7F = false → m.get 1 0 7 ≤ 95 →
      let l := d.line (m.get 1 0 7)
      ∃ t : State, exec (.lineOamRead m) s = .next (t.ack m.rt .ok
          (packW [(8, (l.oamRx.headD []).length), (8, l.oamRx.length - 1), (16, l.oamLost)] ::
            bytesToWords 12 (l.oamRx.headD []))) ∧
        t = { d with lines := t.lines } ∧ t.line (m.get 1 0 7) = { l with oamRx := l.oamRx.tail, oamLost := 0 } ∧
        ∀ c, c ≠ m.get 1 0 7 → t.line c = d.line c)

/-- The receiver, bundle and watch commands complete. BUNDLE_CONFIG, RX_ADAPT_CONFIG and LINE_WATCH_CONFIG with allowed
values are accepted for their edge; BUNDLE_CONFIG answers that edge and, when it enables a group that was not enabled so,
TAKEN_DOWN, and one that is enabled with the mode already changes nothing. BUNDLE_STATUS, RX_STATUS, RX_TAPS_READ,
LINE_COUNTERS, LINE_QUALITY and CABLE_HEALTH answer the words that are written out here and change at most what the table
says: CLEAR marks the page to be reduced, SNR_MIN restarts, UPDATE stores the profile as baseline. LINE_TDR is accepted
for its edge and is answered later. -/
def Obligations.LineReceiverMessagesAreAnswered : Prop :=
  ∀ (m : Msg) (s d : State),
    (s.selects bundleConfigCmd m d → m.stray 1 0x1F01F = false → m.get 1 0 5 ≤ 23 →
      (m.flag 1 16 = true → 3 ≤ m.get 1 12 4 ∧ m.get 1 12 4 ≤ 6 ∧ d.bundleClash (m.get 1 0 5) (m.get 1 12 4) = false ∧
        ((d.bundleCfg (m.get 1 0 5)).1 = true → (d.bundleCfg (m.get 1 0 5)).2 = m.get 1 12 4)) →
      (m.flag 1 16 = false → m.get 1 12 4 = 0) → d.domOn (4 + m.get 1 0 5 / 6) = true →
      (groupChans (m.get 1 0 5)).any (fun c => (d.line c).isolated) = false →
      exec (.bundleConfig m) s =
        .next (if m.flag 1 16 = true ∧ (d.bundleCfg (m.get 1 0 5)).1 = true then d.ack m.rt .ok (lohi d.nextEdge ++ [0])
          else (d.accept (.bundle (m.get 1 0 5) (m.flag 1 16) (m.get 1 12 4))).ack m.rt .ok
            (lohi d.nextEdge ++ [w32 (if m.flag 1 16 then d.takenMask (m.get 1 0 5) else 0)]))) ∧
    (s.selects bundleStatusCmd m d → m.stray 1 0x1F = false → m.get 1 0 5 ≤ 23 → d.domOn (4 + m.get 1 0 5 / 6) = true →
      let b := d.bundle (m.get 1 0 5)
      exec (.bundleStatus m) s = .next (d.ack m.rt .ok ([packW [(1, b2n b.enabled), (3, 0), (4, b.mode), (2, b.survey), (6, 0),
          (12, pack ((groupChans (m.get 1 0 5)).map (fun c => (3, if b.enabled then d.posState c else 0)))), (4, 0)]] ++
        padWords 3 (b.coupling.map (BitVec.ofNat 8)) ++ padWords 3 (d.depthBytes (m.get 1 0 5)) ++
        [w32 (ofInt 16 b.noise)] ++ lohi b.surveyTick))) ∧
    (s.selects rxAdaptConfigCmd m d → m.stray 1 0x1F07F = false → m.stray 3 0xF = false → m.get 1 0 7 ≤ 95 →
      m.get 2 0 4 ≤ 7 → m.get 2 8 4 ≤ 7 → m.get 2 16 4 ≤ 7 → m.get 2 24 4 ≤ 7 → m.get 3 0 4 ≤ 9 →
      d.domOn (domOfRoot (m.get 1 0 7)) = true →
      exec (.rxAdaptConfig m) s = .next ((d.accept (.lineAdapt (m.get 1 0 7)
        { echoT := m.get 2 0 4, echoD := m.get 2 4 4, ffeT := m.get 2 8 4, ffeD := m.get 2 12 4, dfeT := m.get 2 16 4
          dfeD := m.get 2 20 4, bunT := m.get 2 24 4, bunD := m.get 2 28 4, frzEcho := m.flag 1 12, frzFfe := m.flag 1 13
          frzDfe := m.flag 1 14, frzBun := m.flag 1 15, frzPre := m.flag 1 16, preUpd := m.get 3 0 4 })).ack m.rt .ok [])) ∧
    (s.selects rxStatusCmd m d → m.stray 1 0x7F = false → m.get 1 0 7 ≤ 95 → d.domOn (domOfRoot (m.get 1 0 7)) = true →
      let v := (d.line (m.get 1 0 7)).view
      exec (.rxStatus m) s = .next (d.ack m.rt .ok
        [packW [(16, if v.locked then (Config.lineSnr (m.get 1 0 7) v.tick).toNat else 0x8000),
           (16, ofInt 16 ((d.line (m.get 1 0 7)).freqOfs (m.get 1 0 7)))],
         packW [(16, ofInt 16 (blwOf (m.get 1 0 7) v.bank.clkStamp)), (8, (Config.linePga (m.get 1 0 7) v.bank.pgaStamp).val)],
         packW [(6, (Config.linePhase (m.get 1 0 7) v.bank.clkStamp).toNat), (2, 0), (4, v.bank.rxSet.set),
           (4, v.bank.txSet.set), (16, v.preUpdates)],
         w32 v.held])) ∧
    (s.selects rxTapsReadCmd m d → m.stray 1 0x0FFF377F = false → m.get 1 0 7 ≤ 95 → m.get 1 8 3 ≤ 4 →
      m.get 1 16 12 < tapCount (m.get 1 8 3) → (m.get 1 8 3 = 3 → m.get 1 12 2 ≠ m.get 1 0 7 % 4) →
      d.domOn (domOfRoot (m.get 1 0 7)) = true → (m.get 1 8 3 = 3 → (d.bundle (m.get 1 0 7 / 4)).enabled = true) →
      (m.get 1 8 3 = 4 → (d.line (m.get 1 0 7)).mode = 6) →
      let count := min 28 (tapCount (m.get 1 8 3) - m.get 1 16 12)
      exec (.rxTapsRead m) s = .next (d.ack m.rt .ok
        ([packW [(5, count), (11, 0), (16, tapCount (m.get 1 8 3))], w32 d.now] ++
          (List.range (ceilDiv count 2)).map (fun k =>
            packW [(16, d.tapAt (m.get 1 0 7) (m.get 1 8 3) (m.get 1 12 2) (m.get 1 16 12 + 2 * k)),
              (16, if 2 * k + 1 < count then
                d.tapAt (m.get 1 0 7) (m.get 1 8 3) (m.get 1 12 2) (m.get 1 16 12 + 2 * k + 1) else 0)])))) ∧
    (s.selects lineCountersCmd m d → m.stray 1 0x37F = false → m.get 1 0 7 ≤ 95 →
      let l := d.line (m.get 1 0 7)
      let c := l.cnt
      ∃ t : State, exec (.lineCounters m) s = .next (t.ack m.rt .ok (lohi d.snapEdge ++
          (if m.get 1 8 1 = 0 then
            lohi c.rxFrames ++ lohi c.rxBytes ++ lohi c.txFrames ++ lohi c.txBytes ++ [w32 c.rxFcsErr, w32 c.rxLenErr]
          else lohi c.fecCw ++ lohi c.fecCorr ++ [w32 c.fecUncorr, w32 c.sfmCrcErr, w32 c.blwSat, w32 c.linkDrops,
            w32 c.lpiTxEnt, w32 c.lpiRxEnt, w32 c.lpiTxTicks, w32 c.lpiRxTicks, w32 c.wakeErr, w32 l.recoveries]))) ∧
        (m.flag 1 9 = false → t = d) ∧
        (m.flag 1 9 = true → t = d.modLine (m.get 1 0 7) (fun l => { l with clr := setBit l.clr (m.get 1 8 1) true }))) ∧
    (s.selects lineQualityCmd m d → m.stray 1 0x7F = false → m.get 1 0 7 ≤ 95 → d.domOn (domOfRoot (m.get 1 0 7)) = true →
      let l := d.line (m.get 1 0 7)
      exec (.lineQuality m) s = .next ((d.modLine (m.get 1 0 7) (fun l => { l with snrMin := 0x7FFF })).ack m.rt .ok
        [packW [(16, ofInt 16 l.snrMin), (16, ofInt 16 l.snrAvgWord)],
         packW [(3, l.sqi), (4, 0), (1, b2n l.partStat.isSome), (3, match l.partStat with | some p => p.2.1 | none => 0),
           (5, 0), (16, ofInt 16 (-l.snrAvgWord))],
         packW [(16, match l.partStat with | some p => sat16 (d.now - p.2.2) | none => 0xFFFF),
           (16, match l.partStat with | some p => ofInt 16 p.1 | none => 0)],
         w32 d.snapEdge])) ∧
    (s.selects lineWatchConfigCmd m d → m.stray 1 0xFFFF0F7F = false → m.stray 2 0xFFFF03FF = false →
      m.stray 3 0x00FFFFFF = false → m.get 1 0 7 ≤ 95 → 500 ≤ m.get 2 0 10 → m.get 2 0 10 ≤ 900 → 1 ≤ m.get 2 16 16 →
      1 ≤ m.get 3 16 8 → m.get 3 16 8 ≤ 40 → 10 ≤ m.get 3 8 8 → m.get 3 8 8 ≤ 40 →
      d.domOn (domOfRoot (m.get 1 0 7)) = true →
      exec (.lineWatchConfig m) s = .next ((d.accept (.lineWatch (m.get 1 0 7) ⟨m.get 1 16 16, m.get 1 8 4, m.get 2 16 16,
        m.get 2 0 10, m.get 3 16 8, m.get 3 8 8, m.get 3 0 8⟩)).ack m.rt .ok [])) ∧
    (s.selects lineTdrCmd m d → m.stray 1 0x7F = false → m.get 1 0 7 ≤ 95 → (d.line (m.get 1 0 7)).linked = false →
      (d.line (m.get 1 0 7)).state ≠ .asleep → (d.line (m.get 1 0 7)).quietP = none →
      (d.line (m.get 1 0 7)).isolated = false → d.domOn (domOfRoot (m.get 1 0 7)) = true →
      (d.line (m.get 1 0 7)).tdr = none → d.cfgq = [] → (d.bundle (m.get 1 0 7 / 4)).survey ≠ 1 →
      exec (.lineTdr m) s = .next (d.accept (.lineTdr (m.get 1 0 7) ⟨0, false, d.replyTo m, false, false⟩))) ∧
    (s.selects cableHealthCmd m d → m.stray 1 0x17F = false → m.get 1 0 7 ≤ 95 → (d.line (m.get 1 0 7)).linked = true →
      d.domOn (domOfRoot (m.get 1 0 7)) = true →
      let l := d.line (m.get 1 0 7)
      let all := healthAll (l.baseline.map Prod.snd) l.watch.delta l.watch.reflRl (d.profile (m.get 1 0 7))
      exec (.cableHealth m) s = .next ((if m.flag 1 8 then
          d.modLine (m.get 1 0 7) (fun l => { l with baseline := some (l.mode, d.profile (m.get 1 0 7)) }) else d).ack m.rt .ok
        (packW [(3, (healthSix all).length), (5, 0), (1, b2n l.baseline.isNone), (1, b2n (bit l.view.held 0)),
          (1, b2n (decide (6 < all.length)))] :: w32 d.now :: (healthSix all).flatMap Health.words)))

/-- Negotiation, training frames and timeouts move a line channel on. An attempt that fails records its reason and counts. On a
powered channel: an exchange with a common mode and a settled role starts the training of that mode at the next edge as
part of the same attempt; without a common mode the attempt fails with 0x09; two equal forced roles end it WAITING with
0x0A and no attempt left. In LR10 training outside stage 0, once the edge has decided the start, a training frame of another
delimiter or another VERSION ends the attempt with 0x04, one whose InfoField does not read is ignored, a good one is heard
and does the work of its stage, and in stage 1 one with LOCK begins stage 2. A stage that has run out of time, or an
attempt of 400 ms, fails with the stage's reason, an attempt of standard training with 0x0B, one that still negotiates with
0x00 (the model's choice, log 52), and a fast resume goes on with full training and 0x08. In modes 0x1 to 0x5 the IEEE
training brings the link UP or fails with 0x0B, and on a link its codewords and PHY OAM messages from mode 0x2 on, the
partner's low-power idle and wake errors are taken, and the firmware's answer to a message is what the channel sends next. -/
def Obligations.LineTrainingEventsComplete : Prop :=
  ∀ (ch : Nat) (s : State), ch < 96 → s.powered ch = true →
    (∀ reason, ((s.lineFail ch reason).line ch).lastFail = reason ∧
      ((s.lineFail ch reason).line ch).attemptsDone = (s.line ch).attemptsDone + 1) ∧
    (∀ x, (s.line ch).state = .negotiating →
      let s' := s.modLine ch (fun l =>
        { l with peerStd := x.std % 64, peerHal := (x.hal.getD 0) % 65536, eee := x.eee && l.cfg.lpiEn })
      (∀ mode slave, anResolve (s.line ch).cfg.adv x.std x.hal = some mode → anRole (s.line ch).cfg.role x = some slave →
        exec (.anPageRx ch x) s = .next (s'.lineTrain ch mode slave (s.now + 1) true false)) ∧
      (anResolve (s.line ch).cfg.adv x.std x.hal = none → exec (.anPageRx ch x) s = .next (s'.lineFail ch 0x09)) ∧
      (∀ mode, anResolve (s.line ch).cfg.adv x.std x.hal = some mode → anRole (s.line ch).cfg.role x = none →
        ∃ t : State, exec (.anPageRx ch x) s = .next t ∧ (t.line ch).state = .waiting ∧ (t.line ch).lastFail = 0x0A ∧
          (t.line ch).attemptsDone = (s.line ch).attemptsDone + 2)) ∧
    (∀ f, (s.line ch).state = .training → (s.line ch).mode = 6 → (s.line ch).train.stage ≠ 0 →
      (s.line ch).train.fresh = false →
      (f.delimOk = false → exec (.trainingFrameRx ch f) s = .next (s.lineFail ch 0x04)) ∧
      (f.delimOk = true → infoRead f.bytes = none → exec (.trainingFrameRx ch f) s = .next s) ∧
      (∀ i, f.delimOk = true → infoRead f.bytes = some i →
        (i.version ≠ 1 → exec (.trainingFrameRx ch f) s = .next (s.lineFail ch 0x04)) ∧
        (i.version = 1 →
          exec (.trainingFrameRx ch f) s = .next ((s.modLine ch (fun l => l.hear i)).trainStage ch f i)) ∧
        (i.version = 1 → (s.line ch).train.stage = 1 → i.lock = true →
          exec (.trainingFrameRx ch f) s = .next (s.modLine ch (fun l => (l.hear i).stageTo 2 s.now))))) ∧
    ((s.line ch).state = .training → (s.line ch).mode = 6 → (s.line ch).train.stage ≠ 7 → (s.line ch).resumed = false →
      (s.line ch).train.fresh = false →
      (s.line ch).train.stageStart + (stageTimeout (s.line ch).train.stage).2 ≤ s.now ∨
        (s.line ch).attemptStart + 16000 ≤ s.now →
      exec (.lineTrainingTimeout ch) s = .next (s.lineFail ch (stageTimeout (s.line ch).train.stage).1)) ∧
    ((s.line ch).state = .training → (s.line ch).mode ≠ 6 → (s.line ch).attemptStart + 16000 ≤ s.now →
      exec (.lineTrainingTimeout ch) s = .next (s.lineFail ch 0x0B)) ∧
    ((s.line ch).state = .negotiating → (s.line ch).attemptStart + 16000 ≤ s.now →
      exec (.lineTrainingTimeout ch) s = .next (s.lineFail ch 0x00)) ∧
    ((s.line ch).state = .training → (s.line ch).mode = 6 → (s.line ch).train.stage = 7 ∨ (s.line ch).resumed = true →
      (s.line ch).train.stageStart + 200 ≤ s.now →
      ∃ t : State, exec (.resumeTimeout ch) s = .next t ∧
        t = (s.modLine ch (fun l => { l with lastFail := 0x08 })).lineStart ch (s.now + 1) false ∧
        (t.line ch).lastFail = 0x08) ∧
    (1 ≤ (s.line ch).mode → (s.line ch).mode ≤ 5 →
      (∀ eee k, (s.line ch).state = .training → (s.line ch).train.fresh = false →
        ((s.line ch).train.stage = 0 → (s.bundle (ch / 4)).enabled = false) →
        ∃ t : State, exec (.standardTraining ch (.trained eee k)) s = .next t ∧ (t.line ch).state = .up ∧
          (t.line ch).upTick = s.now) ∧
      ((s.line ch).state = .training → exec (.standardTraining ch .trainFail) s = .next (s.lineFail ch 0x0B)) ∧
      ((s.line ch).linked = true →
        ((s.line ch).lpiRx = .active → (s.line ch).eee = true →
          exec (.standardTraining ch .lpiStart) s = .next (s.modLine ch (fun l =>
            { l with lpiRx := .quiet (s.now + 1), cntTick := { l.cntTick with lpiRxEnt := l.cntTick.lpiRxEnt + 1 } }))) ∧
        exec (.standardTraining ch .lpiEnd) s = .next (s.modLine ch (fun l => { l with lpiRx := .active })) ∧
        ((s.line ch).eee = true → exec (.standardTraining ch .wakeError) s = .next (s.modLine ch (fun l =>
          { l with cntTick := { l.cntTick with wakeErr := l.cntTick.wakeErr + 1 } }))) ∧
        (2 ≤ (s.line ch).mode →
          (∀ cw corr uncorr, exec (.standardTraining ch (.fec cw corr uncorr)) s = .next (s.modLine ch (fun l =>
            { l with cntTick := { l.cntTick with fecCw := l.cntTick.fecCw + cw, fecCorr := l.cntTick.fecCorr + corr
                                                 fecUncorr := l.cntTick.fecUncorr + uncorr } }))) ∧
          (∀ body, exec (.standardTraining ch (.oam body)) s =
            .next (s.modLine ch (fun l => { l with stdOam := some (Config.oamAnswer body) }))))))

/-- The LR10 stages time out with their own reason and length. Stage 1 fails with reason 0x01 after 1,600 ticks, stage 2 with
0x02 after 800, stage 3 with 0x05 after 8,000, stage 4 with 0x06 after 800 and stage 5 with 0x07 after 2,400; stage 0
times out after 2,400, and records 0x00, the model's choice (log 52), since LAST_FAIL has no code for it. -/
def Obligations.StageTimesAreThoseOfTheTable : Prop :=
  stageTimeout 0 = (0x00, 2400) ∧ stageTimeout 1 = (0x01, 1600) ∧ stageTimeout 2 = (0x02, 800) ∧
    stageTimeout 3 = (0x05, 8000) ∧ stageTimeout 4 = (0x06, 800) ∧ stageTimeout 5 = (0x07, 2400)

/-- Superframes, OAM, precoder, low-power idle, sleep and wake act on a linked channel. On a powered channel: an LR10
superframe adds its nine codewords and the uncorrectable ones to the tick's counts, and one whose SFM cannot be read
ends the run of good superframes; in stage 5 of training, with the own superframes begun and the marker in lock, the
64th superframe in a row with RX_OK both ways brings the link UP. An OAM message of class USER whose blocks all
arrived is stored while fewer than eight are kept. PRECODER_SWITCH takes the received coefficients over where the own superframe
that begins is ACT.
PRECODER_UPDATE, with a DFE tap at the threshold for 40 ticks, folds the DFE taps and announces the next set with an
ACT at least 64 superframes after the SF_COUNT last received. LPI_ENTRY begins to enter low-power idle after LPI_IDLE
idle ticks and counts it; LPI_REFRESH begins a refresh after 224 superframes of quiet; LPI_WAKE asks for a wake
with the next superframe for a frame, or for the sleep handshake of a domain that closes, unless the channel goes to sleep
already. WAKE_TONE_DETECT starts an ASLEEP channel at the next edge, with fast resume where
it is allowed. BLW_SATURATION is counted. Each leaves every other channel as it is. -/
def Obligations.LineLinkEventsComplete : Prop :=
  ∀ (ch : Nat) (s : State), ch < 96 → s.powered ch = true →
    (∀ e b bad c, (s.line ch).mode = 6 → (s.line ch).linked = true → bit bad 0 = true ∨ sfmRead b = none →
      ∃ t : State, exec (.sfmRx ch e b bad c) s = .next t ∧ t = { s with lines := t.lines } ∧
        (t.line ch).cntTick.fecCw = (s.line ch).cntTick.fecCw + 9 ∧
        (t.line ch).cntTick.fecUncorr = (s.line ch).cntTick.fecUncorr + popCount 9 bad ∧ (t.line ch).sfm.good = 0 ∧
        (t.line ch).state = (s.line ch).state ∧ ∀ k, k ≠ ch → t.line k = s.line k) ∧
    (∀ e b c sf g, (s.line ch).mode = 6 → (s.line ch).state = .training → (s.line ch).train.stage = 5 →
      sfmRead b = some (sf, g) → g.rxOk = true → (((s.line ch).sfm.marker e).lock = true) →
      (s.line ch).sfm.okOwn ≤ 1 → (s.line ch).sfTx.isSome = true → 63 ≤ (s.line ch).sfm.good →
      ∃ t : State, exec (.sfmRx ch e b 0 c) s = .next t ∧ (t.line ch).state = .up ∧ (t.line ch).upTick = s.now ∧
        (t.line ch).cntTick.fecCw = (s.line ch).cntTick.fecCw + 9 ∧ ∀ k, k ≠ ch → t.line k = s.line k) ∧
    (∀ blocks body, (s.line ch).mode = 6 → (s.line ch).linked = true → blocks.all Prod.fst = true →
      oamMessage (s.line ch).oamSeq (blocks.map Prod.snd) = some (3, body) → 1 ≤ body.length → body.length ≤ 48 →
      (s.line ch).oamRx.length < 8 →
      ∃ t : State, exec (.oamMessageRx ch blocks) s = .next t ∧ t = { s with lines := t.lines } ∧
        (t.line ch).oamRx = (s.line ch).oamRx ++ [body] ∧ (t.line ch).oamLost = (s.line ch).oamLost ∧
        ∀ k, k ≠ ch → t.line k = s.line k) ∧
    (∀ c act, (s.line ch).coefTx = some (c, act) → (s.line ch).mode = 6 → (s.line ch).linked = true →
      (s.line ch).sfTx = some act →
      exec (.precoderSwitch ch act) s =
        .next (s.modLine ch (fun l => { l with coefTx := none, bank := { l.bank with txSet := c } }))) ∧
    ((s.line ch).mode = 6 → (s.line ch).linked = true → (s.line ch).adapt.frzPre = false → (s.line ch).coefRx = none →
      (s.line ch).preRun.any (fun n => decide (40 ≤ n)) = true →
      ∀ later, let old := (s.line ch).bank.rxSet
      let c : CoefSet := ⟨(old.set + 1) % 16, trimCoefs (foldCoefs old.coefs ((s.line ch).bank.dfe ch))⟩
      exec (.precoderUpdate ch later) s = .next (s.modLine ch (fun l =>
        { l with coefRx := some (c, (l.sfm.lastSf + 64 + later) % 2 ^ 32, foldAmounts old.coefs c.coefs), coefDue := true
                 coefLater := later, preUpdates := sat16 (l.preUpdates + 1), bank := { l.bank with rxSet := c } }))) ∧
    (s.domClosing (domOfRoot ch) = false → (s.line ch).state = .up → (s.line ch).lpiAllowed = true →
      (s.line ch).watch.lpiIdle ≤ (s.line ch).idle →
      ∃ t : State, exec (.lpiEntry ch) s = .next t ∧ (t.line ch).state = .lpi ∧ (t.line ch).lpiTx = .entering 0 ∧
        (t.line ch).cntTick.lpiTxEnt = (s.line ch).cntTick.lpiTxEnt + 1 ∧ ∀ k, k ≠ ch → t.line k = s.line k) ∧
    (∀ since, (s.line ch).lpiTx = .quiet since → (s.line ch).mode = 6 → (s.line ch).state = .lpi →
      224 * 4352 ≤ (s.now - since) * 25000 →
      exec (.lpiRefresh ch) s = .next (s.modLine ch (fun l => { l with lpiTx := .refresh 0 }))) ∧
    ((s.line ch).state = .lpi → (s.line ch).lpiTx.wakes = false → (s.line ch).lpiTx ≠ .active → (s.line ch).sleep = .none →
      s.rootWants ch = true ∨ (s.domClosing (domOfRoot ch) = true ∧ (s.line ch).mode = 6 ∧ (s.line ch).cfg.sleepEn = true) →
      exec (.lpiWake ch) s = .next (s.modLine ch (fun l => { l with wakeReq := true, idle := 0 }))) ∧
    (s.domClosing (domOfRoot ch) = false → (s.line ch).state = .asleep →
      ∃ t : State, exec (.wakeToneDetect ch) s = .next t ∧ t = s.lineStart ch (s.now + 1) true ∧
        ∀ k, k ≠ ch → t.line k = s.line k) ∧
    (40 ≤ (s.line ch).blwRun →
      exec (.blwSaturation ch) s = .next (s.modLine ch (fun l =>
        { l with blwRun := l.blwRun - 40, cntTick := { l.cntTick with blwSat := l.cntTick.blwSat + 1 } }))) ∧
    (∀ (f : Line → Line) k, k ≠ ch → (s.modLine ch f).line k = s.line k)

/-- Survey, joins, drops, faults, TDR, baseline, link sleep and wake complete. BUNDLE_SURVEY starts the survey with the
channels in stage 0; SURVEY_COMPLETE ends it after its slots with the noise and the coupling of the positions that sent,
whose taps are then valid. JOIN_SOFT_START_END ends the soft start after 400 ticks. LINK_DROP of a criterion that holds
is counted and leaves the relink for the next edge, unless a drop or a fault of the channel waits there already.
LINE_CHANNEL_FAULT of a powered channel is recorded, governs over a drop of the same tick and silences the channel at the
next edge; in DAMPED it is recorded only. TDR_COMPLETE answers the measurement, and restarts the attempt that it stopped.
BASELINE_CAPTURE stores the profile of a link UP for 4,000 ticks. LINK_SLEEP in a closing domain begins the handshake of
an LR10 link with SLEEP_EN, after a wake from low-power idle, asserts low-power idle first on another link with EEE that
does not assert it, and puts every other link ASLEEP. LINE_WAKE_DETECT of an ASLEEP channel wakes BANKED through a die held for wake, and in
RUN starts the channel at the next edge unless its domain closes. -/
def Obligations.LineBundleAndWatchEventsComplete : Prop :=
  ∀ (ch bg : Nat) (s : State), ch < 96 → bg < 24 →
    (∀ p t, s.surveyors bg = p :: t → s.live = true → s.domOn (4 + bg / 6) = true → (s.bundle bg).enabled = true →
      (s.bundle bg).survey ≠ 1 →
      exec (.bundleSurvey bg) s = .next (s.modBundle bg (fun b =>
        { b with survey := 1, surveyPos := p :: t, surveyOut := []
                 surveyStart := (s.line (4 * bg + p)).train.stageStart }))) ∧
    (∀ noise coupling, s.live = true → (s.bundle bg).survey = 1 →
      (s.bundle bg).surveyStart + surveyTicks (s.bundle bg).surveyPos.length ≤ s.now →
      let done := (s.bundle bg).surveyPos.filter (fun p => !(s.bundle bg).surveyOut.contains p)
      ∃ t : State, exec (.surveyComplete bg noise coupling) s = .next t ∧ (t.bundle bg).survey = 2 ∧ (t.bundle bg).noise = noise ∧
        (t.bundle bg).surveyTick = s.now ∧ (t.bundle bg).coupling = surveyCoupling done coupling ∧
        (∀ p, p ∈ done → p < 4 → (t.bundle bg).valid[p]? = some true)) ∧
    (∀ t0, (s.line ch).joinStart = some t0 → s.powered ch = true → t0 + 400 ≤ s.now →
      exec (.joinSoftStartEnd ch) s = .next (s.modLine ch (fun l => { l with joinStart := none }))) ∧
    (∀ k, s.powered ch = true → (s.line ch).dropHolds s.now s.time.committed k = true →
      (∀ a ∈ s.edgeq, a ≠ .relink ch ∧ ∀ code, a ≠ .silence ch code) →
      ∃ t : State, exec (.linkDrop ch k) s = .next t ∧ t.edgeq = s.edgeq ++ [.relink ch] ∧
        (t.line ch).cntTick.linkDrops = (s.line ch).cntTick.linkDrops + 1 ∧ (t.line ch).state = (s.line ch).state) ∧
    (∀ code, isLineFault code = true → s.powered ch = true → .silence ch code ∉ s.edgeq →
      ∃ t : State, exec (.lineChannelFault ch code) s = .next t ∧
        t.edgeq = (if s.edgeq.contains (.relink ch) then s.edgeq.filter (fun a => a != .relink ch) else s.edgeq) ++
          [.silence ch code] ∧
        t.faults.record = s.faults.record.add ⟨code, ch, s.now⟩ 0 ∧ t.mbx = s.mbx) ∧
    (∀ code, isLineFault code = true → s.powered ch = false → s.awake = true → s.boot.halted = true →
      s.domOn (domOfRoot ch) = true → exec (.lineChannelFault ch code) s = .next (s.recordFault code ch)) ∧
    (∀ job partner refl, (s.line ch).tdr = some job → s.live = true →
      job.start + (if job.reduced then 160 else 40) ≤ s.now →
      let s' := s.modLine ch (fun l => { l with tdr := none })
      let words := tdrWords job partner (tdrReport (s.line ch).watch.reflRl refl)
      exec (.tdrComplete ch partner refl) s = .next ((if job.resume = true ∨ (s.line ch).cfg.enable = false then
          (s'.lineStart ch s.now job.fast).decideStarts else s').ackLater job.reply .ok words) ∧ words.length = 6) ∧
    (s.powered ch = true → (s.line ch).linked = true → (s.line ch).baseline = none → (s.line ch).upTick + 4000 ≤ s.now →
      exec (.baselineCapture ch) s =
        .next (s.modLine ch (fun l => { l with baseline := some (l.mode, s.profile ch) }))) ∧
    (s.powered ch = true → s.domClosing (domOfRoot ch) = true → (s.line ch).linked = true → (s.line ch).sleep = .none →
      ((s.line ch).mode = 6 → (s.line ch).cfg.sleepEn = true → (s.line ch).state = .up →
        ∃ t : State, exec (.linkSleep ch) s = .next t ∧ (t.line ch) = { s.line ch with sleep := .sending 15 }) ∧
      ((s.line ch).mode = 6 → (s.line ch).cfg.sleepEn = true → (s.line ch).state = .lpi →
        ∃ t : State, exec (.linkSleep ch) s = .next t ∧
          (t.line ch) = { s.line ch with
            sleep := .waking, idle := 0, wakeReq := false, lpiTx := if (s.line ch).lpiTx.wakes then (s.line ch).lpiTx else .waking 0 }) ∧
      ((s.line ch).mode ≠ 6 → (s.line ch).eee = true →
        (s.line ch).state = .up ∨ (s.line ch).lpiTx.wakes = true ∨ (s.line ch).lpiTx = .active →
        ∃ t : State, exec (.linkSleep ch) s = .next t ∧ (t.line ch).state = .lpi ∧ (t.line ch).lpiTx = .entering 0 ∧
          (t.line ch).sleep = .lpi) ∧
      (((s.line ch).mode = 6 ∧ (s.line ch).cfg.sleepEn = false) ∨
          ((s.line ch).mode ≠ 6 ∧ ((s.line ch).eee = false ∨
            ((s.line ch).state = .lpi ∧ (s.line ch).lpiTx.wakes = false ∧ (s.line ch).lpiTx ≠ .active))) →
        ∃ t : State, exec (.linkSleep ch) s = .next t ∧ (t.line ch).state = .asleep ∧ (t.line ch).sleep = .silent)) ∧
    (∀ e, s.boot.power = .banked → s.power.banked = some e → (s.line ch).state = .asleep → bit e.lineWake (ch / 24) = true →
      s.power.fired = none →
      ∃ t : State, exec (.lineWakeDetect ch) s = .next t ∧ t.power.fired = some ⟨0x01, ch⟩ ∧ t.power.cause = (if s.power.railFail then 0x08 else 0x01)) ∧
    (s.boot.power = .run → s.powered ch = true → (s.line ch).state = .asleep →
      exec (.lineWakeDetect ch) s = .next
        (let s' := s.fireWake ⟨0x01, ch⟩ false
         if s'.domClosing (domOfRoot ch) then s' else s'.lineStart ch (s'.now + 1) true))

/-- A faulted line channel sends nothing until its quiet period ends. When the edge after a channel-level fault silences
an enabled channel, its transmitter sends nothing and the quiet period of FAULT_CONFIG runs from that edge;
QUIET_PERIOD_END before its end changes nothing, and at its end one recovery is counted and the quiet period is over. -/
def Obligations.LineChannelFaultSilencesUntilItsQuietPeriodEnds : Prop :=
  ∀ (ch code : Nat) (s : State), ch < 96 →
    let t := s.lineSilence ch code
    t.lineSends ch = false ∧ (t.line ch).quietP = some ⟨s.now, s.faults.quiet.line⟩ ∧
    (∀ u : State, u.quietOf ch = some ⟨s.now, s.faults.quiet.line⟩ → u.now < s.now + s.faults.quiet.line →
      exec (.quietPeriodEnd ch) u = .next u) ∧
    (∀ (u : State) (q : Quiet), u.live = true → u.quietOf ch = some q → q.start + q.len ≤ u.now →
      exec (.quietPeriodEnd ch) u = .next (u.quietEnd ch) ∧ ((u.quietEnd ch).line ch).quietP = none ∧
        ((u.quietEnd ch).line ch).recoveries = sat16 ((u.line ch).recoveries + 1))

/-- Drop segment commands and events complete. DROP_CONFIG with allowed values is accepted for its edge; DROP_STATUS
answers STATE, WAKE_ARMED, NODE_COUNT, COORD_CONFLICT, HEARD, DUP and UP_TICK and restarts HEARD; DROP_COUNTERS answers a
page and marks it with CLEAR. On a drop that is UP and powered: when the cycle is over, no opportunity left or the last one
taken, a beacon opens opportunity 0 with the PLCA values of DROP_CONFIG; a timeout passes the opportunity that waits to be
taken to the next ID below NODE_COUNT; in an open opportunity a good frame arrives and is counted, a frame with a bad FCS
is counted and does not arrive, and a collision is counted, the fourth in a row of an ID other than 0 setting its DUP bit;
a foreign beacon is counted, and in a second consecutive cycle sets COORD_CONFLICT, which 1,000 clean cycles clear. A fault
is recorded and silences the drop at the edge, in DAMPED it is recorded only; an armed detector fires the wake, from BANKED
with its source. -/
def Obligations.DropMessagesAndEventsComplete : Prop :=
  ∀ (m : Msg) (s d : State) (ds : Nat), ds < 32 →
    (s.selects dropConfigCmd m d → m.stray 1 0x0007FF1F = false → m.stray 2 0x0000FFFF = false → 2 ≤ m.get 1 12 4 →
      m.get 1 12 4 ≤ 14 → 1 ≤ m.get 2 0 8 → 1 ≤ m.get 2 8 8 →
      (d.domOn (domOfRoot (dropRoot (m.get 1 0 5))) = true ∨ m.flag 1 16 = false) → (d.drop (m.get 1 0 5)).isolated = false →
      exec (.dropConfig m) s = .next ((d.accept (.drop (m.get 1 0 5) ⟨m.flag 1 18, m.flag 1 17, m.flag 1 16,
        ⟨m.get 1 12 4, m.get 2 0 8, m.get 1 8 4, m.get 2 8 8⟩⟩)).ack m.rt .ok (lohi d.nextEdge))) ∧
    (s.selects dropStatusCmd m d → m.stray 1 0x1F = false →
      let r := d.drop (m.get 1 0 5)
      exec (.dropStatus m) s = .next ((d.modDrop (m.get 1 0 5) (fun d => { d with heard := 0 })).ack m.rt .ok
        ([packW [(3, r.state.num), (1, b2n (d.dropArmed (m.get 1 0 5))), (4, r.plca.nodeCount), (1, b2n r.conflict)],
          packW [(16, r.heard), (16, r.dup)]] ++ lohi r.upTick))) ∧
    (s.selects dropCountersCmd m d → m.stray 1 0x31F = false →
      let r := d.drop (m.get 1 0 5)
      let c := r.cnt
      exec (.dropCounters m) s = .next ((if m.flag 1 9 then
          d.modDrop (m.get 1 0 5) (fun d => { d with clr := setBit d.clr (m.get 1 8 1) true }) else d).ack m.rt .ok
        (lohi d.snapEdge ++ (if m.get 1 8 1 = 0 then
            lohi c.rxFrames ++ lohi c.rxBytes ++ lohi c.txFrames ++ lohi c.txBytes ++
              [w32 c.rxFcsErr, w32 c.collisions, w32 c.foreign, w32 c.cycles, w32 r.recoveries]
          else (List.range 13).map (fun k => w32 (c.nodeFrames.getD (k + 1) 0)))))) ∧
    (s.unitOn (dropRoot ds) = true → (s.drop ds).state = .up → (s.drop ds).cycleOver = true →
      ∃ t : State, exec (.plcaBeacon ds) s = .next t ∧
        t = s.modDrop ds (fun d => d.beacon (s.waitingTx (dropRoot ds))) ∧ (t.drop ds).opp = some 0 ∧
        (t.drop ds).taken = false ∧ (t.drop ds).plca = (s.drop ds).cfg.plca) ∧
    (∀ k, s.unitOn (dropRoot ds) = true → (s.drop ds).state = .up → (s.drop ds).opp = some k →
      let w := if (s.drop ds).taken then k + 1 else k
      exec (.plcaOpportunityTimeout ds) s = .next (s.modDrop ds (fun d =>
        { d with opp := if w + 1 < d.plca.nodeCount then some (w + 1) else none, taken := false, burstLeft := 0 }))) ∧
    (∀ k id arr f, s.unitOn (dropRoot ds) = true → (s.drop ds).state = .up → (s.drop ds).opp = some k → k ≤ id →
      id < (s.drop ds).plca.nodeCount →
      (arr.fcsOk = true → f.fits = true →
        ∃ t : State, exec (.dropFrameRx ds id false arr f) s = .next t ∧
          t.arrived = s.arrived ++ [⟨dropRoot ds, f, s.now, none, 0⟩] ∧
          (t.drop ds).cntTick.rxFrames = (s.drop ds).cntTick.rxFrames + 1 ∧ (t.drop ds).opp = some id ∧
          (t.drop ds).taken = true) ∧
      (arr.fcsOk = false →
        ∃ t : State, exec (.dropFrameRx ds id false arr f) s = .next t ∧ t.arrived = s.arrived ∧
          (t.drop ds).cntTick.rxFcsErr = (s.drop ds).cntTick.rxFcsErr + 1 ∧ (t.drop ds).opp = some id) ∧
      (∃ t : State, exec (.dropFrameRx ds id true arr f) s = .next t ∧ t.arrived = s.arrived ∧
        (t.drop ds).cntTick.collisions = (s.drop ds).cntTick.collisions + 1 ∧ (t.drop ds).opp = some id ∧
        (id ≠ 0 → bit (s.drop ds).collided id = false → (s.drop ds).streak.length = 15 →
          (s.drop ds).streak.getD id 0 = 3 → bit (t.drop ds).dup id = true))) ∧
    (s.unitOn (dropRoot ds) = true → (s.drop ds).state = .up →
      ∃ t : State, exec (.foreignBeaconRx ds) s = .next t ∧ (t.drop ds).cntTick.foreign = (s.drop ds).cntTick.foreign + 1 ∧
        (t.drop ds).cleanRun = 0 ∧
        (t.drop ds).conflict = ((s.drop ds).conflict || (decide (1 ≤ (s.drop ds).foreignRun) && !(s.drop ds).foreignCyc) ||
          (decide (2 ≤ (s.drop ds).foreignRun) && (s.drop ds).foreignCyc))) ∧
    (s.live = true → (s.drop ds).conflict = true → 1000 ≤ (s.drop ds).cleanRun →
      exec (.coordConflictClear ds) s = .next (s.modDrop ds (fun d => { d with conflict := false }))) ∧
    (∀ code, isDropFault code = true → s.powered (dropRoot ds) = true → .silence (dropRoot ds) code ∉ s.edgeq →
      ∃ t : State, exec (.dropChannelFault ds code) s = .next t ∧ t.edgeq = s.edgeq ++ [.silence (dropRoot ds) code] ∧
        t.faults.record = s.faults.record.add ⟨code, dropRoot ds, s.now⟩ 0) ∧
    (∀ code, isDropFault code = true → s.powered (dropRoot ds) = false → s.awake = true → s.boot.halted = true →
      s.domOn (domOfRoot (dropRoot ds)) = true →
      exec (.dropChannelFault ds code) s = .next (s.recordFault code (dropRoot ds))) ∧
    (s.dropArmed ds = true → exec (.dropWakeDetect ds) s = .next (s.fireWake ⟨0x02, dropRoot ds⟩ false)) ∧
    (s.boot.power = .banked → (s.drop ds).cfg.wakeEn = true → s.power.fired = none →
      ∃ t : State, exec (.dropWakeDetect ds) s = .next t ∧ t.power.fired = some ⟨0x02, dropRoot ds⟩)

/-- The trunk commands are carried out. TRUNK_SIGNAL_CONFIG and TRUNK_CONFIG with allowed values, on a powered trunk that
is not isolated (and with its mate enabled where it pairs), are accepted for their edge. TRUNK_SIGNAL_STATUS,
TRUNK_LOADING_READ, TRUNK_SIGNAL_COUNTERS and TRUNK_STATUS answer the words written out here; only CLEAR changes anything,
the mark of the page. BYPASS_SET_POLICY starts the write of keep word 457 and is answered later. TRUNK_KINDLE on a trunk
that is not UP and hears nobody is accepted for its edge. TRUNK_REFLECT starts at its edge and, in an L class of a trunk in
UP, announces the frame of the lead's counter by which its record has gone out after that edge. -/
def Obligations.TrunkMessagesAreAnswered : Prop :=
  ∀ (m : Msg) (s d : State),
    (s.selects trunkSignalConfigCmd m d → m.stray 1 0x03FFF003 = false → m.get 1 19 2 ≠ 3 → m.get 1 21 5 ≤ 18 →
      1 ≤ m.get 1 12 3 → d.trunkOn (m.get 1 0 2) = true → (d.trunk (m.get 1 0 2)).isolated = false →
      exec (.trunkSignalConfig m) s = .next ((d.accept (.trunkSig (m.get 1 0 2) ⟨m.get 1 21 5, m.get 1 19 2, m.get 1 15 4,
        m.get 1 12 3, m.word 2 + 2 ^ 32 * m.word 3⟩)).ack m.rt .ok (lohi d.nextEdge))) ∧
    (s.selects trunkSignalStatusCmd m d → m.stray 1 3 = false → d.trunkOn (m.get 1 0 2) = true →
      let t := d.trunk (m.get 1 0 2)
      exec (.trunkSignalStatus m) s = .next (d.ack m.rt .ok
        [packW [(16, match t.freqOfs with | some f => ofInt 16 f | none => 0x8000), (6, 0), (1, b2n (t.frozen d.now)),
           (5, t.attenNow), (2, t.rangeNow), (2, t.classRx)],
         w32 (ofInt 32 t.delayRx),
         packW [(16, ofInt 16 t.snrAvg), (4, t.setTx), (4, t.rxSet), (8, t.gain (m.get 1 0 2) d.now)], w32 t.burstTick])) ∧
    (s.selects trunkLoadingReadCmd m d → m.stray 1 0xF = false → d.trunkOn (m.get 1 0 2) = true →
      let t := d.trunk (m.get 1 0 2)
      let sel := m.get 1 2 2
      let set := if t.cls ≠ 0 then 0 else if sel = 0 then t.setTx else if sel = 1 then t.setRx else 0
      exec (.trunkLoadingRead m) s = .next (d.ack m.rt .ok (packW [(4, if sel < 2 then set else 0), (2, t.cls)] ::
        (if sel < 2 then packWords 4 8 (t.loadTable (sel == 1))
         else match t.segSnr with
           | some l => packWords 8 4 ((List.range 32).map (fun e => snrByte (l.getD (32 * (sel - 2) + e) (-200))))
           | none => List.replicate 8 0)))) ∧
    (s.selects trunkSignalCountersCmd m d → m.stray 1 0x103 = false →
      let c := (d.trunk (m.get 1 0 2)).sigCnt
      exec (.trunkSignalCounters m) s = .next
        ((if m.flag 1 8 then d.modTrunk (m.get 1 0 2) (fun t => { t with clr := 1 }) else d).ack m.rt .ok
          (lohi d.snapEdge ++ lohi c.burstsRx ++ lohi c.burstsTx ++ lohi c.cwRx ++
            [w32 c.cwFail, w32 c.half, w32 c.missed, w32 (sat32 (c.foreign.foldl (· + ·) 0)), w32 c.ofsReject,
              w32 c.agcClip]))) ∧
    (s.selects trunkConfigCmd m d → m.stray 1 0x003FF803 = false → m.stray 2 0x3FF = false → 1 ≤ m.get 1 12 3 →
      m.get 1 19 2 ≠ 3 → m.get 1 15 2 ≤ m.get 1 17 2 → 500 ≤ m.get 2 0 10 → m.get 2 0 10 ≤ 900 →
      (m.get 1 19 2 ≠ 0 → (d.trunkCfg (trunkMate (m.get 1 0 2))).enable = true) → d.trunkOn (m.get 1 0 2) = true →
      (d.trunk (m.get 1 0 2)).isolated = false →
      exec (.trunkConfig m) s = .next ((d.accept (.trunk (m.get 1 0 2) ⟨m.flag 1 21, m.get 1 19 2, m.get 1 17 2, m.get 1 15 2,
        m.get 1 12 3, m.flag 1 11, m.get 2 0 10⟩)).ack m.rt .ok (lohi d.nextEdge))) ∧
    (s.selects trunkStatusCmd m d → m.stray 1 3 = false →
      let t := d.trunk (m.get 1 0 2)
      exec (.trunkStatus m) s = .next (d.ack m.rt .ok
        ([packW [(3, t.state.num), (1, b2n t.follower), (1, b2n t.aligned), (1, b2n t.long),
            (1, b2n (d.standby (m.get 1 0 2))), (1, b2n d.inPath), (2, t.cls), (3, t.split), (3, 0), (8, t.lastFail),
            (8, t.attempts)], w32 t.delay] ++ lohi t.peerSerial ++
          [w32 t.retx, w32 t.tluDrop, w32 t.frameLost, w32 t.upTick]))) ∧
    (s.selects bypassSetPolicyCmd m d → m.stray 1 0x1F = false → m.get 1 2 3 ≤ 4 → m.get 1 0 2 ≤ 1 →
      d.keepWear 457 < 100000 → d.keep.job = none →
      exec (.bypassSetPolicy m) s = .next (d.keepStart [(457, w32 (m.get 1 0 5))] 0x1212 (m.get 1 0 5) (d.replyTo m))) ∧
    (s.selects trunkKindleCmd m d → m.stray 1 3 = false → (d.trunk (m.get 1 0 2)).state ≠ .up →
      d.trunkOn (m.get 1 0 2) = true → (d.trunk (m.get 1 0 2)).isolated = false →
      (d.trunk (m.get 1 0 2)).heard d.now = false → (d.trunk (m.get 1 0 2)).kindle = none →
      .trunkKindle (m.get 1 0 2) ∉ d.cfgq →
      exec (.trunkKindle m) s = .next ((d.accept (.trunkKindle (m.get 1 0 2))).ack m.rt .ok [w32 d.nextEdge])) ∧
    (s.selects trunkReflectCmd m d → m.stray 1 3 = false → (d.trunk (m.get 1 0 2)).state ≠ .bypassed →
      (d.trunk (m.get 1 0 2)).quietP = none → (d.trunk (m.get 1 0 2)).isolated = false → d.trunkOn (m.get 1 0 2) = true →
      (d.trunk (m.get 1 0 2)).reflect = none →
      ∃ t : State, exec (.trunkReflect m) s = .next t ∧ t = { d with trunks := t.trunks } ∧
        (t.trunk (m.get 1 0 2)).reflect = some (d.nextEdge, d.replyTo m) ∧
        (t.trunk (m.get 1 0 2)).reflAt = d.reflectAt (m.get 1 0 2) d.nextEdge ∧
        ((d.trunk (m.get 1 0 2)).state = .up → (d.trunk (m.get 1 0 2)).cls ≠ 0 → (t.trunk (m.get 1 0 2)).ctl =
          (d.trunk (m.get 1 0 2)).ctl ++ [.reflect (d.reflectAt (m.get 1 0 2) d.nextEdge % 2 ^ 32)]))

/-- Probes, preambles, bursts and their control records complete. On a powered trunk in the path: in SEEK one bit is drawn
for each own frame and a second draw changes nothing; a probe is sent in its slot and counted where the bit is 1, and a
change of RANGE is taken over in its place; RELAY_SETTLE_END ends the relay wait; a blanked receiver takes no preamble; a
preamble whose offset lies beyond 25 kHz freezes the gain and is counted as rejected, one within it is taken in the link's
class, or in the class of the lowest sweep rate, and begins its burst, and one declared within a burst or while no burst is
taken is counted as foreign; a half-preamble is counted, keeps the gain up to edge t + 2 where it was not frozen, and leaves
a burst that has been taken alone; a missed expected burst is counted; a taken burst, or the copies kept for a unique
symbol whose last bursts were not taken, is demodulated and counted, and its good TLUs act, none where its loading set is
not known; a burst of this end is sent in its slot, but for one of a single
slot that a change of RANGE takes up. A missing SEQ is given up at its limit. At the activation frame split, mode and class
come into force. -/
def Obligations.TrunkSignalEventsComplete : Prop :=
  ∀ (tr : Nat) (s : State), tr < 4 → s.unitOn (128 + tr) = true → s.inPath = true →
    ((s.trunk tr).state = .seek → (s.trunk tr).kindle = none → (s.trunk tr).relaySettled s.now = true → s.now % 8 = 0 →
      (s.trunk tr).drawTick ≠ some s.now →
      exec (.trunkProbe tr false) s = .next (s.modTrunk tr (fun t => { t with drawTick := some s.now })) ∧
      ((s.trunk tr).sig.range = (s.trunk tr).rangeNow →
        ∃ t : State, exec (.trunkProbe tr true) s = .next t ∧ t = { s with trunks := t.trunks } ∧
          (t.trunk tr).drawTick = some s.now ∧ (t.trunk tr).txTick = some s.now ∧ (t.trunk tr).sigTick.burstsTx = (s.trunk tr).sigTick.burstsTx + 1) ∧
      ((s.trunk tr).sig.range ≠ (s.trunk tr).rangeNow →
        exec (.trunkProbe tr true) s = .next (s.modTrunk tr (fun t =>
          { t with rangeNow := t.sig.range, attenNow := t.sig.atten, drawTick := some s.now })))) ∧
    (∀ bit, (s.trunk tr).drawTick = some s.now → exec (.trunkProbe tr bit) s = .next s) ∧
    (∀ e, (s.trunk tr).relayEnd = some e → e ≤ s.now →
      exec (.relaySettleEnd tr) s = .next (s.modTrunk tr (fun t => { t with relayEnd := none }))) ∧
    (∀ p : Preamble, p.classes ≠ [] → (∀ c ∈ p.classes, c < 4) →
      ((s.trunk tr).blankedAt s.now p.delay = true → exec (.preambleDetect tr p) s = .next s) ∧
      ((s.trunk tr).blankedAt s.now p.delay = false →
        let f := s.modTrunk tr (fun t => t.freeze s.now p)
        let f' := f.modTrunk tr (fun t => { t with preTick := some s.now })
        let busy := p.inBurst || (s.trunk tr).receiving s.now || !s.trunkTakesBursts tr
        let alone := fun (u : State) =>
          if (s.trunk tr).frozen s.now = true then u else u.modTrunk tr (fun t => t.clipAlone tr s.now)
        (p.offset < -25000 ∨ 25000 < p.offset →
          exec (.preambleDetect tr p) s =
            .next (alone (f.trunkCount tr (fun c => { c with ofsReject := c.ofsReject + 1 })))) ∧
        (-25000 ≤ p.offset → p.offset ≤ 25000 → busy = false →
          ((s.trunk tr).cls ∈ p.classes →
            exec (.preambleDetect tr p) s = .next (f'.trunkTake tr (s.trunk tr).cls p)) ∧
          ((s.trunk tr).cls ∉ p.classes →
            exec (.preambleDetect tr p) s = .next (f'.trunkTake tr (p.classes.foldl Nat.max 0) p))) ∧
        (-25000 ≤ p.offset → p.offset ≤ 25000 → busy = true →
          exec (.preambleDetect tr p) s = .next (alone (f'.trunkCount tr (fun c =>
            { c with foreign := (List.range 4).map (fun k => c.foreign.getD k 0 + b2n (p.classes.contains k)) })))))) ∧
    ((s.trunk tr).blankedTick s.now = false →
      ∃ t : State, exec (.halfPreamble tr) s = .next t ∧ t = { s with trunks := t.trunks } ∧
        (t.trunk tr).sigTick.half = (s.trunk tr).sigTick.half + 1 ∧
        ((s.trunk tr).holds s.now = true → (t.trunk tr).taken = true ∧ (t.trunk tr).agcUntil = (s.trunk tr).agcUntil ∧
          (t.trunk tr).agcGain = (s.trunk tr).agcGain) ∧
        ((s.trunk tr).holds s.now = false → (t.trunk tr).taken = false ∧ (t.trunk tr).missFrames = 0 ∧
          (t.trunk tr).halfTick = some s.now) ∧
        ((s.trunk tr).frozen s.now = false → (t.trunk tr).agcUntil = some (s.now + 2))) ∧
    ((s.trunk tr).state = .up ∨ ((s.trunk tr).state = .training ∧ 1 ≤ (s.trunk tr).stage) →
      (s.trunk tr).expects s.now = true →
      ∃ t : State, exec (.missedBurst tr) s = .next t ∧ t = { s with trunks := t.trunks } ∧
        (t.trunk tr).missFrames = (s.trunk tr).missFrames + 1 ∧
        (t.trunk tr).sigTick.missed = (s.trunk tr).sigTick.missed + 1) ∧
    (∀ b : Burst, s.trunkTakesBursts tr = true → (s.trunk tr).taken = true ∨ (s.trunk tr).combine = true →
      let good := if (s.trunk tr).setKnown b.set then b.tlus.filter (fun x => x.good) else []
      ∃ t : State, exec (.trunkBurstRx tr b) s =
          .next ((good.foldl (fun s x => s.trunkTlu tr b.rt x) t).trunkAdvance tr) ∧
        t = { s with trunks := t.trunks } ∧ (t.trunk tr).taken = false ∧
        ((s.trunk tr).taken = true → (t.trunk tr).freqOfs = some b.freq ∧
          (t.trunk tr).rxSet = (if (s.trunk tr).setKnown b.set then b.set else (s.trunk tr).rxSet)) ∧
        ((s.trunk tr).taken = false → (t.trunk tr).combine = false ∧ (t.trunk tr).rxSet = (s.trunk tr).rxSet) ∧
        (t.trunk tr).sigTick.cwRx = (s.trunk tr).sigTick.cwRx + b.tlus.length ∧
        (t.trunk tr).sigTick.cwFail = (s.trunk tr).sigTick.cwFail + (b.tlus.length - good.length)) ∧
    ((s.trunk tr).state = .up ∨ (s.trunk tr).state = .training → (s.trunk tr).slotDue s.now = true →
      (s.trunk tr).txTick ≠ some s.now →
      (2 ≤ (s.trunk tr).slots ∨ (s.trunk tr).sig.range = (s.trunk tr).rangeNow →
        exec (.trunkBurstTx tr) s = .next ((((s.modTrunk tr (fun t => t.beginBurst s.now)).fillBurst tr
          (s.trunk tr).dataSlots).modTrunk tr (fun t =>
            { t with abandonFrames := if t.abandonNow then t.abandonFrames + 1 else 0
                     startTx := t.startTx || (t.stage == 4 && decide (t.peerSlots ≤ 1)) })).trunkAdvance tr) ∧
          ((s.trunk tr).beginBurst s.now).txTick = some s.now ∧
          ((s.trunk tr).beginBurst s.now).sigTick.burstsTx = (s.trunk tr).sigTick.burstsTx + 1) ∧
      ((s.trunk tr).slots ≤ 1 → (s.trunk tr).sig.range ≠ (s.trunk tr).rangeNow →
        exec (.trunkBurstTx tr) s = .next (s.modTrunk tr (fun t =>
          { t with rangeNow := t.sig.range, attenNow := t.sig.atten, txTick := some s.now })))) ∧
    (∀ since k, (s.trunk tr).gapSince = some since → (s.trunk tr).afterGap = some k → since + (s.trunk tr).gapLimit ≤ s.now →
      ∃ t : State, exec (.tluGapTimeout tr) s = .next (t.trunkDrain tr ((s.trunk tr).rxGot.length + 1)) ∧
        t = { s with trunks := t.trunks } ∧ (t.trunk tr).rxExpect = ((s.trunk tr).rxExpect + k) % 4096 ∧
        (t.trunk tr).rxSkip = true ∧
        (t.trunk tr).frameLost = sat32 ((s.trunk tr).frameLost + b2n (!(s.trunk tr).rxSkip))) ∧
    (∀ a, (s.trunk tr).ann = some a → (s.leadFrame tr s.now + 2 ^ 32 - a.at_ % 2 ^ 32) % 2 ^ 32 < 2 ^ 31 →
      ∃ t : State, exec (.frameActivation tr) s = .next t ∧ (t.trunk tr).split = a.split ∧ (t.trunk tr).cls = a.cls ∧
        (t.trunk tr).aligned = a.aligned ∧ (t.trunk tr).long = a.long ∧ (t.trunk tr).ann = none)

/-- Trunk timeouts, drops, faults, loading, class and sound requests complete. On a powered trunk: a stage that has run
out of time fails with its reason; a link in UP that has missed 40 frames or abandoned in 10 is dropped at the next edge; a
channel fault is recorded and silences the trunk at the edge; LOADING_COMPUTE, due every 400 ticks in class F, announces a
loading that differs from the one in use, with the SET after that in use; CLASS_EVALUATION evaluates the class from the last segment SNRs, and SOUND_REQUEST
queues its record, each due again 4,000 ticks later; the kindle pattern's due repetition is sent, 8 ticks apart, and the
pattern ends once a preamble has been declared; REFLECT_COMPLETE answers after 64 echoes within 800 ticks, or
TIMEOUT once these have passed. -/
def Obligations.TrunkLinkEventsComplete : Prop :=
  ∀ (tr : Nat) (s : State), tr < 4 → s.powered (128 + tr) = true →
    ((s.trunk tr).state = .seek ∨ (s.trunk tr).state = .training →
      (s.trunk tr).stageStart + (stageLimit (s.trunk tr).stage).1 ≤ s.now →
      exec (.trunkTrainingTimeout tr) s = .next (s.trunkFail tr (stageLimit (s.trunk tr).stage).2)) ∧
    (stageLimit 0 = (4000, 1) ∧ stageLimit 1 = (4800, 2) ∧ stageLimit 2 = (3200, 3) ∧ stageLimit 3 = (4000, 4) ∧
      stageLimit 4 = (4000, 4)) ∧
    ((s.trunk tr).state = .up → 40 ≤ (s.trunk tr).missFrames ∨ 10 ≤ (s.trunk tr).abandonFrames →
      ∃ t : State, exec (.trunkLinkDrop tr) s = .next t ∧ t = { s with edgeq := t.edgeq } ∧
        t.edgeq = (if s.edgeq.contains (.trunkDrop tr) then s.edgeq else s.edgeq ++ [.trunkDrop tr])) ∧
    (∀ code, isTrunkFault code = true → .silence (128 + tr) code ∉ s.edgeq →
      ∃ t : State, exec (.trunkChannelFault tr code) s = .next t ∧ t.edgeq = s.edgeq ++ [.silence (128 + tr) code] ∧
        t.faults.record = s.faults.record.add ⟨code, 128 + tr, s.now⟩ 0) ∧
    (∀ snr, (s.trunk tr).state = .up → (s.trunk tr).cls = 0 → (s.trunk tr).loadDue ≤ s.now →
      let load := nextLoad (s.trunk tr).sig snr (s.trunk tr).useLoad
      ∃ t : State, exec (.loadingCompute tr snr) s = .next t ∧ t = { s with trunks := t.trunks } ∧
        (t.trunk tr).rxLoad = load ∧ (t.trunk tr).loadDue = s.now + 400 ∧
        (load = (s.trunk tr).useLoad → (t.trunk tr).ctl = (s.trunk tr).ctl) ∧
        (load ≠ (s.trunk tr).useLoad → (t.trunk tr).rxSent = nextSet (s.trunk tr).useSet ∧ (t.trunk tr).sentLoad = load ∧
          (t.trunk tr).ctl = (s.trunk tr).ctl ++ [.load (nextSet (s.trunk tr).useSet) load])) ∧
    ((s.trunk tr).state = .up → (s.trunk tr).evalDue ≤ s.now →
      exec (.classEvaluation tr) s = .next (s.modTrunk tr (fun t => match t.segSnr with
        | some snr => { t.evaluate snr with evalDue := s.now + 4000 }
        | none => { t with evalDue := s.now + 4000 }))) ∧
    ((s.trunk tr).state = .up → (s.trunk tr).soundDue ≤ s.now →
      exec (.soundRequest tr) s = .next (s.modTrunk tr (fun t =>
        { t with soundDue := s.now + 4000, ctl := t.ctl ++ [.sound] }))) ∧
    (∀ due left, (s.trunk tr).kindle = some (due, left) → due ≤ s.now → s.unitOn (128 + tr) = true →
      ((s.trunk tr).heard s.now = true →
        exec (.kindlePatternSend tr) s = .next (s.modTrunk tr (fun t => { t with kindle := none }))) ∧
      ((s.trunk tr).heard s.now = false →
        ∃ t : State, exec (.kindlePatternSend tr) s = .next t ∧ t = { s with trunks := t.trunks } ∧
          (t.trunk tr).kindle = (if left ≤ 1 then none else some (due + 8, left - 1)))) ∧
    (∀ start reply echoes refl, (s.trunk tr).reflect = some (start, reply) → start < s.now →
      (64 ≤ echoes → s.now ≤ start + 800 → exec (.reflectComplete tr echoes refl) s =
        .next ((s.modTrunk tr (fun t => { t with reflect := none })).ackLater reply .ok
          (reflectWords (reflectReport refl)))) ∧
      (echoes < 64 ∨ start + 800 < s.now → start + 800 ≤ s.now → exec (.reflectComplete tr echoes refl) s =
        .next ((s.modTrunk tr (fun t => { t with reflect := none })).ackLater reply .timeout []))) ∧
    (∀ code, isTrunkFault code = true → ∀ u : State, u.powered (128 + tr) = false → u.awake = true →
      u.boot.halted = true → u.domOn (domOfRoot (128 + tr)) = true →
      exec (.trunkChannelFault tr code) u = .next (u.recordFault code (128 + tr)))

/-- The kindle detector correlates, wakes or rests, and each of its commands completes. An armed detector at rest, or that
has rested for 2 ms, starts to correlate on energy above -80 dBm and on no less, and does not start again while it
correlates or rests; 14 of 16 chirps at -65 dBm or more end the correlation with a privileged wake (cause 0x04) and the
detector rests; fewer or weaker do nothing; after 2 ms without the pattern it rests, and before that it goes on. A
detector that is not armed never changes, nor does one that does not correlate on a match or a timeout. -/
def Obligations.KindleDetectorWakes : Prop :=
  ∀ (tr : Nat) (s : State), tr < 4 →
    (∀ dbm, s.kindleArmed tr = true → (s.trunk tr).detector = .rest → -80 < dbm →
      exec (.kindleEnergy tr dbm) s = .next (s.modTrunk tr (fun t => { t with detector := .correlating s.now }))) ∧
    (∀ dbm since, s.kindleArmed tr = true → (s.trunk tr).detector = .resting since → s.twoMs since = true → -80 < dbm →
      exec (.kindleEnergy tr dbm) s = .next (s.modTrunk tr (fun t => { t with detector := .correlating s.now }))) ∧
    (∀ dbm, dbm ≤ -80 → exec (.kindleEnergy tr dbm) s = .next s) ∧
    (∀ dbm since, (s.trunk tr).detector = .resting since → s.twoMs since = false →
      exec (.kindleEnergy tr dbm) s = .next s) ∧
    (∀ dbm since, (s.trunk tr).detector = .correlating since → exec (.kindleEnergy tr dbm) s = .next s) ∧
    (∀ matched dbm since, s.kindleArmed tr = true → (s.trunk tr).detector = .correlating since → 14 ≤ matched → -65 ≤ dbm →
      exec (.kindleDetect tr matched dbm) s =
        .next ((s.modTrunk tr (fun t => { t with detector := .resting s.now })).fireWake ⟨0x04, 128 + tr⟩ true)) ∧
    (∀ matched dbm, matched < 14 ∨ dbm < -65 → exec (.kindleDetect tr matched dbm) s = .next s) ∧
    (∀ since, s.kindleArmed tr = true → (s.trunk tr).detector = .correlating since → s.twoMs since = true →
      exec (.kindleCorrelateTimeout tr) s = .next (s.modTrunk tr (fun t => { t with detector := .resting s.now }))) ∧
    (∀ since, (s.trunk tr).detector = .correlating since → s.twoMs since = false →
      exec (.kindleCorrelateTimeout tr) s = .next s) ∧
    ((∀ since, (s.trunk tr).detector ≠ .correlating since) → ∀ matched dbm,
      exec (.kindleDetect tr matched dbm) s = .next s ∧ exec (.kindleCorrelateTimeout tr) s = .next s) ∧
    (∀ matched dbm, s.kindleArmed tr = false →
      exec (.kindleEnergy tr dbm) s = .next s ∧ exec (.kindleDetect tr matched dbm) s = .next s ∧
        exec (.kindleCorrelateTimeout tr) s = .next s)

/-- Host lane commands and training complete. HOST_CONFIG with allowed values is accepted for its edge; HOST_STATUS and
HOST_COUNTERS answer the words written out here, CLEAR marking the counters; HOST_PRBS on an enabled group with coefficients
answers the figures and is accepted for its edge. In training: any block in CLOCK begins ALIGN; a good block in ALIGN ends
it, with the lanes in order or reversed and a skew of at most 32 UI going on with TUNE, or with CHECK in a retrain, and
failing otherwise with ALIGN_MAP or ALIGN_SKEW; a block with a bad CRC changes nothing there and in TUNE; in TUNE a good
block carries out its request and, tuned and ready both ways, leads to CHECK with coefficients retained; a stage out of time
fails with its reason (ALIGN with 2, the model's choice, log 15). In CHECK a good packet counts, the 256th in a row brings
the group UP, and a bad one starts the count again. -/
def Obligations.HostMessagesAndTrainingComplete : Prop :=
  ∀ (m : Msg) (s d : State) (g : Nat), g < 4 →
    (s.selects hostConfigCmd m d → m.stray 1 0x03FF1D03 = false → 1 ≤ m.get 1 16 10 →
      let cred := (List.range 4).map (fun k => m.get 2 (8 * k) 8) ++ (List.range 4).map (fun k => m.get 3 (8 * k) 8)
      cred.foldl (· + ·) 0 ≤ 256 → (m.flag 1 10 = true → cred.getD 7 0 ≠ 0) →
      d.domOn (domOfRoot (132 + m.get 1 0 2)) = true →
      exec (.hostConfig m) s = .next ((d.accept (.host (m.get 1 0 2) ⟨m.get 1 16 10, m.flag 1 11, m.flag 1 10, m.flag 1 8,
        cred⟩ (m.flag 1 12))).ack m.rt .ok (lohi d.nextEdge))) ∧
    (s.selects hostStatusCmd m d → m.stray 1 3 = false →
      let x := d.host (m.get 1 0 2)
      exec (.hostStatus m) s = .next (d.ack m.rt .ok
        ([packW [(3, x.state.num), (6, 0), (1, b2n x.coefValid), (1, b2n x.txEidle), (1, b2n x.rxEidle), (4, 0),
            (8, x.lastFail), (8, x.attempts)], packW [(1, b2n x.reversed), (7, 0), (8, x.pol)]] ++
          (List.range 2).map (fun k => packW ((List.range 4).map (fun j => (8, x.skew.getD (4 * k + j) 0)))) ++
          (List.range 4).map (fun k => packW ((List.range 2).flatMap (fun j =>
            [(4, x.coefPre.getD (2 * k + j) 0), (5, x.coefPost.getD (2 * k + j) 0), (7, 0)]))) ++
          [w32 x.upTick, w32 x.spoolAcked]))) ∧
    (s.selects hostCountersCmd m d → m.stray 1 0x103 = false →
      let c := (d.host (m.get 1 0 2)).cnt
      exec (.hostCounters m) s = .next
        ((if m.flag 1 8 then d.modHost (m.get 1 0 2) (fun x => { x with clr := 1 }) else d).ack m.rt .ok
          (w32 d.snapEdge :: lohi c.txFrames ++ lohi c.rxFrames ++
            [w32 c.txResends, w32 c.nakSent, w32 c.hcrcErr, w32 c.crcErr, w32 c.hunts, w32 c.txDiscard, w32 c.fastExits,
              w32 c.fastFail, w32 c.spoolBad, w32 c.credViol, w32 (d.host (m.get 1 0 2)).recoveries]))) ∧
    (s.selects hostPrbsCmd m d → m.stray 1 0x1F03 = false →
      (m.get 1 8 2 = 0 ∨ m.flag 1 10 = true ∨ m.flag 1 11 = true) → (d.host (m.get 1 0 2)).cfg.enable = true →
      (d.host (m.get 1 0 2)).coefValid = true → d.domOn (domOfRoot (132 + m.get 1 0 2)) = true →
      exec (.hostPrbs m) s = .next (((if m.flag 1 12 then
          d.modHost (m.get 1 0 2) (fun x => { x with prbs := { x.prbs with clear := d.now } }) else d).accept
        (.hostPrbs (m.get 1 0 2) ⟨m.get 1 8 2, m.flag 1 10, m.flag 1 11, 0, 0, 0⟩)).ack m.rt .ok (d.prbsWords (m.get 1 0 2)))) ∧
    (s.powered (132 + g) = true → (s.host g).state = .training →
      (∀ b, (s.host g).stage = .clock →
        exec (.hostTrainingBlock g b) s = .next (s.modHost g (fun x =>
          { x with stage := .align, stageStart := s.now, rxEidle := false }))) ∧
      (∀ b, (s.host g).stage = .align →
        (b.crcOk = false → exec (.hostTrainingBlock g b) s = .next s) ∧
        (b.crcOk = true → laneMap b.lanes = none → exec (.hostTrainingBlock g b) s = .next (s.hostFail g 2)) ∧
        (b.crcOk = true → (laneMap b.lanes).isSome = true → 32 < skewSpan b.skew →
          exec (.hostTrainingBlock g b) s = .next (s.hostFail g 3)) ∧
        (∀ rev, b.crcOk = true → laneMap b.lanes = some rev → skewSpan b.skew ≤ 32 →
          ∃ t : State, exec (.hostTrainingBlock g b) s = .next t ∧ t = { s with hosts := t.hosts } ∧
            (t.host g).reversed = rev ∧ (t.host g).stage = (if (s.host g).retrain then .check else .tune) ∧
            (t.host g).stageStart = s.now)) ∧
      (∀ b, (s.host g).stage = .tune →
        (b.crcOk = false → exec (.hostTrainingBlock g b) s = .next s) ∧
        (b.crcOk = true →
          let ready := ((s.host g).rxReady || b.tuned) && b.rxReady
          ∃ t : State, exec (.hostTrainingBlock g b) s = .next t ∧ t = { s with hosts := t.hosts } ∧
            (t.host g).coefPre = ((s.host g).tune b).coefPre ∧ (t.host g).coefPost = ((s.host g).tune b).coefPost ∧
            (t.host g).stage = (if ready then .check else .tune) ∧
            (t.host g).coefValid = ((s.host g).coefValid || ready))) ∧
      ((s.host g).stageStart + (hostLimit (s.host g).stage).1 ≤ s.now →
        exec (.hostTrainingTimeout g) s = .next (s.hostFail g (hostLimit (s.host g).stage).2)) ∧
      (hostLimit .clock = (8, 1) ∧ hostLimit .align = (8, 2) ∧ hostLimit .tune = (12000, 4) ∧ hostLimit .check = (8, 5)) ∧
      (∀ p : LanePacket, (s.host g).stage = .check →
        (p.hcrcOk = true → p.crcOk = true →
          ∃ t : State, exec (.lanePacketRx g p) s = .next t ∧
            ((s.host g).checkGood < 255 → (t.host g).checkGood = (s.host g).checkGood + 1 ∧ (t.host g).state = .training) ∧
            (255 ≤ (s.host g).checkGood → (t.host g).state = .up ∧ (t.host g).upTick = s.now)) ∧
        (p.hcrcOk = false ∨ p.crcOk = false →
          exec (.lanePacketRx g p) s = .next (s.modHost g (fun x => { x with checkGood := 0 })))))

/-- Lane packets, resends, electrical idle and faults of a group in UP complete. In UP: LANE_PACKET_RX takes the packet: a
header whose CRC fails outside a hunt starts one, counted, and draws a NAK; in a hunt the first good header changes nothing
but that the next one is taken (DEDUCED, log 15); a packet whose CRC fails is counted; an expected sequenced packet
advances the expected SEQ and ends the NAK. NAK_REPEAT repeats a NAK owed. LANE_RESEND sends the unacknowledged packets
again and counts one resend. HOST_RETRAIN keeps its cause, counts a failed fast exit, and leaves the retrain for the next
edge. After EI_IDLE idle ticks with EI_EN, or when its domain closes, with nothing unacknowledged and no NAK owed, the
transmitter goes to electrical idle behind an EIDLE packet, and it leaves it for something to send. SIDEBAND_PACKET and SPOOL_ACK act as received ones: a GO on an accepting channel 1 makes it
BUSY for the group, and a SPOOL_ACK between the last accepted value and the highest sequence sent is accepted, one beyond it
counted. A fault is recorded and silences the group at the edge, in DAMPED it is recorded only. -/
def Obligations.HostLinkEventsComplete : Prop :=
  ∀ (g : Nat) (s : State), g < 4 → s.powered (132 + g) = true → (s.host g).state = .up →
    (∀ p : LanePacket, exec (.lanePacketRx g p) s = .next (s.laneUp g p)) ∧
    (∀ p : LanePacket, p.hcrcOk = false → (s.host g).hunting = false →
      ((s.laneUp g p).host g).hunting = true ∧ ((s.laneUp g p).host g).nakOwed = true ∧
        ((s.laneUp g p).host g).cntTick.hcrcErr = (s.host g).cntTick.hcrcErr + 1 ∧
        ((s.laneUp g p).host g).cntTick.hunts = (s.host g).cntTick.hunts + 1) ∧
    (∀ p : LanePacket, p.hcrcOk = true → (s.host g).hunting = true → (s.host g).huntOne = false →
      s.laneUp g p = s.modHost g (fun x => { x with huntOne := true })) ∧
    (∀ p : LanePacket, p.hcrcOk = true → p.crcOk = false → (s.host g).hunting = false →
      ((s.laneUp g p).host g).cntTick.crcErr = (s.host g).cntTick.crcErr + 1 ∧
        (p.type = 1 ∨ p.type = 2 → ((s.laneUp g p).host g).nakOwed = true)) ∧
    (∀ p : LanePacket, p.seq = (s.host g).rxExpect →
      ((s.laneSequenced g p).host g).rxExpect = ((s.host g).rxExpect + 1) % 4096 ∧
        ((s.laneSequenced g p).host g).nakOwed = false) ∧
    ((s.host g).nakOwed = true →
      ∃ t : State, exec (.nakRepeat g) s = .next t ∧ t = { s with hosts := t.hosts } ∧
        (t.host g).cntTick.nakSent = (s.host g).cntTick.nakSent + 1 ∧ (t.host g).nakSentAt = some s.now) ∧
    ((s.host g).unacked ≠ [] →
      ∃ t : State, exec (.laneResend g) s = .next t ∧ t = { s with hosts := t.hosts } ∧
        (t.host g).resends = (s.host g).resends + 1 ∧
        (t.host g).cntTick.txResends = (s.host g).cntTick.txResends + 1) ∧
    (∀ cause, (s.host g).retrainCause cause = true → .hostRetrain g ∉ s.edgeq →
      ∃ t : State, exec (.hostRetrain g cause) s = .next t ∧ t.edgeq = s.edgeq ++ [.hostRetrain g] ∧
        (t.host g).lastFail = cause ∧ (t.host g).state = .up ∧
        (t.host g).cntTick.fastFail = (s.host g).cntTick.fastFail + (if cause = 6 then 1 else 0)) ∧
    (((s.host g).cfg.eiEn = true ∧ (s.host g).cfg.eiIdle ≤ (s.host g).idle) ∨ s.domClosing (domOfRoot (132 + g)) = true →
      (s.host g).txEidle = false → (s.host g).unacked = [] → (s.host g).nakOwed = false →
      exec (.electricalIdleEntry g) s = .next (s.modHost g (fun x =>
        { x with txEidle := true, owes := false, crTurn := ((s.host g).crTurn + 1) % 8 }))) ∧
    ((s.host g).txEidle = true → s.hostWants g = true →
      ∃ t : State, exec (.electricalIdleExit g) s = .next (t.flushSide g) ∧ (t.host g).txEidle = false ∧
        (t.host g).cntTick.fastExits = (s.host g).cntTick.fastExits + 1) ∧
    (∀ ctrl words, exec (.sidebandPacket g ctrl words) s = .next (s.sideband g ctrl words)) ∧
    (∀ words, s.accepts 1 = true → (s.host g).cfg.sideEn = true → s.mbx.chans.length = 8 →
      ((s.sideband g 1#32 words).chan 1).busy = true ∧ ((s.sideband g 1#32 words).chan 1).hg = g) ∧
    (∀ n, let k := n % 2 ^ 32
      exec (.spoolAck g n) s = .next (s.spoolAck g k) ∧
      ((k + 2 ^ 32 - (s.host g).spoolAcked) % 2 ^ 32 < 2 ^ 31 →
        (((s.host g).spoolSent + 2 ^ 32 - k) % 2 ^ 32 < 2 ^ 31 →
          s.spoolAck g k = s.modHost g (fun x => { x with spoolAcked := k, ackNext := some k })) ∧
        (2 ^ 31 ≤ ((s.host g).spoolSent + 2 ^ 32 - k) % 2 ^ 32 →
          ((s.spoolAck g k).host g).cntTick.spoolBad = (s.host g).cntTick.spoolBad + 1 ∧
            ((s.spoolAck g k).host g).spoolAcked = (s.host g).spoolAcked))) ∧
    (∀ code, isHostFault code = true → .silence (132 + g) code ∉ s.edgeq →
      ∃ t : State, exec (.hostLaneFault g code) s = .next t ∧ t.edgeq = s.edgeq ++ [.silence (132 + g) code] ∧
        t.faults.record = s.faults.record.add ⟨code, 132 + g, s.now⟩ 0) ∧
    (∀ code, isHostFault code = true → ∀ u : State, u.powered (132 + g) = false → u.awake = true →
      u.boot.halted = true → u.domOn (domOfRoot (132 + g)) = true →
      exec (.hostLaneFault g code) u = .next (u.recordFault code (132 + g)))

/-- Sequenced lane packets are accepted in order, each once. A sequenced packet whose SEQ is not the expected one never
advances the expected SEQ, changes no credit, delivers no frame and starts no message; the expected one advances it by
one modulo 4,096; a frame beyond its credit is counted and not delivered. -/
def Obligations.LanePacketsAreTakenInOrderOnce : Prop :=
  ∀ (g : Nat) (p : LanePacket) (s : State), g < 4 →
    (p.seq ≠ (s.host g).rxExpect →
      let t := s.laneSequenced g p
      (t.host g).rxExpect = (s.host g).rxExpect ∧ (t.host g).usedIn = (s.host g).usedIn ∧ t.arrived = s.arrived ∧
        t.mbx = s.mbx ∧ (t.host g).nakOwed = true) ∧
    (p.seq = (s.host g).rxExpect →
      ((s.laneSequenced g p).host g).rxExpect = ((s.host g).rxExpect + 1) % 4096) ∧
    (2 ^ 15 ≤ ((s.host g).grantOut.getD (p.sc % 8) 0 + 2 ^ 16 -
        ((s.host g).usedIn.getD (p.sc % 8) 0 + creditNeed p.len) % 2 ^ 16) % 2 ^ 16 →
      (s.laneFrame g p).arrived = s.arrived ∧
        ((s.laneFrame g p).host g).cntTick.credViol = (s.host g).cntTick.credViol + 1)

/-- TICK_EDGE, TICK_COMMIT, TICK_OVERRUN and CONFIG_LOAD complete. A TICK_EDGE that comes opens a tick. Where clock ratios
outside R513 are in force its core clock is undefined and the command stops with the fault clockRatiosUndefined.
TICK_COMMIT of a running sequencer applies the commit once in its tick. An engine that finishes after cycle 30,000
before the commit causes the overrun FATAL of its subsystem with F_DETAIL, whose cycle is 0xFFFF where the engine has not
finished in its tick, a further engine of the same tick too; one that finishes in cycle 30,000 causes none (the model's choice, log 83). CONFIG_LOAD of an area whose image is not valid answers
AUTH_FAIL, during a replay BUSY, and TIMEOUT when the flash is not read in time; with CHECK_ONLY a valid image answers OK
with words 0, 0xFFFFFFFF, 0 and nothing changes; otherwise the image is kept and replayed, and the answer says how far the
replay came, later when a message of it works on. -/
def Obligations.TickEdgesAndCommitsComplete : Prop :=
  ∀ (s : State),
    (s.edgeComes = true → s.ratiosOk = true → exec .tickEdge s = .next s.edge) ∧
    (s.edgeComes = true → s.ratiosOk = false → exec .tickEdge s = .fault .clockRatiosUndefined) ∧
    (s.commits = true → s.time.committed = false →
      ∃ t : State, exec .tickCommit s = .next t ∧ t = s.commit ∧ t.time.committed = true) ∧
    (s.commits = true → s.time.committed = true → exec .tickCommit s = .next s) ∧
    (∀ engine die finish : Nat, 1 ≤ engine → engine ≤ 11 → s.time.seq = true → s.time.committed = false →
      s.awake = true → (s.boot.halted = false ∨ s.faults.dampedDue = true) →
      exec (.tickOverrun engine die finish) s =
        .next (if 30000 < finish then s.fatal (0x30F0 + 256 * engineSubsys engine) 0xFF
            (overrunDetail engine die (if s.lastCycle < finish then 0xFFFF else finish))
          else s)) ∧
    (∀ (m : Msg) (fl : Flash) (d : State), s.selects configLoadCmd m d → m.stray 1 0x101 = false →
      (Flash.reads fl = true → flashImage d.fuses fl (m.get 1 0 1) = none →
        exec (.configLoad m fl) s = .next (d.ack m.rt .authFail [])) ∧
      (Flash.reads fl = false ∨ (flashImage d.fuses fl (m.get 1 0 1)).isSome = true → d.boot.replaying = true →
        exec (.configLoad m fl) s = .next (d.ack m.rt .busy [])) ∧
      (Flash.reads fl = false → d.boot.replaying = false →
        exec (.configLoad m fl) s = .next (d.ack m.rt .timeout [])) ∧
      (∀ im, Flash.reads fl = true → flashImage d.fuses fl (m.get 1 0 1) = some im → d.boot.replaying = false →
        (m.flag 1 8 = true → exec (.configLoad m fl) s = .next (d.ack m.rt .ok [0, 0xFFFFFFFF, 0])) ∧
        (m.flag 1 8 = false →
          let r := (d.modBoot (fun b => { b with images := b.images.set (m.get 1 0 1) (some im) })).replay (m.get 1 0 1)
            (d.replyTo m) im.msgs
          exec (.configLoad m fl) s = .next (if r.waits then r.s
            else match r.stop with
              | none => r.s.ack m.rt .ok [w32 r.done, 0xFFFFFFFF, 0]
              | some (k, c) => r.s.ack m.rt c [w32 r.done, w32 k, w32 c.num]))))

/-- The tick counter goes on by one at every edge, in DAMPED too. At every edge that comes, outside a DEVICE_RESET due
there and a step of fabric time, the tick counter goes to the next number modulo 2^64 (the wrap is the model's reading
of a 64-bit counter) and the new tick is not yet committed, whatever takes effect at the edge; in DAMPED the edge
changes nothing else but the entry into DAMPED itself, that a confirmed DAMP may clear, that the sensor and input settings
committed before the fault take effect, and that the notices raised in the tick before are no longer new. -/
def Obligations.TickCounterAdvancesByOneAtEachEdge : Prop :=
  ∀ (s : State), s.edgeComes = true → s.ratiosOk = true → s.fabric.step = none →
    (s.boot.resetAt.any (fun e => decide (e ≤ s.now + 1)) && s.keep.job.isNone) = false →
    ∃ t : State, exec .tickEdge s = .next t ∧ t.now = (s.now + 1) % 2 ^ 64 ∧ t.time.committed = false ∧
      ((s.boot.halted = true ∨ s.boot.power = .damped) → s.faults.dampedDue = false →
        let u := s.dampEdge.configKept
        t = { u with time := t.time, faults := { u.faults with raised := [] } })

/-- Bridge and tree settings are accepted for their edge and answered. PORT_BRIDGE_CONFIG, VLAN_SET, FDB_CONFIG,
FDB_ENTRY, STREAM_SET, NODE_SET and QUEUE_SET with allowed values, in the configuration that every command completed
so far has left, answer OK with the words of their tables and leave one change for the next edge, and one more for an
admission run where a guarantee's path is touched; DELETE of a stream, node or queue likewise; FDB_ENTRY OP 0 changes
nothing. FDB_STATUS answers the edge, the counts of entries and the six bridge counters of the last snapshot, and
QUEUE_STATS the edge, the counters of the queue's last snapshot and its bytes and frames as they stand; CLEAR leaves the mark
that the next commit clears by. QUEUE_FLUSH leaves its flush for this tick's commit. -/
def Obligations.ForwardingSettingsAreAccepted : Prop :=
  ∀ (m : Msg) (s d : State),
    (s.selects portBridgeConfigCmd m d → m.stray 1 0xFFFFC0FF = false → m.stray 2 0xFFFFFF = false → m.get 1 0 8 ≤ 135 →
      m.get 1 20 12 ≠ 0 → m.get 1 20 12 ≠ 4095 →
      exec (.portBridgeConfig m) s = .next ((d.accept (.port (m.get 1 0 8) ⟨m.get 1 20 12, m.flag 1 19, m.flag 1 18,
        m.flag 1 17, m.get 1 14 3, m.get 2 0 24⟩)).ack m.rt .ok [])) ∧
    (s.selects vlanSetCmd m d → m.stray 1 0x1FFF = false → m.get 1 0 12 ≠ 0 → m.get 1 0 12 ≠ 4095 →
      (m.flag 1 12 = true ∨ m.stray 6 0xFF = false) →
      exec (.vlanSet m) s = .next ((d.accept (.vlan (m.get 1 0 12) (if m.flag 1 12 then 0 else portMask m 2))).ack m.rt .ok [])) ∧
    (s.selects fdbConfigCmd m d → m.stray 1 0xFFFF3FFF = false → 1 ≤ m.get 1 0 14 → m.get 1 0 14 ≤ 8192 →
      exec (.fdbConfig m) s = .next ((d.accept (.fdbCfg (m.get 1 16 16) (m.get 1 0 14))).ack m.rt .ok
        [w32 ((131072 + m.get 1 0 14 - 1) / m.get 1 0 14)])) ∧
    (s.selects fdbEntryCmd m d → m.stray 1 0xCFFFFFFF = false → m.get 1 16 12 ≠ 0 → m.get 1 16 12 ≠ 4095 →
      let mac := m.get 1 0 16 * 2 ^ 32 + m.word 2
      let ret := fdbWords d.now (fdbFind d.bridge.fdb mac (m.get 1 16 12))
      (m.get 1 30 2 = 0 → m.len = 3 → exec (.fdbEntry m) s = .next (d.ack m.rt .ok ret)) ∧
      (m.get 1 30 2 = 1 → m.len = 8 → m.chan ≠ 4 → m.stray 7 0xFF = false → portMask m 3 ≠ 0 →
        (fdbFind d.commitLearns.schedProj.bridge.fdb mac (m.get 1 16 12) ≠ none ∨
          d.commitLearns.schedProj.bridge.fdb.length < 131072) →
        exec (.fdbEntry m) s = .next ((d.accept (.fdbAdd mac (m.get 1 16 12) (portMask m 3))).ack m.rt .ok ret)) ∧
      (m.get 1 30 2 = 2 → m.len = 3 → m.chan ≠ 4 →
        exec (.fdbEntry m) s = .next ((d.accept (.fdbDel mac (m.get 1 16 12))).ack m.rt .ok ret))) ∧
    (s.selects fdbStatusCmd m d → m.stray 1 1 = false →
      let b := d.bridge
      exec (.fdbStatus m) s = .next ((if m.flag 1 0 then d.modBridge (fun b => { b with clr := 1 }) else d).ack m.rt .ok
        [w32 d.snapEdge, w32 (b.fdb.filter (fun e => !e.static)).length, w32 (b.fdb.filter (fun e => e.static)).length,
         w32 b.cnt.learnFull, w32 b.cnt.aged, w32 b.cnt.vlanDrop, w32 b.cnt.filtered, w32 b.cnt.noQueue,
         w32 b.cnt.streamHits])) ∧
    (s.selects streamSetCmd m d → m.stray 1 0xCFFFFFFF = false → m.get 1 16 12 ≠ 0 → m.get 1 16 12 ≠ 4095 →
      let p := d.guarProj
      let e : Stream := ⟨m.flag 1 30, m.get 1 0 16 * 2 ^ 32 + m.word 2, m.get 1 16 12, m.flag 3 31, m.get 3 0 18,
        m.flag 3 27, m.get 3 28 3, m.flag 4 31, m.get 4 0 20⟩
      (m.flag 1 31 = false → m.stray 3 0xF803FFFF = false → m.stray 4 0x800FFFFF = false →
        (e.qEn = true → (p.queue e.queue).conf = true) → (e.polEn = true → (p.policer e.policer).conf = true) →
        (∀ x, p.streamKey e.sa e.mac e.vid = some x → p.guaranteed x.1 = false →
          exec (.streamSet m) s = .next ((d.accept (.streamSet x.1 e)).ack m.rt .ok [w32 x.1])) ∧
        (∀ n, p.streamKey e.sa e.mac e.vid = none → tfree p.bridge.streams 0 262144 = some n →
          exec (.streamSet m) s = .next ((d.accept (.streamSet n e)).ack m.rt .ok [w32 n]))) ∧
      (∀ x, m.flag 1 31 = true → p.streamKey e.sa e.mac e.vid = some x → p.guaranteed x.1 = false →
        exec (.streamSet m) s = .next ((d.accept (.streamDel x.1)).ack m.rt .ok [w32 x.1]))) ∧
    (s.selects nodeSetCmd m d → m.stray 1 0x8007FFFF = false →
      let n := m.get 1 0 16
      let p := d.schedProj
      let c : Cfg := .nodeSet n (parentOf m) (m.get 1 16 3) (m.get 3 0 16)
      (m.flag 1 31 = false → parentBad m = false → m.stray 3 0xFFFF = false → m.get 3 0 16 ≠ 0 →
        p.parentOk (parentOf m) = true → ((parentOf m).isRoot = true ∨ p.above n (parentOf m) = false) →
        (p.applySched c).defaultsOk = true →
        ((p.node n).conf = true → ((p.node n).parent ≠ parentOf m ∨ (p.node n).level ≠ m.get 1 16 3) →
          p.subtreeHolds n = false) →
        (p.applySched c).schedLoad ≤ 1200000 →
        exec (.nodeSet m) s = .next ((d.acceptRun c (p.touches c ⟨true, n⟩) 3).ack m.rt .ok
          [w32 ((p.applySched c).depthBelow (parentOf m)), w32 (p.applySched c).schedLoad])) ∧
      (m.flag 1 31 = true → p.hasKids n = false → (p.node n).conf = true →
        exec (.nodeSet m) s = .next ((d.acceptRun (.nodeDel n) (p.touches (.nodeDel n) ⟨true, n⟩) 3).ack m.rt .ok
          [0, w32 (p.applySched (.nodeDel n)).schedLoad]))) ∧
    (s.selects queueSetCmd m d → m.stray 1 0xFF0FFFFF = false →
      let q := m.get 1 0 20
      let p := d.schedProj
      let c : Cfg := .queueSet q ⟨parentOf m, m.get 1 24 3, m.get 3 0 16, m.get 4 0 24, m.flag 1 30, m.get 1 27 3⟩
      (m.flag 1 31 = false → parentBad m = false → m.stray 3 0xFFFF = false → m.stray 4 0xFFFFFF = false →
        m.get 3 0 16 ≠ 0 → m.get 4 0 24 ≠ 0 → p.parentOk (parentOf m) = true → (p.applySched c).defaultsOk = true →
        ((p.queue q).conf = true → ((p.queue q).cfg.parent ≠ parentOf m ∨ (p.queue q).cfg.level ≠ m.get 1 24 3) →
          (d.queue q).held = []) →
        (p.applySched c).schedLoad ≤ 1200000 →
        exec (.queueSet m) s = .next ((d.acceptRun c (p.touches c ⟨false, q⟩) 3).ack m.rt .ok
          [w32 ((p.applySched c).depthBelow (parentOf m)), w32 (p.applySched c).schedLoad])) ∧
      (m.flag 1 31 = true → (∀ e ∈ p.bridge.streams, e.2.qEn = true → e.2.queue ≠ q) → (p.queue q).conf = true →
        (d.queue q).held = [] →
        exec (.queueSet m) s = .next ((d.acceptRun (.queueDel q) (p.touches (.queueDel q) ⟨false, q⟩) 3).ack m.rt .ok
          [0, w32 (p.applySched (.queueDel q)).schedLoad]))) ∧
    (s.selects queueFlushCmd m d → m.stray 1 0xFFFFF = false → (d.schedProj.queue (m.get 1 0 20)).conf = true →
      exec (.queueFlush m) s = .next ((d.modSched (fun x => { x with flushes := x.flushes ++ [m.get 1 0 20] })).ack m.rt .ok
        [w32 (d.nextEdge - 1)])) ∧
    (s.selects queueStatsCmd m d → m.stray 1 0x1FFFFF = false →
      let q := d.queue (m.get 1 0 20)
      exec (.queueStats m) s = .next
        ((if m.flag 1 20 then d.modQueue (m.get 1 0 20) (fun q => { q with clr := 1 }) else d).ack m.rt .ok
          (lohi d.snapEdge ++ lohi q.enqFrames ++ lohi q.enqBytes ++ lohi q.deqFrames ++ lohi q.deqBytes ++
            [w32 q.dropLimit, w32 q.dropFlush, w32 q.heldOver, w32 q.bytes, w32 q.held.length])))

/-- Arrival, classification, selection, departure and FRER resets complete. The last bit of a frame with a good FCS and 64 to
9,216 frame bytes on a port whose link is up counts on a line channel or drop and, unless the ingress gate of a closing
domain keeps it out, waits for classification in the next tick; on a drop it comes in the opportunity that is open; a bad
FCS or length is counted instead, on a trunk or lane group by a counter of the model's own (the model's choice, log 84).
Forwarding entries that an arrival finds damaged are removed with their notice. FRAME_CLASSIFY classifies the oldest frame of an
earlier tick. SCHEDULER_SELECT of a root with tokens and a unit that takes the frame selects, within the work window, the
head of the queue its descent ends at. FRAME_DEPARTURE sends the oldest selected frame of a complex's root, of a line
channel whose link is up, of a drop in its own opportunity, and as a FRAME packet of a lane group with room and credit. The frames of a
trunk leave with its bursts, and FRAME_DEPARTURE leaves them. FRER_RECOVERY_RESET of a due entry forgets its history and is counted. -/
def Obligations.FrameStepsComplete : Prop :=
  ∀ (s : State),
    (∀ (port : Nat) (arr : Arrival) (f : Frame), s.powered port = true →
      let x := verified arr f
      let u := s.fdbFound arr.fdbBad
      (port < 96 → (s.line port).linked = true →
        (arr.fcsOk = true → x.fits = true → exec (.frameArrival port arr f) s = .next
          ((u.modLine port (fun l => { l with cntTick := { l.cntTick with
            rxFrames := l.cntTick.rxFrames + 1, rxBytes := l.cntTick.rxBytes + x.wire } })).arrive port x)) ∧
        (arr.fcsOk = true → x.fits = false → exec (.frameArrival port arr f) s = .next (u.modLine port (fun l =>
          { l with cntTick := { l.cntTick with rxLenErr := l.cntTick.rxLenErr + 1 } }))) ∧
        (arr.fcsOk = false → exec (.frameArrival port arr f) s = .next (u.modLine port (fun l =>
          { l with cntTick := { l.cntTick with rxFcsErr := l.cntTick.rxFcsErr + 1 } })))) ∧
      (96 ≤ port → port < 128 → (s.drop (port - 96)).state = .up →
        ((s.drop (port - 96)).opp = none → exec (.frameArrival port arr f) s = .next u) ∧
        (∀ k, (s.drop (port - 96)).opp = some k → ∃ t : State, exec (.frameArrival port arr f) s = .next t ∧
          (t.drop (port - 96)).cntTick = (s.drop (port - 96)).cntTick.rx k arr x ∧
          (t.drop (port - 96)).opp = some k ∧ (t.drop (port - 96)).taken = true ∧
          t.arrived = (if arr.fcsOk && x.fits then (s.arrive port x).arrived else s.arrived))) ∧
      (128 ≤ port → port < 132 → (s.trunk (port - 128)).state = .up →
        exec (.frameArrival port arr f) s = .next (if arr.fcsOk && x.fits then u.arrive port x
          else u.modTrunk (port - 128) (fun t => { t with badFrames := t.badFrames + 1 }))) ∧
      (132 ≤ port → port < 136 → (s.host (port - 132)).state = .up →
        exec (.frameArrival port arr f) s = .next (if arr.fcsOk && x.fits then u.arrive port x
          else u.modHost (port - 132) (fun g => { g with badFrames := g.badFrames + 1 }))) ∧
      (s.unitOn port = true → s.arrive port x = { s with arrived := s.arrived ++ [⟨port, x, s.now, none, 0⟩] }) ∧
      (s.unitOn port = false → s.arrive port x = s)) ∧
    (∀ (a : Arrived) (rest : List Arrived), s.live = true → s.arrived = a :: rest → a.tick < s.now →
      let u := ({ s with arrived := rest } : State).creditBack a
      exec .frameClassify s = .next (if u.isFabric a.port then u.classifyFabric a else u.classifyPlain a)) ∧
    (∀ (root q : Nat) (d : Desc) (more : List Desc) (st : Stored), s.working = true → root < 138 → 0 ≤ (s.root root).tok →
      lastQueue (s.descend root s.depthMax ⟨true, root⟩) = some q → (s.queue q).held = d :: more →
      s.stored d.id = some st → s.unitTakes root (s.leaving root st d).len = true →
      exec (.schedulerSelect root) s =
        .next (s.selectHead root (s.descend root s.depthMax ⟨true, root⟩) q d st)) ∧
    (∀ (root corrected : Nat) (x : Sending) (more : List Sending), s.live = true →
      (s.root root).sending = x :: more →
      let t := s.modCellar (fun c => { c with tkCe := c.tkCe + corrected })
      (136 ≤ root → exec (.frameDeparture root corrected) s = .next (t.depart root)) ∧
      (root < 96 → s.powered root = true → (s.line root).linked = true →
        exec (.frameDeparture root corrected) s = .next (t.depart root)) ∧
      (96 ≤ root → root < 128 → s.powered root = true → (s.drop (root - 96)).state = .up →
        (s.drop (root - 96)).opp = some 0 → 0 < (s.drop (root - 96)).burstLeft →
        exec (.frameDeparture root corrected) s = .next ((t.depart root).modDrop (root - 96) (fun d =>
          { d with taken := true, burstLeft := d.burstLeft - 1 }))) ∧
      (128 ≤ root → root < 132 → exec (.frameDeparture root corrected) s = .next t) ∧
      (132 ≤ root → root < 136 → s.powered root = true → (s.host (root - 132)).state = .up →
        (s.host (root - 132)).txEidle = false → (s.host (root - 132)).room x.frame.len = true →
        let sc := match s.stored x.desc.id with
          | some st => st.sc
          | none => 0
        (s.host (root - 132)).credit sc x.frame.len = true →
        exec (.frameDeparture root corrected) s = .next (t.laneSend (root - 132) x sc))) ∧
    (∀ (handle : Nat) (e : RepEntry) (r : Recovery), s.working = true → cfgEntry s.fabric.cfg handle = some e →
      tfind s.fabric.recov handle = some r → r.start = false → r.passTick + e.reset ≤ s.now →
      let r' : Recovery := { r with start := true, history := []
                                    cntTick := { r.cntTick with resets := r.cntTick.resets + 1 } }
      exec (.frerRecoveryReset handle) s = .next (s.modFabric (fun f => { f with recov := tset f.recov handle r' })))

/-- Rate, policer, gate and guarantee commands answer. ROOT_SET, SHAPER_SET, POLICER_SET and GATE_LIST_COMMIT with allowed
values that leave every admitted guarantee admitted are accepted for their edge, with an admission run where some guarantee
is yielded, and answer LOAD and R_port, the edge, nothing, and ACT and CYCLE; GATE_LIST_WRITE writes the administrative
entries at once; GUARANTEE_SET admits a guarantee that fits and answers its bound, and DELETE forgets one. SHAPER_READ
answers the shaper's settings and tokens at the edge that began the tick; POLICER_STATS the edge, the six counters of the last
snapshot and the tokens as they stand (log 70); GUARANTEE_STATUS what is in force for the guarantee, three zeros where there
is none. -/
def Obligations.RateSettingsAreAccepted : Prop :=
  ∀ (m : Msg) (s d : State),
    (s.selects rootSetCmd m d → m.stray 1 0xFF = false → m.stray 2 0x0FFFFFFF = false → m.stray 3 0x3F = false →
      m.get 1 0 8 ≤ 137 → m.get 2 0 28 ≠ 0 →
      let c : Cfg := .root (m.get 1 0 8) (m.get 2 0 28) (m.get 3 0 6)
      (d.guarProj.applySched c).schedLoad ≤ 1200000 → d.guarProj.keepsGuars c = true →
      exec (.rootSet m) s = .next ((d.acceptRun c d.anyYielded 3).ack m.rt .ok
        [w32 (d.guarProj.applySched c).schedLoad, w32 ((d.guarProj.applySched c).rPort (m.get 1 0 8))])) ∧
    (s.selects shaperSetCmd m d → m.stray 1 0xE00FFFFF = false → shaperIdBad m = false →
      (m.flag 1 29 = true → m.stray 2 0x0FFFFFFF = false ∧ m.stray 3 0x0FFFFFFF = false ∧ m.stray 4 0xFFFFFF = false ∧
        m.stray 5 0xFFFFFF = false ∧ m.word 2 ≠ 0 ∧ m.word 4 ≠ 0 ∧ m.word 5 ≠ 0 ∧ m.word 2 ≤ m.word 3) →
      let c : Cfg := .shaper (m.get 1 30 2 == 1) (m.get 1 0 20) (m.flag 1 29) (m.word 2) (m.word 3) (m.word 4) (m.word 5)
      d.guarProj.elemConf (m.get 1 30 2 == 1) (m.get 1 0 20) = true → d.guarProj.keepsGuars c = true →
      exec (.shaperSet m) s = .next ((d.acceptRun c d.anyYielded 3).ack m.rt .ok (lohi d.nextEdge))) ∧
    (s.selects shaperReadCmd m d → m.stray 1 0xC00FFFFF = false → shaperIdBad m = false →
      d.schedProj.elemConf (m.get 1 30 2 == 1) (m.get 1 0 20) = true →
      let h := d.schedEdge.shaperOf ⟨m.get 1 30 2 == 1, m.get 1 0 20⟩
      exec (.shaperRead m) s = .next (d.ack m.rt .ok [w32 d.snapEdge, packW [(28, h.cir), (3, 0), (1, b2n h.enabled)],
        w32 h.pir, w32 h.cbs, w32 h.pbs, w32 (ofInt 32 h.edgeC), w32 (ofInt 32 h.edgeP)])) ∧
    (s.selects policerSetCmd m d → m.stray 1 0xF0FFFFFF = false →
      (m.flag 1 31 = true → m.stray 2 0x0FFFFFFF = false ∧ m.stray 3 0x0FFFFFFF = false ∧ m.stray 4 0xFFFFFF = false ∧
        m.stray 5 0xFFFFFF = false ∧ m.word 2 ≠ 0 ∧ m.word 3 ≠ 0 ∧ m.word 4 ≠ 0 ∧ m.word 5 ≠ 0 ∧
        (m.flag 1 30 = true ∨ m.word 2 ≤ m.word 3)) →
      let c : Cfg := .policer (m.get 1 0 18) (m.flag 1 31) (m.flag 1 30) (m.flag 1 29) (m.flag 1 28) (m.get 1 18 6) (m.word 2) (m.word 3) (m.word 4) (m.word 5)
      (m.flag 1 31 = true ∨ ∀ e ∈ d.guarProj.bridge.streams, e.2.polEn = true → e.2.policer ≠ m.get 1 0 18) →
      d.guarProj.keepsGuars c = true →
      exec (.policerSet m) s = .next ((d.acceptRun c d.anyYielded 3).ack m.rt .ok [])) ∧
    (s.selects policerStatsCmd m d → m.stray 1 0x7FFFF = false →
      let p := d.policer (m.get 1 0 18)
      exec (.policerStats m) s = .next ((if m.flag 1 18 then d.modSched (fun x =>
          { x with policers := tmod Policer.reset x.policers (m.get 1 0 18) (fun p => { p with clr := 1 }) }) else d).ack
        m.rt .ok (lohi d.snapEdge ++ lohi p.gf ++ lohi p.gb ++ lohi p.yf ++ lohi p.yb ++ lohi p.rf ++ lohi p.rb ++
          [w32 (ofInt 32 p.tokC), w32 (ofInt 32 p.tokP)]))) ∧
    (s.selects gateListWriteCmd m d → m.stray 1 0xFFFFFF = false → m.get 1 0 8 ≤ 137 → 1 ≤ m.get 1 16 8 →
      m.get 1 16 8 ≤ 14 → m.get 1 8 8 + m.get 1 16 8 ≤ 256 → m.len = m.get 1 16 8 + 2 →
      (∀ k, k < m.get 1 16 8 → m.get (k + 2) 0 16 ≠ 0 ∧ m.stray (k + 2) 0xFF00FFFF = false) →
      exec (.gateListWrite m) s = .next ((d.modRoot (m.get 1 0 8) (fun x =>
        { x with admin := gateWrite x.admin (m.get 1 8 8) (gateEntries m (m.get 1 16 8)) })).ack m.rt .ok [])) ∧
    (s.selects gateListCommitCmd m d → m.stray 1 0x01FF01FF = false → m.get 1 0 8 ≤ 137 →
      (m.flag 1 8 = true → 1 ≤ m.get 1 16 9 ∧ m.get 1 16 9 ≤ 256) →
      let l := if m.flag 1 8 then (d.root (m.get 1 0 8)).adminList (m.get 1 16 9) else []
      let cycle := if m.flag 1 8 then gateCycle l else 1
      let act := gateAct (m.word 2 + 2 ^ 32 * m.word 3) cycle d.nextEdge
      let c : Cfg := .gates (m.get 1 0 8) ⟨l, act, d.anyYielded⟩
      d.guarProj.keepsGates (m.get 1 0 8) l act = true →
      exec (.gateListCommit m) s = .next ((d.accept c).ack m.rt .ok (lohi act ++ [w32 cycle]))) ∧
    (s.selects guaranteeSetCmd m d → m.flag 1 31 = false → m.stray 1 0x8003FFFF = false → m.stray 2 0x0FFFFFFF = false →
      m.stray 3 0x00FFFFFF = false → m.stray 5 0x000FFFFF = false → m.word 2 ≠ 0 → m.word 3 ≠ 0 →
      ∀ st : Stream, d.guarProj.stream (m.get 1 0 18) = some st →
      let c : Cfg := .guar (m.get 1 0 18) (m.word 2) (m.word 3) (m.word 4) (m.word 5)
      m.get 1 0 18 ∈ (d.guarProj.applySched c).admitted.map Prod.fst →
      (tfind d.guarProj.sched.guars (m.get 1 0 18) ≠ none ∨ d.guarProj.sched.guars.length < 65536) →
      exec (.guaranteeSet m) s = .next ((d.acceptRun c true 0).ack m.rt .ok
        [1, (d.guarProj.applySched c).boundWord st.queue st.sc])) ∧
    (s.selects guaranteeSetCmd m d → m.flag 1 31 = true → m.stray 1 0x8003FFFF = false →
      d.schedProj.stream (m.get 1 0 18) ≠ none →
      exec (.guaranteeSet m) s = .next ((if (tfind d.schedProj.sched.guars (m.get 1 0 18)).isSome then
        d.acceptRun (.guarDel (m.get 1 0 18)) true 0 else d).ack m.rt .ok [0, 0])) ∧
    (s.selects guaranteeStatusCmd m d → m.stray 1 0x0003FFFF = false →
      (∀ g st, tfind d.sched.guars (m.get 1 0 18) = some g → d.stream (m.get 1 0 18) = some st →
        exec (.guaranteeStatus m) s = .next (d.ack m.rt .ok [packW [(16, g.yields), (2, g.cause), (6, 0),
            (3, g.precedence), (3, st.sc), (2, if g.yielded then 2 else 1)],
          if g.yielded then 0xFFFFFFFF else w32 g.bound, w32 g.seq])) ∧
      (tfind d.sched.guars (m.get 1 0 18) = none ∨ d.stream (m.get 1 0 18) = none →
        exec (.guaranteeStatus m) s = .next (d.ack m.rt .ok [0, 0, 0])))

/-- Spool commands, replay, errors and the scrub complete. SPOOL_CONFIG with allowed values is accepted for its edge and
answers it; SPOOL_STATUS answers the edge, occupancy, capacity, the group's sequences, marks and counters, and CELLAR_STATUS
the edge, the free and retired pages, the error counters and the tick of the last scrub pass, CLEAR leaving the mark that the
next commit clears by. SPOOL_REPLAY of a group in UP answers the next sequence and the number of covered frames and is due at
the next edge; SPOOL_REPLAY_START begins it; REPLAY_PLACE puts the oldest entry into the replay queue when a largest frame
fits, and leaves it when none does. An uncorrectable error counts, gives notice 0x2801, discards the frame whose page or
header it hit, and retires the page unless it is retired, or ends in FATAL 0x3801 when 65,536 others are retired already. The scrub goes on by as many
pages as the pass still has, counts at most eight corrected bursts a page, notes the tick in which the pass ends, and takes an
uncorrectable error that it meets. -/
def Obligations.CellarCommandsComplete : Prop :=
  (∀ (m : Msg) (s d : State),
    (s.selects spoolConfigCmd m d → m.stray 1 0x00FF010F = false → m.get 1 0 4 ≤ 12 → m.get 1 16 8 ≠ 0 →
      (∀ g, g < 4 → m.stray (g + 2) 0x800FFFFF = false ∧
        ((replayQOf m g).1 = true → d.schedProj.queueRoot (replayQOf m g).2 = some (132 + g))) →
      (m.get 1 0 4 = d.schedProj.cellar.size ∨ d.cellar.spool = []) →
      d.cellar.used ≤ (d.schedProj.cellar.sized (m.get 1 0 4)).border - (d.schedProj.cellar.sized (m.get 1 0 4)).retiredFrames →
      exec (.spoolConfig m) s = .next ((d.accept (.spool (m.get 1 0 4) (m.flag 1 8) (m.get 1 16 8)
        ((List.range 4).map (replayQOf m)))).ack m.rt .ok (lohi d.nextEdge))) ∧
    (s.selects spoolStatusCmd m d → m.stray 1 0x103 = false →
      let c := d.cellar
      let k := d.spoolGroup (m.get 1 0 2)
      exec (.spoolStatus m) s = .next
        ((if m.flag 1 8 then d.modSpool (m.get 1 0 2) (fun k => { k with clr := 1 }) else d).ack m.rt .ok
          (lohi d.snapEdge ++ [w32 c.occ, w32 c.cap, w32 k.lastSeq, w32 k.acked, packW [(16, c.permille),
            (1, b2n (c.atLeast 80)), (1, b2n (c.atLeast 95)), (1, b2n k.replaying)]] ++ lohi k.spooled ++
            [w32 k.fullDrop, w32 k.overwritten, w32 k.replayed]))) ∧
    (s.selects spoolReplayCmd m d → m.stray 1 3 = false → d.cellar.size ≠ 0 → (d.host (m.get 1 0 2)).state = .up →
      (d.spoolGroup (m.get 1 0 2)).replaying = false →
      exec (.spoolReplay m) s = .next ((d.accept (.spoolReplay (m.get 1 0 2))).ack m.rt .ok
        [w32 ((d.spoolGroup (m.get 1 0 2)).acked + 1), w32 (d.covered (m.get 1 0 2)).length])) ∧
    (s.selects cellarStatusCmd m d → m.stray 1 1 = false →
      let c := d.cellar
      exec (.cellarStatus m) s = .next
        ((if m.flag 1 0 then d.modCellar (fun c => { c with clr := 1 }) else d).ack m.rt .ok (lohi d.snapEdge ++
          [w32 c.free, w32 c.retired.length, w32 c.ce, w32 c.ue, w32 c.noPage, w32 c.scrubTick])))) ∧
  (∀ (g : Nat) (s : State), s.live = true → g < 4 →
    (∀ e, (s.spoolGroup g).startDue = some e → e ≤ s.now → exec (.spoolReplayStart g) s = .next (s.replayBegin g)) ∧
    (∀ (id q : Nat) (rest : List Nat) (st : Stored), (s.spoolGroup g).replaying = true → (s.spoolGroup g).todo = id :: rest →
      s.replayQueue g = some q → s.stored id = some st →
      (s.occupancy q + 9216 ≤ (s.queue q).cfg.limit * 64 →
        exec (.replayPlace g) s = .next ((s.enqueue q
          ⟨id, s.now + 1, st.frame.len, true, true, s.spoolSeq g id, none⟩).replayTaken g)) ∧
      ((s.queue q).cfg.limit * 64 < s.occupancy q + 9216 → exec (.replayPlace g) s = .next s))) ∧
  (∀ (s : State), s.live = true → s.cellar.trained = true →
    let u := (s.modCellar (fun c => { c with tkUe := c.tkUe + 1 })).notice 0x2801 0xFF
    (∀ id page : Nat, s.siteOk (.frame id page) = true →
      exec (.cellarUe (.frame id page)) s = .next ((u.discardFrame id).retire page)) ∧
    (∀ page : Nat, s.siteOk (.free page) = true → exec (.cellarUe (.free page)) s = .next (u.retire page)) ∧
    (∀ id page : Nat, s.siteOk (.header id page) = true →
      exec (.cellarUe (.header id page)) s = .next (((u.discardFrame id).spoolRemove id).retire page)) ∧
    (∀ (t : State) (page : Nat), t.retire page = if t.cellar.retired.contains page then t else if t.cellar.retired.length < 65536 then
        t.modCellar (fun c => { c with retired := c.retired ++ [page] }) else t.fatal 0x3801 0xFF) ∧
    (∀ pages corrected : Nat,
      let c := s.cellar.scrubPass s.now
      let n := Nat.min pages (67108864 - c.scrubPos)
      ∃ t : State, exec (.patrolScrub pages corrected none) s = .next t ∧ t = { s with cellar := t.cellar } ∧
        (n = 0 → t.cellar = c) ∧
        (n ≠ 0 → t.cellar = { c with tkCe := c.tkCe + Nat.min corrected (8 * n), scrubPos := c.scrubPos + n
                                     scrubTick := if c.scrubPos + n = 67108864 then s.now else c.scrubTick }) ∧
        (∀ site : UeSite, n ≠ 0 → exec (.patrolScrub pages corrected (some site)) s = .next (t.uncorrectable site))))

/-- The fabric commands answer or begin their work. FABRIC_SET_IDENTITY begins the ten word writes of the identity and is
answered with the last. FABRIC_LINK_SET is accepted for its edge; FABRIC_STATUS answers the sixteen words of R596; FRER_STATUS
answers role and recovery counters of an entry in force, zeros where there is none, and CLEAR leaves the mark that the next
commit clears by.
FABRIC_STAGE sets POLICY or an entry, deletes one, or copies the committed configuration, at once, and answers its entries and
digest. FABRIC_PREPARE of a device alone commits and answers the epoch and ACT; of the top leader of several it floods
PREPARE; what does not fit answers BUDGET; another device sends the configuration to the leader's path, and waits for an
answer as long as such a commit takes at least (the model's choice, log 21). -/
def Obligations.FabricMessagesAreAnswered : Prop :=
  ∀ (m : Msg) (s d : State),
    (s.selects fabricSetIdentityCmd m d → m.chan ≠ 3 → m.word 1 ≠ 0 → d.keepWorn (identityWords m) = false →
      d.keep.job = none →
      exec (.fabricSetIdentity m) s = .next (d.modKeep (fun k => { k with
        job := some ⟨identityWords m, (identityWords m).map Prod.fst, some m.rt, 0x3000, 0⟩ })) ∧
      (identityWords m).length = 10) ∧
    (s.selects fabricLinkSetCmd m d → m.chan ≠ 3 → m.stray 1 0x1B0FF = false →
      let r := m.get 1 0 8
      (r < 96 ∨ (128 ≤ r ∧ r < 132 ∧ m.flag 1 16 = true)) →
      (m.flag 1 16 = true → r < 96 → d.foreignMode r = false) → (m.flag 1 15 = true → d.keepIdentity.2 ≠ 0) →
      (m.flag 1 16 = true → r < 96 → (d.schedProj.fabLink r).designated = false → d.designatedCount < 16) →
      exec (.fabricLinkSet m) s = .next ((d.accept (.fabLink r (m.flag 1 16) (m.flag 1 15) (m.get 1 12 2))).ack m.rt .ok [])) ∧
    (s.selects fabricStatusCmd m d → m.stray 1 1 = false →
      let f := d.fabric
      exec (.fabricStatus m) s = .next ((if m.flag 1 0 then d.modFabric (fun f => { f with clr := 1 }) else d).ack m.rt .ok
        ([packW [(8, d.devices.length), (1, b2n d.differs), (1, b2n f.locked), (2, f.state.num), (4, f.leads),
            (16, f.path)]] ++ lohi (d.devices.headD d.serial) ++ [w32 f.epoch] ++ lohi f.digest ++ lohi f.tc ++
          [packW [(16, 0), (16, f.d)], w32 f.cnt.noRoute, w32 f.cnt.ttlDrop, w32 f.cnt.badType, w32 f.cnt.tooBig,
           w32 f.cnt.foreign, w32 f.cnt.macsecDrop, w32 f.cnt.helloLost]))) ∧
    (s.selects fabricStageCmd m d → m.stray 1 0xF0003FFF = false →
      let c := d.fabric.staged
      let put := fun (x : FabConfig) => (d.modFabric (fun f => { f with staged := x })).ack m.rt .ok
        (w32 x.entries.length :: lohi (cfgDigest x))
      (m.get 1 30 2 = 2 → m.get 1 28 2 ≤ 1 → (m.get 1 28 2 = 0 ↔ m.get 1 0 14 = 0) → m.word 3 = 0 → m.word 4 = 0 →
        exec (.fabricStage m) s = .next (put d.fabric.cfg)) ∧
      (m.get 1 30 2 = 0 → m.get 1 28 2 = 0 → m.get 1 0 14 = 0 → m.word 3 = 0 → m.word 4 = 0 → m.word 2 < 2 ^ 24 →
        (∀ k, k < 8 → fld (m.word 2) (3 * k) 3 ≠ 0) →
        exec (.fabricStage m) s = .next (put { c with policy := w32 (m.word 2) })) ∧
      (m.get 1 28 2 = 1 → m.get 1 0 14 ≠ 0 → (cfgEntry c (m.get 1 0 14) ≠ none ∨ c.entries.length < 16383) →
        (m.get 1 30 2 = 0 → repEntryBad m (repEntryOf m) = false →
          exec (.fabricStage m) s = .next (put { c with entries := repInsert (repEntryOf m) c.entries })) ∧
        (m.get 1 30 2 = 1 → m.word 3 = 0 → m.word 4 = 0 →
          exec (.fabricStage m) s = .next
            (put { c with entries := c.entries.filter (fun x => x.handle != m.get 1 0 14) })))) ∧
    (s.selects fabricPrepareCmd m d → m.stray 1 0xFFFF = false → (m.get 1 0 16 = 0 ∨ 400 ≤ m.get 1 0 16) →
      d.fabric.prep = none → d.fabric.state ≠ .inaugurating →
      let c := d.fabric.staged
      let e := d.graph.radius d.devices d.serial
      let act := d.now + Nat.max 400 (Nat.max (m.get 1 0 16) (3 * e + 40))
      let alone := decide (d.devices.length ≤ 1)
      let epoch := ((if alone then d.fabric.epoch else (d.graph.values d.devices).1) + 1) % 2 ^ 32
      let hold := fun (p : Prepare) => d.modFabric (fun f => { f with prep := some p })
      (d.isTop = true → d.fabFits c = true →
        exec (.fabricPrepare m) s = .next (if alone then
            (hold ⟨true, epoch, cfgDigest c, act, e, c, [], true, some m.rt⟩).ack m.rt .ok (w32 epoch :: lohi act ++ [0])
          else (hold ⟨true, epoch, cfgDigest c, act, e, c, [], false, some m.rt⟩).fabFlood none
            (.prepare epoch (cfgDigest c) act c))) ∧
      (d.isTop = true → d.fabFits c = false →
        exec (.fabricPrepare m) s = .next (d.ack m.rt .budget
          (w32 epoch :: lohi act ++ [packW [(8, 0), (8, Code.budget.num), (16, d.fabric.path)]]))) ∧
      (d.isTop = false →
        let next := ((d.graph.values d.devices).1 + 1) % 2 ^ 32
        let far := d.graph.radius d.devices (d.devices.headD d.serial)
        let wait := d.now + Nat.max 400 (Nat.max (m.get 1 0 16) (3 * far + 40))
        exec (.fabricPrepare m) s = .next ((hold ⟨false, next, cfgDigest c, 0, wait, c, [], false, some m.rt⟩).toTop
          (.prepare next (cfgDigest c) (m.get 1 0 16) c)))) ∧
    (s.selects frerStatusCmd m d → m.stray 1 0x7FFF = false → m.get 1 0 14 ≠ 0 →
      let r := d.recovery (m.get 1 0 14)
      (∀ e, cfgEntry d.fabric.cfg (m.get 1 0 14) = some e →
        exec (.frerStatus m) s = .next ((if m.flag 1 14 ∧ (tfind d.fabric.recov (m.get 1 0 14)).isSome then
            d.modFabric (fun f => { f with recov := tset f.recov (m.get 1 0 14) { r with clr := 1 } }) else d).ack m.rt .ok
          [packW [(2, d.frerRole e), (1, b2n (d.shared e))], w32 r.cnt.passed, w32 r.cnt.discarded, w32 r.cnt.outOfOrder,
           w32 r.cnt.rogue, w32 r.cnt.lost, w32 r.cnt.resets])) ∧
      (cfgEntry d.fabric.cfg (m.get 1 0 14) = none →
        exec (.frerStatus m) s = .next (d.ack m.rt .ok (List.replicate 7 0))))

/-- HELLO, TOPO, election, ROUTE, keys and the commit tick complete. A due HELLO goes out on its link and its tick is
noted; a HELLO of another fabric counts, one whose MACsec setting differs is left, one of the own fabric is taken, and one of a
known neighbour refreshes its adjacency; an adjacency ends after 120 ticks without one, counted. A due TOPO record is sent with
the own record held; a newer record of another device is taken. The devices that lead are elected; the top leader sends every
other device its route once and keeps its own; another device notes a ROUTE record that it does not know yet and keeps its own,
and one that comes by an excluded member's link is discarded. A session key of its own that unwraps is held, one for another
device is noted once, and at T_c path, routes, tree and state take effect. -/
def Obligations.FabricMessagesOfTheLinksComplete : Prop :=
  ∀ (s : State), s.fabOn = true →
    (∀ root : Nat, s.linkOpen root = true → s.helloDue root = true →
      ∃ t : State, exec (.helloSend root) s = .next t ∧ t = { s with fabric := t.fabric } ∧
        t.fabric.outbox = (s.secureTx root).fabric.outbox ++ [⟨root, some (s.ctlHeader 1 0), .hello (s.hello root)⟩] ∧
        tfind t.fabric.helloSent root = some s.now) ∧
    (∀ (root : Nat) (h : Hello), s.linkOpen root = true →
      (h.fabricId ≠ s.fabric.fid → exec (.helloRx root h) s = .next (s.fabCount (fun c => { c with foreign := c.foreign + 1 }))) ∧
      (h.fabricId = s.fabric.fid → h.macsec ≠ (s.fabLink root).macsec → exec (.helloRx root h) s = .next s) ∧
      (h.fabricId = s.fabric.fid → h.macsec = (s.fabLink root).macsec →
        exec (.helloRx root h) s =
          .next ((s.modFabric (fun f => { f with hellos := tset f.hellos root h })).helloTake root h)) ∧
      (∀ a, h.fabricId = s.fabric.fid → h.macsec = (s.fabLink root).macsec → s.adj root = some a →
        a.hello.serial = h.serial → a.hello.port = h.port → a.hello.boundary = h.boundary →
        ∃ t : State, exec (.helloRx root h) s = .next t ∧
          t = { s with fabric := { s.fabric with adjs := t.fabric.adjs, hellos := tset s.fabric.hellos root h } } ∧
          t.adj root = some ⟨root, h, s.now⟩)) ∧
    (∀ (root : Nat) (a : Adj), s.adj root = some a → a.rxTick + 120 < s.now →
      exec (.adjacencyExpiry root) s = .next ((s.adjEnd root).fabCount (fun c => { c with helloLost := c.helloLost + 1 }))) ∧
    ((s.fabric.topoDue = true ∨ s.fabric.topoSent + 4000 ≤ s.now) →
      ∃ t : State, exec .topoSend s = .next t ∧ t.fabric.topoDue = false ∧ t.fabric.topoSent = s.now ∧
        t.fabric.ownSeq = (if s.fabric.topoDue then s.fabric.ownSeq else (s.fabric.ownSeq + 1) % 2 ^ 32)) ∧
    (∀ (root : Nat) (r : TopoRec), (s.adj root).isSome = true → r.serial ≠ s.serial → s.topoNewer r = true →
      exec (.topoRx root r) s = .next (s.topoTake root r)) ∧
    (exec .leaderElection s = .next (([1, 2, 3, 4].filter s.electable).foldl State.electLevel s)) ∧
    (∀ te : Nat, s.fabric.elected = some te → s.fabric.routesSent = false →
      let tc := te + s.graph.diameter s.devices + 1290
      exec .routeSend s = .next ((s.devices.filter (fun u => u != s.serial)).foldl
        (fun t u => t.fabFlood none (.route (t.routeFor tc u)))
        (s.modFabric (fun f => { f with routesSent := true, pendRoute := some (s.routeFor tc s.serial)
                                        paths := s.devices.map (fun u => (u, s.graph.path u)) })))) ∧
    (∀ r : RouteIn, (s.adj r.root).isSome = true →
      (s.excluded r.root = true → exec (.routeRx r) s = .next s.badType) ∧
      (s.excluded r.root = false → s.isTop = false →
        (tfind s.fabric.routeRecs r.route.serial = some r.route → exec (.routeRx r) s = .next s) ∧
        (tfind s.fabric.routeRecs r.route.serial ≠ some r.route →
          ∃ t : State, exec (.routeRx r) s = .next t ∧ t = { s with fabric := t.fabric } ∧
            tfind t.fabric.paths r.route.serial = some r.route.path ∧
            tfind t.fabric.routeRecs r.route.serial = some r.route ∧
            t.fabric.pendRoute = (if r.route.serial = s.serial then some r.route else s.fabric.pendRoute)))) ∧
    (∀ (k : KeyIn) (wrapped : BitVec 320), (s.adj k.root).isSome = true → s.excluded k.root = false →
      (k.serial = s.serial → s.hasKey = true → 1 ≤ k.level → k.level ≤ 4 →
        exec (.keyRx k wrapped) s = .next (match Config.aesUnwrap (s.kek s.serial) wrapped with
          | some x => s.modFabric (fun f => { f with keys := setKey f.keys k.level x })
          | none => s)) ∧
      (k.serial ≠ s.serial → s.fabric.keySeen.contains (k.level, k.serial, wrapped) = true →
        exec (.keyRx k wrapped) s = .next s) ∧
      (k.serial ≠ s.serial → s.fabric.keySeen.contains (k.level, k.serial, wrapped) = false →
        ∃ t : State, exec (.keyRx k wrapped) s = .next t ∧ t = { s with fabric := t.fabric } ∧
          t.fabric.keySeen.contains (k.level, k.serial, wrapped) = true ∧ t.fabric.keys = s.fabric.keys)) ∧
    (∀ r : RouteRec, s.fabric.pendRoute = some r → r.tc ≤ s.now →
      ∃ t : State, exec .fabricCommitTick s = .next t ∧ t.fabric.path = r.path ∧ t.fabric.routes = r.routes ∧
        t.fabric.tree = r.tree ∧ t.fabric.pendRoute = none ∧ t.fabric.tc = r.tc ∧
        t.fabric.state = (if s.devices.length ≤ 1 then .alone else .running))

/-- PREPARE, COMMIT, ABORT, catching up, Sync, link delay and MKA complete. A member takes a new PREPARE and answers; the top
leader starts a commit for a member that asks it, or turns the request away with an ABORT that names the code (the model's
choice, log 21); it gathers answers, gives the commit up with BUDGET on one that is not OK, commits with the
last, and gives it up with TIMEOUT at the deadline, as a device does whose request has brought no PREPARE in time. A member's COMMIT and ABORT act on the PREPARE it holds; at ACT a committed
configuration is adopted and any other forgotten. A configuration is given to a device that asks and applied at the second
edge. The top leader sends Sync and Follow_Up at its edges, and another device passes on what came by its slave port; an
offset of more than 1,000 ns makes a step, a smaller one is owed in core cycles, and eight within 50 ns lock the time. A link's
delay and rate are kept; an MKA frame under the FABRIC_ID installs the key that the key server distributes, or brings the key
server, the end with the lower SCI, to distribute one (log 68), or is counted where it does not verify. -/
def Obligations.FabricCommitsAndTimeComplete : Prop :=
  ∀ (s : State), s.fabOn = true →
    (∀ (epoch digest act : Nat) (o : PrepareIn) (cfg : FabConfig), s.fabric.path ≠ 0 → (s.adj o.root).isSome = true →
      s.excluded o.root = false →
      (o.dst = 0 → s.isTop = false → s.fabric.holds epoch act = false →
        exec (.prepareRx epoch digest act o cfg) s = .next (s.prepareTake o.root epoch digest act cfg)) ∧
      (o.dst = s.fabric.path → s.isTop = true →
        (s.fabric.prep = none → s.fabric.state ≠ .inaugurating → s.fabFits cfg = true →
          exec (.prepareRx epoch digest act o cfg) s = .next (s.commitStart act cfg none)) ∧
        (s.fabric.prep = none → s.fabric.state ≠ .inaugurating → s.fabFits cfg = false →
          exec (.prepareRx epoch digest act o cfg) s = .next (s.prepareRefuse o epoch .budget)) ∧
        (s.fabric.prep ≠ none → exec (.prepareRx epoch digest act o cfg) s = .next (s.prepareRefuse o epoch .busy)))) ∧
    (∀ (p : Prepare) (path code : Nat), s.fabric.prep = some p → p.leader = true → p.committed = false →
      let l := if p.answers.any (fun a => a.1 == path) then p.answers else p.answers ++ [(path, code)]
      (code ≠ 0 → exec (.prepAckRx path code) s = .next (s.abort .budget path code)) ∧
      (code = 0 → s.otherPaths.all (fun q => l.any (fun a => a.1 == q)) = false →
        exec (.prepAckRx path code) s = .next (s.modFabric (fun f => { f with prep := some { p with answers := l } }))) ∧
      (code = 0 → s.otherPaths.all (fun q => l.any (fun a => a.1 == q)) = true →
        exec (.prepAckRx path code) s = .next (((s.modFabric (fun f => { f with
          prep := some { p with answers := l, committed := true, reply := none } })).fabFlood none (.commit p.epoch)).ackLater
            p.reply .ok (p.words 0 0)))) ∧
    (∀ p : Prepare, s.fabric.prep = some p → p.leader = true → p.committed = false → p.act ≤ s.now + p.reach + 40 →
      exec .prepareDeadline s = .next (s.abort .timeout 0 0)) ∧
    (∀ p : Prepare, s.fabric.prep = some p → p.leader = false → p.act = 0 → p.reply.isSome = true → p.reach ≤ s.now →
      exec .prepareDeadline s = .next (s.abort .timeout 0 0)) ∧
    (∀ (p : Prepare) (root code refuser : Nat), s.fabric.prep = some p → p.leader = false → p.committed = false →
      (s.adj root).isSome = true → s.excluded root = false →
      (p.act ≠ 0 → exec (.commitRx ⟨root, p.epoch⟩) s = .next (((s.modFabric (fun f => { f with
        prep := some { p with committed := true, reply := none } })).fabFlood (some root) (.commit p.epoch)).ackLater p.reply
          .ok (p.words 0 0))) ∧
      exec (.abortRx ⟨root, p.epoch, code, refuser⟩) s =
        .next ((if p.act = 0 then s else s.fabFlood (some root) (.abort p.epoch code refuser)).abort (abortCode code) refuser
          (if refuser = 0 then 0 else code))) ∧
    (∀ p : Prepare, s.fabric.prep = some p → p.act ≠ 0 → p.act ≤ s.now →
      (p.committed = true → ∃ t : State, exec .fabricConfigActivate s = .next t ∧ t.fabric.cfg = p.cfg ∧
        t.fabric.epoch = p.epoch ∧ t.fabric.digest = cfgDigest p.cfg ∧ t.fabric.prep = none) ∧
      (p.committed = false → exec .fabricConfigActivate s = .next (s.modFabric (fun f => { f with prep := none })))) ∧
    (∀ root : Nat, (s.adj root).isSome = true → s.differs = false →
      exec (.catchupReqRx root) s = .next (s.fabSend root 0 (.catchup s.fabric.epoch s.fabric.digest s.fabric.cfg))) ∧
    (∀ (epoch digest : Nat) (cfg : FabConfig), s.differs = true → cfgDigest cfg = digest →
      exec (.catchupRx epoch digest cfg) s = .next (s.modFabric (fun f => { f with catchup := some (epoch, cfg, s.now + 2) }))) ∧
    (∀ (epoch edge : Nat) (cfg : FabConfig), s.fabric.catchup = some (epoch, cfg, edge) → edge ≤ s.now → s.fabFits cfg = true →
      ∃ t : State, exec .catchupApply s = .next t ∧ t.fabric.cfg = cfg ∧ t.fabric.epoch = epoch ∧ t.fabric.catchup = none) ∧
    (s.isTop = true → syncEdge s.fabric.syncNext ≤ s.now →
      ∃ t : State, exec .syncSend s = .next t ∧ t = { s with fabric := t.fabric } ∧
        t.fabric.syncNext = s.now * 4 / 625 + 1 ∧
        t.fabric.outbox = s.fabric.outbox ++ s.masterPorts.flatMap (fun r =>
          [⟨r, none, .sync⟩, ⟨r, none, .followUp (s.nsAt 0) 0 0⟩])) ∧
    (∀ x : SyncHeld, s.isTop = false → s.fabric.syncPass = some x → x.due ≤ s.now →
      ∃ t : State, exec .syncSend s = .next t ∧ t = { s with fabric := t.fabric } ∧ t.fabric.syncPass = none ∧
        t.fabric.outbox = s.fabric.outbox ++ s.masterPorts.flatMap (fun r =>
          [⟨r, none, .sync⟩, ⟨r, none, .followUp x.origin (s.syncCorr x) x.rate⟩])) ∧
    (∀ y : SyncIn, s.isTop = false → s.uplink ≠ some y.root → exec (.syncRx y) s = .next s) ∧
    (∀ y : SyncIn, s.isTop = false → s.uplink = some y.root →
      let offset := s.syncOffset y
      ∃ t : State, exec (.syncRx y) s = .next t ∧ t = { s with fabric := t.fabric } ∧
        t.fabric.syncPass = some ⟨s.now + 1, y.origin, y.corr + s.linkDelay y.root, y.rate + s.linkRate y.root,
          s.nsAt y.phase⟩ ∧
        (1000 < offset ∨ offset < -1000 → t.fabric.step = some (stepEdge s.now offset) ∧ t.fabric.owed = 0) ∧
        (-1000 ≤ offset → offset ≤ 1000 → t.fabric.step = s.fabric.step ∧ t.fabric.owed = offset * 5 / 4) ∧
        (50 < offset ∨ offset < -50 → t.fabric.locked = false ∧ t.fabric.syncs = 0) ∧
        (-50 ≤ offset → offset ≤ 50 → t.fabric.locked = decide (8 ≤ s.fabric.syncs + 1) ∧
          t.fabric.syncs = min 255 (s.fabric.syncs + 1))) ∧
    (∀ (root : Nat) (x : PeerDelay), root < 96 → s.linkUp root = true →
      ∃ t : State, exec (.peerDelayExchange root x) s = .next t ∧ t = { s with fabric := t.fabric } ∧
        t.fabLink root = { s.fabLink root with hop := x.delay, rate := x.rate }) ∧
    (∀ (root : Nat) (k : MkaIn) (ckn : Word), s.linkUp root = true → (s.fabLink root).macsec = true → s.hasKey = true →
      ckn.toNat = s.fabric.fid →
      (∃ t : State, exec (.mkaFrameRx root ckn true k) s = .next t ∧ t = { s with fabric := t.fabric } ∧
        t.fabLink root = (if s.sciNum root < k.sci then
            (if (s.fabLink root).sak = none then
              { s.fabLink root with partner := some k.sci, sak := some (Config.newSak root s.now), pn := 1 }
            else { s.fabLink root with partner := some k.sci })
          else match k.sak with
            | some x => { s.fabLink root with partner := some k.sci, sak := some x, pn := 1 }
            | none => { s.fabLink root with partner := some k.sci }) ∧
        t.fabric.outbox = (if s.sciNum root < k.sci ∧ (s.fabLink root).sak = none then
          s.fabric.outbox ++ [⟨root, none, .mka (Config.newSak root s.now)⟩] else s.fabric.outbox)) ∧
      exec (.mkaFrameRx root ckn false k) s = .next (s.fabCount (fun c => { c with macsecDrop := c.macsecDrop + 1 })))

/-- Fault commands and FATAL faults complete. FATAL_FAULT of a FATAL code takes effect as R541 says, with a UNIT
and F_DETAIL that its source can give, and otherwise not at all: a parity error in a copy of the collector's registers, copies
of good parity that differ, and STEWARD_PARITY with the token bit as read. FAULT_STATUS answers how many notices are latched and lost, which of
the fourteen from INDEX on are present, and their codes and counts; FAULT_CLEAR removes a latched notice whose condition is
gone, or with RECORD the fault record; FAULT_CONFIG is accepted; FAULT_INJECT in an open life-cycle state raises the fault: a
notice or channel-level one is answered, a FATAL one is not. -/
def Obligations.FaultMessagesAreAnswered : Prop :=
  (∀ (code unit : Nat) (detail : Word) (s : State), s.awake = true → isFatal code = true →
    (fatalCan code unit detail = false → exec (.fatalFault code unit detail) s = .next s) ∧
    (fatalCan code unit detail = true →
      (code ≠ 0x0D01 → code ≠ 0x0D02 → code ≠ 0x0D03 → exec (.fatalFault code unit detail) s = .next
        (s.fatal code (if code = 0x3B02 ∨ code = 0x3D01 then unit else 0xFF)
          (if isOverrun code || code == 0x3D01 then detail else 0))) ∧
      (code = 0x0D01 → exec (.fatalFault code unit detail) s = .next ((s.modFaults (fun f =>
        if bit unit 0 then { f with parityB := false } else { f with parityA := false })).fatal code 0xFF)) ∧
      (code = 0x0D02 → s.faults.parityA = true → s.faults.parityB = true → exec (.fatalFault code unit detail) s =
        .next ((s.modFaults (fun f => { f with same := false })).fatal code 0xFF)) ∧
      (code = 0x0D03 → exec (.fatalFault code unit detail) s =
        .next ((s.modBoot (fun b => { b with tokenParity := false, stewardSouth := bit unit 0 })).fatal code
          (b2n (bit unit 0)))))) ∧
  (∀ (m : Msg) (s d : State),
    (s.selects faultStatusCmd m d → m.stray 1 0x3F = false →
      let l := (d.faults.notices.drop (m.get 1 0 6)).take 14
      exec (.faultStatus m) s = .next (d.ack m.rt .ok
        (packW [(16, d.faults.latchFull), (8, l.length), (8, d.faults.notices.length)] ::
          w32 (maskBits (l.map (fun n => d.presentNow n.code))) :: l.map (fun n => packW [(16, n.count), (16, n.code)])))) ∧
    (s.selects faultClearCmd m d → m.flag 1 16 = false → m.stray 1 0x1FFFF = false → levelOf (m.get 1 0 16) = 2 →
      d.present (m.get 1 0 16) = false → (∃ n ∈ d.faults.notices, n.code = m.get 1 0 16) →
      exec (.faultClear m) s = .next ((d.modFaults (fun f =>
        { f with notices := f.notices.filter (fun n => n.code != m.get 1 0 16) })).ack m.rt .ok [])) ∧
    (s.selects faultClearCmd m d → m.flag 1 16 = true → m.stray 1 0x1FFFF = false → m.get 1 0 16 = 0 →
      exec (.faultClear m) s = .next ((d.modFaults (fun f => { f with record := Record.empty })).ack m.rt .ok [])) ∧
    (s.selects faultConfigCmd m d → m.stray 3 0xFFFF = false → m.get 1 0 16 ≠ 0 → m.get 1 16 16 ≠ 0 → m.get 2 0 16 ≠ 0 →
      m.get 2 16 16 ≠ 0 → m.get 3 0 16 ≠ 0 →
      exec (.faultConfig m) s = .next ((d.accept (.quiet (quietOf m))).ack m.rt .ok [])) ∧
    (s.selects faultInjectCmd m d → m.word 2 = 0x5AC3 → isFault (m.get 1 0 16) = true →
      faultUnitOk (m.get 1 0 16) (m.get 1 16 8) = true → m.stray 1 0xFFFFFF = false → d.life.state.open = true →
      (isFatal (m.get 1 0 16) = false → isChannel (m.get 1 0 16) = true →
        exec (.faultInject m) s = .next ((d.channelFault (m.get 1 0 16) (m.get 1 16 8)).ack m.rt .ok [])) ∧
      (isFatal (m.get 1 0 16) = false → isChannel (m.get 1 0 16) = false →
        exec (.faultInject m) s = .next ((d.notice (m.get 1 0 16) (m.get 1 16 8)).ack m.rt .ok [])) ∧
      (isFatal (m.get 1 0 16) = true →
        exec (.faultInject m) s = .next (d.fatal (if levelOf (m.get 1 0 16) = 3 ∧ subsysOf (m.get 1 0 16) = 0xD then 0x3DFE
          else m.get 1 0 16) (m.get 1 16 8)))))

/-- Temperature supervision: readings, confirmations, clears and lost sensors. A valid reading of a sensor that is not
lost is kept with its offset and counts towards WARN and DAMP; a sensor without one counts it as invalid. A condition
confirms at its 40th count, WARN with doorbell 6 and its record, DAMP with the FATAL fault 0x3D01 and the reading in F_DETAIL;
WARN clears at its 40th count below WARN - 4, with a record, and DAMP at the edge after its 40th below DAMP - 4; a sensor is lost at the 40th invalid reading, with notice 0x2D01,
and recovers at the 40th valid one. THERMAL_SET is accepted for the next edge, THERMAL_STATUS answers conditions, readings and
thresholds. -/
def Obligations.SensorCommandsComplete : Prop :=
  (∀ (m : Msg) (s d : State),
    (s.selects thermalSetCmd m d → m.stray 1 0xFFFF = false → 40 ≤ m.get 1 0 8 → m.get 1 0 8 < m.get 1 8 8 →
      50 ≤ m.get 1 8 8 → m.get 1 8 8 ≤ (if d.fuses.gradeX then 127 else 112) →
      exec (.thermalSet m) s = .next ((d.accept (.thermal (m.get 1 0 8) (m.get 1 8 8))).ack m.rt .ok [])) ∧
    (s.selects thermalStatusCmd m d → m.stray 1 0 = false →
      let l := d.thermal.sensors
      exec (.thermalStatus m) s = .next (d.ack m.rt .ok
        (packW [(10, maskBits (l.map Sensor.warn)), (10, maskBits (l.map Sensor.damp)), (10, maskBits (l.map Sensor.lost))] ::
          (List.range 5).map (fun k => packW [(16, ofInt 16 (d.sensor (2 * k)).reading),
            (16, ofInt 16 (d.sensor (2 * k + 1)).reading)]) ++
          [packW [(8, ofInt 8 d.thermal.warn), (8, ofInt 8 d.thermal.damp)]])))) ∧
  (∀ (readings : List (Option Int)) (s : State), s.supervised = true →
    ∃ t : State, exec (.temperatureReading readings) s = .next t ∧ t = { s with thermal := t.thermal, mbx := t.mbx } ∧
      t.thermal.pendClear = [] ∧
      (s.thermal.sensors.length = 10 → ∀ k, k < 10 →
        t.sensor k = (s.sensor k).take (readings.getD k none) s.thermal.warn s.thermal.damp)) ∧
  (∀ (x : Sensor) (v warn damp : Int), x.lost = false →
    (x.take (some v) warn damp).reading = v + x.offset / 16 ∧
    (x.warn = false → 4 * warn ≤ v + x.offset / 16 → x.warnUp < 255 →
      (x.take (some v) warn damp).warnUp = x.warnUp + 1) ∧
    (x.warn = false → v + x.offset / 16 < 4 * warn → (x.take (some v) warn damp).warnUp = 0) ∧
    (x.damp = false → 4 * damp ≤ v + x.offset / 16 → x.dampUp < 255 →
      (x.take (some v) warn damp).dampUp = x.dampUp + 1) ∧
    (x.damp = false → v + x.offset / 16 < 4 * damp → (x.take (some v) warn damp).dampUp = 0) ∧
    (x.warn = true → v + x.offset / 16 < 4 * (warn - 4) → x.warnDn < 255 →
      (x.take (some v) warn damp).warnDn = x.warnDn + 1) ∧
    (x.damp = true → v + x.offset / 16 < 4 * (damp - 4) → x.dampDn < 255 →
      (x.take (some v) warn damp).dampDn = x.dampDn + 1) ∧
    (x.take none warn damp).reading = x.reading ∧ (x.take none warn damp).validRun = 0 ∧
    (x.invalid < 255 → (x.take none warn damp).invalid = x.invalid + 1)) ∧
  (∀ (k : Nat) (s : State), s.supervised = true → k < 10 →
    let x := s.sensor k
    (x.warn = false → 40 ≤ x.warnUp → exec (.thermalWarnConfirm k) s = .next
      ((s.modSensor k (fun x => { x with warn := true, warnUp := 0 })).event 6 k (1 + 256 * wholeTemp x.reading))) ∧
    (x.warn = true → 40 ≤ x.warnDn → exec (.thermalWarnClear k) s = .next
      ((s.modSensor k (fun x => { x with warn := false, warnDn := 0 })).record 6 k (256 * wholeTemp x.reading))) ∧
    (x.damp = false → 40 ≤ x.dampUp → exec (.thermalDamp k) s = .next
      ((s.modSensor k (fun x => { x with damp := true, dampUp := 0 })).fatal 0x3D01 k (w32 (ofInt 32 x.reading)))) ∧
    (k < s.thermal.sensors.length → x.damp = true →
      (s.dampEdge.sensor k).damp = decide (x.dampDn < 40)) ∧
    (x.lost = false → 40 ≤ x.invalid → exec (.sensorLost k) s = .next
      (((s.modSensor k (fun x => { x with lost := true })).condition 0x2D01 k true).notice 0x2D01 k)) ∧
    (x.lost = true → 40 ≤ x.validRun → exec (.sensorRecover k) s = .next
      ((s.modSensor k (fun x => { x with lost := false })).condition 0x2D01 k false)))

/-- Discrete inputs: samples, changes, discrepancies, hearth samples. DIN_CONFIG with allowed values is accepted for the next
edge and answers its channel count; DIN_STATUS answers values, discrepancies, levels and the counts of each input. A sample
takes the levels of the enabled channels and counts disagreement. After FILTER agreeing samples of another value the agreed
value changes with doorbell 22; after D disagreeing ones the discrepancy is recorded with doorbell 23 and the agreed value
stays; after the quiet period it clears, counted, and the agreed value follows the inputs. In BANKED and EMBER the second hearth
sample in a row of a new value is a wake where WAKE_CONFIG selects the input. -/
def Obligations.DiscreteInputCommandsComplete : Prop :=
  (∀ (m : Msg) (s d : State),
    (s.selects dinConfigCmd m d → m.stray 1 0x00FFF0FF = false → m.get 1 16 8 ≠ 0 → 0 ∉ (dinOf m).d →
      d.policyLoses (dinOf m) = false →
      exec (.dinConfig m) s = .next ((d.accept (.din (dinOf m))).ack m.rt .ok [w32 (dinOf m).channels])) ∧
    (s.selects dinStatusCmd m d → m.stray 1 0 = false →
      let l := d.din.inputs
      exec (.dinStatus m) s = .next (d.ack m.rt .ok (packW [(4, maskBits (l.map Din.value)), (4, maskBits (l.map Din.fault)),
        (4, maskBits (l.map Din.a)), (4, maskBits (l.map Din.b))] ::
          l.map (fun x => packW [(16, x.run), (16, x.recoveries)]))))) ∧
  (∀ (a b : Nat) (s : State), s.supervised = true → s.din.inputs.length = 4 →
    ∃ t : State, exec (.dinSample a b) s = .next t ∧ t = { s with din := { s.din with inputs := t.din.inputs } } ∧
      ∀ k, k < 4 → (t.input k).a = (bit s.din.cfg.enA k && bit a k) ∧ (t.input k).b = (bit s.din.cfg.enB k && bit b k) ∧
        (t.input k).value = (s.input k).value ∧
        (s.din.cfg.dual k = true → (s.input k).fault = false →
          s.din.cfg.agree k (bit a k) (bit b k) = false → (s.input k).run < 65535 →
          (t.input k).run = (s.input k).run + 1 ∧ (t.input k).filt = 0) ∧
        (s.din.cfg.dual k = true → (s.input k).fault = false →
          s.din.cfg.agree k (bit a k) (bit b k) = true → (t.input k).run = 0)) ∧
  (∀ (k : Nat) (s : State), s.supervised = true → k < 4 → s.din.inputs.length = 4 →
    ((s.input k).fault = false → (s.input k).cand ≠ (s.input k).value → s.din.cfg.filter ≤ (s.input k).filt →
      ∃ t : State, exec (.dinChange k) s = .next t ∧ (t.input k).value = (s.input k).cand ∧
        t.mbx.dbStatus.getLsbD 22 = true) ∧
    (s.din.cfg.dual k = true → (s.input k).fault = false → s.din.cfg.d.getD k 0 ≤ (s.input k).run →
      exec (.dinDiscrepancy k) s = .next (((s.recordFault 0x1D01 k).modInput k (fun x =>
        { x with fault := true, quiet := 0, quietNeed := 0, filt := 0 })).event 23 k
          (b2n (s.input k).a + 2 * b2n (s.input k).b))) ∧
    ((s.input k).fault = true → (s.input k).quietNeed ≠ 0 → (s.input k).quietNeed ≤ (s.input k).quiet →
      ∃ t : State, exec (.dinDiscrepancyClear k) s = .next t ∧ (t.input k).fault = false ∧
        (t.input k).value = (s.input k).cand ∧ (t.input k).recoveries = min 65535 ((s.input k).recoveries + 1))) ∧
  (∀ (a b : Nat) (s : State), s.boot.power = .banked ∨ s.boot.power = .ember → s.din.inputs.length = 4 →
    ∃ u : State, u = { s with din := { s.din with inputs := u.din.inputs } } ∧
      (∀ k, k < 4 → u.input k = (s.input k).hearthSample s.din.cfg k (bit s.din.cfg.enA k && bit a k)
        (bit s.din.cfg.enB k && bit b k)) ∧
      exec (.dinHearthSample a b) s = .next ((List.range 4).foldl (fun t i =>
        if bit t.power.wake.din i && decide (2 ≤ (t.input i).hearth) then t.fireWake ⟨0x05, i⟩ true else t) u))

/-- Calibration slices, stale units and calibration commands complete. Every 400th tick the references are measured, each by
eight readings: one out of limits starts its notice, and two good slices end it. A slice of the next unit of its class
in a gap is held for the edge, and an aborted one leaves no result. A unit goes stale at an age of 2^20 ticks with doorbell
16. CAL_CONFIG within 16 slices of load is accepted; CAL_STATUS answers a unit's progress, temperature, age and trims;
CAL_COMMIT of measured units, of the sensors in MAKER or RETURN, and of the references begins to write their words. -/
def Obligations.CalibrationCommandsComplete : Prop :=
  (∀ (m : Msg) (s d : State),
    (s.selects calConfigCmd m d → m.stray 1 0xFFFF = false →
      m.get 1 0 4 + m.get 1 4 4 + m.get 1 8 4 + m.get 1 12 4 + 1 ≤ 16 →
      exec (.calConfig m) s = .next ((d.accept (.cal ⟨m.get 1 0 4, m.get 1 4 4, m.get 1 8 4, m.get 1 12 4⟩)).ack m.rt .ok
        [w32 (m.get 1 0 4 + m.get 1 4 4 + m.get 1 8 4 + m.get 1 12 4 + 1)])) ∧
    (s.selects calStatusCmd m d → m.stray 1 0xFF = false → m.get 1 0 8 ≤ 135 → d.domOn (domOfRoot (m.get 1 0 8)) = true →
      let c := d.calUnit (m.get 1 0 8)
      exec (.calStatus m) s = .next (d.ack m.rt .ok [packW [(7, c.progress), (9, 0), (8, c.temp), (6, 0),
        (1, b2n d.calSuspended), (1, b2n c.stale)], w32 (sat32 (d.now - c.doneTick)), w32 c.trim.toNat])) ∧
    (s.selects calCommitCmd m d → m.stray 1 0xC0FFFF0F = false → (m.flag 1 31 = false → m.get 1 16 8 = 0) →
      d.commitWords m ≠ [] → (∀ u ∈ commitUnits m, (d.calUnit u).stale = false ∧ (d.calUnit u).ever = true ∧
        d.domOn (domOfRoot u) = true) → d.calSuspended = false →
      (m.flag 1 31 = true → d.thermal.sensors.any Sensor.lost = false ∧
        (d.life.state = .maker ∨ d.life.state = .ret)) →
      d.keepWorn (d.commitWords m) = false → d.keep.job = none →
      let u := if m.flag 1 31 then (List.range 10).foldl (fun t k =>
        t.modSensor k (fun x => { x with offset := x.offsetFor (m.get 1 16 8) })) d else d
      exec (.calCommit m) s = .next (u.modKeep (fun k => { k with
        job := some ⟨d.commitWords m, (d.commitWords m).map Prod.fst, some m.rt, 0x4102, 0⟩ })))) ∧
  (∀ (vref rset : List Int) (s : State), s.working = true → s.now % 400 = 0 → 255 ∉ s.cal.served →
    ∃ t : State, exec (.referenceSlice vref rset) s = .next t ∧ t = { s with cal := t.cal, faults := t.faults, mbx := t.mbx } ∧
      t.cal = { s.cal with
        served := 255 :: s.cal.served, refTrim := Config.refTrim s.now
        vrefBad := !vrefWithin vref || (s.cal.vrefBad && decide (s.cal.vrefGood = 0))
        vrefGood := if vrefWithin vref ∧ s.cal.vrefBad = true ∧ s.cal.vrefGood = 0 then 1 else 0
        rsetBad := !rsetWithin rset || (s.cal.rsetBad && decide (s.cal.rsetGood = 0))
        rsetGood := if rsetWithin rset ∧ s.cal.rsetBad = true ∧ s.cal.rsetGood = 0 then 1 else 0 } ∧
      (vrefWithin vref = false → s.cal.vrefBad = false → t.present 0x2E01 = true) ∧
      (rsetWithin rset = false → s.cal.rsetBad = false → t.present 0x2E02 = true)) ∧
  (∀ (unit : Nat) (trims : BitVec 16) (temp : Int) (s : State), s.working = true → unit < 136 → s.slicesRun = true →
    (s.skimUnit unit).ran = none → s.calSuspended = false →
    s.servedOf (calClass unit) < s.cal.cfg.alloc (calClass unit) → s.nextServed (calClass unit) = some unit →
    (∃ t : State, exec (.calSlice unit false trims temp) s = .next t ∧ t = { s with cal := t.cal } ∧
      t.calUnit unit = { s.calUnit unit with
        next := some (trims, ofInt 8 (temp + 64))
        txSide := (s.calUnit unit).txSide + b2n (calClass unit == 2 && s.txSlice unit) } ∧
      t.cal.served = unit :: s.cal.served ∧ t.cal.last = s.cal.last.set (calClass unit) unit) ∧
    (exec (.calSlice unit true trims temp) s = .next { s with cal := { s.cal with
      served := unit :: s.cal.served, last := s.cal.last.set (calClass unit) unit } })) ∧
  (∀ (unit : Nat) (s : State), s.live = true → unit < 136 → s.domOn (domOfRoot unit) = true →
    (s.calUnit unit).stale = false → (s.calUnit unit).doneTick + 2 ^ 20 ≤ s.now →
    exec (.calStale unit) s = .next ((s.modCalUnit unit (fun c => { c with stale := true })).event 16 unit 1))

/-- Self-test and skim: planning, groups, unit results, slices, overdue skims. SELFTEST_RUN in an open life-cycle state is
planned and accepted, with the number of its groups and the time they take; its groups start one after the other, every unit
isolated, and a unit's end is its result: PASS at its test time without a failed check, FAIL with the check and notice 0x2E03
otherwise. A skim slice of a due unit that is taken, within PERIOD of its due edge, counts at the edge, an aborted one in ABANDONED;
at the edge a slice that is not the last counts on, the last one ends the skim with its result and doorbell 17, and an overdue skim
ends as OVERDUE. SELFTEST_RESULT answers the test and a unit's result, SKIM_STATUS a
unit's result and counters; SKIM_CONFIG is accepted. -/
def Obligations.SelfTestAndSkimComplete : Prop :=
  (∀ (m : Msg) (s d : State),
    (s.selects selftestRunCmd m d → m.stray 1 0x1FFF = false → m.get 1 0 13 ≠ 0 → d.life.state.open = true →
      d.testBusy = false → d.powerBusy = false →
      let g := d.planGroups (m.get 1 0 13)
      exec (.selftestRun m) s = .next ((d.accept (.selftest g
        ((unitsOf (m.get 1 0 13)).filter (fun u => !d.testable u)))).ack m.rt .ok
        [w32 g.length, w32 ((g.map groupTime).foldl (· + ·) 0)])) ∧
    (s.selects selftestResultCmd m d → m.stray 1 0xFF = false → (m.get 1 0 8 ≤ 135 ∨ m.get 1 0 8 = 0xFF) →
      let r := tget ⟨0, 0, 0⟩ d.test.results (m.get 1 0 8)
      exec (.selftestResult m) s = .next (d.ack m.rt .ok [packW [(8, d.test.total), (8, d.test.done), (14, 0),
        (2, d.test.state)], packW [(2, r.result), (4, r.check)], w32 r.endTick])) ∧
    (s.selects skimConfigCmd m d → m.stray 1 0xFFFF8007 = false → m.get 1 16 16 ≠ 0 → 1 ≤ m.get 1 0 3 → m.get 1 0 3 ≤ 4 →
      (m.flag 1 15 = true → d.life.state.skims = true) →
      exec (.skimConfig m) s = .next ((d.accept (.skim (m.get 1 16 16) (m.flag 1 15) (m.get 1 0 3))).ack m.rt .ok [])) ∧
    (s.selects skimStatusCmd m d → m.stray 1 0x1FF = false → m.get 1 0 8 ≤ 135 →
      let k := d.skimUnit (m.get 1 0 8)
      exec (.skimStatus m) s = .next
        ((if m.flag 1 8 then d.modSkimUnit (m.get 1 0 8) (fun k => { k with clr := 1 }) else d).ack m.rt .ok
          [packW [(2, k.result), (4, k.check)], w32 k.tick, w32 k.passes, w32 k.fails, w32 k.overdues, w32 k.abandoned]))) ∧
  (∀ (g : List Nat) (rest : List (List Nat)) (s : State), s.live = true → s.test.state = 1 → s.test.active = [] →
    s.test.groups = g :: rest → s.test.start ≤ s.now →
    exec .selftestGroupStart s = .next ((g.foldl State.isolate s).modTest (fun x =>
      { x with groups := rest, active := g, start := s.now }))) ∧
  (∀ (unit check : Nat) (s : State), s.live = true → s.test.state = 1 → unit ∈ s.test.active →
    (check = 0 → s.test.start + testTime unit ≤ s.now →
      exec (.selftestUnitEnd unit 0) s = .next (s.testEnd unit 0) ∧
      tfind (s.testEnd unit 0).test.results unit = some ⟨1, 0, s.now⟩ ∧ unit ∉ (s.testEnd unit 0).test.active) ∧
    (checkFits unit check = true → check ≠ 0 →
      exec (.selftestUnitEnd unit check) s = .next (s.testEnd unit check) ∧
      tfind (s.testEnd unit check).test.results unit = some ⟨2, check, s.now⟩)) ∧
  (∀ (unit check : Nat) (s : State), s.skimActive = true → s.skimDue unit = true → s.inGap unit = true →
    unit ∉ s.cal.served → (s.skimUnit unit).ran = none → skimCheckOk check = true → s.skimTakes unit = true →
    s.now < (s.skimUnit unit).next →
    let n := (s.skimUnit unit).slices.getD 0
    (exec (.skimSlice unit true check) s = .next (s.modSkimUnit unit (fun k =>
      { k with slices := some n, tkAbandoned := k.tkAbandoned + 1 }))) ∧
    (exec (.skimSlice unit false check) s = .next (s.modSkimUnit unit (fun k =>
      { k with slices := some n, ran := some check })))) ∧
  (∀ (unit check n : Nat) (s : State), (s.skimUnit unit).ran = some check → (s.skimUnit unit).slices = some n →
    let w := (s.skimUnit unit).worst check
    (n + 1 < skimLen unit → (s.skimEdgeUnit unit).skimUnit unit =
      { s.skimUnit unit with ran := none, slices := some (n + 1), bad := w }) ∧
    (skimLen unit ≤ n + 1 → s.skimEdgeUnit unit = s.skimEnd unit (if w = 0 then 1 else 2) w ∧
      ((s.skimEnd unit (if w = 0 then 1 else 2) w).skimUnit unit).result = (if w = 0 then 1 else 2) ∧
      (s.skimEnd unit (if w = 0 then 1 else 2) w).mbx.dbStatus.getLsbD 17 = true)) ∧
  (∀ (unit : Nat) (s : State), s.skimActive = true → s.skimDue unit = true → (s.skimUnit unit).next ≤ s.now →
    exec (.skimOverdue unit) s = .next (s.skimEnd unit 3 0) ∧ ((s.skimEnd unit 3 0).skimUnit unit).result = 3 ∧
      ((s.skimEnd unit 3 0).skimUnit unit).tkOverdues = (s.skimUnit unit).tkOverdues + 1 ∧
      (s.skimEnd unit 3 0).mbx.dbStatus.getLsbD 17 = true)
end

