-- ==== Sys2Proof/Laws/State.lean ====
section
/-! SUPPORT. What each update of one part of State leaves as it was, field by field, and what it makes of its own field. -/
namespace Sys2Proof
namespace Machine


@[simp] theorem State.modLine_time (s : State) (ch : Nat) (f : Line → Line) : (s.modLine ch f).time = s.time := rfl
@[simp] theorem State.modLine_boot (s : State) (ch : Nat) (f : Line → Line) : (s.modLine ch f).boot = s.boot := rfl
@[simp] theorem State.modLine_fuses (s : State) (ch : Nat) (f : Line → Line) : (s.modLine ch f).fuses = s.fuses := rfl
@[simp] theorem State.modLine_life (s : State) (ch : Nat) (f : Line → Line) : (s.modLine ch f).life = s.life := rfl
@[simp] theorem State.modLine_pins (s : State) (ch : Nat) (f : Line → Line) : (s.modLine ch f).pins = s.pins := rfl
@[simp] theorem State.modLine_mbx (s : State) (ch : Nat) (f : Line → Line) : (s.modLine ch f).mbx = s.mbx := rfl
@[simp] theorem State.modLine_peers (s : State) (ch : Nat) (f : Line → Line) : (s.modLine ch f).peers = s.peers := rfl
@[simp] theorem State.modLine_cfgq (s : State) (ch : Nat) (f : Line → Line) : (s.modLine ch f).cfgq = s.cfgq := rfl
@[simp] theorem State.modLine_cfgDue (s : State) (ch : Nat) (f : Line → Line) : (s.modLine ch f).cfgDue = s.cfgDue := rfl
@[simp] theorem State.modLine_edgeq (s : State) (ch : Nat) (f : Line → Line) : (s.modLine ch f).edgeq = s.edgeq := rfl
@[simp] theorem State.modLine_lines (s : State) (ch : Nat) (f : Line → Line) : (s.modLine ch f).lines = tmod Line.reset s.lines ch f := rfl
@[simp] theorem State.modLine_bundles (s : State) (ch : Nat) (f : Line → Line) : (s.modLine ch f).bundles = s.bundles := rfl
@[simp] theorem State.modLine_drops (s : State) (ch : Nat) (f : Line → Line) : (s.modLine ch f).drops = s.drops := rfl
@[simp] theorem State.modLine_trunks (s : State) (ch : Nat) (f : Line → Line) : (s.modLine ch f).trunks = s.trunks := rfl
@[simp] theorem State.modLine_hosts (s : State) (ch : Nat) (f : Line → Line) : (s.modLine ch f).hosts = s.hosts := rfl
@[simp] theorem State.modLine_bridge (s : State) (ch : Nat) (f : Line → Line) : (s.modLine ch f).bridge = s.bridge := rfl
@[simp] theorem State.modLine_sched (s : State) (ch : Nat) (f : Line → Line) : (s.modLine ch f).sched = s.sched := rfl
@[simp] theorem State.modLine_arrived (s : State) (ch : Nat) (f : Line → Line) : (s.modLine ch f).arrived = s.arrived := rfl
@[simp] theorem State.modLine_cellar (s : State) (ch : Nat) (f : Line → Line) : (s.modLine ch f).cellar = s.cellar := rfl
@[simp] theorem State.modLine_fabric (s : State) (ch : Nat) (f : Line → Line) : (s.modLine ch f).fabric = s.fabric := rfl
@[simp] theorem State.modLine_power (s : State) (ch : Nat) (f : Line → Line) : (s.modLine ch f).power = s.power := rfl
@[simp] theorem State.modLine_clock (s : State) (ch : Nat) (f : Line → Line) : (s.modLine ch f).clock = s.clock := rfl
@[simp] theorem State.modLine_faults (s : State) (ch : Nat) (f : Line → Line) : (s.modLine ch f).faults = s.faults := rfl
@[simp] theorem State.modLine_thermal (s : State) (ch : Nat) (f : Line → Line) : (s.modLine ch f).thermal = s.thermal := rfl
@[simp] theorem State.modLine_din (s : State) (ch : Nat) (f : Line → Line) : (s.modLine ch f).din = s.din := rfl
@[simp] theorem State.modLine_cal (s : State) (ch : Nat) (f : Line → Line) : (s.modLine ch f).cal = s.cal := rfl
@[simp] theorem State.modLine_test (s : State) (ch : Nat) (f : Line → Line) : (s.modLine ch f).test = s.test := rfl
@[simp] theorem State.modLine_skim (s : State) (ch : Nat) (f : Line → Line) : (s.modLine ch f).skim = s.skim := rfl
@[simp] theorem State.modLine_keep (s : State) (ch : Nat) (f : Line → Line) : (s.modLine ch f).keep = s.keep := rfl
@[simp] theorem State.modLine_pending (s : State) (ch : Nat) (f : Line → Line) : (s.modLine ch f).pending = s.pending := rfl

@[simp] theorem State.modBundle_time (s : State) (bg : Nat) (f : Bundle → Bundle) : (s.modBundle bg f).time = s.time := rfl
@[simp] theorem State.modBundle_boot (s : State) (bg : Nat) (f : Bundle → Bundle) : (s.modBundle bg f).boot = s.boot := rfl
@[simp] theorem State.modBundle_fuses (s : State) (bg : Nat) (f : Bundle → Bundle) : (s.modBundle bg f).fuses = s.fuses := rfl
@[simp] theorem State.modBundle_life (s : State) (bg : Nat) (f : Bundle → Bundle) : (s.modBundle bg f).life = s.life := rfl
@[simp] theorem State.modBundle_pins (s : State) (bg : Nat) (f : Bundle → Bundle) : (s.modBundle bg f).pins = s.pins := rfl
@[simp] theorem State.modBundle_mbx (s : State) (bg : Nat) (f : Bundle → Bundle) : (s.modBundle bg f).mbx = s.mbx := rfl
@[simp] theorem State.modBundle_peers (s : State) (bg : Nat) (f : Bundle → Bundle) : (s.modBundle bg f).peers = s.peers := rfl
@[simp] theorem State.modBundle_cfgq (s : State) (bg : Nat) (f : Bundle → Bundle) : (s.modBundle bg f).cfgq = s.cfgq := rfl
@[simp] theorem State.modBundle_cfgDue (s : State) (bg : Nat) (f : Bundle → Bundle) : (s.modBundle bg f).cfgDue = s.cfgDue := rfl
@[simp] theorem State.modBundle_edgeq (s : State) (bg : Nat) (f : Bundle → Bundle) : (s.modBundle bg f).edgeq = s.edgeq := rfl
@[simp] theorem State.modBundle_lines (s : State) (bg : Nat) (f : Bundle → Bundle) : (s.modBundle bg f).lines = s.lines := rfl
@[simp] theorem State.modBundle_bundles (s : State) (bg : Nat) (f : Bundle → Bundle) : (s.modBundle bg f).bundles = tmod Bundle.reset s.bundles bg f := rfl
@[simp] theorem State.modBundle_drops (s : State) (bg : Nat) (f : Bundle → Bundle) : (s.modBundle bg f).drops = s.drops := rfl
@[simp] theorem State.modBundle_trunks (s : State) (bg : Nat) (f : Bundle → Bundle) : (s.modBundle bg f).trunks = s.trunks := rfl
@[simp] theorem State.modBundle_hosts (s : State) (bg : Nat) (f : Bundle → Bundle) : (s.modBundle bg f).hosts = s.hosts := rfl
@[simp] theorem State.modBundle_bridge (s : State) (bg : Nat) (f : Bundle → Bundle) : (s.modBundle bg f).bridge = s.bridge := rfl
@[simp] theorem State.modBundle_sched (s : State) (bg : Nat) (f : Bundle → Bundle) : (s.modBundle bg f).sched = s.sched := rfl
@[simp] theorem State.modBundle_arrived (s : State) (bg : Nat) (f : Bundle → Bundle) : (s.modBundle bg f).arrived = s.arrived := rfl
@[simp] theorem State.modBundle_cellar (s : State) (bg : Nat) (f : Bundle → Bundle) : (s.modBundle bg f).cellar = s.cellar := rfl
@[simp] theorem State.modBundle_fabric (s : State) (bg : Nat) (f : Bundle → Bundle) : (s.modBundle bg f).fabric = s.fabric := rfl
@[simp] theorem State.modBundle_power (s : State) (bg : Nat) (f : Bundle → Bundle) : (s.modBundle bg f).power = s.power := rfl
@[simp] theorem State.modBundle_clock (s : State) (bg : Nat) (f : Bundle → Bundle) : (s.modBundle bg f).clock = s.clock := rfl
@[simp] theorem State.modBundle_faults (s : State) (bg : Nat) (f : Bundle → Bundle) : (s.modBundle bg f).faults = s.faults := rfl
@[simp] theorem State.modBundle_thermal (s : State) (bg : Nat) (f : Bundle → Bundle) : (s.modBundle bg f).thermal = s.thermal := rfl
@[simp] theorem State.modBundle_din (s : State) (bg : Nat) (f : Bundle → Bundle) : (s.modBundle bg f).din = s.din := rfl
@[simp] theorem State.modBundle_cal (s : State) (bg : Nat) (f : Bundle → Bundle) : (s.modBundle bg f).cal = s.cal := rfl
@[simp] theorem State.modBundle_test (s : State) (bg : Nat) (f : Bundle → Bundle) : (s.modBundle bg f).test = s.test := rfl
@[simp] theorem State.modBundle_skim (s : State) (bg : Nat) (f : Bundle → Bundle) : (s.modBundle bg f).skim = s.skim := rfl
@[simp] theorem State.modBundle_keep (s : State) (bg : Nat) (f : Bundle → Bundle) : (s.modBundle bg f).keep = s.keep := rfl
@[simp] theorem State.modBundle_pending (s : State) (bg : Nat) (f : Bundle → Bundle) : (s.modBundle bg f).pending = s.pending := rfl

@[simp] theorem State.modDrop_time (s : State) (ds : Nat) (f : Drop → Drop) : (s.modDrop ds f).time = s.time := rfl
@[simp] theorem State.modDrop_boot (s : State) (ds : Nat) (f : Drop → Drop) : (s.modDrop ds f).boot = s.boot := rfl
@[simp] theorem State.modDrop_fuses (s : State) (ds : Nat) (f : Drop → Drop) : (s.modDrop ds f).fuses = s.fuses := rfl
@[simp] theorem State.modDrop_life (s : State) (ds : Nat) (f : Drop → Drop) : (s.modDrop ds f).life = s.life := rfl
@[simp] theorem State.modDrop_pins (s : State) (ds : Nat) (f : Drop → Drop) : (s.modDrop ds f).pins = s.pins := rfl
@[simp] theorem State.modDrop_mbx (s : State) (ds : Nat) (f : Drop → Drop) : (s.modDrop ds f).mbx = s.mbx := rfl
@[simp] theorem State.modDrop_peers (s : State) (ds : Nat) (f : Drop → Drop) : (s.modDrop ds f).peers = s.peers := rfl
@[simp] theorem State.modDrop_cfgq (s : State) (ds : Nat) (f : Drop → Drop) : (s.modDrop ds f).cfgq = s.cfgq := rfl
@[simp] theorem State.modDrop_cfgDue (s : State) (ds : Nat) (f : Drop → Drop) : (s.modDrop ds f).cfgDue = s.cfgDue := rfl
@[simp] theorem State.modDrop_edgeq (s : State) (ds : Nat) (f : Drop → Drop) : (s.modDrop ds f).edgeq = s.edgeq := rfl
@[simp] theorem State.modDrop_lines (s : State) (ds : Nat) (f : Drop → Drop) : (s.modDrop ds f).lines = s.lines := rfl
@[simp] theorem State.modDrop_bundles (s : State) (ds : Nat) (f : Drop → Drop) : (s.modDrop ds f).bundles = s.bundles := rfl
@[simp] theorem State.modDrop_drops (s : State) (ds : Nat) (f : Drop → Drop) : (s.modDrop ds f).drops = tmod Drop.reset s.drops ds f := rfl
@[simp] theorem State.modDrop_trunks (s : State) (ds : Nat) (f : Drop → Drop) : (s.modDrop ds f).trunks = s.trunks := rfl
@[simp] theorem State.modDrop_hosts (s : State) (ds : Nat) (f : Drop → Drop) : (s.modDrop ds f).hosts = s.hosts := rfl
@[simp] theorem State.modDrop_bridge (s : State) (ds : Nat) (f : Drop → Drop) : (s.modDrop ds f).bridge = s.bridge := rfl
@[simp] theorem State.modDrop_sched (s : State) (ds : Nat) (f : Drop → Drop) : (s.modDrop ds f).sched = s.sched := rfl
@[simp] theorem State.modDrop_arrived (s : State) (ds : Nat) (f : Drop → Drop) : (s.modDrop ds f).arrived = s.arrived := rfl
@[simp] theorem State.modDrop_cellar (s : State) (ds : Nat) (f : Drop → Drop) : (s.modDrop ds f).cellar = s.cellar := rfl
@[simp] theorem State.modDrop_fabric (s : State) (ds : Nat) (f : Drop → Drop) : (s.modDrop ds f).fabric = s.fabric := rfl
@[simp] theorem State.modDrop_power (s : State) (ds : Nat) (f : Drop → Drop) : (s.modDrop ds f).power = s.power := rfl
@[simp] theorem State.modDrop_clock (s : State) (ds : Nat) (f : Drop → Drop) : (s.modDrop ds f).clock = s.clock := rfl
@[simp] theorem State.modDrop_faults (s : State) (ds : Nat) (f : Drop → Drop) : (s.modDrop ds f).faults = s.faults := rfl
@[simp] theorem State.modDrop_thermal (s : State) (ds : Nat) (f : Drop → Drop) : (s.modDrop ds f).thermal = s.thermal := rfl
@[simp] theorem State.modDrop_din (s : State) (ds : Nat) (f : Drop → Drop) : (s.modDrop ds f).din = s.din := rfl
@[simp] theorem State.modDrop_cal (s : State) (ds : Nat) (f : Drop → Drop) : (s.modDrop ds f).cal = s.cal := rfl
@[simp] theorem State.modDrop_test (s : State) (ds : Nat) (f : Drop → Drop) : (s.modDrop ds f).test = s.test := rfl
@[simp] theorem State.modDrop_skim (s : State) (ds : Nat) (f : Drop → Drop) : (s.modDrop ds f).skim = s.skim := rfl
@[simp] theorem State.modDrop_keep (s : State) (ds : Nat) (f : Drop → Drop) : (s.modDrop ds f).keep = s.keep := rfl
@[simp] theorem State.modDrop_pending (s : State) (ds : Nat) (f : Drop → Drop) : (s.modDrop ds f).pending = s.pending := rfl

@[simp] theorem State.modTrunk_time (s : State) (tr : Nat) (f : Trunk → Trunk) : (s.modTrunk tr f).time = s.time := rfl
@[simp] theorem State.modTrunk_boot (s : State) (tr : Nat) (f : Trunk → Trunk) : (s.modTrunk tr f).boot = s.boot := rfl
@[simp] theorem State.modTrunk_fuses (s : State) (tr : Nat) (f : Trunk → Trunk) : (s.modTrunk tr f).fuses = s.fuses := rfl
@[simp] theorem State.modTrunk_life (s : State) (tr : Nat) (f : Trunk → Trunk) : (s.modTrunk tr f).life = s.life := rfl
@[simp] theorem State.modTrunk_pins (s : State) (tr : Nat) (f : Trunk → Trunk) : (s.modTrunk tr f).pins = s.pins := rfl
@[simp] theorem State.modTrunk_mbx (s : State) (tr : Nat) (f : Trunk → Trunk) : (s.modTrunk tr f).mbx = s.mbx := rfl
@[simp] theorem State.modTrunk_peers (s : State) (tr : Nat) (f : Trunk → Trunk) : (s.modTrunk tr f).peers = s.peers := rfl
@[simp] theorem State.modTrunk_cfgq (s : State) (tr : Nat) (f : Trunk → Trunk) : (s.modTrunk tr f).cfgq = s.cfgq := rfl
@[simp] theorem State.modTrunk_cfgDue (s : State) (tr : Nat) (f : Trunk → Trunk) : (s.modTrunk tr f).cfgDue = s.cfgDue := rfl
@[simp] theorem State.modTrunk_edgeq (s : State) (tr : Nat) (f : Trunk → Trunk) : (s.modTrunk tr f).edgeq = s.edgeq := rfl
@[simp] theorem State.modTrunk_lines (s : State) (tr : Nat) (f : Trunk → Trunk) : (s.modTrunk tr f).lines = s.lines := rfl
@[simp] theorem State.modTrunk_bundles (s : State) (tr : Nat) (f : Trunk → Trunk) : (s.modTrunk tr f).bundles = s.bundles := rfl
@[simp] theorem State.modTrunk_drops (s : State) (tr : Nat) (f : Trunk → Trunk) : (s.modTrunk tr f).drops = s.drops := rfl
@[simp] theorem State.modTrunk_trunks (s : State) (tr : Nat) (f : Trunk → Trunk) : (s.modTrunk tr f).trunks = tmod Trunk.reset s.trunks tr f := rfl
@[simp] theorem State.modTrunk_hosts (s : State) (tr : Nat) (f : Trunk → Trunk) : (s.modTrunk tr f).hosts = s.hosts := rfl
@[simp] theorem State.modTrunk_bridge (s : State) (tr : Nat) (f : Trunk → Trunk) : (s.modTrunk tr f).bridge = s.bridge := rfl
@[simp] theorem State.modTrunk_sched (s : State) (tr : Nat) (f : Trunk → Trunk) : (s.modTrunk tr f).sched = s.sched := rfl
@[simp] theorem State.modTrunk_arrived (s : State) (tr : Nat) (f : Trunk → Trunk) : (s.modTrunk tr f).arrived = s.arrived := rfl
@[simp] theorem State.modTrunk_cellar (s : State) (tr : Nat) (f : Trunk → Trunk) : (s.modTrunk tr f).cellar = s.cellar := rfl
@[simp] theorem State.modTrunk_fabric (s : State) (tr : Nat) (f : Trunk → Trunk) : (s.modTrunk tr f).fabric = s.fabric := rfl
@[simp] theorem State.modTrunk_power (s : State) (tr : Nat) (f : Trunk → Trunk) : (s.modTrunk tr f).power = s.power := rfl
@[simp] theorem State.modTrunk_clock (s : State) (tr : Nat) (f : Trunk → Trunk) : (s.modTrunk tr f).clock = s.clock := rfl
@[simp] theorem State.modTrunk_faults (s : State) (tr : Nat) (f : Trunk → Trunk) : (s.modTrunk tr f).faults = s.faults := rfl
@[simp] theorem State.modTrunk_thermal (s : State) (tr : Nat) (f : Trunk → Trunk) : (s.modTrunk tr f).thermal = s.thermal := rfl
@[simp] theorem State.modTrunk_din (s : State) (tr : Nat) (f : Trunk → Trunk) : (s.modTrunk tr f).din = s.din := rfl
@[simp] theorem State.modTrunk_cal (s : State) (tr : Nat) (f : Trunk → Trunk) : (s.modTrunk tr f).cal = s.cal := rfl
@[simp] theorem State.modTrunk_test (s : State) (tr : Nat) (f : Trunk → Trunk) : (s.modTrunk tr f).test = s.test := rfl
@[simp] theorem State.modTrunk_skim (s : State) (tr : Nat) (f : Trunk → Trunk) : (s.modTrunk tr f).skim = s.skim := rfl
@[simp] theorem State.modTrunk_keep (s : State) (tr : Nat) (f : Trunk → Trunk) : (s.modTrunk tr f).keep = s.keep := rfl
@[simp] theorem State.modTrunk_pending (s : State) (tr : Nat) (f : Trunk → Trunk) : (s.modTrunk tr f).pending = s.pending := rfl

@[simp] theorem State.modHost_time (s : State) (g : Nat) (f : LaneGroup → LaneGroup) : (s.modHost g f).time = s.time := rfl
@[simp] theorem State.modHost_boot (s : State) (g : Nat) (f : LaneGroup → LaneGroup) : (s.modHost g f).boot = s.boot := rfl
@[simp] theorem State.modHost_fuses (s : State) (g : Nat) (f : LaneGroup → LaneGroup) : (s.modHost g f).fuses = s.fuses := rfl
@[simp] theorem State.modHost_life (s : State) (g : Nat) (f : LaneGroup → LaneGroup) : (s.modHost g f).life = s.life := rfl
@[simp] theorem State.modHost_pins (s : State) (g : Nat) (f : LaneGroup → LaneGroup) : (s.modHost g f).pins = s.pins := rfl
@[simp] theorem State.modHost_mbx (s : State) (g : Nat) (f : LaneGroup → LaneGroup) : (s.modHost g f).mbx = s.mbx := rfl
@[simp] theorem State.modHost_peers (s : State) (g : Nat) (f : LaneGroup → LaneGroup) : (s.modHost g f).peers = s.peers := rfl
@[simp] theorem State.modHost_cfgq (s : State) (g : Nat) (f : LaneGroup → LaneGroup) : (s.modHost g f).cfgq = s.cfgq := rfl
@[simp] theorem State.modHost_cfgDue (s : State) (g : Nat) (f : LaneGroup → LaneGroup) : (s.modHost g f).cfgDue = s.cfgDue := rfl
@[simp] theorem State.modHost_edgeq (s : State) (g : Nat) (f : LaneGroup → LaneGroup) : (s.modHost g f).edgeq = s.edgeq := rfl
@[simp] theorem State.modHost_lines (s : State) (g : Nat) (f : LaneGroup → LaneGroup) : (s.modHost g f).lines = s.lines := rfl
@[simp] theorem State.modHost_bundles (s : State) (g : Nat) (f : LaneGroup → LaneGroup) : (s.modHost g f).bundles = s.bundles := rfl
@[simp] theorem State.modHost_drops (s : State) (g : Nat) (f : LaneGroup → LaneGroup) : (s.modHost g f).drops = s.drops := rfl
@[simp] theorem State.modHost_trunks (s : State) (g : Nat) (f : LaneGroup → LaneGroup) : (s.modHost g f).trunks = s.trunks := rfl
@[simp] theorem State.modHost_hosts (s : State) (g : Nat) (f : LaneGroup → LaneGroup) : (s.modHost g f).hosts = tmod LaneGroup.reset s.hosts g f := rfl
@[simp] theorem State.modHost_bridge (s : State) (g : Nat) (f : LaneGroup → LaneGroup) : (s.modHost g f).bridge = s.bridge := rfl
@[simp] theorem State.modHost_sched (s : State) (g : Nat) (f : LaneGroup → LaneGroup) : (s.modHost g f).sched = s.sched := rfl
@[simp] theorem State.modHost_arrived (s : State) (g : Nat) (f : LaneGroup → LaneGroup) : (s.modHost g f).arrived = s.arrived := rfl
@[simp] theorem State.modHost_cellar (s : State) (g : Nat) (f : LaneGroup → LaneGroup) : (s.modHost g f).cellar = s.cellar := rfl
@[simp] theorem State.modHost_fabric (s : State) (g : Nat) (f : LaneGroup → LaneGroup) : (s.modHost g f).fabric = s.fabric := rfl
@[simp] theorem State.modHost_power (s : State) (g : Nat) (f : LaneGroup → LaneGroup) : (s.modHost g f).power = s.power := rfl
@[simp] theorem State.modHost_clock (s : State) (g : Nat) (f : LaneGroup → LaneGroup) : (s.modHost g f).clock = s.clock := rfl
@[simp] theorem State.modHost_faults (s : State) (g : Nat) (f : LaneGroup → LaneGroup) : (s.modHost g f).faults = s.faults := rfl
@[simp] theorem State.modHost_thermal (s : State) (g : Nat) (f : LaneGroup → LaneGroup) : (s.modHost g f).thermal = s.thermal := rfl
@[simp] theorem State.modHost_din (s : State) (g : Nat) (f : LaneGroup → LaneGroup) : (s.modHost g f).din = s.din := rfl
@[simp] theorem State.modHost_cal (s : State) (g : Nat) (f : LaneGroup → LaneGroup) : (s.modHost g f).cal = s.cal := rfl
@[simp] theorem State.modHost_test (s : State) (g : Nat) (f : LaneGroup → LaneGroup) : (s.modHost g f).test = s.test := rfl
@[simp] theorem State.modHost_skim (s : State) (g : Nat) (f : LaneGroup → LaneGroup) : (s.modHost g f).skim = s.skim := rfl
@[simp] theorem State.modHost_keep (s : State) (g : Nat) (f : LaneGroup → LaneGroup) : (s.modHost g f).keep = s.keep := rfl
@[simp] theorem State.modHost_pending (s : State) (g : Nat) (f : LaneGroup → LaneGroup) : (s.modHost g f).pending = s.pending := rfl

@[simp] theorem State.modMbx_time (s : State) (f : MbxSt → MbxSt) : (s.modMbx f).time = s.time := rfl
@[simp] theorem State.modMbx_boot (s : State) (f : MbxSt → MbxSt) : (s.modMbx f).boot = s.boot := rfl
@[simp] theorem State.modMbx_fuses (s : State) (f : MbxSt → MbxSt) : (s.modMbx f).fuses = s.fuses := rfl
@[simp] theorem State.modMbx_life (s : State) (f : MbxSt → MbxSt) : (s.modMbx f).life = s.life := rfl
@[simp] theorem State.modMbx_pins (s : State) (f : MbxSt → MbxSt) : (s.modMbx f).pins = s.pins := rfl
@[simp] theorem State.modMbx_mbx (s : State) (f : MbxSt → MbxSt) : (s.modMbx f).mbx = f s.mbx := rfl
@[simp] theorem State.modMbx_peers (s : State) (f : MbxSt → MbxSt) : (s.modMbx f).peers = s.peers := rfl
@[simp] theorem State.modMbx_cfgq (s : State) (f : MbxSt → MbxSt) : (s.modMbx f).cfgq = s.cfgq := rfl
@[simp] theorem State.modMbx_cfgDue (s : State) (f : MbxSt → MbxSt) : (s.modMbx f).cfgDue = s.cfgDue := rfl
@[simp] theorem State.modMbx_edgeq (s : State) (f : MbxSt → MbxSt) : (s.modMbx f).edgeq = s.edgeq := rfl
@[simp] theorem State.modMbx_lines (s : State) (f : MbxSt → MbxSt) : (s.modMbx f).lines = s.lines := rfl
@[simp] theorem State.modMbx_bundles (s : State) (f : MbxSt → MbxSt) : (s.modMbx f).bundles = s.bundles := rfl
@[simp] theorem State.modMbx_drops (s : State) (f : MbxSt → MbxSt) : (s.modMbx f).drops = s.drops := rfl
@[simp] theorem State.modMbx_trunks (s : State) (f : MbxSt → MbxSt) : (s.modMbx f).trunks = s.trunks := rfl
@[simp] theorem State.modMbx_hosts (s : State) (f : MbxSt → MbxSt) : (s.modMbx f).hosts = s.hosts := rfl
@[simp] theorem State.modMbx_bridge (s : State) (f : MbxSt → MbxSt) : (s.modMbx f).bridge = s.bridge := rfl
@[simp] theorem State.modMbx_sched (s : State) (f : MbxSt → MbxSt) : (s.modMbx f).sched = s.sched := rfl
@[simp] theorem State.modMbx_arrived (s : State) (f : MbxSt → MbxSt) : (s.modMbx f).arrived = s.arrived := rfl
@[simp] theorem State.modMbx_cellar (s : State) (f : MbxSt → MbxSt) : (s.modMbx f).cellar = s.cellar := rfl
@[simp] theorem State.modMbx_fabric (s : State) (f : MbxSt → MbxSt) : (s.modMbx f).fabric = s.fabric := rfl
@[simp] theorem State.modMbx_power (s : State) (f : MbxSt → MbxSt) : (s.modMbx f).power = s.power := rfl
@[simp] theorem State.modMbx_clock (s : State) (f : MbxSt → MbxSt) : (s.modMbx f).clock = s.clock := rfl
@[simp] theorem State.modMbx_faults (s : State) (f : MbxSt → MbxSt) : (s.modMbx f).faults = s.faults := rfl
@[simp] theorem State.modMbx_thermal (s : State) (f : MbxSt → MbxSt) : (s.modMbx f).thermal = s.thermal := rfl
@[simp] theorem State.modMbx_din (s : State) (f : MbxSt → MbxSt) : (s.modMbx f).din = s.din := rfl
@[simp] theorem State.modMbx_cal (s : State) (f : MbxSt → MbxSt) : (s.modMbx f).cal = s.cal := rfl
@[simp] theorem State.modMbx_test (s : State) (f : MbxSt → MbxSt) : (s.modMbx f).test = s.test := rfl
@[simp] theorem State.modMbx_skim (s : State) (f : MbxSt → MbxSt) : (s.modMbx f).skim = s.skim := rfl
@[simp] theorem State.modMbx_keep (s : State) (f : MbxSt → MbxSt) : (s.modMbx f).keep = s.keep := rfl
@[simp] theorem State.modMbx_pending (s : State) (f : MbxSt → MbxSt) : (s.modMbx f).pending = s.pending := rfl

@[simp] theorem State.modChan_time (s : State) (n : Nat) (f : Chan → Chan) : (s.modChan n f).time = s.time := rfl
@[simp] theorem State.modChan_boot (s : State) (n : Nat) (f : Chan → Chan) : (s.modChan n f).boot = s.boot := rfl
@[simp] theorem State.modChan_fuses (s : State) (n : Nat) (f : Chan → Chan) : (s.modChan n f).fuses = s.fuses := rfl
@[simp] theorem State.modChan_life (s : State) (n : Nat) (f : Chan → Chan) : (s.modChan n f).life = s.life := rfl
@[simp] theorem State.modChan_pins (s : State) (n : Nat) (f : Chan → Chan) : (s.modChan n f).pins = s.pins := rfl
@[simp] theorem State.modChan_mbx (s : State) (n : Nat) (f : Chan → Chan) : (s.modChan n f).mbx = { s.mbx with chans := lmod s.mbx.chans n f } := rfl
@[simp] theorem State.modChan_peers (s : State) (n : Nat) (f : Chan → Chan) : (s.modChan n f).peers = s.peers := rfl
@[simp] theorem State.modChan_cfgq (s : State) (n : Nat) (f : Chan → Chan) : (s.modChan n f).cfgq = s.cfgq := rfl
@[simp] theorem State.modChan_cfgDue (s : State) (n : Nat) (f : Chan → Chan) : (s.modChan n f).cfgDue = s.cfgDue := rfl
@[simp] theorem State.modChan_edgeq (s : State) (n : Nat) (f : Chan → Chan) : (s.modChan n f).edgeq = s.edgeq := rfl
@[simp] theorem State.modChan_lines (s : State) (n : Nat) (f : Chan → Chan) : (s.modChan n f).lines = s.lines := rfl
@[simp] theorem State.modChan_bundles (s : State) (n : Nat) (f : Chan → Chan) : (s.modChan n f).bundles = s.bundles := rfl
@[simp] theorem State.modChan_drops (s : State) (n : Nat) (f : Chan → Chan) : (s.modChan n f).drops = s.drops := rfl
@[simp] theorem State.modChan_trunks (s : State) (n : Nat) (f : Chan → Chan) : (s.modChan n f).trunks = s.trunks := rfl
@[simp] theorem State.modChan_hosts (s : State) (n : Nat) (f : Chan → Chan) : (s.modChan n f).hosts = s.hosts := rfl
@[simp] theorem State.modChan_bridge (s : State) (n : Nat) (f : Chan → Chan) : (s.modChan n f).bridge = s.bridge := rfl
@[simp] theorem State.modChan_sched (s : State) (n : Nat) (f : Chan → Chan) : (s.modChan n f).sched = s.sched := rfl
@[simp] theorem State.modChan_arrived (s : State) (n : Nat) (f : Chan → Chan) : (s.modChan n f).arrived = s.arrived := rfl
@[simp] theorem State.modChan_cellar (s : State) (n : Nat) (f : Chan → Chan) : (s.modChan n f).cellar = s.cellar := rfl
@[simp] theorem State.modChan_fabric (s : State) (n : Nat) (f : Chan → Chan) : (s.modChan n f).fabric = s.fabric := rfl
@[simp] theorem State.modChan_power (s : State) (n : Nat) (f : Chan → Chan) : (s.modChan n f).power = s.power := rfl
@[simp] theorem State.modChan_clock (s : State) (n : Nat) (f : Chan → Chan) : (s.modChan n f).clock = s.clock := rfl
@[simp] theorem State.modChan_faults (s : State) (n : Nat) (f : Chan → Chan) : (s.modChan n f).faults = s.faults := rfl
@[simp] theorem State.modChan_thermal (s : State) (n : Nat) (f : Chan → Chan) : (s.modChan n f).thermal = s.thermal := rfl
@[simp] theorem State.modChan_din (s : State) (n : Nat) (f : Chan → Chan) : (s.modChan n f).din = s.din := rfl
@[simp] theorem State.modChan_cal (s : State) (n : Nat) (f : Chan → Chan) : (s.modChan n f).cal = s.cal := rfl
@[simp] theorem State.modChan_test (s : State) (n : Nat) (f : Chan → Chan) : (s.modChan n f).test = s.test := rfl
@[simp] theorem State.modChan_skim (s : State) (n : Nat) (f : Chan → Chan) : (s.modChan n f).skim = s.skim := rfl
@[simp] theorem State.modChan_keep (s : State) (n : Nat) (f : Chan → Chan) : (s.modChan n f).keep = s.keep := rfl
@[simp] theorem State.modChan_pending (s : State) (n : Nat) (f : Chan → Chan) : (s.modChan n f).pending = s.pending := rfl

@[simp] theorem State.modBoot_time (s : State) (f : BootSt → BootSt) : (s.modBoot f).time = s.time := rfl
@[simp] theorem State.modBoot_boot (s : State) (f : BootSt → BootSt) : (s.modBoot f).boot = f s.boot := rfl
@[simp] theorem State.modBoot_fuses (s : State) (f : BootSt → BootSt) : (s.modBoot f).fuses = s.fuses := rfl
@[simp] theorem State.modBoot_life (s : State) (f : BootSt → BootSt) : (s.modBoot f).life = s.life := rfl
@[simp] theorem State.modBoot_pins (s : State) (f : BootSt → BootSt) : (s.modBoot f).pins = s.pins := rfl
@[simp] theorem State.modBoot_mbx (s : State) (f : BootSt → BootSt) : (s.modBoot f).mbx = s.mbx := rfl
@[simp] theorem State.modBoot_peers (s : State) (f : BootSt → BootSt) : (s.modBoot f).peers = s.peers := rfl
@[simp] theorem State.modBoot_cfgq (s : State) (f : BootSt → BootSt) : (s.modBoot f).cfgq = s.cfgq := rfl
@[simp] theorem State.modBoot_cfgDue (s : State) (f : BootSt → BootSt) : (s.modBoot f).cfgDue = s.cfgDue := rfl
@[simp] theorem State.modBoot_edgeq (s : State) (f : BootSt → BootSt) : (s.modBoot f).edgeq = s.edgeq := rfl
@[simp] theorem State.modBoot_lines (s : State) (f : BootSt → BootSt) : (s.modBoot f).lines = s.lines := rfl
@[simp] theorem State.modBoot_bundles (s : State) (f : BootSt → BootSt) : (s.modBoot f).bundles = s.bundles := rfl
@[simp] theorem State.modBoot_drops (s : State) (f : BootSt → BootSt) : (s.modBoot f).drops = s.drops := rfl
@[simp] theorem State.modBoot_trunks (s : State) (f : BootSt → BootSt) : (s.modBoot f).trunks = s.trunks := rfl
@[simp] theorem State.modBoot_hosts (s : State) (f : BootSt → BootSt) : (s.modBoot f).hosts = s.hosts := rfl
@[simp] theorem State.modBoot_bridge (s : State) (f : BootSt → BootSt) : (s.modBoot f).bridge = s.bridge := rfl
@[simp] theorem State.modBoot_sched (s : State) (f : BootSt → BootSt) : (s.modBoot f).sched = s.sched := rfl
@[simp] theorem State.modBoot_arrived (s : State) (f : BootSt → BootSt) : (s.modBoot f).arrived = s.arrived := rfl
@[simp] theorem State.modBoot_cellar (s : State) (f : BootSt → BootSt) : (s.modBoot f).cellar = s.cellar := rfl
@[simp] theorem State.modBoot_fabric (s : State) (f : BootSt → BootSt) : (s.modBoot f).fabric = s.fabric := rfl
@[simp] theorem State.modBoot_power (s : State) (f : BootSt → BootSt) : (s.modBoot f).power = s.power := rfl
@[simp] theorem State.modBoot_clock (s : State) (f : BootSt → BootSt) : (s.modBoot f).clock = s.clock := rfl
@[simp] theorem State.modBoot_faults (s : State) (f : BootSt → BootSt) : (s.modBoot f).faults = s.faults := rfl
@[simp] theorem State.modBoot_thermal (s : State) (f : BootSt → BootSt) : (s.modBoot f).thermal = s.thermal := rfl
@[simp] theorem State.modBoot_din (s : State) (f : BootSt → BootSt) : (s.modBoot f).din = s.din := rfl
@[simp] theorem State.modBoot_cal (s : State) (f : BootSt → BootSt) : (s.modBoot f).cal = s.cal := rfl
@[simp] theorem State.modBoot_test (s : State) (f : BootSt → BootSt) : (s.modBoot f).test = s.test := rfl
@[simp] theorem State.modBoot_skim (s : State) (f : BootSt → BootSt) : (s.modBoot f).skim = s.skim := rfl
@[simp] theorem State.modBoot_keep (s : State) (f : BootSt → BootSt) : (s.modBoot f).keep = s.keep := rfl
@[simp] theorem State.modBoot_pending (s : State) (f : BootSt → BootSt) : (s.modBoot f).pending = s.pending := rfl

@[simp] theorem State.modPins_time (s : State) (f : Pins → Pins) : (s.modPins f).time = s.time := rfl
@[simp] theorem State.modPins_boot (s : State) (f : Pins → Pins) : (s.modPins f).boot = s.boot := rfl
@[simp] theorem State.modPins_fuses (s : State) (f : Pins → Pins) : (s.modPins f).fuses = s.fuses := rfl
@[simp] theorem State.modPins_life (s : State) (f : Pins → Pins) : (s.modPins f).life = s.life := rfl
@[simp] theorem State.modPins_pins (s : State) (f : Pins → Pins) : (s.modPins f).pins = f s.pins := rfl
@[simp] theorem State.modPins_mbx (s : State) (f : Pins → Pins) : (s.modPins f).mbx = s.mbx := rfl
@[simp] theorem State.modPins_peers (s : State) (f : Pins → Pins) : (s.modPins f).peers = s.peers := rfl
@[simp] theorem State.modPins_cfgq (s : State) (f : Pins → Pins) : (s.modPins f).cfgq = s.cfgq := rfl
@[simp] theorem State.modPins_cfgDue (s : State) (f : Pins → Pins) : (s.modPins f).cfgDue = s.cfgDue := rfl
@[simp] theorem State.modPins_edgeq (s : State) (f : Pins → Pins) : (s.modPins f).edgeq = s.edgeq := rfl
@[simp] theorem State.modPins_lines (s : State) (f : Pins → Pins) : (s.modPins f).lines = s.lines := rfl
@[simp] theorem State.modPins_bundles (s : State) (f : Pins → Pins) : (s.modPins f).bundles = s.bundles := rfl
@[simp] theorem State.modPins_drops (s : State) (f : Pins → Pins) : (s.modPins f).drops = s.drops := rfl
@[simp] theorem State.modPins_trunks (s : State) (f : Pins → Pins) : (s.modPins f).trunks = s.trunks := rfl
@[simp] theorem State.modPins_hosts (s : State) (f : Pins → Pins) : (s.modPins f).hosts = s.hosts := rfl
@[simp] theorem State.modPins_bridge (s : State) (f : Pins → Pins) : (s.modPins f).bridge = s.bridge := rfl
@[simp] theorem State.modPins_sched (s : State) (f : Pins → Pins) : (s.modPins f).sched = s.sched := rfl
@[simp] theorem State.modPins_arrived (s : State) (f : Pins → Pins) : (s.modPins f).arrived = s.arrived := rfl
@[simp] theorem State.modPins_cellar (s : State) (f : Pins → Pins) : (s.modPins f).cellar = s.cellar := rfl
@[simp] theorem State.modPins_fabric (s : State) (f : Pins → Pins) : (s.modPins f).fabric = s.fabric := rfl
@[simp] theorem State.modPins_power (s : State) (f : Pins → Pins) : (s.modPins f).power = s.power := rfl
@[simp] theorem State.modPins_clock (s : State) (f : Pins → Pins) : (s.modPins f).clock = s.clock := rfl
@[simp] theorem State.modPins_faults (s : State) (f : Pins → Pins) : (s.modPins f).faults = s.faults := rfl
@[simp] theorem State.modPins_thermal (s : State) (f : Pins → Pins) : (s.modPins f).thermal = s.thermal := rfl
@[simp] theorem State.modPins_din (s : State) (f : Pins → Pins) : (s.modPins f).din = s.din := rfl
@[simp] theorem State.modPins_cal (s : State) (f : Pins → Pins) : (s.modPins f).cal = s.cal := rfl
@[simp] theorem State.modPins_test (s : State) (f : Pins → Pins) : (s.modPins f).test = s.test := rfl
@[simp] theorem State.modPins_skim (s : State) (f : Pins → Pins) : (s.modPins f).skim = s.skim := rfl
@[simp] theorem State.modPins_keep (s : State) (f : Pins → Pins) : (s.modPins f).keep = s.keep := rfl
@[simp] theorem State.modPins_pending (s : State) (f : Pins → Pins) : (s.modPins f).pending = s.pending := rfl

@[simp] theorem State.modPower_time (s : State) (f : PowerSt → PowerSt) : (s.modPower f).time = s.time := rfl
@[simp] theorem State.modPower_boot (s : State) (f : PowerSt → PowerSt) : (s.modPower f).boot = s.boot := rfl
@[simp] theorem State.modPower_fuses (s : State) (f : PowerSt → PowerSt) : (s.modPower f).fuses = s.fuses := rfl
@[simp] theorem State.modPower_life (s : State) (f : PowerSt → PowerSt) : (s.modPower f).life = s.life := rfl
@[simp] theorem State.modPower_pins (s : State) (f : PowerSt → PowerSt) : (s.modPower f).pins = s.pins := rfl
@[simp] theorem State.modPower_mbx (s : State) (f : PowerSt → PowerSt) : (s.modPower f).mbx = s.mbx := rfl
@[simp] theorem State.modPower_peers (s : State) (f : PowerSt → PowerSt) : (s.modPower f).peers = s.peers := rfl
@[simp] theorem State.modPower_cfgq (s : State) (f : PowerSt → PowerSt) : (s.modPower f).cfgq = s.cfgq := rfl
@[simp] theorem State.modPower_cfgDue (s : State) (f : PowerSt → PowerSt) : (s.modPower f).cfgDue = s.cfgDue := rfl
@[simp] theorem State.modPower_edgeq (s : State) (f : PowerSt → PowerSt) : (s.modPower f).edgeq = s.edgeq := rfl
@[simp] theorem State.modPower_lines (s : State) (f : PowerSt → PowerSt) : (s.modPower f).lines = s.lines := rfl
@[simp] theorem State.modPower_bundles (s : State) (f : PowerSt → PowerSt) : (s.modPower f).bundles = s.bundles := rfl
@[simp] theorem State.modPower_drops (s : State) (f : PowerSt → PowerSt) : (s.modPower f).drops = s.drops := rfl
@[simp] theorem State.modPower_trunks (s : State) (f : PowerSt → PowerSt) : (s.modPower f).trunks = s.trunks := rfl
@[simp] theorem State.modPower_hosts (s : State) (f : PowerSt → PowerSt) : (s.modPower f).hosts = s.hosts := rfl
@[simp] theorem State.modPower_bridge (s : State) (f : PowerSt → PowerSt) : (s.modPower f).bridge = s.bridge := rfl
@[simp] theorem State.modPower_sched (s : State) (f : PowerSt → PowerSt) : (s.modPower f).sched = s.sched := rfl
@[simp] theorem State.modPower_arrived (s : State) (f : PowerSt → PowerSt) : (s.modPower f).arrived = s.arrived := rfl
@[simp] theorem State.modPower_cellar (s : State) (f : PowerSt → PowerSt) : (s.modPower f).cellar = s.cellar := rfl
@[simp] theorem State.modPower_fabric (s : State) (f : PowerSt → PowerSt) : (s.modPower f).fabric = s.fabric := rfl
@[simp] theorem State.modPower_power (s : State) (f : PowerSt → PowerSt) : (s.modPower f).power = f s.power := rfl
@[simp] theorem State.modPower_clock (s : State) (f : PowerSt → PowerSt) : (s.modPower f).clock = s.clock := rfl
@[simp] theorem State.modPower_faults (s : State) (f : PowerSt → PowerSt) : (s.modPower f).faults = s.faults := rfl
@[simp] theorem State.modPower_thermal (s : State) (f : PowerSt → PowerSt) : (s.modPower f).thermal = s.thermal := rfl
@[simp] theorem State.modPower_din (s : State) (f : PowerSt → PowerSt) : (s.modPower f).din = s.din := rfl
@[simp] theorem State.modPower_cal (s : State) (f : PowerSt → PowerSt) : (s.modPower f).cal = s.cal := rfl
@[simp] theorem State.modPower_test (s : State) (f : PowerSt → PowerSt) : (s.modPower f).test = s.test := rfl
@[simp] theorem State.modPower_skim (s : State) (f : PowerSt → PowerSt) : (s.modPower f).skim = s.skim := rfl
@[simp] theorem State.modPower_keep (s : State) (f : PowerSt → PowerSt) : (s.modPower f).keep = s.keep := rfl
@[simp] theorem State.modPower_pending (s : State) (f : PowerSt → PowerSt) : (s.modPower f).pending = s.pending := rfl

@[simp] theorem State.modClock_time (s : State) (f : ClockSt → ClockSt) : (s.modClock f).time = s.time := rfl
@[simp] theorem State.modClock_boot (s : State) (f : ClockSt → ClockSt) : (s.modClock f).boot = s.boot := rfl
@[simp] theorem State.modClock_fuses (s : State) (f : ClockSt → ClockSt) : (s.modClock f).fuses = s.fuses := rfl
@[simp] theorem State.modClock_life (s : State) (f : ClockSt → ClockSt) : (s.modClock f).life = s.life := rfl
@[simp] theorem State.modClock_pins (s : State) (f : ClockSt → ClockSt) : (s.modClock f).pins = s.pins := rfl
@[simp] theorem State.modClock_mbx (s : State) (f : ClockSt → ClockSt) : (s.modClock f).mbx = s.mbx := rfl
@[simp] theorem State.modClock_peers (s : State) (f : ClockSt → ClockSt) : (s.modClock f).peers = s.peers := rfl
@[simp] theorem State.modClock_cfgq (s : State) (f : ClockSt → ClockSt) : (s.modClock f).cfgq = s.cfgq := rfl
@[simp] theorem State.modClock_cfgDue (s : State) (f : ClockSt → ClockSt) : (s.modClock f).cfgDue = s.cfgDue := rfl
@[simp] theorem State.modClock_edgeq (s : State) (f : ClockSt → ClockSt) : (s.modClock f).edgeq = s.edgeq := rfl
@[simp] theorem State.modClock_lines (s : State) (f : ClockSt → ClockSt) : (s.modClock f).lines = s.lines := rfl
@[simp] theorem State.modClock_bundles (s : State) (f : ClockSt → ClockSt) : (s.modClock f).bundles = s.bundles := rfl
@[simp] theorem State.modClock_drops (s : State) (f : ClockSt → ClockSt) : (s.modClock f).drops = s.drops := rfl
@[simp] theorem State.modClock_trunks (s : State) (f : ClockSt → ClockSt) : (s.modClock f).trunks = s.trunks := rfl
@[simp] theorem State.modClock_hosts (s : State) (f : ClockSt → ClockSt) : (s.modClock f).hosts = s.hosts := rfl
@[simp] theorem State.modClock_bridge (s : State) (f : ClockSt → ClockSt) : (s.modClock f).bridge = s.bridge := rfl
@[simp] theorem State.modClock_sched (s : State) (f : ClockSt → ClockSt) : (s.modClock f).sched = s.sched := rfl
@[simp] theorem State.modClock_arrived (s : State) (f : ClockSt → ClockSt) : (s.modClock f).arrived = s.arrived := rfl
@[simp] theorem State.modClock_cellar (s : State) (f : ClockSt → ClockSt) : (s.modClock f).cellar = s.cellar := rfl
@[simp] theorem State.modClock_fabric (s : State) (f : ClockSt → ClockSt) : (s.modClock f).fabric = s.fabric := rfl
@[simp] theorem State.modClock_power (s : State) (f : ClockSt → ClockSt) : (s.modClock f).power = s.power := rfl
@[simp] theorem State.modClock_clock (s : State) (f : ClockSt → ClockSt) : (s.modClock f).clock = f s.clock := rfl
@[simp] theorem State.modClock_faults (s : State) (f : ClockSt → ClockSt) : (s.modClock f).faults = s.faults := rfl
@[simp] theorem State.modClock_thermal (s : State) (f : ClockSt → ClockSt) : (s.modClock f).thermal = s.thermal := rfl
@[simp] theorem State.modClock_din (s : State) (f : ClockSt → ClockSt) : (s.modClock f).din = s.din := rfl
@[simp] theorem State.modClock_cal (s : State) (f : ClockSt → ClockSt) : (s.modClock f).cal = s.cal := rfl
@[simp] theorem State.modClock_test (s : State) (f : ClockSt → ClockSt) : (s.modClock f).test = s.test := rfl
@[simp] theorem State.modClock_skim (s : State) (f : ClockSt → ClockSt) : (s.modClock f).skim = s.skim := rfl
@[simp] theorem State.modClock_keep (s : State) (f : ClockSt → ClockSt) : (s.modClock f).keep = s.keep := rfl
@[simp] theorem State.modClock_pending (s : State) (f : ClockSt → ClockSt) : (s.modClock f).pending = s.pending := rfl

@[simp] theorem State.modFaults_time (s : State) (f : FaultSt → FaultSt) : (s.modFaults f).time = s.time := rfl
@[simp] theorem State.modFaults_boot (s : State) (f : FaultSt → FaultSt) : (s.modFaults f).boot = s.boot := rfl
@[simp] theorem State.modFaults_fuses (s : State) (f : FaultSt → FaultSt) : (s.modFaults f).fuses = s.fuses := rfl
@[simp] theorem State.modFaults_life (s : State) (f : FaultSt → FaultSt) : (s.modFaults f).life = s.life := rfl
@[simp] theorem State.modFaults_pins (s : State) (f : FaultSt → FaultSt) : (s.modFaults f).pins = s.pins := rfl
@[simp] theorem State.modFaults_mbx (s : State) (f : FaultSt → FaultSt) : (s.modFaults f).mbx = s.mbx := rfl
@[simp] theorem State.modFaults_peers (s : State) (f : FaultSt → FaultSt) : (s.modFaults f).peers = s.peers := rfl
@[simp] theorem State.modFaults_cfgq (s : State) (f : FaultSt → FaultSt) : (s.modFaults f).cfgq = s.cfgq := rfl
@[simp] theorem State.modFaults_cfgDue (s : State) (f : FaultSt → FaultSt) : (s.modFaults f).cfgDue = s.cfgDue := rfl
@[simp] theorem State.modFaults_edgeq (s : State) (f : FaultSt → FaultSt) : (s.modFaults f).edgeq = s.edgeq := rfl
@[simp] theorem State.modFaults_lines (s : State) (f : FaultSt → FaultSt) : (s.modFaults f).lines = s.lines := rfl
@[simp] theorem State.modFaults_bundles (s : State) (f : FaultSt → FaultSt) : (s.modFaults f).bundles = s.bundles := rfl
@[simp] theorem State.modFaults_drops (s : State) (f : FaultSt → FaultSt) : (s.modFaults f).drops = s.drops := rfl
@[simp] theorem State.modFaults_trunks (s : State) (f : FaultSt → FaultSt) : (s.modFaults f).trunks = s.trunks := rfl
@[simp] theorem State.modFaults_hosts (s : State) (f : FaultSt → FaultSt) : (s.modFaults f).hosts = s.hosts := rfl
@[simp] theorem State.modFaults_bridge (s : State) (f : FaultSt → FaultSt) : (s.modFaults f).bridge = s.bridge := rfl
@[simp] theorem State.modFaults_sched (s : State) (f : FaultSt → FaultSt) : (s.modFaults f).sched = s.sched := rfl
@[simp] theorem State.modFaults_arrived (s : State) (f : FaultSt → FaultSt) : (s.modFaults f).arrived = s.arrived := rfl
@[simp] theorem State.modFaults_cellar (s : State) (f : FaultSt → FaultSt) : (s.modFaults f).cellar = s.cellar := rfl
@[simp] theorem State.modFaults_fabric (s : State) (f : FaultSt → FaultSt) : (s.modFaults f).fabric = s.fabric := rfl
@[simp] theorem State.modFaults_power (s : State) (f : FaultSt → FaultSt) : (s.modFaults f).power = s.power := rfl
@[simp] theorem State.modFaults_clock (s : State) (f : FaultSt → FaultSt) : (s.modFaults f).clock = s.clock := rfl
@[simp] theorem State.modFaults_faults (s : State) (f : FaultSt → FaultSt) : (s.modFaults f).faults = f s.faults := rfl
@[simp] theorem State.modFaults_thermal (s : State) (f : FaultSt → FaultSt) : (s.modFaults f).thermal = s.thermal := rfl
@[simp] theorem State.modFaults_din (s : State) (f : FaultSt → FaultSt) : (s.modFaults f).din = s.din := rfl
@[simp] theorem State.modFaults_cal (s : State) (f : FaultSt → FaultSt) : (s.modFaults f).cal = s.cal := rfl
@[simp] theorem State.modFaults_test (s : State) (f : FaultSt → FaultSt) : (s.modFaults f).test = s.test := rfl
@[simp] theorem State.modFaults_skim (s : State) (f : FaultSt → FaultSt) : (s.modFaults f).skim = s.skim := rfl
@[simp] theorem State.modFaults_keep (s : State) (f : FaultSt → FaultSt) : (s.modFaults f).keep = s.keep := rfl
@[simp] theorem State.modFaults_pending (s : State) (f : FaultSt → FaultSt) : (s.modFaults f).pending = s.pending := rfl

@[simp] theorem State.modBridge_time (s : State) (f : BridgeSt → BridgeSt) : (s.modBridge f).time = s.time := rfl
@[simp] theorem State.modBridge_boot (s : State) (f : BridgeSt → BridgeSt) : (s.modBridge f).boot = s.boot := rfl
@[simp] theorem State.modBridge_fuses (s : State) (f : BridgeSt → BridgeSt) : (s.modBridge f).fuses = s.fuses := rfl
@[simp] theorem State.modBridge_life (s : State) (f : BridgeSt → BridgeSt) : (s.modBridge f).life = s.life := rfl
@[simp] theorem State.modBridge_pins (s : State) (f : BridgeSt → BridgeSt) : (s.modBridge f).pins = s.pins := rfl
@[simp] theorem State.modBridge_mbx (s : State) (f : BridgeSt → BridgeSt) : (s.modBridge f).mbx = s.mbx := rfl
@[simp] theorem State.modBridge_peers (s : State) (f : BridgeSt → BridgeSt) : (s.modBridge f).peers = s.peers := rfl
@[simp] theorem State.modBridge_cfgq (s : State) (f : BridgeSt → BridgeSt) : (s.modBridge f).cfgq = s.cfgq := rfl
@[simp] theorem State.modBridge_cfgDue (s : State) (f : BridgeSt → BridgeSt) : (s.modBridge f).cfgDue = s.cfgDue := rfl
@[simp] theorem State.modBridge_edgeq (s : State) (f : BridgeSt → BridgeSt) : (s.modBridge f).edgeq = s.edgeq := rfl
@[simp] theorem State.modBridge_lines (s : State) (f : BridgeSt → BridgeSt) : (s.modBridge f).lines = s.lines := rfl
@[simp] theorem State.modBridge_bundles (s : State) (f : BridgeSt → BridgeSt) : (s.modBridge f).bundles = s.bundles := rfl
@[simp] theorem State.modBridge_drops (s : State) (f : BridgeSt → BridgeSt) : (s.modBridge f).drops = s.drops := rfl
@[simp] theorem State.modBridge_trunks (s : State) (f : BridgeSt → BridgeSt) : (s.modBridge f).trunks = s.trunks := rfl
@[simp] theorem State.modBridge_hosts (s : State) (f : BridgeSt → BridgeSt) : (s.modBridge f).hosts = s.hosts := rfl
@[simp] theorem State.modBridge_bridge (s : State) (f : BridgeSt → BridgeSt) : (s.modBridge f).bridge = f s.bridge := rfl
@[simp] theorem State.modBridge_sched (s : State) (f : BridgeSt → BridgeSt) : (s.modBridge f).sched = s.sched := rfl
@[simp] theorem State.modBridge_arrived (s : State) (f : BridgeSt → BridgeSt) : (s.modBridge f).arrived = s.arrived := rfl
@[simp] theorem State.modBridge_cellar (s : State) (f : BridgeSt → BridgeSt) : (s.modBridge f).cellar = s.cellar := rfl
@[simp] theorem State.modBridge_fabric (s : State) (f : BridgeSt → BridgeSt) : (s.modBridge f).fabric = s.fabric := rfl
@[simp] theorem State.modBridge_power (s : State) (f : BridgeSt → BridgeSt) : (s.modBridge f).power = s.power := rfl
@[simp] theorem State.modBridge_clock (s : State) (f : BridgeSt → BridgeSt) : (s.modBridge f).clock = s.clock := rfl
@[simp] theorem State.modBridge_faults (s : State) (f : BridgeSt → BridgeSt) : (s.modBridge f).faults = s.faults := rfl
@[simp] theorem State.modBridge_thermal (s : State) (f : BridgeSt → BridgeSt) : (s.modBridge f).thermal = s.thermal := rfl
@[simp] theorem State.modBridge_din (s : State) (f : BridgeSt → BridgeSt) : (s.modBridge f).din = s.din := rfl
@[simp] theorem State.modBridge_cal (s : State) (f : BridgeSt → BridgeSt) : (s.modBridge f).cal = s.cal := rfl
@[simp] theorem State.modBridge_test (s : State) (f : BridgeSt → BridgeSt) : (s.modBridge f).test = s.test := rfl
@[simp] theorem State.modBridge_skim (s : State) (f : BridgeSt → BridgeSt) : (s.modBridge f).skim = s.skim := rfl
@[simp] theorem State.modBridge_keep (s : State) (f : BridgeSt → BridgeSt) : (s.modBridge f).keep = s.keep := rfl
@[simp] theorem State.modBridge_pending (s : State) (f : BridgeSt → BridgeSt) : (s.modBridge f).pending = s.pending := rfl

@[simp] theorem State.modSched_time (s : State) (f : SchedSt → SchedSt) : (s.modSched f).time = s.time := rfl
@[simp] theorem State.modSched_boot (s : State) (f : SchedSt → SchedSt) : (s.modSched f).boot = s.boot := rfl
@[simp] theorem State.modSched_fuses (s : State) (f : SchedSt → SchedSt) : (s.modSched f).fuses = s.fuses := rfl
@[simp] theorem State.modSched_life (s : State) (f : SchedSt → SchedSt) : (s.modSched f).life = s.life := rfl
@[simp] theorem State.modSched_pins (s : State) (f : SchedSt → SchedSt) : (s.modSched f).pins = s.pins := rfl
@[simp] theorem State.modSched_mbx (s : State) (f : SchedSt → SchedSt) : (s.modSched f).mbx = s.mbx := rfl
@[simp] theorem State.modSched_peers (s : State) (f : SchedSt → SchedSt) : (s.modSched f).peers = s.peers := rfl
@[simp] theorem State.modSched_cfgq (s : State) (f : SchedSt → SchedSt) : (s.modSched f).cfgq = s.cfgq := rfl
@[simp] theorem State.modSched_cfgDue (s : State) (f : SchedSt → SchedSt) : (s.modSched f).cfgDue = s.cfgDue := rfl
@[simp] theorem State.modSched_edgeq (s : State) (f : SchedSt → SchedSt) : (s.modSched f).edgeq = s.edgeq := rfl
@[simp] theorem State.modSched_lines (s : State) (f : SchedSt → SchedSt) : (s.modSched f).lines = s.lines := rfl
@[simp] theorem State.modSched_bundles (s : State) (f : SchedSt → SchedSt) : (s.modSched f).bundles = s.bundles := rfl
@[simp] theorem State.modSched_drops (s : State) (f : SchedSt → SchedSt) : (s.modSched f).drops = s.drops := rfl
@[simp] theorem State.modSched_trunks (s : State) (f : SchedSt → SchedSt) : (s.modSched f).trunks = s.trunks := rfl
@[simp] theorem State.modSched_hosts (s : State) (f : SchedSt → SchedSt) : (s.modSched f).hosts = s.hosts := rfl
@[simp] theorem State.modSched_bridge (s : State) (f : SchedSt → SchedSt) : (s.modSched f).bridge = s.bridge := rfl
@[simp] theorem State.modSched_sched (s : State) (f : SchedSt → SchedSt) : (s.modSched f).sched = f s.sched := rfl
@[simp] theorem State.modSched_arrived (s : State) (f : SchedSt → SchedSt) : (s.modSched f).arrived = s.arrived := rfl
@[simp] theorem State.modSched_cellar (s : State) (f : SchedSt → SchedSt) : (s.modSched f).cellar = s.cellar := rfl
@[simp] theorem State.modSched_fabric (s : State) (f : SchedSt → SchedSt) : (s.modSched f).fabric = s.fabric := rfl
@[simp] theorem State.modSched_power (s : State) (f : SchedSt → SchedSt) : (s.modSched f).power = s.power := rfl
@[simp] theorem State.modSched_clock (s : State) (f : SchedSt → SchedSt) : (s.modSched f).clock = s.clock := rfl
@[simp] theorem State.modSched_faults (s : State) (f : SchedSt → SchedSt) : (s.modSched f).faults = s.faults := rfl
@[simp] theorem State.modSched_thermal (s : State) (f : SchedSt → SchedSt) : (s.modSched f).thermal = s.thermal := rfl
@[simp] theorem State.modSched_din (s : State) (f : SchedSt → SchedSt) : (s.modSched f).din = s.din := rfl
@[simp] theorem State.modSched_cal (s : State) (f : SchedSt → SchedSt) : (s.modSched f).cal = s.cal := rfl
@[simp] theorem State.modSched_test (s : State) (f : SchedSt → SchedSt) : (s.modSched f).test = s.test := rfl
@[simp] theorem State.modSched_skim (s : State) (f : SchedSt → SchedSt) : (s.modSched f).skim = s.skim := rfl
@[simp] theorem State.modSched_keep (s : State) (f : SchedSt → SchedSt) : (s.modSched f).keep = s.keep := rfl
@[simp] theorem State.modSched_pending (s : State) (f : SchedSt → SchedSt) : (s.modSched f).pending = s.pending := rfl

@[simp] theorem State.modCellar_time (s : State) (f : CellarSt → CellarSt) : (s.modCellar f).time = s.time := rfl
@[simp] theorem State.modCellar_boot (s : State) (f : CellarSt → CellarSt) : (s.modCellar f).boot = s.boot := rfl
@[simp] theorem State.modCellar_fuses (s : State) (f : CellarSt → CellarSt) : (s.modCellar f).fuses = s.fuses := rfl
@[simp] theorem State.modCellar_life (s : State) (f : CellarSt → CellarSt) : (s.modCellar f).life = s.life := rfl
@[simp] theorem State.modCellar_pins (s : State) (f : CellarSt → CellarSt) : (s.modCellar f).pins = s.pins := rfl
@[simp] theorem State.modCellar_mbx (s : State) (f : CellarSt → CellarSt) : (s.modCellar f).mbx = s.mbx := rfl
@[simp] theorem State.modCellar_peers (s : State) (f : CellarSt → CellarSt) : (s.modCellar f).peers = s.peers := rfl
@[simp] theorem State.modCellar_cfgq (s : State) (f : CellarSt → CellarSt) : (s.modCellar f).cfgq = s.cfgq := rfl
@[simp] theorem State.modCellar_cfgDue (s : State) (f : CellarSt → CellarSt) : (s.modCellar f).cfgDue = s.cfgDue := rfl
@[simp] theorem State.modCellar_edgeq (s : State) (f : CellarSt → CellarSt) : (s.modCellar f).edgeq = s.edgeq := rfl
@[simp] theorem State.modCellar_lines (s : State) (f : CellarSt → CellarSt) : (s.modCellar f).lines = s.lines := rfl
@[simp] theorem State.modCellar_bundles (s : State) (f : CellarSt → CellarSt) : (s.modCellar f).bundles = s.bundles := rfl
@[simp] theorem State.modCellar_drops (s : State) (f : CellarSt → CellarSt) : (s.modCellar f).drops = s.drops := rfl
@[simp] theorem State.modCellar_trunks (s : State) (f : CellarSt → CellarSt) : (s.modCellar f).trunks = s.trunks := rfl
@[simp] theorem State.modCellar_hosts (s : State) (f : CellarSt → CellarSt) : (s.modCellar f).hosts = s.hosts := rfl
@[simp] theorem State.modCellar_bridge (s : State) (f : CellarSt → CellarSt) : (s.modCellar f).bridge = s.bridge := rfl
@[simp] theorem State.modCellar_sched (s : State) (f : CellarSt → CellarSt) : (s.modCellar f).sched = s.sched := rfl
@[simp] theorem State.modCellar_arrived (s : State) (f : CellarSt → CellarSt) : (s.modCellar f).arrived = s.arrived := rfl
@[simp] theorem State.modCellar_cellar (s : State) (f : CellarSt → CellarSt) : (s.modCellar f).cellar = f s.cellar := rfl
@[simp] theorem State.modCellar_fabric (s : State) (f : CellarSt → CellarSt) : (s.modCellar f).fabric = s.fabric := rfl
@[simp] theorem State.modCellar_power (s : State) (f : CellarSt → CellarSt) : (s.modCellar f).power = s.power := rfl
@[simp] theorem State.modCellar_clock (s : State) (f : CellarSt → CellarSt) : (s.modCellar f).clock = s.clock := rfl
@[simp] theorem State.modCellar_faults (s : State) (f : CellarSt → CellarSt) : (s.modCellar f).faults = s.faults := rfl
@[simp] theorem State.modCellar_thermal (s : State) (f : CellarSt → CellarSt) : (s.modCellar f).thermal = s.thermal := rfl
@[simp] theorem State.modCellar_din (s : State) (f : CellarSt → CellarSt) : (s.modCellar f).din = s.din := rfl
@[simp] theorem State.modCellar_cal (s : State) (f : CellarSt → CellarSt) : (s.modCellar f).cal = s.cal := rfl
@[simp] theorem State.modCellar_test (s : State) (f : CellarSt → CellarSt) : (s.modCellar f).test = s.test := rfl
@[simp] theorem State.modCellar_skim (s : State) (f : CellarSt → CellarSt) : (s.modCellar f).skim = s.skim := rfl
@[simp] theorem State.modCellar_keep (s : State) (f : CellarSt → CellarSt) : (s.modCellar f).keep = s.keep := rfl
@[simp] theorem State.modCellar_pending (s : State) (f : CellarSt → CellarSt) : (s.modCellar f).pending = s.pending := rfl

@[simp] theorem State.modFabric_time (s : State) (f : FabricSt → FabricSt) : (s.modFabric f).time = s.time := rfl
@[simp] theorem State.modFabric_boot (s : State) (f : FabricSt → FabricSt) : (s.modFabric f).boot = s.boot := rfl
@[simp] theorem State.modFabric_fuses (s : State) (f : FabricSt → FabricSt) : (s.modFabric f).fuses = s.fuses := rfl
@[simp] theorem State.modFabric_life (s : State) (f : FabricSt → FabricSt) : (s.modFabric f).life = s.life := rfl
@[simp] theorem State.modFabric_pins (s : State) (f : FabricSt → FabricSt) : (s.modFabric f).pins = s.pins := rfl
@[simp] theorem State.modFabric_mbx (s : State) (f : FabricSt → FabricSt) : (s.modFabric f).mbx = s.mbx := rfl
@[simp] theorem State.modFabric_peers (s : State) (f : FabricSt → FabricSt) : (s.modFabric f).peers = s.peers := rfl
@[simp] theorem State.modFabric_cfgq (s : State) (f : FabricSt → FabricSt) : (s.modFabric f).cfgq = s.cfgq := rfl
@[simp] theorem State.modFabric_cfgDue (s : State) (f : FabricSt → FabricSt) : (s.modFabric f).cfgDue = s.cfgDue := rfl
@[simp] theorem State.modFabric_edgeq (s : State) (f : FabricSt → FabricSt) : (s.modFabric f).edgeq = s.edgeq := rfl
@[simp] theorem State.modFabric_lines (s : State) (f : FabricSt → FabricSt) : (s.modFabric f).lines = s.lines := rfl
@[simp] theorem State.modFabric_bundles (s : State) (f : FabricSt → FabricSt) : (s.modFabric f).bundles = s.bundles := rfl
@[simp] theorem State.modFabric_drops (s : State) (f : FabricSt → FabricSt) : (s.modFabric f).drops = s.drops := rfl
@[simp] theorem State.modFabric_trunks (s : State) (f : FabricSt → FabricSt) : (s.modFabric f).trunks = s.trunks := rfl
@[simp] theorem State.modFabric_hosts (s : State) (f : FabricSt → FabricSt) : (s.modFabric f).hosts = s.hosts := rfl
@[simp] theorem State.modFabric_bridge (s : State) (f : FabricSt → FabricSt) : (s.modFabric f).bridge = s.bridge := rfl
@[simp] theorem State.modFabric_sched (s : State) (f : FabricSt → FabricSt) : (s.modFabric f).sched = s.sched := rfl
@[simp] theorem State.modFabric_arrived (s : State) (f : FabricSt → FabricSt) : (s.modFabric f).arrived = s.arrived := rfl
@[simp] theorem State.modFabric_cellar (s : State) (f : FabricSt → FabricSt) : (s.modFabric f).cellar = s.cellar := rfl
@[simp] theorem State.modFabric_fabric (s : State) (f : FabricSt → FabricSt) : (s.modFabric f).fabric = f s.fabric := rfl
@[simp] theorem State.modFabric_power (s : State) (f : FabricSt → FabricSt) : (s.modFabric f).power = s.power := rfl
@[simp] theorem State.modFabric_clock (s : State) (f : FabricSt → FabricSt) : (s.modFabric f).clock = s.clock := rfl
@[simp] theorem State.modFabric_faults (s : State) (f : FabricSt → FabricSt) : (s.modFabric f).faults = s.faults := rfl
@[simp] theorem State.modFabric_thermal (s : State) (f : FabricSt → FabricSt) : (s.modFabric f).thermal = s.thermal := rfl
@[simp] theorem State.modFabric_din (s : State) (f : FabricSt → FabricSt) : (s.modFabric f).din = s.din := rfl
@[simp] theorem State.modFabric_cal (s : State) (f : FabricSt → FabricSt) : (s.modFabric f).cal = s.cal := rfl
@[simp] theorem State.modFabric_test (s : State) (f : FabricSt → FabricSt) : (s.modFabric f).test = s.test := rfl
@[simp] theorem State.modFabric_skim (s : State) (f : FabricSt → FabricSt) : (s.modFabric f).skim = s.skim := rfl
@[simp] theorem State.modFabric_keep (s : State) (f : FabricSt → FabricSt) : (s.modFabric f).keep = s.keep := rfl
@[simp] theorem State.modFabric_pending (s : State) (f : FabricSt → FabricSt) : (s.modFabric f).pending = s.pending := rfl

@[simp] theorem State.modKeep_time (s : State) (f : KeepSt → KeepSt) : (s.modKeep f).time = s.time := rfl
@[simp] theorem State.modKeep_boot (s : State) (f : KeepSt → KeepSt) : (s.modKeep f).boot = s.boot := rfl
@[simp] theorem State.modKeep_fuses (s : State) (f : KeepSt → KeepSt) : (s.modKeep f).fuses = s.fuses := rfl
@[simp] theorem State.modKeep_life (s : State) (f : KeepSt → KeepSt) : (s.modKeep f).life = s.life := rfl
@[simp] theorem State.modKeep_pins (s : State) (f : KeepSt → KeepSt) : (s.modKeep f).pins = s.pins := rfl
@[simp] theorem State.modKeep_mbx (s : State) (f : KeepSt → KeepSt) : (s.modKeep f).mbx = s.mbx := rfl
@[simp] theorem State.modKeep_peers (s : State) (f : KeepSt → KeepSt) : (s.modKeep f).peers = s.peers := rfl
@[simp] theorem State.modKeep_cfgq (s : State) (f : KeepSt → KeepSt) : (s.modKeep f).cfgq = s.cfgq := rfl
@[simp] theorem State.modKeep_cfgDue (s : State) (f : KeepSt → KeepSt) : (s.modKeep f).cfgDue = s.cfgDue := rfl
@[simp] theorem State.modKeep_edgeq (s : State) (f : KeepSt → KeepSt) : (s.modKeep f).edgeq = s.edgeq := rfl
@[simp] theorem State.modKeep_lines (s : State) (f : KeepSt → KeepSt) : (s.modKeep f).lines = s.lines := rfl
@[simp] theorem State.modKeep_bundles (s : State) (f : KeepSt → KeepSt) : (s.modKeep f).bundles = s.bundles := rfl
@[simp] theorem State.modKeep_drops (s : State) (f : KeepSt → KeepSt) : (s.modKeep f).drops = s.drops := rfl
@[simp] theorem State.modKeep_trunks (s : State) (f : KeepSt → KeepSt) : (s.modKeep f).trunks = s.trunks := rfl
@[simp] theorem State.modKeep_hosts (s : State) (f : KeepSt → KeepSt) : (s.modKeep f).hosts = s.hosts := rfl
@[simp] theorem State.modKeep_bridge (s : State) (f : KeepSt → KeepSt) : (s.modKeep f).bridge = s.bridge := rfl
@[simp] theorem State.modKeep_sched (s : State) (f : KeepSt → KeepSt) : (s.modKeep f).sched = s.sched := rfl
@[simp] theorem State.modKeep_arrived (s : State) (f : KeepSt → KeepSt) : (s.modKeep f).arrived = s.arrived := rfl
@[simp] theorem State.modKeep_cellar (s : State) (f : KeepSt → KeepSt) : (s.modKeep f).cellar = s.cellar := rfl
@[simp] theorem State.modKeep_fabric (s : State) (f : KeepSt → KeepSt) : (s.modKeep f).fabric = s.fabric := rfl
@[simp] theorem State.modKeep_power (s : State) (f : KeepSt → KeepSt) : (s.modKeep f).power = s.power := rfl
@[simp] theorem State.modKeep_clock (s : State) (f : KeepSt → KeepSt) : (s.modKeep f).clock = s.clock := rfl
@[simp] theorem State.modKeep_faults (s : State) (f : KeepSt → KeepSt) : (s.modKeep f).faults = s.faults := rfl
@[simp] theorem State.modKeep_thermal (s : State) (f : KeepSt → KeepSt) : (s.modKeep f).thermal = s.thermal := rfl
@[simp] theorem State.modKeep_din (s : State) (f : KeepSt → KeepSt) : (s.modKeep f).din = s.din := rfl
@[simp] theorem State.modKeep_cal (s : State) (f : KeepSt → KeepSt) : (s.modKeep f).cal = s.cal := rfl
@[simp] theorem State.modKeep_test (s : State) (f : KeepSt → KeepSt) : (s.modKeep f).test = s.test := rfl
@[simp] theorem State.modKeep_skim (s : State) (f : KeepSt → KeepSt) : (s.modKeep f).skim = s.skim := rfl
@[simp] theorem State.modKeep_keep (s : State) (f : KeepSt → KeepSt) : (s.modKeep f).keep = f s.keep := rfl
@[simp] theorem State.modKeep_pending (s : State) (f : KeepSt → KeepSt) : (s.modKeep f).pending = s.pending := rfl

@[simp] theorem State.modCal_time (s : State) (f : CalSt → CalSt) : (s.modCal f).time = s.time := rfl
@[simp] theorem State.modCal_boot (s : State) (f : CalSt → CalSt) : (s.modCal f).boot = s.boot := rfl
@[simp] theorem State.modCal_fuses (s : State) (f : CalSt → CalSt) : (s.modCal f).fuses = s.fuses := rfl
@[simp] theorem State.modCal_life (s : State) (f : CalSt → CalSt) : (s.modCal f).life = s.life := rfl
@[simp] theorem State.modCal_pins (s : State) (f : CalSt → CalSt) : (s.modCal f).pins = s.pins := rfl
@[simp] theorem State.modCal_mbx (s : State) (f : CalSt → CalSt) : (s.modCal f).mbx = s.mbx := rfl
@[simp] theorem State.modCal_peers (s : State) (f : CalSt → CalSt) : (s.modCal f).peers = s.peers := rfl
@[simp] theorem State.modCal_cfgq (s : State) (f : CalSt → CalSt) : (s.modCal f).cfgq = s.cfgq := rfl
@[simp] theorem State.modCal_cfgDue (s : State) (f : CalSt → CalSt) : (s.modCal f).cfgDue = s.cfgDue := rfl
@[simp] theorem State.modCal_edgeq (s : State) (f : CalSt → CalSt) : (s.modCal f).edgeq = s.edgeq := rfl
@[simp] theorem State.modCal_lines (s : State) (f : CalSt → CalSt) : (s.modCal f).lines = s.lines := rfl
@[simp] theorem State.modCal_bundles (s : State) (f : CalSt → CalSt) : (s.modCal f).bundles = s.bundles := rfl
@[simp] theorem State.modCal_drops (s : State) (f : CalSt → CalSt) : (s.modCal f).drops = s.drops := rfl
@[simp] theorem State.modCal_trunks (s : State) (f : CalSt → CalSt) : (s.modCal f).trunks = s.trunks := rfl
@[simp] theorem State.modCal_hosts (s : State) (f : CalSt → CalSt) : (s.modCal f).hosts = s.hosts := rfl
@[simp] theorem State.modCal_bridge (s : State) (f : CalSt → CalSt) : (s.modCal f).bridge = s.bridge := rfl
@[simp] theorem State.modCal_sched (s : State) (f : CalSt → CalSt) : (s.modCal f).sched = s.sched := rfl
@[simp] theorem State.modCal_arrived (s : State) (f : CalSt → CalSt) : (s.modCal f).arrived = s.arrived := rfl
@[simp] theorem State.modCal_cellar (s : State) (f : CalSt → CalSt) : (s.modCal f).cellar = s.cellar := rfl
@[simp] theorem State.modCal_fabric (s : State) (f : CalSt → CalSt) : (s.modCal f).fabric = s.fabric := rfl
@[simp] theorem State.modCal_power (s : State) (f : CalSt → CalSt) : (s.modCal f).power = s.power := rfl
@[simp] theorem State.modCal_clock (s : State) (f : CalSt → CalSt) : (s.modCal f).clock = s.clock := rfl
@[simp] theorem State.modCal_faults (s : State) (f : CalSt → CalSt) : (s.modCal f).faults = s.faults := rfl
@[simp] theorem State.modCal_thermal (s : State) (f : CalSt → CalSt) : (s.modCal f).thermal = s.thermal := rfl
@[simp] theorem State.modCal_din (s : State) (f : CalSt → CalSt) : (s.modCal f).din = s.din := rfl
@[simp] theorem State.modCal_cal (s : State) (f : CalSt → CalSt) : (s.modCal f).cal = f s.cal := rfl
@[simp] theorem State.modCal_test (s : State) (f : CalSt → CalSt) : (s.modCal f).test = s.test := rfl
@[simp] theorem State.modCal_skim (s : State) (f : CalSt → CalSt) : (s.modCal f).skim = s.skim := rfl
@[simp] theorem State.modCal_keep (s : State) (f : CalSt → CalSt) : (s.modCal f).keep = s.keep := rfl
@[simp] theorem State.modCal_pending (s : State) (f : CalSt → CalSt) : (s.modCal f).pending = s.pending := rfl

@[simp] theorem State.modSkim_time (s : State) (f : SkimSt → SkimSt) : (s.modSkim f).time = s.time := rfl
@[simp] theorem State.modSkim_boot (s : State) (f : SkimSt → SkimSt) : (s.modSkim f).boot = s.boot := rfl
@[simp] theorem State.modSkim_fuses (s : State) (f : SkimSt → SkimSt) : (s.modSkim f).fuses = s.fuses := rfl
@[simp] theorem State.modSkim_life (s : State) (f : SkimSt → SkimSt) : (s.modSkim f).life = s.life := rfl
@[simp] theorem State.modSkim_pins (s : State) (f : SkimSt → SkimSt) : (s.modSkim f).pins = s.pins := rfl
@[simp] theorem State.modSkim_mbx (s : State) (f : SkimSt → SkimSt) : (s.modSkim f).mbx = s.mbx := rfl
@[simp] theorem State.modSkim_peers (s : State) (f : SkimSt → SkimSt) : (s.modSkim f).peers = s.peers := rfl
@[simp] theorem State.modSkim_cfgq (s : State) (f : SkimSt → SkimSt) : (s.modSkim f).cfgq = s.cfgq := rfl
@[simp] theorem State.modSkim_cfgDue (s : State) (f : SkimSt → SkimSt) : (s.modSkim f).cfgDue = s.cfgDue := rfl
@[simp] theorem State.modSkim_edgeq (s : State) (f : SkimSt → SkimSt) : (s.modSkim f).edgeq = s.edgeq := rfl
@[simp] theorem State.modSkim_lines (s : State) (f : SkimSt → SkimSt) : (s.modSkim f).lines = s.lines := rfl
@[simp] theorem State.modSkim_bundles (s : State) (f : SkimSt → SkimSt) : (s.modSkim f).bundles = s.bundles := rfl
@[simp] theorem State.modSkim_drops (s : State) (f : SkimSt → SkimSt) : (s.modSkim f).drops = s.drops := rfl
@[simp] theorem State.modSkim_trunks (s : State) (f : SkimSt → SkimSt) : (s.modSkim f).trunks = s.trunks := rfl
@[simp] theorem State.modSkim_hosts (s : State) (f : SkimSt → SkimSt) : (s.modSkim f).hosts = s.hosts := rfl
@[simp] theorem State.modSkim_bridge (s : State) (f : SkimSt → SkimSt) : (s.modSkim f).bridge = s.bridge := rfl
@[simp] theorem State.modSkim_sched (s : State) (f : SkimSt → SkimSt) : (s.modSkim f).sched = s.sched := rfl
@[simp] theorem State.modSkim_arrived (s : State) (f : SkimSt → SkimSt) : (s.modSkim f).arrived = s.arrived := rfl
@[simp] theorem State.modSkim_cellar (s : State) (f : SkimSt → SkimSt) : (s.modSkim f).cellar = s.cellar := rfl
@[simp] theorem State.modSkim_fabric (s : State) (f : SkimSt → SkimSt) : (s.modSkim f).fabric = s.fabric := rfl
@[simp] theorem State.modSkim_power (s : State) (f : SkimSt → SkimSt) : (s.modSkim f).power = s.power := rfl
@[simp] theorem State.modSkim_clock (s : State) (f : SkimSt → SkimSt) : (s.modSkim f).clock = s.clock := rfl
@[simp] theorem State.modSkim_faults (s : State) (f : SkimSt → SkimSt) : (s.modSkim f).faults = s.faults := rfl
@[simp] theorem State.modSkim_thermal (s : State) (f : SkimSt → SkimSt) : (s.modSkim f).thermal = s.thermal := rfl
@[simp] theorem State.modSkim_din (s : State) (f : SkimSt → SkimSt) : (s.modSkim f).din = s.din := rfl
@[simp] theorem State.modSkim_cal (s : State) (f : SkimSt → SkimSt) : (s.modSkim f).cal = s.cal := rfl
@[simp] theorem State.modSkim_test (s : State) (f : SkimSt → SkimSt) : (s.modSkim f).test = s.test := rfl
@[simp] theorem State.modSkim_skim (s : State) (f : SkimSt → SkimSt) : (s.modSkim f).skim = f s.skim := rfl
@[simp] theorem State.modSkim_keep (s : State) (f : SkimSt → SkimSt) : (s.modSkim f).keep = s.keep := rfl
@[simp] theorem State.modSkim_pending (s : State) (f : SkimSt → SkimSt) : (s.modSkim f).pending = s.pending := rfl

@[simp] theorem State.modTest_time (s : State) (f : TestSt → TestSt) : (s.modTest f).time = s.time := rfl
@[simp] theorem State.modTest_boot (s : State) (f : TestSt → TestSt) : (s.modTest f).boot = s.boot := rfl
@[simp] theorem State.modTest_fuses (s : State) (f : TestSt → TestSt) : (s.modTest f).fuses = s.fuses := rfl
@[simp] theorem State.modTest_life (s : State) (f : TestSt → TestSt) : (s.modTest f).life = s.life := rfl
@[simp] theorem State.modTest_pins (s : State) (f : TestSt → TestSt) : (s.modTest f).pins = s.pins := rfl
@[simp] theorem State.modTest_mbx (s : State) (f : TestSt → TestSt) : (s.modTest f).mbx = s.mbx := rfl
@[simp] theorem State.modTest_peers (s : State) (f : TestSt → TestSt) : (s.modTest f).peers = s.peers := rfl
@[simp] theorem State.modTest_cfgq (s : State) (f : TestSt → TestSt) : (s.modTest f).cfgq = s.cfgq := rfl
@[simp] theorem State.modTest_cfgDue (s : State) (f : TestSt → TestSt) : (s.modTest f).cfgDue = s.cfgDue := rfl
@[simp] theorem State.modTest_edgeq (s : State) (f : TestSt → TestSt) : (s.modTest f).edgeq = s.edgeq := rfl
@[simp] theorem State.modTest_lines (s : State) (f : TestSt → TestSt) : (s.modTest f).lines = s.lines := rfl
@[simp] theorem State.modTest_bundles (s : State) (f : TestSt → TestSt) : (s.modTest f).bundles = s.bundles := rfl
@[simp] theorem State.modTest_drops (s : State) (f : TestSt → TestSt) : (s.modTest f).drops = s.drops := rfl
@[simp] theorem State.modTest_trunks (s : State) (f : TestSt → TestSt) : (s.modTest f).trunks = s.trunks := rfl
@[simp] theorem State.modTest_hosts (s : State) (f : TestSt → TestSt) : (s.modTest f).hosts = s.hosts := rfl
@[simp] theorem State.modTest_bridge (s : State) (f : TestSt → TestSt) : (s.modTest f).bridge = s.bridge := rfl
@[simp] theorem State.modTest_sched (s : State) (f : TestSt → TestSt) : (s.modTest f).sched = s.sched := rfl
@[simp] theorem State.modTest_arrived (s : State) (f : TestSt → TestSt) : (s.modTest f).arrived = s.arrived := rfl
@[simp] theorem State.modTest_cellar (s : State) (f : TestSt → TestSt) : (s.modTest f).cellar = s.cellar := rfl
@[simp] theorem State.modTest_fabric (s : State) (f : TestSt → TestSt) : (s.modTest f).fabric = s.fabric := rfl
@[simp] theorem State.modTest_power (s : State) (f : TestSt → TestSt) : (s.modTest f).power = s.power := rfl
@[simp] theorem State.modTest_clock (s : State) (f : TestSt → TestSt) : (s.modTest f).clock = s.clock := rfl
@[simp] theorem State.modTest_faults (s : State) (f : TestSt → TestSt) : (s.modTest f).faults = s.faults := rfl
@[simp] theorem State.modTest_thermal (s : State) (f : TestSt → TestSt) : (s.modTest f).thermal = s.thermal := rfl
@[simp] theorem State.modTest_din (s : State) (f : TestSt → TestSt) : (s.modTest f).din = s.din := rfl
@[simp] theorem State.modTest_cal (s : State) (f : TestSt → TestSt) : (s.modTest f).cal = s.cal := rfl
@[simp] theorem State.modTest_test (s : State) (f : TestSt → TestSt) : (s.modTest f).test = f s.test := rfl
@[simp] theorem State.modTest_skim (s : State) (f : TestSt → TestSt) : (s.modTest f).skim = s.skim := rfl
@[simp] theorem State.modTest_keep (s : State) (f : TestSt → TestSt) : (s.modTest f).keep = s.keep := rfl
@[simp] theorem State.modTest_pending (s : State) (f : TestSt → TestSt) : (s.modTest f).pending = s.pending := rfl

@[simp] theorem State.modDin_time (s : State) (f : DinSt → DinSt) : (s.modDin f).time = s.time := rfl
@[simp] theorem State.modDin_boot (s : State) (f : DinSt → DinSt) : (s.modDin f).boot = s.boot := rfl
@[simp] theorem State.modDin_fuses (s : State) (f : DinSt → DinSt) : (s.modDin f).fuses = s.fuses := rfl
@[simp] theorem State.modDin_life (s : State) (f : DinSt → DinSt) : (s.modDin f).life = s.life := rfl
@[simp] theorem State.modDin_pins (s : State) (f : DinSt → DinSt) : (s.modDin f).pins = s.pins := rfl
@[simp] theorem State.modDin_mbx (s : State) (f : DinSt → DinSt) : (s.modDin f).mbx = s.mbx := rfl
@[simp] theorem State.modDin_peers (s : State) (f : DinSt → DinSt) : (s.modDin f).peers = s.peers := rfl
@[simp] theorem State.modDin_cfgq (s : State) (f : DinSt → DinSt) : (s.modDin f).cfgq = s.cfgq := rfl
@[simp] theorem State.modDin_cfgDue (s : State) (f : DinSt → DinSt) : (s.modDin f).cfgDue = s.cfgDue := rfl
@[simp] theorem State.modDin_edgeq (s : State) (f : DinSt → DinSt) : (s.modDin f).edgeq = s.edgeq := rfl
@[simp] theorem State.modDin_lines (s : State) (f : DinSt → DinSt) : (s.modDin f).lines = s.lines := rfl
@[simp] theorem State.modDin_bundles (s : State) (f : DinSt → DinSt) : (s.modDin f).bundles = s.bundles := rfl
@[simp] theorem State.modDin_drops (s : State) (f : DinSt → DinSt) : (s.modDin f).drops = s.drops := rfl
@[simp] theorem State.modDin_trunks (s : State) (f : DinSt → DinSt) : (s.modDin f).trunks = s.trunks := rfl
@[simp] theorem State.modDin_hosts (s : State) (f : DinSt → DinSt) : (s.modDin f).hosts = s.hosts := rfl
@[simp] theorem State.modDin_bridge (s : State) (f : DinSt → DinSt) : (s.modDin f).bridge = s.bridge := rfl
@[simp] theorem State.modDin_sched (s : State) (f : DinSt → DinSt) : (s.modDin f).sched = s.sched := rfl
@[simp] theorem State.modDin_arrived (s : State) (f : DinSt → DinSt) : (s.modDin f).arrived = s.arrived := rfl
@[simp] theorem State.modDin_cellar (s : State) (f : DinSt → DinSt) : (s.modDin f).cellar = s.cellar := rfl
@[simp] theorem State.modDin_fabric (s : State) (f : DinSt → DinSt) : (s.modDin f).fabric = s.fabric := rfl
@[simp] theorem State.modDin_power (s : State) (f : DinSt → DinSt) : (s.modDin f).power = s.power := rfl
@[simp] theorem State.modDin_clock (s : State) (f : DinSt → DinSt) : (s.modDin f).clock = s.clock := rfl
@[simp] theorem State.modDin_faults (s : State) (f : DinSt → DinSt) : (s.modDin f).faults = s.faults := rfl
@[simp] theorem State.modDin_thermal (s : State) (f : DinSt → DinSt) : (s.modDin f).thermal = s.thermal := rfl
@[simp] theorem State.modDin_din (s : State) (f : DinSt → DinSt) : (s.modDin f).din = f s.din := rfl
@[simp] theorem State.modDin_cal (s : State) (f : DinSt → DinSt) : (s.modDin f).cal = s.cal := rfl
@[simp] theorem State.modDin_test (s : State) (f : DinSt → DinSt) : (s.modDin f).test = s.test := rfl
@[simp] theorem State.modDin_skim (s : State) (f : DinSt → DinSt) : (s.modDin f).skim = s.skim := rfl
@[simp] theorem State.modDin_keep (s : State) (f : DinSt → DinSt) : (s.modDin f).keep = s.keep := rfl
@[simp] theorem State.modDin_pending (s : State) (f : DinSt → DinSt) : (s.modDin f).pending = s.pending := rfl

@[simp] theorem State.modFuses_time (s : State) (f : Fuses → Fuses) : (s.modFuses f).time = s.time := rfl
@[simp] theorem State.modFuses_boot (s : State) (f : Fuses → Fuses) : (s.modFuses f).boot = s.boot := rfl
@[simp] theorem State.modFuses_fuses (s : State) (f : Fuses → Fuses) : (s.modFuses f).fuses = f s.fuses := rfl
@[simp] theorem State.modFuses_life (s : State) (f : Fuses → Fuses) : (s.modFuses f).life = s.life := rfl
@[simp] theorem State.modFuses_pins (s : State) (f : Fuses → Fuses) : (s.modFuses f).pins = s.pins := rfl
@[simp] theorem State.modFuses_mbx (s : State) (f : Fuses → Fuses) : (s.modFuses f).mbx = s.mbx := rfl
@[simp] theorem State.modFuses_peers (s : State) (f : Fuses → Fuses) : (s.modFuses f).peers = s.peers := rfl
@[simp] theorem State.modFuses_cfgq (s : State) (f : Fuses → Fuses) : (s.modFuses f).cfgq = s.cfgq := rfl
@[simp] theorem State.modFuses_cfgDue (s : State) (f : Fuses → Fuses) : (s.modFuses f).cfgDue = s.cfgDue := rfl
@[simp] theorem State.modFuses_edgeq (s : State) (f : Fuses → Fuses) : (s.modFuses f).edgeq = s.edgeq := rfl
@[simp] theorem State.modFuses_lines (s : State) (f : Fuses → Fuses) : (s.modFuses f).lines = s.lines := rfl
@[simp] theorem State.modFuses_bundles (s : State) (f : Fuses → Fuses) : (s.modFuses f).bundles = s.bundles := rfl
@[simp] theorem State.modFuses_drops (s : State) (f : Fuses → Fuses) : (s.modFuses f).drops = s.drops := rfl
@[simp] theorem State.modFuses_trunks (s : State) (f : Fuses → Fuses) : (s.modFuses f).trunks = s.trunks := rfl
@[simp] theorem State.modFuses_hosts (s : State) (f : Fuses → Fuses) : (s.modFuses f).hosts = s.hosts := rfl
@[simp] theorem State.modFuses_bridge (s : State) (f : Fuses → Fuses) : (s.modFuses f).bridge = s.bridge := rfl
@[simp] theorem State.modFuses_sched (s : State) (f : Fuses → Fuses) : (s.modFuses f).sched = s.sched := rfl
@[simp] theorem State.modFuses_arrived (s : State) (f : Fuses → Fuses) : (s.modFuses f).arrived = s.arrived := rfl
@[simp] theorem State.modFuses_cellar (s : State) (f : Fuses → Fuses) : (s.modFuses f).cellar = s.cellar := rfl
@[simp] theorem State.modFuses_fabric (s : State) (f : Fuses → Fuses) : (s.modFuses f).fabric = s.fabric := rfl
@[simp] theorem State.modFuses_power (s : State) (f : Fuses → Fuses) : (s.modFuses f).power = s.power := rfl
@[simp] theorem State.modFuses_clock (s : State) (f : Fuses → Fuses) : (s.modFuses f).clock = s.clock := rfl
@[simp] theorem State.modFuses_faults (s : State) (f : Fuses → Fuses) : (s.modFuses f).faults = s.faults := rfl
@[simp] theorem State.modFuses_thermal (s : State) (f : Fuses → Fuses) : (s.modFuses f).thermal = s.thermal := rfl
@[simp] theorem State.modFuses_din (s : State) (f : Fuses → Fuses) : (s.modFuses f).din = s.din := rfl
@[simp] theorem State.modFuses_cal (s : State) (f : Fuses → Fuses) : (s.modFuses f).cal = s.cal := rfl
@[simp] theorem State.modFuses_test (s : State) (f : Fuses → Fuses) : (s.modFuses f).test = s.test := rfl
@[simp] theorem State.modFuses_skim (s : State) (f : Fuses → Fuses) : (s.modFuses f).skim = s.skim := rfl
@[simp] theorem State.modFuses_keep (s : State) (f : Fuses → Fuses) : (s.modFuses f).keep = s.keep := rfl
@[simp] theorem State.modFuses_pending (s : State) (f : Fuses → Fuses) : (s.modFuses f).pending = s.pending := rfl

@[simp] theorem State.modLife_time (s : State) (f : LifeSt → LifeSt) : (s.modLife f).time = s.time := rfl
@[simp] theorem State.modLife_boot (s : State) (f : LifeSt → LifeSt) : (s.modLife f).boot = s.boot := rfl
@[simp] theorem State.modLife_fuses (s : State) (f : LifeSt → LifeSt) : (s.modLife f).fuses = s.fuses := rfl
@[simp] theorem State.modLife_life (s : State) (f : LifeSt → LifeSt) : (s.modLife f).life = f s.life := rfl
@[simp] theorem State.modLife_pins (s : State) (f : LifeSt → LifeSt) : (s.modLife f).pins = s.pins := rfl
@[simp] theorem State.modLife_mbx (s : State) (f : LifeSt → LifeSt) : (s.modLife f).mbx = s.mbx := rfl
@[simp] theorem State.modLife_peers (s : State) (f : LifeSt → LifeSt) : (s.modLife f).peers = s.peers := rfl
@[simp] theorem State.modLife_cfgq (s : State) (f : LifeSt → LifeSt) : (s.modLife f).cfgq = s.cfgq := rfl
@[simp] theorem State.modLife_cfgDue (s : State) (f : LifeSt → LifeSt) : (s.modLife f).cfgDue = s.cfgDue := rfl
@[simp] theorem State.modLife_edgeq (s : State) (f : LifeSt → LifeSt) : (s.modLife f).edgeq = s.edgeq := rfl
@[simp] theorem State.modLife_lines (s : State) (f : LifeSt → LifeSt) : (s.modLife f).lines = s.lines := rfl
@[simp] theorem State.modLife_bundles (s : State) (f : LifeSt → LifeSt) : (s.modLife f).bundles = s.bundles := rfl
@[simp] theorem State.modLife_drops (s : State) (f : LifeSt → LifeSt) : (s.modLife f).drops = s.drops := rfl
@[simp] theorem State.modLife_trunks (s : State) (f : LifeSt → LifeSt) : (s.modLife f).trunks = s.trunks := rfl
@[simp] theorem State.modLife_hosts (s : State) (f : LifeSt → LifeSt) : (s.modLife f).hosts = s.hosts := rfl
@[simp] theorem State.modLife_bridge (s : State) (f : LifeSt → LifeSt) : (s.modLife f).bridge = s.bridge := rfl
@[simp] theorem State.modLife_sched (s : State) (f : LifeSt → LifeSt) : (s.modLife f).sched = s.sched := rfl
@[simp] theorem State.modLife_arrived (s : State) (f : LifeSt → LifeSt) : (s.modLife f).arrived = s.arrived := rfl
@[simp] theorem State.modLife_cellar (s : State) (f : LifeSt → LifeSt) : (s.modLife f).cellar = s.cellar := rfl
@[simp] theorem State.modLife_fabric (s : State) (f : LifeSt → LifeSt) : (s.modLife f).fabric = s.fabric := rfl
@[simp] theorem State.modLife_power (s : State) (f : LifeSt → LifeSt) : (s.modLife f).power = s.power := rfl
@[simp] theorem State.modLife_clock (s : State) (f : LifeSt → LifeSt) : (s.modLife f).clock = s.clock := rfl
@[simp] theorem State.modLife_faults (s : State) (f : LifeSt → LifeSt) : (s.modLife f).faults = s.faults := rfl
@[simp] theorem State.modLife_thermal (s : State) (f : LifeSt → LifeSt) : (s.modLife f).thermal = s.thermal := rfl
@[simp] theorem State.modLife_din (s : State) (f : LifeSt → LifeSt) : (s.modLife f).din = s.din := rfl
@[simp] theorem State.modLife_cal (s : State) (f : LifeSt → LifeSt) : (s.modLife f).cal = s.cal := rfl
@[simp] theorem State.modLife_test (s : State) (f : LifeSt → LifeSt) : (s.modLife f).test = s.test := rfl
@[simp] theorem State.modLife_skim (s : State) (f : LifeSt → LifeSt) : (s.modLife f).skim = s.skim := rfl
@[simp] theorem State.modLife_keep (s : State) (f : LifeSt → LifeSt) : (s.modLife f).keep = s.keep := rfl
@[simp] theorem State.modLife_pending (s : State) (f : LifeSt → LifeSt) : (s.modLife f).pending = s.pending := rfl

@[simp] theorem State.accept_time (s : State) (c : Cfg) : (s.accept c).time = s.time := rfl
@[simp] theorem State.accept_boot (s : State) (c : Cfg) : (s.accept c).boot = s.boot := rfl
@[simp] theorem State.accept_fuses (s : State) (c : Cfg) : (s.accept c).fuses = s.fuses := rfl
@[simp] theorem State.accept_life (s : State) (c : Cfg) : (s.accept c).life = s.life := rfl
@[simp] theorem State.accept_pins (s : State) (c : Cfg) : (s.accept c).pins = s.pins := rfl
@[simp] theorem State.accept_mbx (s : State) (c : Cfg) : (s.accept c).mbx = s.mbx := rfl
@[simp] theorem State.accept_peers (s : State) (c : Cfg) : (s.accept c).peers = s.peers := rfl
@[simp] theorem State.accept_cfgq (s : State) (c : Cfg) :
    (s.accept c).cfgq = s.cfgq.take s.cfgDue ++ (s.cfgq.drop s.cfgDue).filter (fun e => !e.gives c) ++ [c] := rfl
@[simp] theorem State.accept_cfgDue (s : State) (c : Cfg) : (s.accept c).cfgDue = s.cfgDue := rfl
@[simp] theorem State.accept_edgeq (s : State) (c : Cfg) : (s.accept c).edgeq = s.edgeq := rfl
@[simp] theorem State.accept_lines (s : State) (c : Cfg) : (s.accept c).lines = s.lines := rfl
@[simp] theorem State.accept_bundles (s : State) (c : Cfg) : (s.accept c).bundles = s.bundles := rfl
@[simp] theorem State.accept_drops (s : State) (c : Cfg) : (s.accept c).drops = s.drops := rfl
@[simp] theorem State.accept_trunks (s : State) (c : Cfg) : (s.accept c).trunks = s.trunks := rfl
@[simp] theorem State.accept_hosts (s : State) (c : Cfg) : (s.accept c).hosts = s.hosts := rfl
@[simp] theorem State.accept_bridge (s : State) (c : Cfg) : (s.accept c).bridge = s.bridge := rfl
@[simp] theorem State.accept_sched (s : State) (c : Cfg) : (s.accept c).sched = s.sched := rfl
@[simp] theorem State.accept_arrived (s : State) (c : Cfg) : (s.accept c).arrived = s.arrived := rfl
@[simp] theorem State.accept_cellar (s : State) (c : Cfg) : (s.accept c).cellar = s.cellar := rfl
@[simp] theorem State.accept_fabric (s : State) (c : Cfg) : (s.accept c).fabric = s.fabric := rfl
@[simp] theorem State.accept_power (s : State) (c : Cfg) : (s.accept c).power = s.power := rfl
@[simp] theorem State.accept_clock (s : State) (c : Cfg) : (s.accept c).clock = s.clock := rfl
@[simp] theorem State.accept_faults (s : State) (c : Cfg) : (s.accept c).faults = s.faults := rfl
@[simp] theorem State.accept_thermal (s : State) (c : Cfg) : (s.accept c).thermal = s.thermal := rfl
@[simp] theorem State.accept_din (s : State) (c : Cfg) : (s.accept c).din = s.din := rfl
@[simp] theorem State.accept_cal (s : State) (c : Cfg) : (s.accept c).cal = s.cal := rfl
@[simp] theorem State.accept_test (s : State) (c : Cfg) : (s.accept c).test = s.test := rfl
@[simp] theorem State.accept_skim (s : State) (c : Cfg) : (s.accept c).skim = s.skim := rfl
@[simp] theorem State.accept_keep (s : State) (c : Cfg) : (s.accept c).keep = s.keep := rfl
@[simp] theorem State.accept_pending (s : State) (c : Cfg) : (s.accept c).pending = s.pending := rfl

@[simp] theorem State.doorbell_time (s : State) (b : Nat) : (s.doorbell b).time = s.time := rfl
@[simp] theorem State.doorbell_boot (s : State) (b : Nat) : (s.doorbell b).boot = s.boot := rfl
@[simp] theorem State.doorbell_fuses (s : State) (b : Nat) : (s.doorbell b).fuses = s.fuses := rfl
@[simp] theorem State.doorbell_life (s : State) (b : Nat) : (s.doorbell b).life = s.life := rfl
@[simp] theorem State.doorbell_pins (s : State) (b : Nat) : (s.doorbell b).pins = s.pins := rfl
@[simp] theorem State.doorbell_mbx (s : State) (b : Nat) : (s.doorbell b).mbx = { s.mbx with dbStatus := s.mbx.dbStatus ||| w32 (2 ^ b) } := rfl
@[simp] theorem State.doorbell_peers (s : State) (b : Nat) : (s.doorbell b).peers = s.peers := rfl
@[simp] theorem State.doorbell_cfgq (s : State) (b : Nat) : (s.doorbell b).cfgq = s.cfgq := rfl
@[simp] theorem State.doorbell_cfgDue (s : State) (b : Nat) : (s.doorbell b).cfgDue = s.cfgDue := rfl
@[simp] theorem State.doorbell_edgeq (s : State) (b : Nat) : (s.doorbell b).edgeq = s.edgeq := rfl
@[simp] theorem State.doorbell_lines (s : State) (b : Nat) : (s.doorbell b).lines = s.lines := rfl
@[simp] theorem State.doorbell_bundles (s : State) (b : Nat) : (s.doorbell b).bundles = s.bundles := rfl
@[simp] theorem State.doorbell_drops (s : State) (b : Nat) : (s.doorbell b).drops = s.drops := rfl
@[simp] theorem State.doorbell_trunks (s : State) (b : Nat) : (s.doorbell b).trunks = s.trunks := rfl
@[simp] theorem State.doorbell_hosts (s : State) (b : Nat) : (s.doorbell b).hosts = s.hosts := rfl
@[simp] theorem State.doorbell_bridge (s : State) (b : Nat) : (s.doorbell b).bridge = s.bridge := rfl
@[simp] theorem State.doorbell_sched (s : State) (b : Nat) : (s.doorbell b).sched = s.sched := rfl
@[simp] theorem State.doorbell_arrived (s : State) (b : Nat) : (s.doorbell b).arrived = s.arrived := rfl
@[simp] theorem State.doorbell_cellar (s : State) (b : Nat) : (s.doorbell b).cellar = s.cellar := rfl
@[simp] theorem State.doorbell_fabric (s : State) (b : Nat) : (s.doorbell b).fabric = s.fabric := rfl
@[simp] theorem State.doorbell_power (s : State) (b : Nat) : (s.doorbell b).power = s.power := rfl
@[simp] theorem State.doorbell_clock (s : State) (b : Nat) : (s.doorbell b).clock = s.clock := rfl
@[simp] theorem State.doorbell_faults (s : State) (b : Nat) : (s.doorbell b).faults = s.faults := rfl
@[simp] theorem State.doorbell_thermal (s : State) (b : Nat) : (s.doorbell b).thermal = s.thermal := rfl
@[simp] theorem State.doorbell_din (s : State) (b : Nat) : (s.doorbell b).din = s.din := rfl
@[simp] theorem State.doorbell_cal (s : State) (b : Nat) : (s.doorbell b).cal = s.cal := rfl
@[simp] theorem State.doorbell_test (s : State) (b : Nat) : (s.doorbell b).test = s.test := rfl
@[simp] theorem State.doorbell_skim (s : State) (b : Nat) : (s.doorbell b).skim = s.skim := rfl
@[simp] theorem State.doorbell_keep (s : State) (b : Nat) : (s.doorbell b).keep = s.keep := rfl
@[simp] theorem State.doorbell_pending (s : State) (b : Nat) : (s.doorbell b).pending = s.pending := rfl

@[simp] theorem State.recordFault_time (s : State) (code unit : Nat) (detail : Word) : (s.recordFault code unit detail).time = s.time := rfl
@[simp] theorem State.recordFault_boot (s : State) (code unit : Nat) (detail : Word) : (s.recordFault code unit detail).boot = s.boot := rfl
@[simp] theorem State.recordFault_fuses (s : State) (code unit : Nat) (detail : Word) : (s.recordFault code unit detail).fuses = s.fuses := rfl
@[simp] theorem State.recordFault_life (s : State) (code unit : Nat) (detail : Word) : (s.recordFault code unit detail).life = s.life := rfl
@[simp] theorem State.recordFault_pins (s : State) (code unit : Nat) (detail : Word) : (s.recordFault code unit detail).pins = s.pins := rfl
@[simp] theorem State.recordFault_mbx (s : State) (code unit : Nat) (detail : Word) : (s.recordFault code unit detail).mbx = s.mbx := rfl
@[simp] theorem State.recordFault_peers (s : State) (code unit : Nat) (detail : Word) : (s.recordFault code unit detail).peers = s.peers := rfl
@[simp] theorem State.recordFault_cfgq (s : State) (code unit : Nat) (detail : Word) : (s.recordFault code unit detail).cfgq = s.cfgq := rfl
@[simp] theorem State.recordFault_cfgDue (s : State) (code unit : Nat) (detail : Word) : (s.recordFault code unit detail).cfgDue = s.cfgDue := rfl
@[simp] theorem State.recordFault_edgeq (s : State) (code unit : Nat) (detail : Word) : (s.recordFault code unit detail).edgeq = s.edgeq := rfl
@[simp] theorem State.recordFault_lines (s : State) (code unit : Nat) (detail : Word) : (s.recordFault code unit detail).lines = s.lines := rfl
@[simp] theorem State.recordFault_bundles (s : State) (code unit : Nat) (detail : Word) : (s.recordFault code unit detail).bundles = s.bundles := rfl
@[simp] theorem State.recordFault_drops (s : State) (code unit : Nat) (detail : Word) : (s.recordFault code unit detail).drops = s.drops := rfl
@[simp] theorem State.recordFault_trunks (s : State) (code unit : Nat) (detail : Word) : (s.recordFault code unit detail).trunks = s.trunks := rfl
@[simp] theorem State.recordFault_hosts (s : State) (code unit : Nat) (detail : Word) : (s.recordFault code unit detail).hosts = s.hosts := rfl
@[simp] theorem State.recordFault_bridge (s : State) (code unit : Nat) (detail : Word) : (s.recordFault code unit detail).bridge = s.bridge := rfl
@[simp] theorem State.recordFault_sched (s : State) (code unit : Nat) (detail : Word) : (s.recordFault code unit detail).sched = s.sched := rfl
@[simp] theorem State.recordFault_arrived (s : State) (code unit : Nat) (detail : Word) : (s.recordFault code unit detail).arrived = s.arrived := rfl
@[simp] theorem State.recordFault_cellar (s : State) (code unit : Nat) (detail : Word) : (s.recordFault code unit detail).cellar = s.cellar := rfl
@[simp] theorem State.recordFault_fabric (s : State) (code unit : Nat) (detail : Word) : (s.recordFault code unit detail).fabric = s.fabric := rfl
@[simp] theorem State.recordFault_power (s : State) (code unit : Nat) (detail : Word) : (s.recordFault code unit detail).power = s.power := rfl
@[simp] theorem State.recordFault_clock (s : State) (code unit : Nat) (detail : Word) : (s.recordFault code unit detail).clock = s.clock := rfl
@[simp] theorem State.recordFault_faults (s : State) (code unit : Nat) (detail : Word) :
    (s.recordFault code unit detail).faults = { s.faults with record := s.faults.record.add ⟨code, unit, s.now⟩ detail } := rfl
@[simp] theorem State.recordFault_thermal (s : State) (code unit : Nat) (detail : Word) : (s.recordFault code unit detail).thermal = s.thermal := rfl
@[simp] theorem State.recordFault_din (s : State) (code unit : Nat) (detail : Word) : (s.recordFault code unit detail).din = s.din := rfl
@[simp] theorem State.recordFault_cal (s : State) (code unit : Nat) (detail : Word) : (s.recordFault code unit detail).cal = s.cal := rfl
@[simp] theorem State.recordFault_test (s : State) (code unit : Nat) (detail : Word) : (s.recordFault code unit detail).test = s.test := rfl
@[simp] theorem State.recordFault_skim (s : State) (code unit : Nat) (detail : Word) : (s.recordFault code unit detail).skim = s.skim := rfl
@[simp] theorem State.recordFault_keep (s : State) (code unit : Nat) (detail : Word) : (s.recordFault code unit detail).keep = s.keep := rfl
@[simp] theorem State.recordFault_pending (s : State) (code unit : Nat) (detail : Word) : (s.recordFault code unit detail).pending = s.pending := rfl

@[simp] theorem State.runDue_time (s : State) (cause : Nat) : (s.runDue cause).time = s.time := rfl
@[simp] theorem State.runDue_boot (s : State) (cause : Nat) : (s.runDue cause).boot = s.boot := rfl
@[simp] theorem State.runDue_fuses (s : State) (cause : Nat) : (s.runDue cause).fuses = s.fuses := rfl
@[simp] theorem State.runDue_life (s : State) (cause : Nat) : (s.runDue cause).life = s.life := rfl
@[simp] theorem State.runDue_pins (s : State) (cause : Nat) : (s.runDue cause).pins = s.pins := rfl
@[simp] theorem State.runDue_mbx (s : State) (cause : Nat) : (s.runDue cause).mbx = s.mbx := rfl
@[simp] theorem State.runDue_peers (s : State) (cause : Nat) : (s.runDue cause).peers = s.peers := rfl
@[simp] theorem State.runDue_cfgq (s : State) (cause : Nat) : (s.runDue cause).cfgq = s.cfgq := rfl
@[simp] theorem State.runDue_cfgDue (s : State) (cause : Nat) : (s.runDue cause).cfgDue = s.cfgDue := rfl
@[simp] theorem State.runDue_edgeq (s : State) (cause : Nat) : (s.runDue cause).edgeq = s.edgeq := rfl
@[simp] theorem State.runDue_lines (s : State) (cause : Nat) : (s.runDue cause).lines = s.lines := rfl
@[simp] theorem State.runDue_bundles (s : State) (cause : Nat) : (s.runDue cause).bundles = s.bundles := rfl
@[simp] theorem State.runDue_drops (s : State) (cause : Nat) : (s.runDue cause).drops = s.drops := rfl
@[simp] theorem State.runDue_trunks (s : State) (cause : Nat) : (s.runDue cause).trunks = s.trunks := rfl
@[simp] theorem State.runDue_hosts (s : State) (cause : Nat) : (s.runDue cause).hosts = s.hosts := rfl
@[simp] theorem State.runDue_bridge (s : State) (cause : Nat) : (s.runDue cause).bridge = s.bridge := rfl
@[simp] theorem State.runDue_sched (s : State) (cause : Nat) :
    (s.runDue cause).sched = if s.sched.runCauses.contains cause then s.sched else { s.sched with runCauses := s.sched.runCauses ++ [cause] } := rfl
@[simp] theorem State.runDue_arrived (s : State) (cause : Nat) : (s.runDue cause).arrived = s.arrived := rfl
@[simp] theorem State.runDue_cellar (s : State) (cause : Nat) : (s.runDue cause).cellar = s.cellar := rfl
@[simp] theorem State.runDue_fabric (s : State) (cause : Nat) : (s.runDue cause).fabric = s.fabric := rfl
@[simp] theorem State.runDue_power (s : State) (cause : Nat) : (s.runDue cause).power = s.power := rfl
@[simp] theorem State.runDue_clock (s : State) (cause : Nat) : (s.runDue cause).clock = s.clock := rfl
@[simp] theorem State.runDue_faults (s : State) (cause : Nat) : (s.runDue cause).faults = s.faults := rfl
@[simp] theorem State.runDue_thermal (s : State) (cause : Nat) : (s.runDue cause).thermal = s.thermal := rfl
@[simp] theorem State.runDue_din (s : State) (cause : Nat) : (s.runDue cause).din = s.din := rfl
@[simp] theorem State.runDue_cal (s : State) (cause : Nat) : (s.runDue cause).cal = s.cal := rfl
@[simp] theorem State.runDue_test (s : State) (cause : Nat) : (s.runDue cause).test = s.test := rfl
@[simp] theorem State.runDue_skim (s : State) (cause : Nat) : (s.runDue cause).skim = s.skim := rfl
@[simp] theorem State.runDue_keep (s : State) (cause : Nat) : (s.runDue cause).keep = s.keep := rfl
@[simp] theorem State.runDue_pending (s : State) (cause : Nat) : (s.runDue cause).pending = s.pending := rfl

/-- A frame through the controlled port changes nothing but the fabric's state. -/
theorem State.secureTx_frame (s : State) (root : Nat) : s.secureTx root = { s with fabric := (s.secureTx root).fabric } := by
  unfold State.secureTx; split
  · dsimp only; split <;> rfl
  · rfl

/-- A frame of the fabric engine changes nothing but the fabric's state. -/
theorem State.fabSend_frame (s : State) (root dst : Nat) (b : FabBody) :
    s.fabSend root dst b = { s with fabric := (s.fabSend root dst b).fabric } := by
  unfold State.fabSend; split
  · rfl
  · split
    · rfl
    · rw [State.secureTx_frame]; rfl

/-- A control frame that no excluded member keeps back is the last of the outbox, behind its header (R438). -/
theorem State.fabSend_outbox (s : State) (root dst y : Nat) (b : FabBody) (hy : b.type = some y)
    (hx : (s.excluded root && !b.hops) = false) :
    (s.fabSend root dst b).fabric.outbox = (s.secureTx root).fabric.outbox ++ [⟨root, some (s.ctlHeader y dst), b⟩] := by
  simp [State.fabSend, hy, hx, State.modFabric]

@[simp] theorem State.secureTx_time (s : State) (root : Nat) : (s.secureTx root).time = s.time := by
  rw [State.secureTx_frame]
@[simp] theorem State.secureTx_boot (s : State) (root : Nat) : (s.secureTx root).boot = s.boot := by
  rw [State.secureTx_frame]
@[simp] theorem State.secureTx_fuses (s : State) (root : Nat) : (s.secureTx root).fuses = s.fuses := by
  rw [State.secureTx_frame]
@[simp] theorem State.secureTx_life (s : State) (root : Nat) : (s.secureTx root).life = s.life := by
  rw [State.secureTx_frame]
@[simp] theorem State.secureTx_pins (s : State) (root : Nat) : (s.secureTx root).pins = s.pins := by
  rw [State.secureTx_frame]
@[simp] theorem State.secureTx_mbx (s : State) (root : Nat) : (s.secureTx root).mbx = s.mbx := by
  rw [State.secureTx_frame]
@[simp] theorem State.secureTx_peers (s : State) (root : Nat) : (s.secureTx root).peers = s.peers := by
  rw [State.secureTx_frame]
@[simp] theorem State.secureTx_cfgq (s : State) (root : Nat) : (s.secureTx root).cfgq = s.cfgq := by
  rw [State.secureTx_frame]
@[simp] theorem State.secureTx_cfgDue (s : State) (root : Nat) : (s.secureTx root).cfgDue = s.cfgDue := by
  rw [State.secureTx_frame]
@[simp] theorem State.secureTx_edgeq (s : State) (root : Nat) : (s.secureTx root).edgeq = s.edgeq := by
  rw [State.secureTx_frame]
@[simp] theorem State.secureTx_lines (s : State) (root : Nat) : (s.secureTx root).lines = s.lines := by
  rw [State.secureTx_frame]
@[simp] theorem State.secureTx_bundles (s : State) (root : Nat) : (s.secureTx root).bundles = s.bundles := by
  rw [State.secureTx_frame]
@[simp] theorem State.secureTx_drops (s : State) (root : Nat) : (s.secureTx root).drops = s.drops := by
  rw [State.secureTx_frame]
@[simp] theorem State.secureTx_trunks (s : State) (root : Nat) : (s.secureTx root).trunks = s.trunks := by
  rw [State.secureTx_frame]
@[simp] theorem State.secureTx_hosts (s : State) (root : Nat) : (s.secureTx root).hosts = s.hosts := by
  rw [State.secureTx_frame]
@[simp] theorem State.secureTx_bridge (s : State) (root : Nat) : (s.secureTx root).bridge = s.bridge := by
  rw [State.secureTx_frame]
@[simp] theorem State.secureTx_sched (s : State) (root : Nat) : (s.secureTx root).sched = s.sched := by
  rw [State.secureTx_frame]
@[simp] theorem State.secureTx_arrived (s : State) (root : Nat) : (s.secureTx root).arrived = s.arrived := by
  rw [State.secureTx_frame]
@[simp] theorem State.secureTx_cellar (s : State) (root : Nat) : (s.secureTx root).cellar = s.cellar := by
  rw [State.secureTx_frame]
@[simp] theorem State.secureTx_power (s : State) (root : Nat) : (s.secureTx root).power = s.power := by
  rw [State.secureTx_frame]
@[simp] theorem State.secureTx_clock (s : State) (root : Nat) : (s.secureTx root).clock = s.clock := by
  rw [State.secureTx_frame]
@[simp] theorem State.secureTx_faults (s : State) (root : Nat) : (s.secureTx root).faults = s.faults := by
  rw [State.secureTx_frame]
@[simp] theorem State.secureTx_thermal (s : State) (root : Nat) : (s.secureTx root).thermal = s.thermal := by
  rw [State.secureTx_frame]
@[simp] theorem State.secureTx_din (s : State) (root : Nat) : (s.secureTx root).din = s.din := by
  rw [State.secureTx_frame]
@[simp] theorem State.secureTx_cal (s : State) (root : Nat) : (s.secureTx root).cal = s.cal := by
  rw [State.secureTx_frame]
@[simp] theorem State.secureTx_test (s : State) (root : Nat) : (s.secureTx root).test = s.test := by
  rw [State.secureTx_frame]
@[simp] theorem State.secureTx_skim (s : State) (root : Nat) : (s.secureTx root).skim = s.skim := by
  rw [State.secureTx_frame]
@[simp] theorem State.secureTx_keep (s : State) (root : Nat) : (s.secureTx root).keep = s.keep := by
  rw [State.secureTx_frame]
@[simp] theorem State.secureTx_pending (s : State) (root : Nat) : (s.secureTx root).pending = s.pending := by
  rw [State.secureTx_frame]

@[simp] theorem State.fabSend_time (s : State) (root dst : Nat) (b : FabBody) :
    (s.fabSend root dst b).time = s.time := by rw [State.fabSend_frame]
@[simp] theorem State.fabSend_boot (s : State) (root dst : Nat) (b : FabBody) :
    (s.fabSend root dst b).boot = s.boot := by rw [State.fabSend_frame]
@[simp] theorem State.fabSend_fuses (s : State) (root dst : Nat) (b : FabBody) :
    (s.fabSend root dst b).fuses = s.fuses := by rw [State.fabSend_frame]
@[simp] theorem State.fabSend_life (s : State) (root dst : Nat) (b : FabBody) :
    (s.fabSend root dst b).life = s.life := by rw [State.fabSend_frame]
@[simp] theorem State.fabSend_pins (s : State) (root dst : Nat) (b : FabBody) :
    (s.fabSend root dst b).pins = s.pins := by rw [State.fabSend_frame]
@[simp] theorem State.fabSend_mbx (s : State) (root dst : Nat) (b : FabBody) :
    (s.fabSend root dst b).mbx = s.mbx := by rw [State.fabSend_frame]
@[simp] theorem State.fabSend_peers (s : State) (root dst : Nat) (b : FabBody) :
    (s.fabSend root dst b).peers = s.peers := by rw [State.fabSend_frame]
@[simp] theorem State.fabSend_cfgq (s : State) (root dst : Nat) (b : FabBody) :
    (s.fabSend root dst b).cfgq = s.cfgq := by rw [State.fabSend_frame]
@[simp] theorem State.fabSend_cfgDue (s : State) (root dst : Nat) (b : FabBody) :
    (s.fabSend root dst b).cfgDue = s.cfgDue := by rw [State.fabSend_frame]
@[simp] theorem State.fabSend_edgeq (s : State) (root dst : Nat) (b : FabBody) :
    (s.fabSend root dst b).edgeq = s.edgeq := by rw [State.fabSend_frame]
@[simp] theorem State.fabSend_lines (s : State) (root dst : Nat) (b : FabBody) :
    (s.fabSend root dst b).lines = s.lines := by rw [State.fabSend_frame]
@[simp] theorem State.fabSend_bundles (s : State) (root dst : Nat) (b : FabBody) :
    (s.fabSend root dst b).bundles = s.bundles := by rw [State.fabSend_frame]
@[simp] theorem State.fabSend_drops (s : State) (root dst : Nat) (b : FabBody) :
    (s.fabSend root dst b).drops = s.drops := by rw [State.fabSend_frame]
@[simp] theorem State.fabSend_trunks (s : State) (root dst : Nat) (b : FabBody) :
    (s.fabSend root dst b).trunks = s.trunks := by rw [State.fabSend_frame]
@[simp] theorem State.fabSend_hosts (s : State) (root dst : Nat) (b : FabBody) :
    (s.fabSend root dst b).hosts = s.hosts := by rw [State.fabSend_frame]
@[simp] theorem State.fabSend_bridge (s : State) (root dst : Nat) (b : FabBody) :
    (s.fabSend root dst b).bridge = s.bridge := by rw [State.fabSend_frame]
@[simp] theorem State.fabSend_sched (s : State) (root dst : Nat) (b : FabBody) :
    (s.fabSend root dst b).sched = s.sched := by rw [State.fabSend_frame]
@[simp] theorem State.fabSend_arrived (s : State) (root dst : Nat) (b : FabBody) :
    (s.fabSend root dst b).arrived = s.arrived := by rw [State.fabSend_frame]
@[simp] theorem State.fabSend_cellar (s : State) (root dst : Nat) (b : FabBody) :
    (s.fabSend root dst b).cellar = s.cellar := by rw [State.fabSend_frame]
@[simp] theorem State.fabSend_power (s : State) (root dst : Nat) (b : FabBody) :
    (s.fabSend root dst b).power = s.power := by rw [State.fabSend_frame]
@[simp] theorem State.fabSend_clock (s : State) (root dst : Nat) (b : FabBody) :
    (s.fabSend root dst b).clock = s.clock := by rw [State.fabSend_frame]
@[simp] theorem State.fabSend_faults (s : State) (root dst : Nat) (b : FabBody) :
    (s.fabSend root dst b).faults = s.faults := by rw [State.fabSend_frame]
@[simp] theorem State.fabSend_thermal (s : State) (root dst : Nat) (b : FabBody) :
    (s.fabSend root dst b).thermal = s.thermal := by rw [State.fabSend_frame]
@[simp] theorem State.fabSend_din (s : State) (root dst : Nat) (b : FabBody) :
    (s.fabSend root dst b).din = s.din := by rw [State.fabSend_frame]
@[simp] theorem State.fabSend_cal (s : State) (root dst : Nat) (b : FabBody) :
    (s.fabSend root dst b).cal = s.cal := by rw [State.fabSend_frame]
@[simp] theorem State.fabSend_test (s : State) (root dst : Nat) (b : FabBody) :
    (s.fabSend root dst b).test = s.test := by rw [State.fabSend_frame]
@[simp] theorem State.fabSend_skim (s : State) (root dst : Nat) (b : FabBody) :
    (s.fabSend root dst b).skim = s.skim := by rw [State.fabSend_frame]
@[simp] theorem State.fabSend_keep (s : State) (root dst : Nat) (b : FabBody) :
    (s.fabSend root dst b).keep = s.keep := by rw [State.fabSend_frame]
@[simp] theorem State.fabSend_pending (s : State) (root dst : Nat) (b : FabBody) :
    (s.fabSend root dst b).pending = s.pending := by rw [State.fabSend_frame]

end Machine
end Sys2Proof
end

