-- ==== Sys2Proof/Laws/Tables.lean ====
section
/-! SUPPORT. Sparse tables and lists: a read after a write gives the value written, a write leaves every other index alone,
and every operation on the keep-store's memory keeps its canonical form. -/
namespace Sys2Proof
namespace Machine

/-! ## Reads after writes -/

@[simp] theorem tget_tset_self {α : Type} (d : α) (t : Table α) (i : Nat) (x : α) : tget d (tset t i x) i = x := by
  induction t with
  | nil => simp [tset, tget]
  | cons e t ih =>
    unfold tset
    split
    · simp [tget]
    · split
      · simp [tget]
      · next h => simp [tget, ih, Ne.symm h]

theorem tget_tset_ne {α : Type} (d : α) (t : Table α) {i j : Nat} (x : α) (h : j ≠ i) :
    tget d (tset t i x) j = tget d t j := by
  induction t with
  | nil => simp [tset, tget, Ne.symm h]
  | cons e t ih =>
    unfold tset
    split
    · simp [tget, Ne.symm h]
    · split
      · next hk => simp [tget, ← hk, Ne.symm h]
      · simp [tget, ih]

@[simp] theorem tfind_tset_self {α : Type} (t : Table α) (i : Nat) (x : α) : tfind (tset t i x) i = some x := by
  induction t with
  | nil => simp [tset, tfind]
  | cons e t ih =>
    unfold tset
    split
    · simp [tfind]
    · split
      · simp [tfind]
      · next h => simp [tfind, ih, Ne.symm h]

theorem tfind_tset_ne {α : Type} (t : Table α) {i j : Nat} (x : α) (h : j ≠ i) : tfind (tset t i x) j = tfind t j := by
  induction t with
  | nil => simp [tset, tfind, Ne.symm h]
  | cons e t ih =>
    unfold tset
    split
    · simp [tfind, Ne.symm h]
    · split
      · next hk => simp [tfind, ← hk, Ne.symm h]
      · simp [tfind, ih]

@[simp] theorem tget_tdel_self {α : Type} (d : α) (t : Table α) (i : Nat) : tget d (tdel t i) i = d := by
  induction t with
  | nil => rfl
  | cons e t ih =>
    obtain ⟨k, v⟩ := e
    by_cases hk : k = i
    · subst hk; simpa [tdel] using ih
    · simpa [tdel, tget, hk] using ih

theorem tget_tdel_ne {α : Type} (d : α) (t : Table α) {i j : Nat} (h : j ≠ i) : tget d (tdel t i) j = tget d t j := by
  induction t with
  | nil => rfl
  | cons e t ih =>
    obtain ⟨k, v⟩ := e
    by_cases hk : k = i
    · subst hk; simpa [tdel, tget, Ne.symm h] using ih
    · by_cases hj : k = j
      · subst hj; simp [tdel, tget, hk]
      · simpa [tdel, tget, hk, hj] using ih

theorem tget_of_tfind {α : Type} (d : α) {t : Table α} {i : Nat} {x : α} (h : tfind t i = some x) : tget d t i = x := by
  induction t with
  | nil => simp [tfind] at h
  | cons e t ih =>
    unfold tfind at h
    unfold tget
    split at h <;> simp_all

theorem tget_of_tfind_none {α : Type} (d : α) {t : Table α} {i : Nat} (h : tfind t i = none) : tget d t i = d := by
  induction t with
  | nil => rfl
  | cons e t ih =>
    unfold tfind at h
    unfold tget
    split at h <;> simp_all

@[simp] theorem tget_tmod_self {α : Type} (d : α) (t : Table α) (i : Nat) (f : α → α) :
    tget d (tmod d t i f) i = f (tget d t i) := tget_tset_self ..

theorem tget_tmod_ne {α : Type} (d d' : α) (t : Table α) {i j : Nat} (f : α → α) (h : j ≠ i) :
    tget d (tmod d' t i f) j = tget d t j := tget_tset_ne d t _ h

/-! ## Lists -/

@[simp] theorem lmod_length {α : Type} (f : α → α) (l : List α) (i : Nat) : (lmod l i f).length = l.length := by
  induction l generalizing i with
  | nil => rfl
  | cons a t ih => cases i <;> simp [lmod, ih]

theorem lmod_getD_self {α : Type} (d : α) (f : α → α) (l : List α) (i : Nat) (h : i < l.length) :
    (lmod l i f).getD i d = f (l.getD i d) := by
  induction l generalizing i with
  | nil => simp at h
  | cons a t ih =>
    cases i with
    | zero => rfl
    | succ i => simpa [lmod] using ih i (by simpa using h)

theorem lmod_getD_ne {α : Type} (d : α) (f : α → α) (l : List α) {i j : Nat} (h : j ≠ i) :
    (lmod l i f).getD j d = l.getD j d := by
  induction l generalizing i j with
  | nil => rfl
  | cons a t ih =>
    cases i with
    | zero => cases j <;> simp_all [lmod]
    | succ i =>
      cases j with
      | zero => rfl
      | succ j => simpa [lmod] using ih (by omega)

/-! ## Memory in canonical form (R586) -/

/-- A lower bound of the first index of a table. -/
theorem tsorted_cons {α : Type} {k : Nat} {v : α} {t : Table α} :
    tsorted ((k, v) :: t) = true ↔ (∀ e ∈ t, k < e.1) ∧ tsorted t = true := by
  induction t generalizing k v with
  | nil => simp [tsorted]
  | cons e t ih =>
    obtain ⟨k', v'⟩ := e
    rw [tsorted]
    simp only [Bool.and_eq_true, decide_eq_true_eq, List.mem_cons, forall_eq_or_imp]
    constructor
    · rintro ⟨h1, h2⟩
      exact ⟨⟨h1, fun e he => Nat.lt_trans h1 ((ih.1 h2).1 e he)⟩, h2⟩
    · rintro ⟨⟨h1, _⟩, h2⟩
      exact ⟨h1, h2⟩

theorem mem_tset {α : Type} {t : Table α} {i : Nat} {x : α} {e : Nat × α} (h : e ∈ tset t i x) : e = (i, x) ∨ e ∈ t := by
  induction t with
  | nil => simpa [tset] using h
  | cons a t ih =>
    unfold tset at h
    split at h
    · simpa using h
    · split at h
      · simp only [List.mem_cons] at h ⊢
        exact h.imp_right .inr
      · simp only [List.mem_cons] at h ⊢
        rcases h with h | h
        · exact .inr (.inl h)
        · exact (ih h).imp_right .inr

theorem tsorted_tset {α : Type} {t : Table α} (i : Nat) (x : α) (h : tsorted t = true) : tsorted (tset t i x) = true := by
  induction t with
  | nil => rfl
  | cons a t ih =>
    obtain ⟨k, v⟩ := a
    have ⟨h1, h2⟩ := tsorted_cons.1 h
    unfold tset
    split
    · next hk =>
      refine tsorted_cons.2 ⟨?_, h⟩
      intro e he
      rcases List.mem_cons.1 he with he | he
      · subst he; exact hk
      · exact Nat.lt_trans hk (h1 e he)
    · split
      · next hk => subst hk; exact tsorted_cons.2 ⟨h1, h2⟩
      · refine tsorted_cons.2 ⟨?_, ih h2⟩
        intro e he
        rcases mem_tset he with he | he
        · subst he; simp only; omega
        · exact h1 e he

theorem tsorted_tdel {α : Type} {t : Table α} (i : Nat) (h : tsorted t = true) : tsorted (tdel t i) = true := by
  induction t with
  | nil => rfl
  | cons a t ih =>
    obtain ⟨k, v⟩ := a
    have ⟨h1, h2⟩ := tsorted_cons.1 h
    by_cases hk : k = i
    · simpa [tdel, hk] using ih h2
    · have : tdel ((k, v) :: t) i = (k, v) :: tdel t i := by simp [tdel, hk]
      rw [this]
      exact tsorted_cons.2 ⟨fun e he => h1 e (List.mem_filter.1 he).1, ih h2⟩

theorem Memory.wf_iff {t : Table Word} {n : Nat} :
    Memory.wf t n = true ↔ tsorted t = true ∧ ∀ e ∈ t, e.1 < n ∧ e.2 ≠ 0 := by
  simp [Memory.wf, List.all_eq_true]

/-- Memory with nothing listed is in canonical form. -/
@[simp] theorem Memory.wf_nil (n : Nat) : Memory.wf [] n = true := rfl

/-- A word written keeps the canonical form: 0 removes the entry, any other value lists it. -/
theorem Memory.wf_put {t : Table Word} {n w : Nat} (v : Word) (h : Memory.wf t n = true) (hw : w < n) :
    Memory.wf (if v = 0 then tdel t w else tset t w v) n = true := by
  obtain ⟨hs, hb⟩ := Memory.wf_iff.1 h
  split
  · exact Memory.wf_iff.2 ⟨tsorted_tdel w hs, fun e he => hb e (List.mem_filter.1 he).1⟩
  · next hv =>
    refine Memory.wf_iff.2 ⟨tsorted_tset w v hs, fun e he => ?_⟩
    rcases mem_tset he with he | he
    · subst he; exact ⟨hw, hv⟩
    · exact hb e he

/-- A word written reads as the value written, 0 included. -/
theorem Memory.get_put_self (t : Table Word) (w : Nat) (v : Word) :
    tget 0 (if v = 0 then tdel t w else tset t w v) w = v := by
  split
  · next h => simp [h]
  · simp

/-- A word written leaves every other word. -/
theorem Memory.get_put_ne (t : Table Word) {w x : Nat} (v : Word) (h : x ≠ w) :
    tget 0 (if v = 0 then tdel t w else tset t w v) x = tget 0 t x := by
  split
  · exact tget_tdel_ne 0 t h
  · exact tget_tset_ne 0 t v h

end Machine
end Sys2Proof
end

