-- ==== Sys2Proof/Laws/Ops.lean ====
section
/-! SUPPORT. What each shared operation can do, said once: a unit read after it changed, the frame of doorbells, records,
notices and message answers, and the state in which a selected message is answered. -/
namespace Sys2Proof
namespace Machine

/-! ## Units -/

@[simp] theorem State.line_modLine_self (s : State) (ch : Nat) (f : Line → Line) :
    (s.modLine ch f).line ch = f (s.line ch) := tget_tmod_self ..
theorem State.line_modLine_ne (s : State) {ch c : Nat} (f : Line → Line) (h : c ≠ ch) :
    (s.modLine ch f).line c = s.line c := tget_tmod_ne _ _ _ _ h
@[simp] theorem State.bundle_modBundle_self (s : State) (bg : Nat) (f : Bundle → Bundle) :
    (s.modBundle bg f).bundle bg = f (s.bundle bg) := tget_tmod_self ..
theorem State.bundle_modBundle_ne (s : State) {bg c : Nat} (f : Bundle → Bundle) (h : c ≠ bg) :
    (s.modBundle bg f).bundle c = s.bundle c := tget_tmod_ne _ _ _ _ h
@[simp] theorem State.drop_modDrop_self (s : State) (ds : Nat) (f : Drop → Drop) :
    (s.modDrop ds f).drop ds = f (s.drop ds) := tget_tmod_self ..
theorem State.drop_modDrop_ne (s : State) {ds c : Nat} (f : Drop → Drop) (h : c ≠ ds) :
    (s.modDrop ds f).drop c = s.drop c := tget_tmod_ne _ _ _ _ h
@[simp] theorem State.trunk_modTrunk_self (s : State) (tr : Nat) (f : Trunk → Trunk) :
    (s.modTrunk tr f).trunk tr = f (s.trunk tr) := tget_tmod_self ..
theorem State.trunk_modTrunk_ne (s : State) {tr c : Nat} (f : Trunk → Trunk) (h : c ≠ tr) :
    (s.modTrunk tr f).trunk c = s.trunk c := tget_tmod_ne _ _ _ _ h
@[simp] theorem State.host_modHost_self (s : State) (g : Nat) (f : LaneGroup → LaneGroup) :
    (s.modHost g f).host g = f (s.host g) := tget_tmod_self ..
theorem State.host_modHost_ne (s : State) {g c : Nat} (f : LaneGroup → LaneGroup) (h : c ≠ g) :
    (s.modHost g f).host c = s.host c := tget_tmod_ne _ _ _ _ h
@[simp] theorem State.queue_modQueue_self (s : State) (q : Nat) (f : Queue → Queue) :
    (s.modQueue q f).queue q = f (s.queue q) := tget_tset_self ..
theorem State.queue_modQueue_ne (s : State) {q c : Nat} (f : Queue → Queue) (h : c ≠ q) :
    (s.modQueue q f).queue c = s.queue c := tget_tset_ne _ _ _ h
@[simp] theorem State.root_modRoot_self (s : State) (r : Nat) (f : Root → Root) :
    (s.modRoot r f).root r = f (s.root r) := tget_tset_self ..
theorem State.root_modRoot_ne (s : State) {r c : Nat} (f : Root → Root) (h : c ≠ r) :
    (s.modRoot r f).root c = s.root c := tget_tset_ne _ _ _ h
@[simp] theorem State.node_modNode_self (s : State) (n : Nat) (f : Node → Node) :
    (s.modNode n f).node n = f (s.node n) := tget_tmod_self ..
theorem State.node_modNode_ne (s : State) {n c : Nat} (f : Node → Node) (h : c ≠ n) :
    (s.modNode n f).node c = s.node c := tget_tmod_ne _ _ _ _ h
@[simp] theorem State.calUnit_modCalUnit_self (s : State) (u : Nat) (f : CalUnit → CalUnit) :
    (s.modCalUnit u f).calUnit u = f (s.calUnit u) := tget_tmod_self ..
theorem State.calUnit_modCalUnit_ne (s : State) {u c : Nat} (f : CalUnit → CalUnit) (h : c ≠ u) :
    (s.modCalUnit u f).calUnit c = s.calUnit c := tget_tmod_ne _ _ _ _ h
@[simp] theorem State.skimUnit_modSkimUnit_self (s : State) (u : Nat) (f : SkimUnit → SkimUnit) :
    (s.modSkimUnit u f).skimUnit u = f (s.skimUnit u) := tget_tmod_self ..
theorem State.skimUnit_modSkimUnit_ne (s : State) {u c : Nat} (f : SkimUnit → SkimUnit) (h : c ≠ u) :
    (s.modSkimUnit u f).skimUnit c = s.skimUnit c := tget_tmod_ne _ _ _ _ h

/-- A mailbox channel that exists reads as it was changed. -/
theorem State.chan_modChan_self (s : State) {n : Nat} (f : Chan → Chan) (h : n < s.mbx.chans.length) :
    (s.modChan n f).chan n = f (s.chan n) := lmod_getD_self _ _ _ _ h
theorem State.chan_modChan_ne (s : State) {n c : Nat} (f : Chan → Chan) (h : c ≠ n) :
    (s.modChan n f).chan c = s.chan c := lmod_getD_ne _ _ _ h
@[simp] theorem State.modChan_chans_length (s : State) (n : Nat) (f : Chan → Chan) :
    (s.modChan n f).mbx.chans.length = s.mbx.chans.length := lmod_length ..

/-! ## Frames of doorbells, records and faults -/

/-- A doorbell changes DB_STATUS and nothing else (R131). -/
theorem State.doorbell_frame (s : State) (b : Nat) :
    s.doorbell b = { s with mbx := { s.mbx with dbStatus := s.mbx.dbStatus ||| w32 (2 ^ b) } } := rfl

/-- A record changes the ring, its count of lost records and doorbell 3 at most (R133, R136). -/
theorem State.record_frame (s : State) (type source data : Nat) :
    s.record type source data = { s with mbx := (s.record type source data).mbx } := by
  unfold State.record; split <;> rfl

/-- An event changes the doorbells and the ring at most. -/
theorem State.event_frame (s : State) (type source data : Nat) :
    s.event type source data = { s with mbx := (s.event type source data).mbx } := by
  unfold State.event; rw [State.record_frame]; rfl

theorem State.recordLater_frame (s : State) (type source data : Nat) :
    s.recordLater type source data = { s with mbx := (s.recordLater type source data).mbx } := by
  unfold State.recordLater
  split
  · exact State.record_frame ..
  · rfl

theorem State.flushDeferred_frame (s : State) : s.flushDeferred = { s with mbx := s.flushDeferred.mbx } := rfl

/-- The fault record is all that a recorded fault changes (R546). -/
theorem State.recordFault_frame (s : State) (code unit : Nat) (detail : Word) :
    s.recordFault code unit detail = { s with faults := (s.recordFault code unit detail).faults } := rfl

/-- A notice changes the fault state, and the doorbells and the ring at most (R538). -/
theorem State.notice_frame (s : State) (code unit : Nat) :
    s.notice code unit = { s with faults := (s.notice code unit).faults, mbx := (s.notice code unit).mbx } := by
  unfold State.notice
  obtain ⟨f, hf⟩ : ∃ f, (s.recordFault code unit).modFaults (fun f => f.raise code) = { s with faults := f } := ⟨_, rfl⟩
  rw [hf]
  dsimp only
  split
  · rfl
  · split
    · rfl
    · rw [State.recordLater_frame]; rfl

/-- A condition changes the conditions and nothing else (R539). -/
theorem State.condition_frame (s : State) (code unit : Nat) (present : Bool) :
    s.condition code unit present = { s with faults := (s.condition code unit present).faults } := rfl

/-- Something left for the next edge changes that list and nothing else, and stands in it. -/
theorem State.atEdge_frame (s : State) (a : EdgeAct) : s.atEdge a = { s with edgeq := (s.atEdge a).edgeq } := by
  unfold State.atEdge; split <;> rfl
theorem State.mem_atEdge (s : State) (a : EdgeAct) : a ∈ (s.atEdge a).edgeq := by
  unfold State.atEdge
  split
  · next h => simpa using h
  · simp

theorem State.mem_runDue (s : State) (cause : Nat) : cause ∈ (s.runDue cause).sched.runCauses := by
  simp only [State.runDue_sched]
  split
  · next h => simpa using h
  · simp

/-- The bits of DB_STATUS only rise by a doorbell. -/
theorem State.doorbell_bit (s : State) (b : Nat) : (s.doorbell b).mbx.dbStatus &&& w32 (2 ^ b) = w32 (2 ^ b) := by
  simp only [State.doorbell_mbx]
  apply BitVec.eq_of_getElem_eq
  intro i h
  simp only [BitVec.getElem_and, BitVec.getElem_or, Bool.and_eq_right_iff_imp, Bool.or_eq_true]
  exact .inr

/-- The ring never holds more than 1,024 records (R133, R136). -/
theorem ringPut_length (m : MbxSt) (e : Event) : (ringPut m e).ring.length = m.ring.length + 1 := by simp [ringPut]
theorem ringFlush_length (now : Nat) (m : MbxSt) (h : m.ring.length ≤ 1024) : (ringFlush now m).ring.length ≤ 1024 := by
  unfold ringFlush
  split
  · next hc => simp only [ringPut_length]; omega
  · exact h

/-- Bad entries of the forwarding table are removed with notices, and nothing else changes but the fault state, the doorbells and the
ring (R379). -/
theorem State.fdbFound_frame (s : State) (l : List (Nat × Nat)) :
    s.fdbFound l = { s with
      bridge := (s.fdbFound l).bridge, faults := (s.fdbFound l).faults, mbx := (s.fdbFound l).mbx } := by
  unfold State.fdbFound
  induction l generalizing s with
  | nil => rfl
  | cons k t ih =>
    rw [List.foldl_cons, ih]
    split
    · rw [State.notice_frame]; rfl
    · rfl

/-- With no bad entry nothing changes. -/
@[simp] theorem State.fdbFound_nil (s : State) : s.fdbFound [] = s := rfl

/-! ## Fabric frames -/

/-- A control frame on an adjacency that is not excluded is taken (R447). -/
theorem State.ctlTake_adj {s : State} {root : Nat} (go : State → State) (hf : s.fabOn = true) (ha : (s.adj root).isSome = true)
    (hx : s.excluded root = false) : s.ctlTake root go = go s := by
  simp [State.ctlTake, hf, ha, hx]

/-- One on an excluded member's link counts in BAD_TYPE (R447). -/
theorem State.ctlTake_excluded {s : State} {root : Nat} (go : State → State) (hf : s.fabOn = true)
    (ha : (s.adj root).isSome = true) (hx : s.excluded root = true) : s.ctlTake root go = s.badType := by
  simp [State.ctlTake, hf, ha, hx]

/-- A flood leaves what it sends in the outbox and changes nothing else. -/
theorem State.fabFlood_frame (s : State) (except : Option Nat) (b : FabBody) :
    s.fabFlood except b = { s with fabric := (s.fabFlood except b).fabric } := by
  unfold State.fabFlood
  generalize s.fabric.adjs.filter (fun a => some a.root != except) = l
  induction l generalizing s with
  | nil => rfl
  | cons a t ih => rw [List.foldl_cons, ih, State.fabSend_frame]

/-! ## Messages -/

/-- An answer to a peer goes to its queue and changes nothing else. -/
theorem State.answerPeer_frame (s : State) (slot counter : Nat) (ack : Word) (ret : List Word) :
    s.answerPeer slot counter ack ret = { s with mbx := (s.answerPeer slot counter ack ret).mbx } := by
  unfold State.answerPeer; split <;> rfl

/-- A selection changes the mailboxes and nothing else (R122, R123). -/
theorem State.select_frame (s : State) (ch : Nat) : s.select ch = { s with mbx := (s.select ch).mbx } := by
  unfold State.select; dsimp only; split <;> rfl

/-- Sideband words change their lane group and nothing else. -/
theorem State.flushSide_frame (s : State) (g : Nat) : s.flushSide g = { s with hosts := (s.flushSide g).hosts } := rfl
theorem State.sideSend_frame (s : State) (g : Nat) (ack : Word) (ret : List Word) :
    s.sideSend g ack ret = { s with hosts := (s.sideSend g ack ret).hosts } := rfl

/-- The answer to a message changes the mailboxes, a lane group for the side channel, and the replay at most (R102, R124,
R346). -/
theorem State.ackWrite_frame (s : State) (rt : ReplyTo) (c : Code) (ret : List Word) :
    s.ackWrite rt c ret = { s with mbx := (s.ackWrite rt c ret).mbx, boot := (s.ackWrite rt c ret).boot,
                                    hosts := (s.ackWrite rt c ret).hosts } := by
  unfold State.ackWrite
  dsimp only
  split
  · rfl
  · split
    · rw [State.answerPeer_frame]; rfl
    · split <;> split <;> rfl

/-- The end of a message changes the mailboxes and the fault state, a lane group for the side channel, and the replay at most
(R102, R124, R346). -/
theorem State.ack_frame (s : State) (rt : ReplyTo) (c : Code) (ret : List Word) :
    s.ack rt c ret = { s with mbx := (s.ack rt c ret).mbx, faults := (s.ack rt c ret).faults,
                              boot := (s.ack rt c ret).boot, hosts := (s.ack rt c ret).hosts } := by
  unfold State.ack
  rw [State.ackWrite_frame]
  split
  · rw [State.notice_frame]
  · rfl

/-- A command whose message is selected answers what its body answers, in the state of the selection (R123, R124, R595). -/
theorem State.mailbox_selects {cmd : Cmd} {m : Msg} {body : Msg → State → Reply} {s d : State} (h : s.selects cmd m d) :
    s.mailbox cmd m body = d.settle m.rt (body m d) := by
  obtain ⟨hd, hf, hw, hn, hc, hk⟩ := h
  have hc' : (m.chan != 3 && ((s.submit cmd.op m).chan m.chan).cancel) = false := by
    by_cases h3 : m.chan = 3
    · simp [h3]
    · simp [hc h3]
  have hs : ((s.submit cmd.op m).select m.chan).passOn cmd.op m = d := hd.symm
  unfold State.mailbox
  simp only [hf, hw, hn, Bool.and_self, if_true, hc', Bool.false_eq_true, if_false, hs, State.execute, hk,
    Msg.rt]

/-! ## The keep-store -/

/-- One word written keeps both memories canonical (R589 to R591). -/
theorem State.keepPut_wf (s : State) {w : Nat} (v : Word) (hw : w < 512) (h : Memory.wf s.keep.words 512 = true)
    (hc : Memory.wf s.keep.cache 512 = true) :
    Memory.wf (s.keepPut w v).keep.words 512 = true ∧ Memory.wf (s.keepPut w v).keep.cache 512 = true := by
  unfold State.keepPut
  dsimp only
  split
  · rw [State.event_frame]; exact ⟨Memory.wf_put v h hw, Memory.wf_put v hc hw⟩
  · exact ⟨Memory.wf_put v h hw, Memory.wf_put v hc hw⟩

/-- A command cut short keeps both memories canonical, and no command is left (R589). -/
theorem State.keepCutShort_wf (s : State) (h : s.keepWf) : s.keepCutShort.keepWf ∧ s.keepCutShort.keep.job = none := by
  obtain ⟨hw, hc, hj⟩ := h
  unfold State.keepCutShort
  split
  · next hn => exact ⟨⟨hw, hc, hj⟩, hn⟩
  · next j hs =>
    refine ⟨?_, rfl⟩
    dsimp only
    split
    · exact ⟨hw, hc, fun _ h => nomatch h⟩
    · next w v rest hl =>
      have hb : w < 512 := hj j hs (w, v) (by simp [hl])
      obtain ⟨h1, h2⟩ := s.keepPut_wf v hb hw hc
      exact ⟨h1, h2, fun _ h => nomatch h⟩

/-- A command that begins keeps the memories canonical, if its words lie in the store. -/
theorem State.keepStart_wf (s : State) (ws : List (Nat × Word)) (op extra : Nat) (reply : Option ReplyTo) (h : s.keepWf)
    (hw : ∀ e ∈ ws, e.1 < 512) : (s.keepStart ws op extra reply).keepWf := by
  refine ⟨h.1, h.2.1, fun j hj e he => ?_⟩
  cases hj
  exact hw e he

/-- A state with the same keep-store is as canonical. -/
theorem State.keepWf_of_eq {s t : State} (h : s.keepWf) (e : t.keep = s.keep) : t.keepWf := by
  unfold State.keepWf at *; rw [e]; exact h

end Machine
end Sys2Proof
end

