-- ==== Sys2Proof/Laws/Frames.lean ====
section
/-! SUPPORT. What records, events, notices, answers and floods leave as it was, field by field. -/
namespace Sys2Proof
namespace Machine


@[simp] theorem State.record_time (s : State) (type source data : Nat) : (s.record type source data).time = s.time := by
  rw [State.record_frame]
@[simp] theorem State.record_boot (s : State) (type source data : Nat) : (s.record type source data).boot = s.boot := by
  rw [State.record_frame]
@[simp] theorem State.record_fuses (s : State) (type source data : Nat) : (s.record type source data).fuses = s.fuses := by
  rw [State.record_frame]
@[simp] theorem State.record_life (s : State) (type source data : Nat) : (s.record type source data).life = s.life := by
  rw [State.record_frame]
@[simp] theorem State.record_pins (s : State) (type source data : Nat) : (s.record type source data).pins = s.pins := by
  rw [State.record_frame]
@[simp] theorem State.record_peers (s : State) (type source data : Nat) : (s.record type source data).peers = s.peers := by
  rw [State.record_frame]
@[simp] theorem State.record_cfgq (s : State) (type source data : Nat) : (s.record type source data).cfgq = s.cfgq := by
  rw [State.record_frame]
@[simp] theorem State.record_cfgDue (s : State) (type source data : Nat) : (s.record type source data).cfgDue = s.cfgDue := by
  rw [State.record_frame]
@[simp] theorem State.record_edgeq (s : State) (type source data : Nat) : (s.record type source data).edgeq = s.edgeq := by
  rw [State.record_frame]
@[simp] theorem State.record_lines (s : State) (type source data : Nat) : (s.record type source data).lines = s.lines := by
  rw [State.record_frame]
@[simp] theorem State.record_bundles (s : State) (type source data : Nat) : (s.record type source data).bundles = s.bundles := by
  rw [State.record_frame]
@[simp] theorem State.record_drops (s : State) (type source data : Nat) : (s.record type source data).drops = s.drops := by
  rw [State.record_frame]
@[simp] theorem State.record_trunks (s : State) (type source data : Nat) : (s.record type source data).trunks = s.trunks := by
  rw [State.record_frame]
@[simp] theorem State.record_hosts (s : State) (type source data : Nat) : (s.record type source data).hosts = s.hosts := by
  rw [State.record_frame]
@[simp] theorem State.record_bridge (s : State) (type source data : Nat) : (s.record type source data).bridge = s.bridge := by
  rw [State.record_frame]
@[simp] theorem State.record_sched (s : State) (type source data : Nat) : (s.record type source data).sched = s.sched := by
  rw [State.record_frame]
@[simp] theorem State.record_arrived (s : State) (type source data : Nat) : (s.record type source data).arrived = s.arrived := by
  rw [State.record_frame]
@[simp] theorem State.record_cellar (s : State) (type source data : Nat) : (s.record type source data).cellar = s.cellar := by
  rw [State.record_frame]
@[simp] theorem State.record_fabric (s : State) (type source data : Nat) : (s.record type source data).fabric = s.fabric := by
  rw [State.record_frame]
@[simp] theorem State.record_power (s : State) (type source data : Nat) : (s.record type source data).power = s.power := by
  rw [State.record_frame]
@[simp] theorem State.record_clock (s : State) (type source data : Nat) : (s.record type source data).clock = s.clock := by
  rw [State.record_frame]
@[simp] theorem State.record_faults (s : State) (type source data : Nat) : (s.record type source data).faults = s.faults := by
  rw [State.record_frame]
@[simp] theorem State.record_thermal (s : State) (type source data : Nat) : (s.record type source data).thermal = s.thermal := by
  rw [State.record_frame]
@[simp] theorem State.record_din (s : State) (type source data : Nat) : (s.record type source data).din = s.din := by
  rw [State.record_frame]
@[simp] theorem State.record_cal (s : State) (type source data : Nat) : (s.record type source data).cal = s.cal := by
  rw [State.record_frame]
@[simp] theorem State.record_test (s : State) (type source data : Nat) : (s.record type source data).test = s.test := by
  rw [State.record_frame]
@[simp] theorem State.record_skim (s : State) (type source data : Nat) : (s.record type source data).skim = s.skim := by
  rw [State.record_frame]
@[simp] theorem State.record_keep (s : State) (type source data : Nat) : (s.record type source data).keep = s.keep := by
  rw [State.record_frame]
@[simp] theorem State.record_pending (s : State) (type source data : Nat) : (s.record type source data).pending = s.pending := by
  rw [State.record_frame]

@[simp] theorem State.event_time (s : State) (type source data : Nat) : (s.event type source data).time = s.time := by
  rw [State.event_frame]
@[simp] theorem State.event_boot (s : State) (type source data : Nat) : (s.event type source data).boot = s.boot := by
  rw [State.event_frame]
@[simp] theorem State.event_fuses (s : State) (type source data : Nat) : (s.event type source data).fuses = s.fuses := by
  rw [State.event_frame]
@[simp] theorem State.event_life (s : State) (type source data : Nat) : (s.event type source data).life = s.life := by
  rw [State.event_frame]
@[simp] theorem State.event_pins (s : State) (type source data : Nat) : (s.event type source data).pins = s.pins := by
  rw [State.event_frame]
@[simp] theorem State.event_peers (s : State) (type source data : Nat) : (s.event type source data).peers = s.peers := by
  rw [State.event_frame]
@[simp] theorem State.event_cfgq (s : State) (type source data : Nat) : (s.event type source data).cfgq = s.cfgq := by
  rw [State.event_frame]
@[simp] theorem State.event_cfgDue (s : State) (type source data : Nat) : (s.event type source data).cfgDue = s.cfgDue := by
  rw [State.event_frame]
@[simp] theorem State.event_edgeq (s : State) (type source data : Nat) : (s.event type source data).edgeq = s.edgeq := by
  rw [State.event_frame]
@[simp] theorem State.event_lines (s : State) (type source data : Nat) : (s.event type source data).lines = s.lines := by
  rw [State.event_frame]
@[simp] theorem State.event_bundles (s : State) (type source data : Nat) : (s.event type source data).bundles = s.bundles := by
  rw [State.event_frame]
@[simp] theorem State.event_drops (s : State) (type source data : Nat) : (s.event type source data).drops = s.drops := by
  rw [State.event_frame]
@[simp] theorem State.event_trunks (s : State) (type source data : Nat) : (s.event type source data).trunks = s.trunks := by
  rw [State.event_frame]
@[simp] theorem State.event_hosts (s : State) (type source data : Nat) : (s.event type source data).hosts = s.hosts := by
  rw [State.event_frame]
@[simp] theorem State.event_bridge (s : State) (type source data : Nat) : (s.event type source data).bridge = s.bridge := by
  rw [State.event_frame]
@[simp] theorem State.event_sched (s : State) (type source data : Nat) : (s.event type source data).sched = s.sched := by
  rw [State.event_frame]
@[simp] theorem State.event_arrived (s : State) (type source data : Nat) : (s.event type source data).arrived = s.arrived := by
  rw [State.event_frame]
@[simp] theorem State.event_cellar (s : State) (type source data : Nat) : (s.event type source data).cellar = s.cellar := by
  rw [State.event_frame]
@[simp] theorem State.event_fabric (s : State) (type source data : Nat) : (s.event type source data).fabric = s.fabric := by
  rw [State.event_frame]
@[simp] theorem State.event_power (s : State) (type source data : Nat) : (s.event type source data).power = s.power := by
  rw [State.event_frame]
@[simp] theorem State.event_clock (s : State) (type source data : Nat) : (s.event type source data).clock = s.clock := by
  rw [State.event_frame]
@[simp] theorem State.event_faults (s : State) (type source data : Nat) : (s.event type source data).faults = s.faults := by
  rw [State.event_frame]
@[simp] theorem State.event_thermal (s : State) (type source data : Nat) : (s.event type source data).thermal = s.thermal := by
  rw [State.event_frame]
@[simp] theorem State.event_din (s : State) (type source data : Nat) : (s.event type source data).din = s.din := by
  rw [State.event_frame]
@[simp] theorem State.event_cal (s : State) (type source data : Nat) : (s.event type source data).cal = s.cal := by
  rw [State.event_frame]
@[simp] theorem State.event_test (s : State) (type source data : Nat) : (s.event type source data).test = s.test := by
  rw [State.event_frame]
@[simp] theorem State.event_skim (s : State) (type source data : Nat) : (s.event type source data).skim = s.skim := by
  rw [State.event_frame]
@[simp] theorem State.event_keep (s : State) (type source data : Nat) : (s.event type source data).keep = s.keep := by
  rw [State.event_frame]
@[simp] theorem State.event_pending (s : State) (type source data : Nat) : (s.event type source data).pending = s.pending := by
  rw [State.event_frame]

@[simp] theorem State.recordLater_time (s : State) (type source data : Nat) : (s.recordLater type source data).time = s.time := by
  rw [State.recordLater_frame]
@[simp] theorem State.recordLater_boot (s : State) (type source data : Nat) : (s.recordLater type source data).boot = s.boot := by
  rw [State.recordLater_frame]
@[simp] theorem State.recordLater_fuses (s : State) (type source data : Nat) : (s.recordLater type source data).fuses = s.fuses := by
  rw [State.recordLater_frame]
@[simp] theorem State.recordLater_life (s : State) (type source data : Nat) : (s.recordLater type source data).life = s.life := by
  rw [State.recordLater_frame]
@[simp] theorem State.recordLater_pins (s : State) (type source data : Nat) : (s.recordLater type source data).pins = s.pins := by
  rw [State.recordLater_frame]
@[simp] theorem State.recordLater_peers (s : State) (type source data : Nat) : (s.recordLater type source data).peers = s.peers := by
  rw [State.recordLater_frame]
@[simp] theorem State.recordLater_cfgq (s : State) (type source data : Nat) : (s.recordLater type source data).cfgq = s.cfgq := by
  rw [State.recordLater_frame]
@[simp] theorem State.recordLater_cfgDue (s : State) (type source data : Nat) : (s.recordLater type source data).cfgDue = s.cfgDue := by
  rw [State.recordLater_frame]
@[simp] theorem State.recordLater_edgeq (s : State) (type source data : Nat) : (s.recordLater type source data).edgeq = s.edgeq := by
  rw [State.recordLater_frame]
@[simp] theorem State.recordLater_lines (s : State) (type source data : Nat) : (s.recordLater type source data).lines = s.lines := by
  rw [State.recordLater_frame]
@[simp] theorem State.recordLater_bundles (s : State) (type source data : Nat) : (s.recordLater type source data).bundles = s.bundles := by
  rw [State.recordLater_frame]
@[simp] theorem State.recordLater_drops (s : State) (type source data : Nat) : (s.recordLater type source data).drops = s.drops := by
  rw [State.recordLater_frame]
@[simp] theorem State.recordLater_trunks (s : State) (type source data : Nat) : (s.recordLater type source data).trunks = s.trunks := by
  rw [State.recordLater_frame]
@[simp] theorem State.recordLater_hosts (s : State) (type source data : Nat) : (s.recordLater type source data).hosts = s.hosts := by
  rw [State.recordLater_frame]
@[simp] theorem State.recordLater_bridge (s : State) (type source data : Nat) : (s.recordLater type source data).bridge = s.bridge := by
  rw [State.recordLater_frame]
@[simp] theorem State.recordLater_sched (s : State) (type source data : Nat) : (s.recordLater type source data).sched = s.sched := by
  rw [State.recordLater_frame]
@[simp] theorem State.recordLater_arrived (s : State) (type source data : Nat) : (s.recordLater type source data).arrived = s.arrived := by
  rw [State.recordLater_frame]
@[simp] theorem State.recordLater_cellar (s : State) (type source data : Nat) : (s.recordLater type source data).cellar = s.cellar := by
  rw [State.recordLater_frame]
@[simp] theorem State.recordLater_fabric (s : State) (type source data : Nat) : (s.recordLater type source data).fabric = s.fabric := by
  rw [State.recordLater_frame]
@[simp] theorem State.recordLater_power (s : State) (type source data : Nat) : (s.recordLater type source data).power = s.power := by
  rw [State.recordLater_frame]
@[simp] theorem State.recordLater_clock (s : State) (type source data : Nat) : (s.recordLater type source data).clock = s.clock := by
  rw [State.recordLater_frame]
@[simp] theorem State.recordLater_faults (s : State) (type source data : Nat) : (s.recordLater type source data).faults = s.faults := by
  rw [State.recordLater_frame]
@[simp] theorem State.recordLater_thermal (s : State) (type source data : Nat) : (s.recordLater type source data).thermal = s.thermal := by
  rw [State.recordLater_frame]
@[simp] theorem State.recordLater_din (s : State) (type source data : Nat) : (s.recordLater type source data).din = s.din := by
  rw [State.recordLater_frame]
@[simp] theorem State.recordLater_cal (s : State) (type source data : Nat) : (s.recordLater type source data).cal = s.cal := by
  rw [State.recordLater_frame]
@[simp] theorem State.recordLater_test (s : State) (type source data : Nat) : (s.recordLater type source data).test = s.test := by
  rw [State.recordLater_frame]
@[simp] theorem State.recordLater_skim (s : State) (type source data : Nat) : (s.recordLater type source data).skim = s.skim := by
  rw [State.recordLater_frame]
@[simp] theorem State.recordLater_keep (s : State) (type source data : Nat) : (s.recordLater type source data).keep = s.keep := by
  rw [State.recordLater_frame]
@[simp] theorem State.recordLater_pending (s : State) (type source data : Nat) : (s.recordLater type source data).pending = s.pending := by
  rw [State.recordLater_frame]

@[simp] theorem State.notice_time (s : State) (code unit : Nat) : (s.notice code unit).time = s.time := by
  rw [State.notice_frame]
@[simp] theorem State.notice_boot (s : State) (code unit : Nat) : (s.notice code unit).boot = s.boot := by
  rw [State.notice_frame]
@[simp] theorem State.notice_fuses (s : State) (code unit : Nat) : (s.notice code unit).fuses = s.fuses := by
  rw [State.notice_frame]
@[simp] theorem State.notice_life (s : State) (code unit : Nat) : (s.notice code unit).life = s.life := by
  rw [State.notice_frame]
@[simp] theorem State.notice_pins (s : State) (code unit : Nat) : (s.notice code unit).pins = s.pins := by
  rw [State.notice_frame]
@[simp] theorem State.notice_peers (s : State) (code unit : Nat) : (s.notice code unit).peers = s.peers := by
  rw [State.notice_frame]
@[simp] theorem State.notice_cfgq (s : State) (code unit : Nat) : (s.notice code unit).cfgq = s.cfgq := by
  rw [State.notice_frame]
@[simp] theorem State.notice_cfgDue (s : State) (code unit : Nat) : (s.notice code unit).cfgDue = s.cfgDue := by
  rw [State.notice_frame]
@[simp] theorem State.notice_edgeq (s : State) (code unit : Nat) : (s.notice code unit).edgeq = s.edgeq := by
  rw [State.notice_frame]
@[simp] theorem State.notice_lines (s : State) (code unit : Nat) : (s.notice code unit).lines = s.lines := by
  rw [State.notice_frame]
@[simp] theorem State.notice_bundles (s : State) (code unit : Nat) : (s.notice code unit).bundles = s.bundles := by
  rw [State.notice_frame]
@[simp] theorem State.notice_drops (s : State) (code unit : Nat) : (s.notice code unit).drops = s.drops := by
  rw [State.notice_frame]
@[simp] theorem State.notice_trunks (s : State) (code unit : Nat) : (s.notice code unit).trunks = s.trunks := by
  rw [State.notice_frame]
@[simp] theorem State.notice_hosts (s : State) (code unit : Nat) : (s.notice code unit).hosts = s.hosts := by
  rw [State.notice_frame]
@[simp] theorem State.notice_bridge (s : State) (code unit : Nat) : (s.notice code unit).bridge = s.bridge := by
  rw [State.notice_frame]
@[simp] theorem State.notice_sched (s : State) (code unit : Nat) : (s.notice code unit).sched = s.sched := by
  rw [State.notice_frame]
@[simp] theorem State.notice_arrived (s : State) (code unit : Nat) : (s.notice code unit).arrived = s.arrived := by
  rw [State.notice_frame]
@[simp] theorem State.notice_cellar (s : State) (code unit : Nat) : (s.notice code unit).cellar = s.cellar := by
  rw [State.notice_frame]
@[simp] theorem State.notice_fabric (s : State) (code unit : Nat) : (s.notice code unit).fabric = s.fabric := by
  rw [State.notice_frame]
@[simp] theorem State.notice_power (s : State) (code unit : Nat) : (s.notice code unit).power = s.power := by
  rw [State.notice_frame]
@[simp] theorem State.notice_clock (s : State) (code unit : Nat) : (s.notice code unit).clock = s.clock := by
  rw [State.notice_frame]
@[simp] theorem State.notice_thermal (s : State) (code unit : Nat) : (s.notice code unit).thermal = s.thermal := by
  rw [State.notice_frame]
@[simp] theorem State.notice_din (s : State) (code unit : Nat) : (s.notice code unit).din = s.din := by
  rw [State.notice_frame]
@[simp] theorem State.notice_cal (s : State) (code unit : Nat) : (s.notice code unit).cal = s.cal := by
  rw [State.notice_frame]
@[simp] theorem State.notice_test (s : State) (code unit : Nat) : (s.notice code unit).test = s.test := by
  rw [State.notice_frame]
@[simp] theorem State.notice_skim (s : State) (code unit : Nat) : (s.notice code unit).skim = s.skim := by
  rw [State.notice_frame]
@[simp] theorem State.notice_keep (s : State) (code unit : Nat) : (s.notice code unit).keep = s.keep := by
  rw [State.notice_frame]
@[simp] theorem State.notice_pending (s : State) (code unit : Nat) : (s.notice code unit).pending = s.pending := by
  rw [State.notice_frame]

@[simp] theorem State.condition_time (s : State) (code unit : Nat) (present : Bool) : (s.condition code unit present).time = s.time := by
  rw [State.condition_frame]
@[simp] theorem State.condition_boot (s : State) (code unit : Nat) (present : Bool) : (s.condition code unit present).boot = s.boot := by
  rw [State.condition_frame]
@[simp] theorem State.condition_fuses (s : State) (code unit : Nat) (present : Bool) : (s.condition code unit present).fuses = s.fuses := by
  rw [State.condition_frame]
@[simp] theorem State.condition_life (s : State) (code unit : Nat) (present : Bool) : (s.condition code unit present).life = s.life := by
  rw [State.condition_frame]
@[simp] theorem State.condition_pins (s : State) (code unit : Nat) (present : Bool) : (s.condition code unit present).pins = s.pins := by
  rw [State.condition_frame]
@[simp] theorem State.condition_mbx (s : State) (code unit : Nat) (present : Bool) : (s.condition code unit present).mbx = s.mbx := by
  rw [State.condition_frame]
@[simp] theorem State.condition_peers (s : State) (code unit : Nat) (present : Bool) : (s.condition code unit present).peers = s.peers := by
  rw [State.condition_frame]
@[simp] theorem State.condition_cfgq (s : State) (code unit : Nat) (present : Bool) : (s.condition code unit present).cfgq = s.cfgq := by
  rw [State.condition_frame]
@[simp] theorem State.condition_cfgDue (s : State) (code unit : Nat) (present : Bool) : (s.condition code unit present).cfgDue = s.cfgDue := by
  rw [State.condition_frame]
@[simp] theorem State.condition_edgeq (s : State) (code unit : Nat) (present : Bool) : (s.condition code unit present).edgeq = s.edgeq := by
  rw [State.condition_frame]
@[simp] theorem State.condition_lines (s : State) (code unit : Nat) (present : Bool) : (s.condition code unit present).lines = s.lines := by
  rw [State.condition_frame]
@[simp] theorem State.condition_bundles (s : State) (code unit : Nat) (present : Bool) : (s.condition code unit present).bundles = s.bundles := by
  rw [State.condition_frame]
@[simp] theorem State.condition_drops (s : State) (code unit : Nat) (present : Bool) : (s.condition code unit present).drops = s.drops := by
  rw [State.condition_frame]
@[simp] theorem State.condition_trunks (s : State) (code unit : Nat) (present : Bool) : (s.condition code unit present).trunks = s.trunks := by
  rw [State.condition_frame]
@[simp] theorem State.condition_hosts (s : State) (code unit : Nat) (present : Bool) : (s.condition code unit present).hosts = s.hosts := by
  rw [State.condition_frame]
@[simp] theorem State.condition_bridge (s : State) (code unit : Nat) (present : Bool) : (s.condition code unit present).bridge = s.bridge := by
  rw [State.condition_frame]
@[simp] theorem State.condition_sched (s : State) (code unit : Nat) (present : Bool) : (s.condition code unit present).sched = s.sched := by
  rw [State.condition_frame]
@[simp] theorem State.condition_arrived (s : State) (code unit : Nat) (present : Bool) : (s.condition code unit present).arrived = s.arrived := by
  rw [State.condition_frame]
@[simp] theorem State.condition_cellar (s : State) (code unit : Nat) (present : Bool) : (s.condition code unit present).cellar = s.cellar := by
  rw [State.condition_frame]
@[simp] theorem State.condition_fabric (s : State) (code unit : Nat) (present : Bool) : (s.condition code unit present).fabric = s.fabric := by
  rw [State.condition_frame]
@[simp] theorem State.condition_power (s : State) (code unit : Nat) (present : Bool) : (s.condition code unit present).power = s.power := by
  rw [State.condition_frame]
@[simp] theorem State.condition_clock (s : State) (code unit : Nat) (present : Bool) : (s.condition code unit present).clock = s.clock := by
  rw [State.condition_frame]
@[simp] theorem State.condition_thermal (s : State) (code unit : Nat) (present : Bool) : (s.condition code unit present).thermal = s.thermal := by
  rw [State.condition_frame]
@[simp] theorem State.condition_din (s : State) (code unit : Nat) (present : Bool) : (s.condition code unit present).din = s.din := by
  rw [State.condition_frame]
@[simp] theorem State.condition_cal (s : State) (code unit : Nat) (present : Bool) : (s.condition code unit present).cal = s.cal := by
  rw [State.condition_frame]
@[simp] theorem State.condition_test (s : State) (code unit : Nat) (present : Bool) : (s.condition code unit present).test = s.test := by
  rw [State.condition_frame]
@[simp] theorem State.condition_skim (s : State) (code unit : Nat) (present : Bool) : (s.condition code unit present).skim = s.skim := by
  rw [State.condition_frame]
@[simp] theorem State.condition_keep (s : State) (code unit : Nat) (present : Bool) : (s.condition code unit present).keep = s.keep := by
  rw [State.condition_frame]
@[simp] theorem State.condition_pending (s : State) (code unit : Nat) (present : Bool) : (s.condition code unit present).pending = s.pending := by
  rw [State.condition_frame]

@[simp] theorem State.answerPeer_time (s : State) (slot counter : Nat) (ack : Word) (ret : List Word) : (s.answerPeer slot counter ack ret).time = s.time := by
  rw [State.answerPeer_frame]
@[simp] theorem State.answerPeer_boot (s : State) (slot counter : Nat) (ack : Word) (ret : List Word) : (s.answerPeer slot counter ack ret).boot = s.boot := by
  rw [State.answerPeer_frame]
@[simp] theorem State.answerPeer_fuses (s : State) (slot counter : Nat) (ack : Word) (ret : List Word) : (s.answerPeer slot counter ack ret).fuses = s.fuses := by
  rw [State.answerPeer_frame]
@[simp] theorem State.answerPeer_life (s : State) (slot counter : Nat) (ack : Word) (ret : List Word) : (s.answerPeer slot counter ack ret).life = s.life := by
  rw [State.answerPeer_frame]
@[simp] theorem State.answerPeer_pins (s : State) (slot counter : Nat) (ack : Word) (ret : List Word) : (s.answerPeer slot counter ack ret).pins = s.pins := by
  rw [State.answerPeer_frame]
@[simp] theorem State.answerPeer_peers (s : State) (slot counter : Nat) (ack : Word) (ret : List Word) : (s.answerPeer slot counter ack ret).peers = s.peers := by
  rw [State.answerPeer_frame]
@[simp] theorem State.answerPeer_cfgq (s : State) (slot counter : Nat) (ack : Word) (ret : List Word) : (s.answerPeer slot counter ack ret).cfgq = s.cfgq := by
  rw [State.answerPeer_frame]
@[simp] theorem State.answerPeer_cfgDue (s : State) (slot counter : Nat) (ack : Word) (ret : List Word) : (s.answerPeer slot counter ack ret).cfgDue = s.cfgDue := by
  rw [State.answerPeer_frame]
@[simp] theorem State.answerPeer_edgeq (s : State) (slot counter : Nat) (ack : Word) (ret : List Word) : (s.answerPeer slot counter ack ret).edgeq = s.edgeq := by
  rw [State.answerPeer_frame]
@[simp] theorem State.answerPeer_lines (s : State) (slot counter : Nat) (ack : Word) (ret : List Word) : (s.answerPeer slot counter ack ret).lines = s.lines := by
  rw [State.answerPeer_frame]
@[simp] theorem State.answerPeer_bundles (s : State) (slot counter : Nat) (ack : Word) (ret : List Word) : (s.answerPeer slot counter ack ret).bundles = s.bundles := by
  rw [State.answerPeer_frame]
@[simp] theorem State.answerPeer_drops (s : State) (slot counter : Nat) (ack : Word) (ret : List Word) : (s.answerPeer slot counter ack ret).drops = s.drops := by
  rw [State.answerPeer_frame]
@[simp] theorem State.answerPeer_trunks (s : State) (slot counter : Nat) (ack : Word) (ret : List Word) : (s.answerPeer slot counter ack ret).trunks = s.trunks := by
  rw [State.answerPeer_frame]
@[simp] theorem State.answerPeer_hosts (s : State) (slot counter : Nat) (ack : Word) (ret : List Word) : (s.answerPeer slot counter ack ret).hosts = s.hosts := by
  rw [State.answerPeer_frame]
@[simp] theorem State.answerPeer_bridge (s : State) (slot counter : Nat) (ack : Word) (ret : List Word) : (s.answerPeer slot counter ack ret).bridge = s.bridge := by
  rw [State.answerPeer_frame]
@[simp] theorem State.answerPeer_sched (s : State) (slot counter : Nat) (ack : Word) (ret : List Word) : (s.answerPeer slot counter ack ret).sched = s.sched := by
  rw [State.answerPeer_frame]
@[simp] theorem State.answerPeer_arrived (s : State) (slot counter : Nat) (ack : Word) (ret : List Word) : (s.answerPeer slot counter ack ret).arrived = s.arrived := by
  rw [State.answerPeer_frame]
@[simp] theorem State.answerPeer_cellar (s : State) (slot counter : Nat) (ack : Word) (ret : List Word) : (s.answerPeer slot counter ack ret).cellar = s.cellar := by
  rw [State.answerPeer_frame]
@[simp] theorem State.answerPeer_fabric (s : State) (slot counter : Nat) (ack : Word) (ret : List Word) : (s.answerPeer slot counter ack ret).fabric = s.fabric := by
  rw [State.answerPeer_frame]
@[simp] theorem State.answerPeer_power (s : State) (slot counter : Nat) (ack : Word) (ret : List Word) : (s.answerPeer slot counter ack ret).power = s.power := by
  rw [State.answerPeer_frame]
@[simp] theorem State.answerPeer_clock (s : State) (slot counter : Nat) (ack : Word) (ret : List Word) : (s.answerPeer slot counter ack ret).clock = s.clock := by
  rw [State.answerPeer_frame]
@[simp] theorem State.answerPeer_faults (s : State) (slot counter : Nat) (ack : Word) (ret : List Word) : (s.answerPeer slot counter ack ret).faults = s.faults := by
  rw [State.answerPeer_frame]
@[simp] theorem State.answerPeer_thermal (s : State) (slot counter : Nat) (ack : Word) (ret : List Word) : (s.answerPeer slot counter ack ret).thermal = s.thermal := by
  rw [State.answerPeer_frame]
@[simp] theorem State.answerPeer_din (s : State) (slot counter : Nat) (ack : Word) (ret : List Word) : (s.answerPeer slot counter ack ret).din = s.din := by
  rw [State.answerPeer_frame]
@[simp] theorem State.answerPeer_cal (s : State) (slot counter : Nat) (ack : Word) (ret : List Word) : (s.answerPeer slot counter ack ret).cal = s.cal := by
  rw [State.answerPeer_frame]
@[simp] theorem State.answerPeer_test (s : State) (slot counter : Nat) (ack : Word) (ret : List Word) : (s.answerPeer slot counter ack ret).test = s.test := by
  rw [State.answerPeer_frame]
@[simp] theorem State.answerPeer_skim (s : State) (slot counter : Nat) (ack : Word) (ret : List Word) : (s.answerPeer slot counter ack ret).skim = s.skim := by
  rw [State.answerPeer_frame]
@[simp] theorem State.answerPeer_keep (s : State) (slot counter : Nat) (ack : Word) (ret : List Word) : (s.answerPeer slot counter ack ret).keep = s.keep := by
  rw [State.answerPeer_frame]
@[simp] theorem State.answerPeer_pending (s : State) (slot counter : Nat) (ack : Word) (ret : List Word) : (s.answerPeer slot counter ack ret).pending = s.pending := by
  rw [State.answerPeer_frame]

@[simp] theorem State.select_time (s : State) (ch : Nat) : (s.select ch).time = s.time := by
  rw [State.select_frame]
@[simp] theorem State.select_boot (s : State) (ch : Nat) : (s.select ch).boot = s.boot := by
  rw [State.select_frame]
@[simp] theorem State.select_fuses (s : State) (ch : Nat) : (s.select ch).fuses = s.fuses := by
  rw [State.select_frame]
@[simp] theorem State.select_life (s : State) (ch : Nat) : (s.select ch).life = s.life := by
  rw [State.select_frame]
@[simp] theorem State.select_pins (s : State) (ch : Nat) : (s.select ch).pins = s.pins := by
  rw [State.select_frame]
@[simp] theorem State.select_peers (s : State) (ch : Nat) : (s.select ch).peers = s.peers := by
  rw [State.select_frame]
@[simp] theorem State.select_cfgq (s : State) (ch : Nat) : (s.select ch).cfgq = s.cfgq := by
  rw [State.select_frame]
@[simp] theorem State.select_cfgDue (s : State) (ch : Nat) : (s.select ch).cfgDue = s.cfgDue := by
  rw [State.select_frame]
@[simp] theorem State.select_edgeq (s : State) (ch : Nat) : (s.select ch).edgeq = s.edgeq := by
  rw [State.select_frame]
@[simp] theorem State.select_lines (s : State) (ch : Nat) : (s.select ch).lines = s.lines := by
  rw [State.select_frame]
@[simp] theorem State.select_bundles (s : State) (ch : Nat) : (s.select ch).bundles = s.bundles := by
  rw [State.select_frame]
@[simp] theorem State.select_drops (s : State) (ch : Nat) : (s.select ch).drops = s.drops := by
  rw [State.select_frame]
@[simp] theorem State.select_trunks (s : State) (ch : Nat) : (s.select ch).trunks = s.trunks := by
  rw [State.select_frame]
@[simp] theorem State.select_hosts (s : State) (ch : Nat) : (s.select ch).hosts = s.hosts := by
  rw [State.select_frame]
@[simp] theorem State.select_bridge (s : State) (ch : Nat) : (s.select ch).bridge = s.bridge := by
  rw [State.select_frame]
@[simp] theorem State.select_sched (s : State) (ch : Nat) : (s.select ch).sched = s.sched := by
  rw [State.select_frame]
@[simp] theorem State.select_arrived (s : State) (ch : Nat) : (s.select ch).arrived = s.arrived := by
  rw [State.select_frame]
@[simp] theorem State.select_cellar (s : State) (ch : Nat) : (s.select ch).cellar = s.cellar := by
  rw [State.select_frame]
@[simp] theorem State.select_fabric (s : State) (ch : Nat) : (s.select ch).fabric = s.fabric := by
  rw [State.select_frame]
@[simp] theorem State.select_power (s : State) (ch : Nat) : (s.select ch).power = s.power := by
  rw [State.select_frame]
@[simp] theorem State.select_clock (s : State) (ch : Nat) : (s.select ch).clock = s.clock := by
  rw [State.select_frame]
@[simp] theorem State.select_faults (s : State) (ch : Nat) : (s.select ch).faults = s.faults := by
  rw [State.select_frame]
@[simp] theorem State.select_thermal (s : State) (ch : Nat) : (s.select ch).thermal = s.thermal := by
  rw [State.select_frame]
@[simp] theorem State.select_din (s : State) (ch : Nat) : (s.select ch).din = s.din := by
  rw [State.select_frame]
@[simp] theorem State.select_cal (s : State) (ch : Nat) : (s.select ch).cal = s.cal := by
  rw [State.select_frame]
@[simp] theorem State.select_test (s : State) (ch : Nat) : (s.select ch).test = s.test := by
  rw [State.select_frame]
@[simp] theorem State.select_skim (s : State) (ch : Nat) : (s.select ch).skim = s.skim := by
  rw [State.select_frame]
@[simp] theorem State.select_keep (s : State) (ch : Nat) : (s.select ch).keep = s.keep := by
  rw [State.select_frame]
@[simp] theorem State.select_pending (s : State) (ch : Nat) : (s.select ch).pending = s.pending := by
  rw [State.select_frame]

@[simp] theorem State.sideSend_time (s : State) (g : Nat) (ack : Word) (ret : List Word) : (s.sideSend g ack ret).time = s.time := by
  rw [State.sideSend_frame]
@[simp] theorem State.sideSend_boot (s : State) (g : Nat) (ack : Word) (ret : List Word) : (s.sideSend g ack ret).boot = s.boot := by
  rw [State.sideSend_frame]
@[simp] theorem State.sideSend_fuses (s : State) (g : Nat) (ack : Word) (ret : List Word) : (s.sideSend g ack ret).fuses = s.fuses := by
  rw [State.sideSend_frame]
@[simp] theorem State.sideSend_life (s : State) (g : Nat) (ack : Word) (ret : List Word) : (s.sideSend g ack ret).life = s.life := by
  rw [State.sideSend_frame]
@[simp] theorem State.sideSend_pins (s : State) (g : Nat) (ack : Word) (ret : List Word) : (s.sideSend g ack ret).pins = s.pins := by
  rw [State.sideSend_frame]
@[simp] theorem State.sideSend_mbx (s : State) (g : Nat) (ack : Word) (ret : List Word) : (s.sideSend g ack ret).mbx = s.mbx := by
  rw [State.sideSend_frame]
@[simp] theorem State.sideSend_peers (s : State) (g : Nat) (ack : Word) (ret : List Word) : (s.sideSend g ack ret).peers = s.peers := by
  rw [State.sideSend_frame]
@[simp] theorem State.sideSend_cfgq (s : State) (g : Nat) (ack : Word) (ret : List Word) : (s.sideSend g ack ret).cfgq = s.cfgq := by
  rw [State.sideSend_frame]
@[simp] theorem State.sideSend_cfgDue (s : State) (g : Nat) (ack : Word) (ret : List Word) : (s.sideSend g ack ret).cfgDue = s.cfgDue := by
  rw [State.sideSend_frame]
@[simp] theorem State.sideSend_edgeq (s : State) (g : Nat) (ack : Word) (ret : List Word) : (s.sideSend g ack ret).edgeq = s.edgeq := by
  rw [State.sideSend_frame]
@[simp] theorem State.sideSend_lines (s : State) (g : Nat) (ack : Word) (ret : List Word) : (s.sideSend g ack ret).lines = s.lines := by
  rw [State.sideSend_frame]
@[simp] theorem State.sideSend_bundles (s : State) (g : Nat) (ack : Word) (ret : List Word) : (s.sideSend g ack ret).bundles = s.bundles := by
  rw [State.sideSend_frame]
@[simp] theorem State.sideSend_drops (s : State) (g : Nat) (ack : Word) (ret : List Word) : (s.sideSend g ack ret).drops = s.drops := by
  rw [State.sideSend_frame]
@[simp] theorem State.sideSend_trunks (s : State) (g : Nat) (ack : Word) (ret : List Word) : (s.sideSend g ack ret).trunks = s.trunks := by
  rw [State.sideSend_frame]
@[simp] theorem State.sideSend_bridge (s : State) (g : Nat) (ack : Word) (ret : List Word) : (s.sideSend g ack ret).bridge = s.bridge := by
  rw [State.sideSend_frame]
@[simp] theorem State.sideSend_sched (s : State) (g : Nat) (ack : Word) (ret : List Word) : (s.sideSend g ack ret).sched = s.sched := by
  rw [State.sideSend_frame]
@[simp] theorem State.sideSend_arrived (s : State) (g : Nat) (ack : Word) (ret : List Word) : (s.sideSend g ack ret).arrived = s.arrived := by
  rw [State.sideSend_frame]
@[simp] theorem State.sideSend_cellar (s : State) (g : Nat) (ack : Word) (ret : List Word) : (s.sideSend g ack ret).cellar = s.cellar := by
  rw [State.sideSend_frame]
@[simp] theorem State.sideSend_fabric (s : State) (g : Nat) (ack : Word) (ret : List Word) : (s.sideSend g ack ret).fabric = s.fabric := by
  rw [State.sideSend_frame]
@[simp] theorem State.sideSend_power (s : State) (g : Nat) (ack : Word) (ret : List Word) : (s.sideSend g ack ret).power = s.power := by
  rw [State.sideSend_frame]
@[simp] theorem State.sideSend_clock (s : State) (g : Nat) (ack : Word) (ret : List Word) : (s.sideSend g ack ret).clock = s.clock := by
  rw [State.sideSend_frame]
@[simp] theorem State.sideSend_faults (s : State) (g : Nat) (ack : Word) (ret : List Word) : (s.sideSend g ack ret).faults = s.faults := by
  rw [State.sideSend_frame]
@[simp] theorem State.sideSend_thermal (s : State) (g : Nat) (ack : Word) (ret : List Word) : (s.sideSend g ack ret).thermal = s.thermal := by
  rw [State.sideSend_frame]
@[simp] theorem State.sideSend_din (s : State) (g : Nat) (ack : Word) (ret : List Word) : (s.sideSend g ack ret).din = s.din := by
  rw [State.sideSend_frame]
@[simp] theorem State.sideSend_cal (s : State) (g : Nat) (ack : Word) (ret : List Word) : (s.sideSend g ack ret).cal = s.cal := by
  rw [State.sideSend_frame]
@[simp] theorem State.sideSend_test (s : State) (g : Nat) (ack : Word) (ret : List Word) : (s.sideSend g ack ret).test = s.test := by
  rw [State.sideSend_frame]
@[simp] theorem State.sideSend_skim (s : State) (g : Nat) (ack : Word) (ret : List Word) : (s.sideSend g ack ret).skim = s.skim := by
  rw [State.sideSend_frame]
@[simp] theorem State.sideSend_keep (s : State) (g : Nat) (ack : Word) (ret : List Word) : (s.sideSend g ack ret).keep = s.keep := by
  rw [State.sideSend_frame]
@[simp] theorem State.sideSend_pending (s : State) (g : Nat) (ack : Word) (ret : List Word) : (s.sideSend g ack ret).pending = s.pending := by
  rw [State.sideSend_frame]

@[simp] theorem State.atEdge_time (s : State) (a : EdgeAct) : (s.atEdge a).time = s.time := by
  rw [State.atEdge_frame]
@[simp] theorem State.atEdge_boot (s : State) (a : EdgeAct) : (s.atEdge a).boot = s.boot := by
  rw [State.atEdge_frame]
@[simp] theorem State.atEdge_fuses (s : State) (a : EdgeAct) : (s.atEdge a).fuses = s.fuses := by
  rw [State.atEdge_frame]
@[simp] theorem State.atEdge_life (s : State) (a : EdgeAct) : (s.atEdge a).life = s.life := by
  rw [State.atEdge_frame]
@[simp] theorem State.atEdge_pins (s : State) (a : EdgeAct) : (s.atEdge a).pins = s.pins := by
  rw [State.atEdge_frame]
@[simp] theorem State.atEdge_mbx (s : State) (a : EdgeAct) : (s.atEdge a).mbx = s.mbx := by
  rw [State.atEdge_frame]
@[simp] theorem State.atEdge_peers (s : State) (a : EdgeAct) : (s.atEdge a).peers = s.peers := by
  rw [State.atEdge_frame]
@[simp] theorem State.atEdge_cfgq (s : State) (a : EdgeAct) : (s.atEdge a).cfgq = s.cfgq := by
  rw [State.atEdge_frame]
@[simp] theorem State.atEdge_cfgDue (s : State) (a : EdgeAct) : (s.atEdge a).cfgDue = s.cfgDue := by
  rw [State.atEdge_frame]
@[simp] theorem State.atEdge_lines (s : State) (a : EdgeAct) : (s.atEdge a).lines = s.lines := by
  rw [State.atEdge_frame]
@[simp] theorem State.atEdge_bundles (s : State) (a : EdgeAct) : (s.atEdge a).bundles = s.bundles := by
  rw [State.atEdge_frame]
@[simp] theorem State.atEdge_drops (s : State) (a : EdgeAct) : (s.atEdge a).drops = s.drops := by
  rw [State.atEdge_frame]
@[simp] theorem State.atEdge_trunks (s : State) (a : EdgeAct) : (s.atEdge a).trunks = s.trunks := by
  rw [State.atEdge_frame]
@[simp] theorem State.atEdge_hosts (s : State) (a : EdgeAct) : (s.atEdge a).hosts = s.hosts := by
  rw [State.atEdge_frame]
@[simp] theorem State.atEdge_bridge (s : State) (a : EdgeAct) : (s.atEdge a).bridge = s.bridge := by
  rw [State.atEdge_frame]
@[simp] theorem State.atEdge_sched (s : State) (a : EdgeAct) : (s.atEdge a).sched = s.sched := by
  rw [State.atEdge_frame]
@[simp] theorem State.atEdge_arrived (s : State) (a : EdgeAct) : (s.atEdge a).arrived = s.arrived := by
  rw [State.atEdge_frame]
@[simp] theorem State.atEdge_cellar (s : State) (a : EdgeAct) : (s.atEdge a).cellar = s.cellar := by
  rw [State.atEdge_frame]
@[simp] theorem State.atEdge_fabric (s : State) (a : EdgeAct) : (s.atEdge a).fabric = s.fabric := by
  rw [State.atEdge_frame]
@[simp] theorem State.atEdge_power (s : State) (a : EdgeAct) : (s.atEdge a).power = s.power := by
  rw [State.atEdge_frame]
@[simp] theorem State.atEdge_clock (s : State) (a : EdgeAct) : (s.atEdge a).clock = s.clock := by
  rw [State.atEdge_frame]
@[simp] theorem State.atEdge_faults (s : State) (a : EdgeAct) : (s.atEdge a).faults = s.faults := by
  rw [State.atEdge_frame]
@[simp] theorem State.atEdge_thermal (s : State) (a : EdgeAct) : (s.atEdge a).thermal = s.thermal := by
  rw [State.atEdge_frame]
@[simp] theorem State.atEdge_din (s : State) (a : EdgeAct) : (s.atEdge a).din = s.din := by
  rw [State.atEdge_frame]
@[simp] theorem State.atEdge_cal (s : State) (a : EdgeAct) : (s.atEdge a).cal = s.cal := by
  rw [State.atEdge_frame]
@[simp] theorem State.atEdge_test (s : State) (a : EdgeAct) : (s.atEdge a).test = s.test := by
  rw [State.atEdge_frame]
@[simp] theorem State.atEdge_skim (s : State) (a : EdgeAct) : (s.atEdge a).skim = s.skim := by
  rw [State.atEdge_frame]
@[simp] theorem State.atEdge_keep (s : State) (a : EdgeAct) : (s.atEdge a).keep = s.keep := by
  rw [State.atEdge_frame]
@[simp] theorem State.atEdge_pending (s : State) (a : EdgeAct) : (s.atEdge a).pending = s.pending := by
  rw [State.atEdge_frame]

@[simp] theorem State.fabFlood_time (s : State) (except : Option Nat) (b : FabBody) : (s.fabFlood except b).time = s.time := by
  rw [State.fabFlood_frame]
@[simp] theorem State.fabFlood_boot (s : State) (except : Option Nat) (b : FabBody) : (s.fabFlood except b).boot = s.boot := by
  rw [State.fabFlood_frame]
@[simp] theorem State.fabFlood_fuses (s : State) (except : Option Nat) (b : FabBody) : (s.fabFlood except b).fuses = s.fuses := by
  rw [State.fabFlood_frame]
@[simp] theorem State.fabFlood_life (s : State) (except : Option Nat) (b : FabBody) : (s.fabFlood except b).life = s.life := by
  rw [State.fabFlood_frame]
@[simp] theorem State.fabFlood_pins (s : State) (except : Option Nat) (b : FabBody) : (s.fabFlood except b).pins = s.pins := by
  rw [State.fabFlood_frame]
@[simp] theorem State.fabFlood_mbx (s : State) (except : Option Nat) (b : FabBody) : (s.fabFlood except b).mbx = s.mbx := by
  rw [State.fabFlood_frame]
@[simp] theorem State.fabFlood_peers (s : State) (except : Option Nat) (b : FabBody) : (s.fabFlood except b).peers = s.peers := by
  rw [State.fabFlood_frame]
@[simp] theorem State.fabFlood_cfgq (s : State) (except : Option Nat) (b : FabBody) : (s.fabFlood except b).cfgq = s.cfgq := by
  rw [State.fabFlood_frame]
@[simp] theorem State.fabFlood_cfgDue (s : State) (except : Option Nat) (b : FabBody) : (s.fabFlood except b).cfgDue = s.cfgDue := by
  rw [State.fabFlood_frame]
@[simp] theorem State.fabFlood_edgeq (s : State) (except : Option Nat) (b : FabBody) : (s.fabFlood except b).edgeq = s.edgeq := by
  rw [State.fabFlood_frame]
@[simp] theorem State.fabFlood_lines (s : State) (except : Option Nat) (b : FabBody) : (s.fabFlood except b).lines = s.lines := by
  rw [State.fabFlood_frame]
@[simp] theorem State.fabFlood_bundles (s : State) (except : Option Nat) (b : FabBody) : (s.fabFlood except b).bundles = s.bundles := by
  rw [State.fabFlood_frame]
@[simp] theorem State.fabFlood_drops (s : State) (except : Option Nat) (b : FabBody) : (s.fabFlood except b).drops = s.drops := by
  rw [State.fabFlood_frame]
@[simp] theorem State.fabFlood_trunks (s : State) (except : Option Nat) (b : FabBody) : (s.fabFlood except b).trunks = s.trunks := by
  rw [State.fabFlood_frame]
@[simp] theorem State.fabFlood_hosts (s : State) (except : Option Nat) (b : FabBody) : (s.fabFlood except b).hosts = s.hosts := by
  rw [State.fabFlood_frame]
@[simp] theorem State.fabFlood_bridge (s : State) (except : Option Nat) (b : FabBody) : (s.fabFlood except b).bridge = s.bridge := by
  rw [State.fabFlood_frame]
@[simp] theorem State.fabFlood_sched (s : State) (except : Option Nat) (b : FabBody) : (s.fabFlood except b).sched = s.sched := by
  rw [State.fabFlood_frame]
@[simp] theorem State.fabFlood_arrived (s : State) (except : Option Nat) (b : FabBody) : (s.fabFlood except b).arrived = s.arrived := by
  rw [State.fabFlood_frame]
@[simp] theorem State.fabFlood_cellar (s : State) (except : Option Nat) (b : FabBody) : (s.fabFlood except b).cellar = s.cellar := by
  rw [State.fabFlood_frame]
@[simp] theorem State.fabFlood_power (s : State) (except : Option Nat) (b : FabBody) : (s.fabFlood except b).power = s.power := by
  rw [State.fabFlood_frame]
@[simp] theorem State.fabFlood_clock (s : State) (except : Option Nat) (b : FabBody) : (s.fabFlood except b).clock = s.clock := by
  rw [State.fabFlood_frame]
@[simp] theorem State.fabFlood_faults (s : State) (except : Option Nat) (b : FabBody) : (s.fabFlood except b).faults = s.faults := by
  rw [State.fabFlood_frame]
@[simp] theorem State.fabFlood_thermal (s : State) (except : Option Nat) (b : FabBody) : (s.fabFlood except b).thermal = s.thermal := by
  rw [State.fabFlood_frame]
@[simp] theorem State.fabFlood_din (s : State) (except : Option Nat) (b : FabBody) : (s.fabFlood except b).din = s.din := by
  rw [State.fabFlood_frame]
@[simp] theorem State.fabFlood_cal (s : State) (except : Option Nat) (b : FabBody) : (s.fabFlood except b).cal = s.cal := by
  rw [State.fabFlood_frame]
@[simp] theorem State.fabFlood_test (s : State) (except : Option Nat) (b : FabBody) : (s.fabFlood except b).test = s.test := by
  rw [State.fabFlood_frame]
@[simp] theorem State.fabFlood_skim (s : State) (except : Option Nat) (b : FabBody) : (s.fabFlood except b).skim = s.skim := by
  rw [State.fabFlood_frame]
@[simp] theorem State.fabFlood_keep (s : State) (except : Option Nat) (b : FabBody) : (s.fabFlood except b).keep = s.keep := by
  rw [State.fabFlood_frame]
@[simp] theorem State.fabFlood_pending (s : State) (except : Option Nat) (b : FabBody) : (s.fabFlood except b).pending = s.pending := by
  rw [State.fabFlood_frame]

@[simp] theorem State.ack_time (s : State) (rt : ReplyTo) (c : Code) (ret : List Word) : (s.ack rt c ret).time = s.time := by
  rw [State.ack_frame]
theorem State.ackWrite_boot (s : State) (rt : ReplyTo) (c : Code) (ret : List Word) (h : rt.chan ≠ 8) :
    (s.ackWrite rt c ret).boot = s.boot := by
  unfold State.ackWrite
  dsimp only
  rw [if_neg h]
  split
  · rw [State.answerPeer_frame]; rfl
  · split <;> split <;> rfl
theorem State.ack_boot (s : State) (rt : ReplyTo) (c : Code) (ret : List Word) (h : rt.chan ≠ 8) :
    (s.ack rt c ret).boot = s.boot := by
  unfold State.ack
  rw [State.ackWrite_boot _ _ _ _ h]
  split
  · rw [State.notice_frame]
  · rfl
@[simp] theorem State.ack_fuses (s : State) (rt : ReplyTo) (c : Code) (ret : List Word) : (s.ack rt c ret).fuses = s.fuses := by
  rw [State.ack_frame]
@[simp] theorem State.ack_life (s : State) (rt : ReplyTo) (c : Code) (ret : List Word) : (s.ack rt c ret).life = s.life := by
  rw [State.ack_frame]
@[simp] theorem State.ack_pins (s : State) (rt : ReplyTo) (c : Code) (ret : List Word) : (s.ack rt c ret).pins = s.pins := by
  rw [State.ack_frame]
@[simp] theorem State.ack_peers (s : State) (rt : ReplyTo) (c : Code) (ret : List Word) : (s.ack rt c ret).peers = s.peers := by
  rw [State.ack_frame]
@[simp] theorem State.ack_cfgq (s : State) (rt : ReplyTo) (c : Code) (ret : List Word) : (s.ack rt c ret).cfgq = s.cfgq := by
  rw [State.ack_frame]
@[simp] theorem State.ack_cfgDue (s : State) (rt : ReplyTo) (c : Code) (ret : List Word) : (s.ack rt c ret).cfgDue = s.cfgDue := by
  rw [State.ack_frame]
@[simp] theorem State.ack_edgeq (s : State) (rt : ReplyTo) (c : Code) (ret : List Word) : (s.ack rt c ret).edgeq = s.edgeq := by
  rw [State.ack_frame]
@[simp] theorem State.ack_lines (s : State) (rt : ReplyTo) (c : Code) (ret : List Word) : (s.ack rt c ret).lines = s.lines := by
  rw [State.ack_frame]
@[simp] theorem State.ack_bundles (s : State) (rt : ReplyTo) (c : Code) (ret : List Word) : (s.ack rt c ret).bundles = s.bundles := by
  rw [State.ack_frame]
@[simp] theorem State.ack_drops (s : State) (rt : ReplyTo) (c : Code) (ret : List Word) : (s.ack rt c ret).drops = s.drops := by
  rw [State.ack_frame]
@[simp] theorem State.ack_trunks (s : State) (rt : ReplyTo) (c : Code) (ret : List Word) : (s.ack rt c ret).trunks = s.trunks := by
  rw [State.ack_frame]
@[simp] theorem State.ack_bridge (s : State) (rt : ReplyTo) (c : Code) (ret : List Word) : (s.ack rt c ret).bridge = s.bridge := by
  rw [State.ack_frame]
@[simp] theorem State.ack_sched (s : State) (rt : ReplyTo) (c : Code) (ret : List Word) : (s.ack rt c ret).sched = s.sched := by
  rw [State.ack_frame]
@[simp] theorem State.ack_arrived (s : State) (rt : ReplyTo) (c : Code) (ret : List Word) : (s.ack rt c ret).arrived = s.arrived := by
  rw [State.ack_frame]
@[simp] theorem State.ack_cellar (s : State) (rt : ReplyTo) (c : Code) (ret : List Word) : (s.ack rt c ret).cellar = s.cellar := by
  rw [State.ack_frame]
@[simp] theorem State.ack_fabric (s : State) (rt : ReplyTo) (c : Code) (ret : List Word) : (s.ack rt c ret).fabric = s.fabric := by
  rw [State.ack_frame]
@[simp] theorem State.ack_power (s : State) (rt : ReplyTo) (c : Code) (ret : List Word) : (s.ack rt c ret).power = s.power := by
  rw [State.ack_frame]
@[simp] theorem State.ack_clock (s : State) (rt : ReplyTo) (c : Code) (ret : List Word) : (s.ack rt c ret).clock = s.clock := by
  rw [State.ack_frame]
@[simp] theorem State.ack_thermal (s : State) (rt : ReplyTo) (c : Code) (ret : List Word) : (s.ack rt c ret).thermal = s.thermal := by
  rw [State.ack_frame]
@[simp] theorem State.ack_din (s : State) (rt : ReplyTo) (c : Code) (ret : List Word) : (s.ack rt c ret).din = s.din := by
  rw [State.ack_frame]
@[simp] theorem State.ack_cal (s : State) (rt : ReplyTo) (c : Code) (ret : List Word) : (s.ack rt c ret).cal = s.cal := by
  rw [State.ack_frame]
@[simp] theorem State.ack_test (s : State) (rt : ReplyTo) (c : Code) (ret : List Word) : (s.ack rt c ret).test = s.test := by
  rw [State.ack_frame]
@[simp] theorem State.ack_skim (s : State) (rt : ReplyTo) (c : Code) (ret : List Word) : (s.ack rt c ret).skim = s.skim := by
  rw [State.ack_frame]
@[simp] theorem State.ack_keep (s : State) (rt : ReplyTo) (c : Code) (ret : List Word) : (s.ack rt c ret).keep = s.keep := by
  rw [State.ack_frame]
@[simp] theorem State.ack_pending (s : State) (rt : ReplyTo) (c : Code) (ret : List Word) : (s.ack rt c ret).pending = s.pending := by
  rw [State.ack_frame]

end Machine
end Sys2Proof
end

