-- ==== Sys2Proof/Laws/PerInstr.lean ====
section
/-! SUPPORT. Statements about every command as syntax. -/
namespace Sys2Proof
namespace Laws

/-- No word spells the command: the opcode table gives no row any bits. -/
def WordFree.Statement (i : Instr) : Prop := ∀ nbits w, decodeTableWord nbits w ≠ some i

theorem WordFree.powerOnReset : WordFree.Statement (.powerOnReset) := fun _ _ h => nomatch h
theorem WordFree.vdde18Collapse : WordFree.Statement (.vdde18Collapse) := fun _ _ h => nomatch h
theorem WordFree.pinReset : WordFree.Statement (.pinReset) := fun _ _ h => nomatch h
theorem WordFree.railReset (rails : Nat) : WordFree.Statement (.railReset rails) := fun _ _ h => nomatch h
theorem WordFree.hearthBrownout : WordFree.Statement (.hearthBrownout) := fun _ _ h => nomatch h
theorem WordFree.resetRelease : WordFree.Statement (.resetRelease) := fun _ _ h => nomatch h
theorem WordFree.bootRom (ck : BootClocks) (fl : Flash) : WordFree.Statement (.bootRom ck fl) := fun _ _ h => nomatch h
theorem WordFree.cellarPhase (trained : Bool) (fl : Flash) : WordFree.Statement (.cellarPhase trained fl) := fun _ _ h => nomatch h
theorem WordFree.configReplay : WordFree.Statement (.configReplay) := fun _ _ h => nomatch h
theorem WordFree.trainingPhase : WordFree.Statement (.trainingPhase) := fun _ _ h => nomatch h
theorem WordFree.readinessPhase : WordFree.Statement (.readinessPhase) := fun _ _ h => nomatch h
theorem WordFree.tickEdge : WordFree.Statement (.tickEdge) := fun _ _ h => nomatch h
theorem WordFree.tickCommit : WordFree.Statement (.tickCommit) := fun _ _ h => nomatch h
theorem WordFree.tickOverrun (engine : Nat) (die : Nat) (finish : Nat) : WordFree.Statement (.tickOverrun engine die finish) := fun _ _ h => nomatch h
theorem WordFree.registerWrite (p : Port) (addr : Nat) (w : RegWrite) : WordFree.Statement (.registerWrite p addr w) := fun _ _ h => nomatch h
theorem WordFree.tickLoRead (p : Port) : WordFree.Statement (.tickLoRead p) := fun _ _ h => nomatch h
theorem WordFree.mailboxGo (ch : Nat) (ctrl : Word) : WordFree.Statement (.mailboxGo ch ctrl) := fun _ _ h => nomatch h
theorem WordFree.mailboxCancel (ch : Nat) (ctrl : Word) : WordFree.Statement (.mailboxCancel ch ctrl) := fun _ _ h => nomatch h
theorem WordFree.ackClr (ch : Nat) (data : Word) : WordFree.Statement (.ackClr ch data) := fun _ _ h => nomatch h
theorem WordFree.dbStatusClear (mask : Word) (events : Word) : WordFree.Statement (.dbStatusClear mask events) := fun _ _ h => nomatch h
theorem WordFree.dbMaskWrite (mask : Word) : WordFree.Statement (.dbMaskWrite mask) := fun _ _ h => nomatch h
theorem WordFree.dbTest (data : Word) : WordFree.Statement (.dbTest data) := fun _ _ h => nomatch h
theorem WordFree.clkoutChange (data : Word) : WordFree.Statement (.clkoutChange data) := fun _ _ h => nomatch h
theorem WordFree.clkoutChangeEnd : WordFree.Statement (.clkoutChangeEnd) := fun _ _ h => nomatch h
theorem WordFree.messageSelect (south : Bool) (cancelLands : Bool) (fl : Flash) : WordFree.Statement (.messageSelect south cancelLands fl) := fun _ _ h => nomatch h
theorem WordFree.peerMessage (p : PeerPayload) : WordFree.Statement (.peerMessage p) := fun _ _ h => nomatch h
theorem WordFree.echo (m : Msg) : WordFree.Statement (.echo m) := fun _ _ h => nomatch h
theorem WordFree.eventRead (m : Msg) : WordFree.Statement (.eventRead m) := fun _ _ h => nomatch h
theorem WordFree.stewardMove (m : Msg) : WordFree.Statement (.stewardMove m) := fun _ _ h => nomatch h
theorem WordFree.deviceReset (m : Msg) : WordFree.Statement (.deviceReset m) := fun _ _ h => nomatch h
theorem WordFree.peerKeySet (m : Msg) : WordFree.Statement (.peerKeySet m) := fun _ _ h => nomatch h
theorem WordFree.configLoad (m : Msg) (fl : Flash) : WordFree.Statement (.configLoad m fl) := fun _ _ h => nomatch h
theorem WordFree.rollbackAdvance (m : Msg) : WordFree.Statement (.rollbackAdvance m) := fun _ _ h => nomatch h
theorem WordFree.powerDomainSet (m : Msg) : WordFree.Statement (.powerDomainSet m) := fun _ _ h => nomatch h
theorem WordFree.domainPowered (dom : Nat) : WordFree.Statement (.domainPowered dom) := fun _ _ h => nomatch h
theorem WordFree.powerEnter (m : Msg) : WordFree.Statement (.powerEnter m) := fun _ _ h => nomatch h
theorem WordFree.powerEntryStep : WordFree.Statement (.powerEntryStep) := fun _ _ h => nomatch h
theorem WordFree.wakeConfig (m : Msg) : WordFree.Statement (.wakeConfig m) := fun _ _ h => nomatch h
theorem WordFree.powerStatus (m : Msg) : WordFree.Statement (.powerStatus m) := fun _ _ h => nomatch h
theorem WordFree.bankedResume (sleep : Nat) : WordFree.Statement (.bankedResume sleep) := fun _ _ h => nomatch h
theorem WordFree.emberWake (sleep : Nat) : WordFree.Statement (.emberWake sleep) := fun _ _ h => nomatch h
theorem WordFree.emberRailFail : WordFree.Statement (.emberRailFail) := fun _ _ h => nomatch h
theorem WordFree.sioTimerWake : WordFree.Statement (.sioTimerWake) := fun _ _ h => nomatch h
theorem WordFree.hostLaneWakeDetect (g : Nat) : WordFree.Statement (.hostLaneWakeDetect g) := fun _ _ h => nomatch h
theorem WordFree.clockPlan (m : Msg) : WordFree.Statement (.clockPlan m) := fun _ _ h => nomatch h
theorem WordFree.refSwitchComplete : WordFree.Statement (.refSwitchComplete) := fun _ _ h => nomatch h
theorem WordFree.clockStatus (m : Msg) : WordFree.Statement (.clockStatus m) := fun _ _ h => nomatch h
theorem WordFree.clockGate (m : Msg) : WordFree.Statement (.clockGate m) := fun _ _ h => nomatch h
theorem WordFree.ppsConfig (m : Msg) : WordFree.Statement (.ppsConfig m) := fun _ _ h => nomatch h
theorem WordFree.pllLock (loop : Nat) : WordFree.Statement (.pllLock loop) := fun _ _ h => nomatch h
theorem WordFree.pllUnlock (loop : Nat) : WordFree.Statement (.pllUnlock loop) := fun _ _ h => nomatch h
theorem WordFree.clockStopDetect (src : Nat) (running : Bool) (xbCount : Nat) : WordFree.Statement (.clockStopDetect src running xbCount) := fun _ _ h => nomatch h
theorem WordFree.refDeviation (ppm : Int) : WordFree.Statement (.refDeviation ppm) := fun _ _ h => nomatch h
theorem WordFree.forcedFailover : WordFree.Statement (.forcedFailover) := fun _ _ h => nomatch h
theorem WordFree.nmiHandler : WordFree.Statement (.nmiHandler) := fun _ _ h => nomatch h
theorem WordFree.ppsPulse : WordFree.Statement (.ppsPulse) := fun _ _ h => nomatch h
theorem WordFree.ppsPulseEnd : WordFree.Statement (.ppsPulseEnd) := fun _ _ h => nomatch h
theorem WordFree.ppsInCapture (cycle : Nat) (offset : Int) : WordFree.Statement (.ppsInCapture cycle offset) := fun _ _ h => nomatch h
theorem WordFree.lineConfig (m : Msg) : WordFree.Statement (.lineConfig m) := fun _ _ h => nomatch h
theorem WordFree.lineStatus (m : Msg) : WordFree.Statement (.lineStatus m) := fun _ _ h => nomatch h
theorem WordFree.lineRetrain (m : Msg) : WordFree.Statement (.lineRetrain m) := fun _ _ h => nomatch h
theorem WordFree.lineOamSend (m : Msg) : WordFree.Statement (.lineOamSend m) := fun _ _ h => nomatch h
theorem WordFree.lineOamRead (m : Msg) : WordFree.Statement (.lineOamRead m) := fun _ _ h => nomatch h
theorem WordFree.bundleConfig (m : Msg) : WordFree.Statement (.bundleConfig m) := fun _ _ h => nomatch h
theorem WordFree.bundleStatus (m : Msg) : WordFree.Statement (.bundleStatus m) := fun _ _ h => nomatch h
theorem WordFree.rxAdaptConfig (m : Msg) : WordFree.Statement (.rxAdaptConfig m) := fun _ _ h => nomatch h
theorem WordFree.rxStatus (m : Msg) : WordFree.Statement (.rxStatus m) := fun _ _ h => nomatch h
theorem WordFree.rxTapsRead (m : Msg) : WordFree.Statement (.rxTapsRead m) := fun _ _ h => nomatch h
theorem WordFree.lineCounters (m : Msg) : WordFree.Statement (.lineCounters m) := fun _ _ h => nomatch h
theorem WordFree.lineQuality (m : Msg) : WordFree.Statement (.lineQuality m) := fun _ _ h => nomatch h
theorem WordFree.lineWatchConfig (m : Msg) : WordFree.Statement (.lineWatchConfig m) := fun _ _ h => nomatch h
theorem WordFree.lineTdr (m : Msg) : WordFree.Statement (.lineTdr m) := fun _ _ h => nomatch h
theorem WordFree.tdrComplete (ch : Nat) (partner : Bool) (refl : List Reflection) : WordFree.Statement (.tdrComplete ch partner refl) := fun _ _ h => nomatch h
theorem WordFree.cableHealth (m : Msg) : WordFree.Statement (.cableHealth m) := fun _ _ h => nomatch h
theorem WordFree.baselineCapture (ch : Nat) : WordFree.Statement (.baselineCapture ch) := fun _ _ h => nomatch h
theorem WordFree.anPageRx (ch : Nat) (x : AnExchange) : WordFree.Statement (.anPageRx ch x) := fun _ _ h => nomatch h
theorem WordFree.trainingFrameRx (ch : Nat) (f : TrainingFrame) : WordFree.Statement (.trainingFrameRx ch f) := fun _ _ h => nomatch h
theorem WordFree.lineTrainingTimeout (ch : Nat) : WordFree.Statement (.lineTrainingTimeout ch) := fun _ _ h => nomatch h
theorem WordFree.bundleSurvey (bg : Nat) : WordFree.Statement (.bundleSurvey bg) := fun _ _ h => nomatch h
theorem WordFree.surveyComplete (bg : Nat) (noise : Int) (coupling : List Nat) : WordFree.Statement (.surveyComplete bg noise coupling) := fun _ _ h => nomatch h
theorem WordFree.joinSoftStartEnd (ch : Nat) : WordFree.Statement (.joinSoftStartEnd ch) := fun _ _ h => nomatch h
theorem WordFree.sfmRx (ch : Nat) (markErr : Nat) (bytes : List Byte) (bad : Nat) (corr : Nat) : WordFree.Statement (.sfmRx ch markErr bytes bad corr) := fun _ _ h => nomatch h
theorem WordFree.oamMessageRx (ch : Nat) (blocks : List (Bool × List Byte)) : WordFree.Statement (.oamMessageRx ch blocks) := fun _ _ h => nomatch h
theorem WordFree.precoderSwitch (ch : Nat) (sf : Nat) : WordFree.Statement (.precoderSwitch ch sf) := fun _ _ h => nomatch h
theorem WordFree.precoderUpdate (ch : Nat) (later : Nat) : WordFree.Statement (.precoderUpdate ch later) := fun _ _ h => nomatch h
theorem WordFree.resumeTimeout (ch : Nat) : WordFree.Statement (.resumeTimeout ch) := fun _ _ h => nomatch h
theorem WordFree.blwSaturation (ch : Nat) : WordFree.Statement (.blwSaturation ch) := fun _ _ h => nomatch h
theorem WordFree.lpiEntry (ch : Nat) : WordFree.Statement (.lpiEntry ch) := fun _ _ h => nomatch h
theorem WordFree.lpiRefresh (ch : Nat) : WordFree.Statement (.lpiRefresh ch) := fun _ _ h => nomatch h
theorem WordFree.lpiWake (ch : Nat) : WordFree.Statement (.lpiWake ch) := fun _ _ h => nomatch h
theorem WordFree.linkSleep (ch : Nat) : WordFree.Statement (.linkSleep ch) := fun _ _ h => nomatch h
theorem WordFree.wakeToneDetect (ch : Nat) : WordFree.Statement (.wakeToneDetect ch) := fun _ _ h => nomatch h
theorem WordFree.lineWakeDetect (ch : Nat) : WordFree.Statement (.lineWakeDetect ch) := fun _ _ h => nomatch h
theorem WordFree.linkDrop (ch : Nat) (criterion : Nat) : WordFree.Statement (.linkDrop ch criterion) := fun _ _ h => nomatch h
theorem WordFree.lineChannelFault (ch : Nat) (code : Nat) : WordFree.Statement (.lineChannelFault ch code) := fun _ _ h => nomatch h
theorem WordFree.quietPeriodEnd (root : Nat) : WordFree.Statement (.quietPeriodEnd root) := fun _ _ h => nomatch h
theorem WordFree.dropConfig (m : Msg) : WordFree.Statement (.dropConfig m) := fun _ _ h => nomatch h
theorem WordFree.dropStatus (m : Msg) : WordFree.Statement (.dropStatus m) := fun _ _ h => nomatch h
theorem WordFree.dropCounters (m : Msg) : WordFree.Statement (.dropCounters m) := fun _ _ h => nomatch h
theorem WordFree.plcaBeacon (ds : Nat) : WordFree.Statement (.plcaBeacon ds) := fun _ _ h => nomatch h
theorem WordFree.plcaOpportunityTimeout (ds : Nat) : WordFree.Statement (.plcaOpportunityTimeout ds) := fun _ _ h => nomatch h
theorem WordFree.dropFrameRx (ds : Nat) (id : Nat) (collision : Bool) (arr : Arrival) (f : Frame) : WordFree.Statement (.dropFrameRx ds id collision arr f) := fun _ _ h => nomatch h
theorem WordFree.foreignBeaconRx (ds : Nat) : WordFree.Statement (.foreignBeaconRx ds) := fun _ _ h => nomatch h
theorem WordFree.coordConflictClear (ds : Nat) : WordFree.Statement (.coordConflictClear ds) := fun _ _ h => nomatch h
theorem WordFree.dropChannelFault (ds : Nat) (code : Nat) : WordFree.Statement (.dropChannelFault ds code) := fun _ _ h => nomatch h
theorem WordFree.dropWakeDetect (ds : Nat) : WordFree.Statement (.dropWakeDetect ds) := fun _ _ h => nomatch h
theorem WordFree.trunkSignalConfig (m : Msg) : WordFree.Statement (.trunkSignalConfig m) := fun _ _ h => nomatch h
theorem WordFree.trunkSignalStatus (m : Msg) : WordFree.Statement (.trunkSignalStatus m) := fun _ _ h => nomatch h
theorem WordFree.trunkLoadingRead (m : Msg) : WordFree.Statement (.trunkLoadingRead m) := fun _ _ h => nomatch h
theorem WordFree.trunkSignalCounters (m : Msg) : WordFree.Statement (.trunkSignalCounters m) := fun _ _ h => nomatch h
theorem WordFree.trunkConfig (m : Msg) : WordFree.Statement (.trunkConfig m) := fun _ _ h => nomatch h
theorem WordFree.trunkStatus (m : Msg) : WordFree.Statement (.trunkStatus m) := fun _ _ h => nomatch h
theorem WordFree.bypassSetPolicy (m : Msg) : WordFree.Statement (.bypassSetPolicy m) := fun _ _ h => nomatch h
theorem WordFree.trunkKindle (m : Msg) : WordFree.Statement (.trunkKindle m) := fun _ _ h => nomatch h
theorem WordFree.kindlePatternSend (tr : Nat) : WordFree.Statement (.kindlePatternSend tr) := fun _ _ h => nomatch h
theorem WordFree.trunkReflect (m : Msg) : WordFree.Statement (.trunkReflect m) := fun _ _ h => nomatch h
theorem WordFree.reflectComplete (tr : Nat) (echoes : Nat) (refl : List Reflection) : WordFree.Statement (.reflectComplete tr echoes refl) := fun _ _ h => nomatch h
theorem WordFree.trunkProbe (tr : Nat) (bit : Bool) : WordFree.Statement (.trunkProbe tr bit) := fun _ _ h => nomatch h
theorem WordFree.relaySettleEnd (tr : Nat) : WordFree.Statement (.relaySettleEnd tr) := fun _ _ h => nomatch h
theorem WordFree.preambleDetect (tr : Nat) (p : Preamble) : WordFree.Statement (.preambleDetect tr p) := fun _ _ h => nomatch h
theorem WordFree.halfPreamble (tr : Nat) : WordFree.Statement (.halfPreamble tr) := fun _ _ h => nomatch h
theorem WordFree.missedBurst (tr : Nat) : WordFree.Statement (.missedBurst tr) := fun _ _ h => nomatch h
theorem WordFree.trunkBurstRx (tr : Nat) (b : Burst) : WordFree.Statement (.trunkBurstRx tr b) := fun _ _ h => nomatch h
theorem WordFree.trunkBurstTx (tr : Nat) : WordFree.Statement (.trunkBurstTx tr) := fun _ _ h => nomatch h
theorem WordFree.loadingCompute (tr : Nat) (snr : List Int) : WordFree.Statement (.loadingCompute tr snr) := fun _ _ h => nomatch h
theorem WordFree.classEvaluation (tr : Nat) : WordFree.Statement (.classEvaluation tr) := fun _ _ h => nomatch h
theorem WordFree.soundRequest (tr : Nat) : WordFree.Statement (.soundRequest tr) := fun _ _ h => nomatch h
theorem WordFree.tluGapTimeout (tr : Nat) : WordFree.Statement (.tluGapTimeout tr) := fun _ _ h => nomatch h
theorem WordFree.frameActivation (tr : Nat) : WordFree.Statement (.frameActivation tr) := fun _ _ h => nomatch h
theorem WordFree.trunkTrainingTimeout (tr : Nat) : WordFree.Statement (.trunkTrainingTimeout tr) := fun _ _ h => nomatch h
theorem WordFree.trunkLinkDrop (tr : Nat) : WordFree.Statement (.trunkLinkDrop tr) := fun _ _ h => nomatch h
theorem WordFree.trunkChannelFault (tr : Nat) (code : Nat) : WordFree.Statement (.trunkChannelFault tr code) := fun _ _ h => nomatch h
theorem WordFree.kindleEnergy (tr : Nat) (dbm : Int) : WordFree.Statement (.kindleEnergy tr dbm) := fun _ _ h => nomatch h
theorem WordFree.kindleDetect (tr : Nat) (matched : Nat) (dbm : Int) : WordFree.Statement (.kindleDetect tr matched dbm) := fun _ _ h => nomatch h
theorem WordFree.kindleCorrelateTimeout (tr : Nat) : WordFree.Statement (.kindleCorrelateTimeout tr) := fun _ _ h => nomatch h
theorem WordFree.hostConfig (m : Msg) : WordFree.Statement (.hostConfig m) := fun _ _ h => nomatch h
theorem WordFree.hostStatus (m : Msg) : WordFree.Statement (.hostStatus m) := fun _ _ h => nomatch h
theorem WordFree.hostCounters (m : Msg) : WordFree.Statement (.hostCounters m) := fun _ _ h => nomatch h
theorem WordFree.hostPrbs (m : Msg) : WordFree.Statement (.hostPrbs m) := fun _ _ h => nomatch h
theorem WordFree.hostTrainingBlock (g : Nat) (b : LaneBlocks) : WordFree.Statement (.hostTrainingBlock g b) := fun _ _ h => nomatch h
theorem WordFree.hostTrainingTimeout (g : Nat) : WordFree.Statement (.hostTrainingTimeout g) := fun _ _ h => nomatch h
theorem WordFree.lanePacketRx (g : Nat) (p : LanePacket) : WordFree.Statement (.lanePacketRx g p) := fun _ _ h => nomatch h
theorem WordFree.nakRepeat (g : Nat) : WordFree.Statement (.nakRepeat g) := fun _ _ h => nomatch h
theorem WordFree.laneResend (g : Nat) : WordFree.Statement (.laneResend g) := fun _ _ h => nomatch h
theorem WordFree.hostRetrain (g : Nat) (cause : Nat) : WordFree.Statement (.hostRetrain g cause) := fun _ _ h => nomatch h
theorem WordFree.electricalIdleEntry (g : Nat) : WordFree.Statement (.electricalIdleEntry g) := fun _ _ h => nomatch h
theorem WordFree.electricalIdleExit (g : Nat) : WordFree.Statement (.electricalIdleExit g) := fun _ _ h => nomatch h
theorem WordFree.sidebandPacket (g : Nat) (ctrl : Word) (words : List Word) : WordFree.Statement (.sidebandPacket g ctrl words) := fun _ _ h => nomatch h
theorem WordFree.spoolAck (g : Nat) (n : Nat) : WordFree.Statement (.spoolAck g n) := fun _ _ h => nomatch h
theorem WordFree.hostLaneFault (g : Nat) (code : Nat) : WordFree.Statement (.hostLaneFault g code) := fun _ _ h => nomatch h
theorem WordFree.frameArrival (port : Nat) (arr : Arrival) (f : Frame) : WordFree.Statement (.frameArrival port arr f) := fun _ _ h => nomatch h
theorem WordFree.frameClassify : WordFree.Statement (.frameClassify) := fun _ _ h => nomatch h
theorem WordFree.frerRecoveryReset (handle : Nat) : WordFree.Statement (.frerRecoveryReset handle) := fun _ _ h => nomatch h
theorem WordFree.schedulerSelect (root : Nat) : WordFree.Statement (.schedulerSelect root) := fun _ _ h => nomatch h
theorem WordFree.frameDeparture (root corrected : Nat) : WordFree.Statement (.frameDeparture root corrected) := fun _ _ h => nomatch h
theorem WordFree.portBridgeConfig (m : Msg) : WordFree.Statement (.portBridgeConfig m) := fun _ _ h => nomatch h
theorem WordFree.vlanSet (m : Msg) : WordFree.Statement (.vlanSet m) := fun _ _ h => nomatch h
theorem WordFree.fdbConfig (m : Msg) : WordFree.Statement (.fdbConfig m) := fun _ _ h => nomatch h
theorem WordFree.fdbEntry (m : Msg) : WordFree.Statement (.fdbEntry m) := fun _ _ h => nomatch h
theorem WordFree.fdbStatus (m : Msg) : WordFree.Statement (.fdbStatus m) := fun _ _ h => nomatch h
theorem WordFree.streamSet (m : Msg) : WordFree.Statement (.streamSet m) := fun _ _ h => nomatch h
theorem WordFree.nodeSet (m : Msg) : WordFree.Statement (.nodeSet m) := fun _ _ h => nomatch h
theorem WordFree.queueSet (m : Msg) : WordFree.Statement (.queueSet m) := fun _ _ h => nomatch h
theorem WordFree.queueFlush (m : Msg) : WordFree.Statement (.queueFlush m) := fun _ _ h => nomatch h
theorem WordFree.queueStats (m : Msg) : WordFree.Statement (.queueStats m) := fun _ _ h => nomatch h
theorem WordFree.rootSet (m : Msg) : WordFree.Statement (.rootSet m) := fun _ _ h => nomatch h
theorem WordFree.shaperSet (m : Msg) : WordFree.Statement (.shaperSet m) := fun _ _ h => nomatch h
theorem WordFree.shaperRead (m : Msg) : WordFree.Statement (.shaperRead m) := fun _ _ h => nomatch h
theorem WordFree.policerSet (m : Msg) : WordFree.Statement (.policerSet m) := fun _ _ h => nomatch h
theorem WordFree.policerStats (m : Msg) : WordFree.Statement (.policerStats m) := fun _ _ h => nomatch h
theorem WordFree.gateListWrite (m : Msg) : WordFree.Statement (.gateListWrite m) := fun _ _ h => nomatch h
theorem WordFree.gateListCommit (m : Msg) : WordFree.Statement (.gateListCommit m) := fun _ _ h => nomatch h
theorem WordFree.guaranteeSet (m : Msg) : WordFree.Statement (.guaranteeSet m) := fun _ _ h => nomatch h
theorem WordFree.guaranteeStatus (m : Msg) : WordFree.Statement (.guaranteeStatus m) := fun _ _ h => nomatch h
theorem WordFree.spoolConfig (m : Msg) : WordFree.Statement (.spoolConfig m) := fun _ _ h => nomatch h
theorem WordFree.spoolStatus (m : Msg) : WordFree.Statement (.spoolStatus m) := fun _ _ h => nomatch h
theorem WordFree.spoolReplay (m : Msg) : WordFree.Statement (.spoolReplay m) := fun _ _ h => nomatch h
theorem WordFree.spoolReplayStart (g : Nat) : WordFree.Statement (.spoolReplayStart g) := fun _ _ h => nomatch h
theorem WordFree.replayPlace (g : Nat) : WordFree.Statement (.replayPlace g) := fun _ _ h => nomatch h
theorem WordFree.cellarStatus (m : Msg) : WordFree.Statement (.cellarStatus m) := fun _ _ h => nomatch h
theorem WordFree.cellarUe (site : UeSite) : WordFree.Statement (.cellarUe site) := fun _ _ h => nomatch h
theorem WordFree.patrolScrub (pages : Nat) (corrected : Nat) (bad : Option UeSite) : WordFree.Statement (.patrolScrub pages corrected bad) := fun _ _ h => nomatch h
theorem WordFree.fabricSetIdentity (m : Msg) : WordFree.Statement (.fabricSetIdentity m) := fun _ _ h => nomatch h
theorem WordFree.fabricLinkSet (m : Msg) : WordFree.Statement (.fabricLinkSet m) := fun _ _ h => nomatch h
theorem WordFree.fabricStatus (m : Msg) : WordFree.Statement (.fabricStatus m) := fun _ _ h => nomatch h
theorem WordFree.fabricStage (m : Msg) : WordFree.Statement (.fabricStage m) := fun _ _ h => nomatch h
theorem WordFree.fabricPrepare (m : Msg) : WordFree.Statement (.fabricPrepare m) := fun _ _ h => nomatch h
theorem WordFree.frerStatus (m : Msg) : WordFree.Statement (.frerStatus m) := fun _ _ h => nomatch h
theorem WordFree.helloSend (root : Nat) : WordFree.Statement (.helloSend root) := fun _ _ h => nomatch h
theorem WordFree.helloRx (root : Nat) (h : Hello) : WordFree.Statement (.helloRx root h) := fun _ _ h => nomatch h
theorem WordFree.adjacencyExpiry (root : Nat) : WordFree.Statement (.adjacencyExpiry root) := fun _ _ h => nomatch h
theorem WordFree.topoSend : WordFree.Statement (.topoSend) := fun _ _ h => nomatch h
theorem WordFree.topoRx (root : Nat) (r : TopoRec) : WordFree.Statement (.topoRx root r) := fun _ _ h => nomatch h
theorem WordFree.leaderElection : WordFree.Statement (.leaderElection) := fun _ _ h => nomatch h
theorem WordFree.routeSend : WordFree.Statement (.routeSend) := fun _ _ h => nomatch h
theorem WordFree.routeRx (r : RouteIn) : WordFree.Statement (.routeRx r) := fun _ _ h => nomatch h
theorem WordFree.keyRx (k : KeyIn) (wrapped : BitVec 320) : WordFree.Statement (.keyRx k wrapped) := fun _ _ h => nomatch h
theorem WordFree.fabricCommitTick : WordFree.Statement (.fabricCommitTick) := fun _ _ h => nomatch h
theorem WordFree.syncSend : WordFree.Statement (.syncSend) := fun _ _ h => nomatch h
theorem WordFree.syncRx (y : SyncIn) : WordFree.Statement (.syncRx y) := fun _ _ h => nomatch h
theorem WordFree.prepareRx (epoch : Nat) (digest : Nat) (act : Nat) (origin : PrepareIn) (cfg : FabConfig) : WordFree.Statement (.prepareRx epoch digest act origin cfg) := fun _ _ h => nomatch h
theorem WordFree.prepAckRx (path : Nat) (code : Nat) : WordFree.Statement (.prepAckRx path code) := fun _ _ h => nomatch h
theorem WordFree.prepareDeadline : WordFree.Statement (.prepareDeadline) := fun _ _ h => nomatch h
theorem WordFree.commitRx (c : CommitIn) : WordFree.Statement (.commitRx c) := fun _ _ h => nomatch h
theorem WordFree.abortRx (a : AbortIn) : WordFree.Statement (.abortRx a) := fun _ _ h => nomatch h
theorem WordFree.fabricConfigActivate : WordFree.Statement (.fabricConfigActivate) := fun _ _ h => nomatch h
theorem WordFree.catchupReqRx (root : Nat) : WordFree.Statement (.catchupReqRx root) := fun _ _ h => nomatch h
theorem WordFree.catchupRx (epoch : Nat) (digest : Nat) (cfg : FabConfig) : WordFree.Statement (.catchupRx epoch digest cfg) := fun _ _ h => nomatch h
theorem WordFree.catchupApply : WordFree.Statement (.catchupApply) := fun _ _ h => nomatch h
theorem WordFree.mkaFrameRx (root : Nat) (ckn : Word) (icvOk : Bool) (k : MkaIn) : WordFree.Statement (.mkaFrameRx root ckn icvOk k) := fun _ _ h => nomatch h
theorem WordFree.fatalFault (code : Nat) (unit : Nat) (detail : Word) : WordFree.Statement (.fatalFault code unit detail) := fun _ _ h => nomatch h
theorem WordFree.faultStatus (m : Msg) : WordFree.Statement (.faultStatus m) := fun _ _ h => nomatch h
theorem WordFree.faultClear (m : Msg) : WordFree.Statement (.faultClear m) := fun _ _ h => nomatch h
theorem WordFree.faultConfig (m : Msg) : WordFree.Statement (.faultConfig m) := fun _ _ h => nomatch h
theorem WordFree.faultInject (m : Msg) : WordFree.Statement (.faultInject m) := fun _ _ h => nomatch h
theorem WordFree.thermalSet (m : Msg) : WordFree.Statement (.thermalSet m) := fun _ _ h => nomatch h
theorem WordFree.thermalStatus (m : Msg) : WordFree.Statement (.thermalStatus m) := fun _ _ h => nomatch h
theorem WordFree.temperatureReading (readings : List (Option Int)) : WordFree.Statement (.temperatureReading readings) := fun _ _ h => nomatch h
theorem WordFree.thermalWarnConfirm (sensor : Nat) : WordFree.Statement (.thermalWarnConfirm sensor) := fun _ _ h => nomatch h
theorem WordFree.thermalWarnClear (sensor : Nat) : WordFree.Statement (.thermalWarnClear sensor) := fun _ _ h => nomatch h
theorem WordFree.thermalDamp (sensor : Nat) : WordFree.Statement (.thermalDamp sensor) := fun _ _ h => nomatch h
theorem WordFree.sensorLost (sensor : Nat) : WordFree.Statement (.sensorLost sensor) := fun _ _ h => nomatch h
theorem WordFree.sensorRecover (sensor : Nat) : WordFree.Statement (.sensorRecover sensor) := fun _ _ h => nomatch h
theorem WordFree.dinConfig (m : Msg) : WordFree.Statement (.dinConfig m) := fun _ _ h => nomatch h
theorem WordFree.dinStatus (m : Msg) : WordFree.Statement (.dinStatus m) := fun _ _ h => nomatch h
theorem WordFree.dinSample (a : Nat) (b : Nat) : WordFree.Statement (.dinSample a b) := fun _ _ h => nomatch h
theorem WordFree.dinChange (i : Nat) : WordFree.Statement (.dinChange i) := fun _ _ h => nomatch h
theorem WordFree.dinDiscrepancy (i : Nat) : WordFree.Statement (.dinDiscrepancy i) := fun _ _ h => nomatch h
theorem WordFree.dinDiscrepancyClear (i : Nat) : WordFree.Statement (.dinDiscrepancyClear i) := fun _ _ h => nomatch h
theorem WordFree.dinHearthSample (a : Nat) (b : Nat) : WordFree.Statement (.dinHearthSample a b) := fun _ _ h => nomatch h
theorem WordFree.referenceSlice (vref : List Int) (rset : List Int) : WordFree.Statement (.referenceSlice vref rset) := fun _ _ h => nomatch h
theorem WordFree.calSlice (unit : Nat) (aborted : Bool) (trims : BitVec 16) (temp : Int) : WordFree.Statement (.calSlice unit aborted trims temp) := fun _ _ h => nomatch h
theorem WordFree.calStale (unit : Nat) : WordFree.Statement (.calStale unit) := fun _ _ h => nomatch h
theorem WordFree.calConfig (m : Msg) : WordFree.Statement (.calConfig m) := fun _ _ h => nomatch h
theorem WordFree.calStatus (m : Msg) : WordFree.Statement (.calStatus m) := fun _ _ h => nomatch h
theorem WordFree.calCommit (m : Msg) : WordFree.Statement (.calCommit m) := fun _ _ h => nomatch h
theorem WordFree.selftestRun (m : Msg) : WordFree.Statement (.selftestRun m) := fun _ _ h => nomatch h
theorem WordFree.selftestGroupStart : WordFree.Statement (.selftestGroupStart) := fun _ _ h => nomatch h
theorem WordFree.selftestUnitEnd (unit : Nat) (check : Nat) : WordFree.Statement (.selftestUnitEnd unit check) := fun _ _ h => nomatch h
theorem WordFree.selftestResult (m : Msg) : WordFree.Statement (.selftestResult m) := fun _ _ h => nomatch h
theorem WordFree.skimConfig (m : Msg) : WordFree.Statement (.skimConfig m) := fun _ _ h => nomatch h
theorem WordFree.skimStatus (m : Msg) : WordFree.Statement (.skimStatus m) := fun _ _ h => nomatch h
theorem WordFree.skimSlice (unit : Nat) (aborted : Bool) (check : Nat) : WordFree.Statement (.skimSlice unit aborted check) := fun _ _ h => nomatch h
theorem WordFree.skimOverdue (unit : Nat) : WordFree.Statement (.skimOverdue unit) := fun _ _ h => nomatch h
theorem WordFree.keepWrite (m : Msg) : WordFree.Statement (.keepWrite m) := fun _ _ h => nomatch h
theorem WordFree.keepWordComplete : WordFree.Statement (.keepWordComplete) := fun _ _ h => nomatch h
theorem WordFree.keepStatus (m : Msg) : WordFree.Statement (.keepStatus m) := fun _ _ h => nomatch h
theorem WordFree.lifecycleTokenLoad (m : Msg) : WordFree.Statement (.lifecycleTokenLoad m) := fun _ _ h => nomatch h
theorem WordFree.lifecycleAdvance (m : Msg) : WordFree.Statement (.lifecycleAdvance m) := fun _ _ h => nomatch h
theorem WordFree.fuseInstruction (hash : BitVec 256) : WordFree.Statement (.fuseInstruction hash) := fun _ _ h => nomatch h
theorem WordFree.standardTraining (ch : Nat) (e : StdEvent) : WordFree.Statement (.standardTraining ch e) := fun _ _ h => nomatch h
theorem WordFree.peerDelayExchange (root : Nat) (d : PeerDelay) : WordFree.Statement (.peerDelayExchange root d) := fun _ _ h => nomatch h
theorem WordFree.steeringStop : WordFree.Statement (.steeringStop) := fun _ _ h => nomatch h

end Laws
end Sys2Proof
end

