-- ==== Sys2Proof/Machine/Figures.lean ====
section
/-! DEFINITION. Figures that follow from the state and that no command returns: the latency bound of a device (08, R245; 13,
R408 to R412), the power in BANKED (16, R489), the body bias (16, R493), and the records of the spool and the trace as bytes
(14, R424; 16, R505). -/
namespace Sys2Proof
namespace Machine

/-! ## The latency bound (R245, R408 to R412), in 0.1 us -/

/-- T_phy,in and T_phy,out of a line mode (R410). -/
def linePhy (mode : Nat) : Nat × Nat :=
  match mode with
  | 1 => (50, 30)
  | 2 => (20, 12)
  | 6 => (30, 14)
  | _ => (16, 10)

/-- O_k of R245 in bit times: burst settings and the largest frame of a node. -/
def dropBurst (toTimer maxBc burstTmr len : Nat) : Nat := toTimer + (1 + maxBc) * (len + 20) * 8 + maxBc * burstTmr

/-- What the device cannot know of a drop's nodes: the largest frame that it sends itself, and of each ID from 1 on MAX_BC,
BURST_TMR and the largest frame (R245). -/
structure DropNodes where
  own   : Nat
  nodes : List (Nat × Nat × Nat)
deriving DecidableEq, Repr

/-- O_k of ID `k` on a drop (R245): the device's burst settings are those of DROP_CONFIG. -/
def Plca.burst (p : Plca) (n : DropNodes) (k : Nat) : Nat :=
  match k with
  | 0 => dropBurst p.toTimer p.maxBc p.burstTmr n.own
  | k + 1 =>
    let o := n.nodes.getD k (0, 0, 0)
    dropBurst p.toTimer o.1 o.2.1 o.2.2

/-- W(m) of R245 in 0.1 us: the beacon and the bursts of every ID from 0 to NODE_COUNT - 1 but m. -/
def Plca.wait (p : Plca) (n : DropNodes) (m : Nat) : Nat :=
  20 + (((List.range p.nodeCount).filter (fun k => k != m)).map (p.burst n)).foldl (· + ·) 0

/-- T_phy of a drop for a frame that node `m` sends (R245, R410). -/
def State.dropPhy (s : State) (ds : Nat) (n : DropNodes) (m : Nat) : Nat := 20 + (s.drop ds).cfg.plca.wait n m

/-- W_t + A of a trunk's own direction in ticks (R411): 8 + B in class F, otherwise twice P. -/
def Trunk.phyOut (t : Trunk) : Nat :=
  if t.cls = 0 then 8 + t.slots else 2 * symbolPeriod t.cls (t.slots - 1)

/-- T_phy,in of a port in 0.1 us; on a drop of node `m` (R410). -/
def State.phyIn (s : State) (port : Nat) (n : DropNodes) (m : Nat) : Nat :=
  if port < 96 then (linePhy (s.line port).mode).1
  else if port < 128 then s.dropPhy (port - 96) n m
  else if port < 132 then 250
  else 2

/-- T_phy,out of a root in 0.1 us (R410). -/
def State.phyOut (s : State) (root : Nat) (n : DropNodes) : Nat :=
  if root < 96 then (linePhy (s.line root).mode).2
  else if root < 128 then s.dropPhy (root - 96) n 0
  else if root < 132 then 250 * (s.trunk (root - 128)).phyOut
  else 2

/-- What R412 adds for low-power idle and for `retx` retransmissions on a trunk, in ticks; the gate's part is in the bound. -/
def State.hopExtra (s : State) (root retx : Nat) : Nat :=
  if root < 96 then b2n (s.line root).cfg.lpiEn
  else if 128 ≤ root ∧ root < 132 then
    let t := s.trunk (root - 128)
    Nat.min 2 retx * (if t.cls = 0 then 8 else symbolPeriod t.cls (t.slots - 1))
  else 0

/-- The unit behind a root serves frames of a class: its link is up and, on a host lane group, credit is there (R412). -/
def State.serves (s : State) (root sc len : Nat) : Bool :=
  if root < 96 then s.unitOn root && (s.line root).linked
  else if root < 128 then s.unitOn root && (s.drop (root - 96)).state == .up
  else if root < 132 then s.unitOn root && (s.trunk (s.carrier (root - 128))).state == .up
  else if root < 136 then s.unitOn root && (s.host (root - 132)).state == .up && (s.host (root - 132)).creditEdge sc len
  else s.live

/-- L_hop of R408 in 0.1 us for a frame of charged length `len` from `port` through queue `q` of class `sc`; T_queue is rounded
up to a whole us and T_ser to 0.1 us. None when it is not bounded, as while the unit behind the root does not serve (R412). -/
def State.hopBound (s : State) (port q sc len sender : Nat) (nIn nOut : DropNodes) (retx : Nat) : Option Nat :=
  match s.bound q sc, s.queueRoot q with
  | some b, some r =>
    if !s.serves r sc len then none
    else some (s.phyIn port nIn sender + 500 + 10 * b + s.phyOut r nOut + ceilDiv (80000 * len) (s.rPort r) + 250 * s.hopExtra r retx)
  | _, _ => none

/-! ## Power in RUN (R76), in mW -/

/-- What a line channel draws at most at the moment: 30 % of its mode's figure while it is quiet in low-power idle (R76; DESIGN
CHOICE: its transmitter is, log 25). -/
def State.lineDraw (s : State) (ch : Nat) : Nat :=
  if (s.line ch).lpiTx.quietNow then 3 * s.linePower ch / 10 else s.linePower ch

/-- The units under skim test (R76, R578). -/
def State.skimCount (s : State) : Nat := (s.skim.units.filter (fun e => e.2.slices.isSome)).length

/-- What the device draws at most at the moment (R76): the figures of its configuration, with quiet line channels at theirs, and
1.50 W for each unit under skim test, at most 4. -/
def State.powerDraw (s : State) : Nat :=
  s.powerNow - ((List.range 96).map s.linePower).foldl (· + ·) 0 + ((List.range 96).map s.lineDraw).foldl (· + ·) 0 +
    1500 * Nat.min 4 s.skimCount

/-! ## Power in BANKED (R78, R489), in 0.1 mW -/

/-- Power in BANKED, typical and greatest, for the selections of an entry. -/
def Entry.bankedPower (e : Entry) : Nat × Nat :=
  let banks := popCount 64 e.hubBanks
  let dies := popCount 4 (e.lineKeep ||| e.lineWake)
  let wake := popCount 4 e.lineWake
  (2000 + 300 * banks + 4000 + 4800 + 3000 * dies + 18000 + 3500 * wake,
    2500 + 375 * banks + 5000 + 6000 + 3750 * dies + 22500 + 4500 * wake)

/-! ## Body bias and SRAM assist (R493) -/

/-- The body bias and SRAM assist that a domain takes (R493). -/
inductive Bias where
  /-- Zero or forward bias, as trim sets; no assist. -/
  | trim
  /-- Reverse bias of -0.3 V on the logic; 0.60 V on retained arrays. -/
  | reverse
  | none
deriving DecidableEq, Repr

/-- The bias of the hub logic (domain 1) or of a line die (domains 4 to 7) in the present state (R493). -/
def State.bias (s : State) (d : Nat) : Bias :=
  if d = 1 ∨ (4 ≤ d ∧ d ≤ 7) then
    match s.boot.power with
    | .run | .damped => if s.domOn d then .trim else .none
    | .banked =>
      match s.power.banked with
      | some e => if d = 1 ∨ bit e.lineKeep (d - 4) ∨ bit e.lineWake (d - 4) then .reverse else .none
      | none => .none
    | _ => .none
  else .none

/-! ## Records as bytes (R424, R505) -/

/-- The 32-byte header of a spool entry (R424). -/
def SpoolEntry.header (e : SpoolEntry) : List Byte :=
  (List.range 4).flatMap (fun g => leBytes 4 (if bit e.groups g then e.seqs.getD g 0 else 0)) ++ leBytes 2 e.len ++
    leBytes 1 e.port ++ leBytes 1 e.groups ++ leBytes 8 e.tick ++ leBytes 4 0

/-- A 24-byte power record of a trace bank (R505). -/
def TraceRec.bytes (r : TraceRec) : List Byte :=
  leBytes 1 r.type ++ leBytes 1 r.state ++ leBytes 1 (b2n r.south) ++ leBytes 5 0 ++ leBytes 8 r.tick ++ leBytes 8 r.sleep

/-- What the debug port reads from a complex's trace bank: its records, or zeros while DEBUG_BRIDGE is gated (R505, R522). -/
def State.traceRead (s : State) (south : Bool) : List Byte :=
  let l := (s.power.trace.filter (fun r => r.south == south)).flatMap TraceRec.bytes
  if bit s.clock.gates 2 then l else List.replicate l.length 0

end Machine
end Sys2Proof
end

