-- ==== Sys2Proof/Machine/Wave.lean ====
section
/-! DEFINITION. The trunk waveform over the real and complex numbers (09): each definition says what makes a sequence of values
the one that a rule describes. Nothing here is executed: State holds bits, and these definitions tie them to samples. -/
namespace Sys2Proof
namespace Machine

/-! ## Time blocks and slots (R256, R257, R287) -/

/-- The value of transform bin `k`, 0 to 8,191, from the bins 0 to 4,096: the upper half is conjugate (R256). -/
def IsFullBins (Z W : Nat → ℂ) : Prop :=
  (∀ k, k ≤ 4096 → W k = Z k) ∧ ∀ k, 4096 < k → k < 8192 → W k = star (Z (8192 - k))

/-- `x` is the time block of the bins `Z` with gain `g` (R256). -/
def IsTimeBlock (g : ℝ) (Z : Nat → ℂ) (x : Nat → ℝ) : Prop :=
  ∃ W, IsFullBins Z W ∧ ∀ n, n < 8192 → ((x n : ℝ) : ℂ) =
    g * (Finset.range 8192).sum (fun k => W k * Complex.exp (2 * Real.pi * Complex.I * k * n / 8192))

/-- `s` is a data or training slot of 10,000 samples with the block `x`: the cyclic prefix, then the block (R257). -/
def IsSlot (x s : Nat → ℝ) : Prop := ∀ n, n < 10000 → s n = x (blockSample n)

/-- `Y` is the transform of a received slot's block, the samples behind the cyclic prefix (R287). -/
def IsBlockDft (s : Nat → ℝ) (Y : Nat → ℂ) : Prop :=
  ∀ k, k ≤ 4096 → Y k =
    (Finset.range 8192).sum (fun n => (s (1808 + n) : ℂ) * Complex.exp (-(2 * Real.pi * Complex.I * k * n / 8192)))

/-! ## Spreading (R263) -/

/-- `F` is the discrete Fresnel transform of `N` points (R263): an odd N shifts the argument by a half. -/
def IsFresnel (N : Nat) (F : Nat → Nat → ℂ) : Prop :=
  ∀ q m, q < N → m < N → F q m =
    (1 / Real.sqrt N : ℝ) * Complex.exp (-(Complex.I * Real.pi / 4)) *
      Complex.exp (Complex.I * Real.pi * ((q : ℂ) - m + (if N % 2 = 1 then 1 / 2 else 0)) ^ 2 / N)

/-- `X` holds the bins of a segment with the chirp-domain cells `x` (R263). -/
def IsSpread (N : Nat) (x X : Nat → ℂ) : Prop :=
  ∃ F, IsFresnel N F ∧ ∀ q, q < N → X q = (Finset.range N).sum (fun m => F q m * x m)

/-- `x` holds the cells that the conjugate transpose gives back from the bins `X` (R263). -/
def IsDespread (N : Nat) (X x : Nat → ℂ) : Prop :=
  ∃ F, IsFresnel N F ∧ ∀ m, m < N → x m = (Finset.range N).sum (fun q => star (F q m) * X q)

/-! ## Cells, pilots and symbols (R255, R264 to R267, R278) -/

/-- `z` is the cell with the bits `l`: its levels, scaled to a mean power of 1 over the constellation (R265). -/
def IsCell (l : List Bool) (z : ℂ) : Prop :=
  let v : ℂ := ((cellLevels l).1 : ℂ) + ((cellLevels l).2 : ℂ) * Complex.I
  match l with
  | [] => z = 0
  | [_] => z = v
  | _ => z = v / ((Real.sqrt (levelPower (l.length / 2) / 3 : ℝ) : ℝ) : ℂ)

/-- `z` is the value of a pilot with a bit (R266). -/
def IsPilot (b : Bool) (z : ℂ) : Prop := z = if b then -((Real.sqrt 2 : ℝ) : ℂ) else ((Real.sqrt 2 : ℝ) : ℂ)

/-- `Z` holds the bins of data symbol `d` of a fill unit: spread cells in the segments' bins, the pilots, zero elsewhere
(R255, R263 to R266). `pd` is the symbol's place among the data slots of its burst, `set` the burst's loading set. -/
def IsDataSymbol (codes : List Nat) (unit : List Bool) (d set pd : Nat) (Z : Nat → ℂ) : Prop :=
  ∃ x X : Nat → Nat → ℂ,
    (∀ j m, j < 64 → m < segCells j → IsCell (cellBits codes unit d j m) (x j m)) ∧
    (∀ j, j < 64 → IsSpread (segCells j) (x j) (X j)) ∧
    ∀ k, k ≤ 4096 → match binUse k with
      | .zero => Z k = 0
      | .pilot j => IsPilot ((symbolPilots set pd).getD j false) (Z k)
      | .data j q => Z k = X j q

/-- `Z` holds the bins of a training symbol: +1 for a bit 0, -1 for a bit 1 in bins 41 to 4,095, unspread (R278). -/
def IsTrainingSymbol (Z : Nat → ℂ) : Prop :=
  (∀ k, k < 41 → Z k = 0) ∧ Z 4096 = 0 ∧
    ∀ k, 41 ≤ k → k < 4096 → Z k = if trainingBits.getD (k - 41) false then -1 else 1

/-- The mean power of `n` samples in volt into 100 Ohm is `p` in milliwatt. -/
def IsMeanPower (n : Nat) (s : Nat → ℝ) (p : ℝ) : Prop :=
  (Finset.range n).sum (fun i => s i ^ 2) / n / 100 * 1000 = p

/-- `p` milliwatt are `c` tenths of a dBm. -/
def IsDbm (c : Int) (p : ℝ) : Prop := p = (10 : ℝ) ^ ((c : ℝ) / 100)

/-- The gain of a transmitted data or training slot: its mean power is that of the range in use (R267, R290). -/
def IsSlotGain (range atten : Nat) (Z : Nat → ℂ) (g : ℝ) : Prop :=
  ∃ x s p, IsTimeBlock g Z x ∧ IsSlot x s ∧ IsDbm (trunkPower range atten) p ∧ IsMeanPower 10000 s p

/-! ## Chirps, ramps and bursts (R259, R260, R280, R321) -/

/-- The bandwidth of a class's chirps in MHz: 198, and a quarter of it with each class (R280). -/
def chirpBand (cls : Nat) : ℚ := 198 / 4 ^ cls

/-- The phase of sample `i` of the up-chirp in turns: f0 i / fs + mu i^2 / (2 fs^2) with f0 = 2 MHz, fs = 400 MHz and
mu = B / 10.24 us (R280). -/
def upPhase (cls i : Nat) : ℚ := 2 * i / 400 + chirpBand cls / 10.24 * i ^ 2 / (2 * 400 ^ 2)

/-- The phase of sample `i` of the down-chirp in turns (R280). -/
def downPhase (cls i : Nat) : ℚ := (2 + chirpBand cls) * i / 400 - chirpBand cls / 10.24 * i ^ 2 / (2 * 400 ^ 2)

/-- `u` and `d` are the chirps of a class with amplitude `A` (R280). -/
def IsChirps (cls : Nat) (A : ℝ) (u d : Nat → ℝ) : Prop :=
  ∀ i, i < 4096 → u i = A * Real.cos (2 * Real.pi * (upPhase cls i : ℝ)) ∧
    d i = A * Real.cos (2 * Real.pi * (downPhase cls i : ℝ))

/-- The amplitude of a chirp: its mean power is that of the range in use (R267, R280). -/
def IsChirpAmplitude (range atten cls : Nat) (A : ℝ) : Prop :=
  ∃ u d p, IsChirps cls A u d ∧ IsDbm (trunkPower range atten) p ∧ IsMeanPower 4096 u p

/-- `a` is the envelope of a ramp over 0.4 us, at the 160 samples of it (R260). -/
def IsEnvelope (a : Nat → ℝ) : Prop := ∀ i, i ≤ 160 → a i = 0.5 * (1 - Real.cos (Real.pi * i / 160))

/-- `v` is the value of a sample of a preamble slot or of the kindle pattern (R259, R260, R321). -/
def IsPreValue (a u d : Nat → ℝ) (x : PreSample) (v : ℝ) : Prop :=
  match x with
  | .silence => v = 0
  | .rampUp i => v = a (i - 3936) * u i
  | .up i => v = u i
  | .down i => v = d i

/-- `s` holds the samples of a burst whose slot `k` has the block `x k`, with the chirps `u` and `d` (R257 to R260). The spec
names no block for the ramp-down of a burst that is a preamble only: `x 0` is free there (log 86). -/
def IsBurst (slots : Nat) (u d : Nat → ℝ) (x : Nat → Nat → ℝ) (s : Nat → ℝ) : Prop :=
  ∃ a, IsEnvelope a ∧ ∀ n, n < 10000 * (slots + 1) → match burstSample slots n with
    | .preamble p => IsPreValue a u d p (s n)
    | .block k m => s n = x k m
    | .rampDown k m => s n = x k m * a (160 - m)
    | .silence => s n = 0

/-- `s` holds the samples of the kindle pattern at HIGH range and ATTEN 0, up to its ramp-down (R321). -/
def IsKindle (s : Nat → ℝ) : Prop :=
  ∃ a A u d, IsEnvelope a ∧ IsChirpAmplitude 0 0 3 A ∧ IsChirps 3 A u d ∧
    ∀ n, n < 1808 + 65536 → IsPreValue a u d (kindleSample n) (s n)

/-! ## Reception (R272, R279, R287, R288) -/

/-- `H` is the channel of each usable bin and `D` the difference that the noise is estimated from, out of the transforms of a
training pair (R279). -/
def IsSounding (T Y1 Y2 H D : Nat → ℂ) : Prop :=
  IsTrainingSymbol T ∧ ∀ k, 41 ≤ k → k < 4096 → H k = (Y1 k + Y2 k) / 2 / T k ∧ D k = Y1 k - Y2 k

/-- `snr` holds each segment's SNR in 0.1 dB out of a training pair's estimates: the mean power of the channel over the segment's data
bins against half the mean power of the difference, which carries the noise of two symbols, the training cells having power 1
(R278, R279). DEDUCED: the spec names the two estimates and no formula (log 86). -/
def IsSegmentSnr (H D : Nat → ℂ) (snr : Nat → Int) : Prop :=
  ∀ j, j < 64 → ∃ p n : ℝ,
    p = (Finset.range (segCells j)).sum (fun q => ‖H (42 + 64 * j + q)‖ ^ 2) ∧
    n = (Finset.range (segCells j)).sum (fun q => ‖D (42 + 64 * j + q)‖ ^ 2) / 2 ∧
    IsDbm (snr j) (p / n)

/-- `tap` is the zero-forcing inverse of the channel `H`, corrected for the pilots' phase `ph` at each bin (R287). -/
def IsTap (H : Nat → ℂ) (ph : Nat → ℝ) (tap : Nat → ℂ) : Prop :=
  ∀ k, 41 ≤ k → k < 4096 → tap k * H k = Complex.exp (-(Complex.I * ph k))

/-- `x` holds the equalised cells of each segment of a received symbol with the transform `Y` (R287). -/
def IsEqualised (tap Y : Nat → ℂ) (x : Nat → Nat → ℂ) : Prop :=
  ∀ j, j < 64 → IsDespread (segCells j) (fun q => tap (42 + 64 * j + q) * Y (42 + 64 * j + q)) (x j)

/-- The pilots' phase errors `e` follow a line whose slope is a timing error of `t` samples (R288): bin k turns by
2 pi k t / 8,192. DESIGN CHOICE: the line is the one of least squares (log 86). -/
def IsPilotLine (e : Nat → ℝ) (t c : ℝ) : Prop :=
  ∀ t' c' : ℝ, (Finset.range 64).sum (fun j => (e j - (2 * Real.pi * (41 + 64 * j) * t / 8192 + c)) ^ 2) ≤
    (Finset.range 64).sum (fun j => (e j - (2 * Real.pi * (41 + 64 * j) * t' / 8192 + c')) ^ 2)

/-- `z` combines the copies of a cell, each with the SNR of its segment in that copy as a power ratio: each copy is weighted by
its SNR (R272). -/
def IsCombined (copies : List (ℝ × ℂ)) (z : ℂ) : Prop :=
  z * ((copies.map Prod.fst).sum : ℝ) = (copies.map (fun p => (p.1 : ℂ) * p.2)).sum

/-! ## Reference conditions (R307) -/

/-- The most that `c` tenths of a dB of cable of `m` metres lose at `f` MHz under the reference conditions: 0.30 dB x sqrt f per
100 m (R307). -/
def IsReferenceCable (m f c : ℝ) : Prop := c ≤ 0.30 * Real.sqrt f * m / 100

/-- The reference conditions of a trunk at one frequency: cable loss, loss of couplers, relays and taps in dB, and noise in
dBm/Hz, at HIGH range, ATTEN 0 and split 4:4 (R307). -/
def IsReference (m f cable parts noise : ℝ) (range atten split : Nat) : Prop :=
  IsReferenceCable m f cable ∧ parts ≤ 4.0 ∧ noise ≤ -135 ∧ range = 0 ∧ atten = 0 ∧ split = 4

end Machine
end Sys2Proof
end

