-- ==== Sys2Proof/WellFormed.lean ====
section
/-! DEFINITION. Well-formed commands: every operand lies in the range that the spec gives it. A command that is not well
formed names a unit, a code or a field that the device does not have. -/
namespace Sys2Proof

/-- A message fits MSG0 to MSG15 of a channel (R118, R119, R137). -/
def Msg.wf (m : Msg) : Bool :=
  decide (m.chan < 7) && decide (m.seq < 256) && decide (m.rsv < 8) && decide (m.len < 32) && decide (m.args.length ≤ 15) &&
    decide (m.slot < 16) && decide (m.counter < 4294967296)

/-- A channel 3 payload fits its 92 bytes (R137). -/
def PeerPayload.wf (p : PeerPayload) : Bool :=
  decide (p.path < 65536) && decide (p.slot < 256) && decide (p.dir < 256) && decide (p.counter < 4294967296) &&
    decide (p.words.length = 16)

/-- A tag fits 802.1Q. -/
def Tag.wf (t : Tag) : Bool := decide (t.vid < 4096) && decide (t.pcp < 8)

/-- A frame has 48-bit addresses and a tag that fits (R20, R358). -/
def Frame.wf (f : Frame) : Bool :=
  decide (f.da < 281474976710656) && decide (f.sa < 281474976710656) &&
    (match f.tag with
     | some t => t.wf
     | none => true)

/-- An access of the other SPI port names an address of 32 bits (R107). -/
def SpiAccess.wf : SpiAccess → Bool
  | .read addr | .write addr _ => decide (addr < 4294967296)

/-- A command is well formed. -/
def Instr.wf : Instr → Bool
  | .powerOnReset => true
  | .vdde18Collapse => true
  | .pinReset => true
  | .railReset rails => decide (rails < 64)
  | .hearthBrownout => true
  | .resetRelease => true
  | .bootRom _ _ => true
  | .cellarPhase _ _ => true
  | .configReplay => true
  | .trainingPhase => true
  | .readinessPhase => true
  | .tickEdge => true
  | .tickCommit => true
  | .tickOverrun engine die finish => decide (1 ≤ engine) && decide (engine < 12) && decide (die < 4) && decide (finish < 65536)
  | .registerWrite _ addr w => decide (addr < 4294967296) && (w.other.map SpiAccess.wf).getD true
  | .tickLoRead _ => true
  | .mailboxGo ch _ => decide (ch < 8)
  | .mailboxCancel ch _ => decide (ch < 8)
  | .ackClr ch _ => decide (ch < 8)
  | .dbStatusClear _ _ => true
  | .dbMaskWrite _ => true
  | .dbTest _ => true
  | .clkoutChange _ => true
  | .clkoutChangeEnd => true
  | .messageSelect _ _ _ => true
  | .peerMessage p => p.wf
  | .echo m => m.wf
  | .eventRead m => m.wf
  | .stewardMove m => m.wf
  | .deviceReset m => m.wf
  | .peerKeySet m => m.wf
  | .configLoad m _ => m.wf
  | .rollbackAdvance m => m.wf
  | .powerDomainSet m => m.wf
  | .domainPowered dom => decide (4 ≤ dom) && decide (dom < 12)
  | .powerEnter m => m.wf
  | .powerEntryStep => true
  | .wakeConfig m => m.wf
  | .powerStatus m => m.wf
  | .bankedResume sleep => decide (sleep < 18446744073709551616)
  | .emberWake sleep => decide (sleep < 18446744073709551616)
  | .emberRailFail => true
  | .sioTimerWake => true
  | .hostLaneWakeDetect g => decide (g < 4)
  | .clockPlan m => m.wf
  | .refSwitchComplete => true
  | .clockStatus m => m.wf
  | .clockGate m => m.wf
  | .ppsConfig m => m.wf
  | .pllLock loop => decide (loop < 9)
  | .pllUnlock loop => decide (loop < 9)
  | .clockStopDetect src _ _ => decide (src < 4)
  | .refDeviation _ => true
  | .forcedFailover => true
  | .nmiHandler => true
  | .ppsPulse => true
  | .ppsPulseEnd => true
  | .ppsInCapture cycle _ => decide (cycle < 65536)
  | .lineConfig m => m.wf
  | .lineStatus m => m.wf
  | .lineRetrain m => m.wf
  | .lineOamSend m => m.wf
  | .lineOamRead m => m.wf
  | .bundleConfig m => m.wf
  | .bundleStatus m => m.wf
  | .rxAdaptConfig m => m.wf
  | .rxStatus m => m.wf
  | .rxTapsRead m => m.wf
  | .lineCounters m => m.wf
  | .lineQuality m => m.wf
  | .lineWatchConfig m => m.wf
  | .lineTdr m => m.wf
  | .tdrComplete ch _ _ => decide (ch < 96)
  | .cableHealth m => m.wf
  | .baselineCapture ch => decide (ch < 96)
  | .anPageRx ch _ => decide (ch < 96)
  | .trainingFrameRx ch _ => decide (ch < 96)
  | .lineTrainingTimeout ch => decide (ch < 96)
  | .bundleSurvey bg => decide (bg < 24)
  | .surveyComplete bg _ _ => decide (bg < 24)
  | .joinSoftStartEnd ch => decide (ch < 96)
  | .sfmRx ch markErr bytes bad _ => decide (ch < 96) && decide (markErr < 161) && decide (bytes.length = 32) && decide (bad < 512)
  | .oamMessageRx ch _ => decide (ch < 96)
  | .precoderSwitch ch sf => decide (ch < 96) && decide (sf < 2 ^ 32)
  | .precoderUpdate ch later => decide (ch < 96) && decide (later < 2 ^ 30)
  | .resumeTimeout ch => decide (ch < 96)
  | .blwSaturation ch => decide (ch < 96)
  | .lpiEntry ch => decide (ch < 96)
  | .lpiRefresh ch => decide (ch < 96)
  | .lpiWake ch => decide (ch < 96)
  | .linkSleep ch => decide (ch < 96)
  | .wakeToneDetect ch => decide (ch < 96)
  | .lineWakeDetect ch => decide (ch < 96)
  | .linkDrop ch criterion => decide (ch < 96) && decide (1 ≤ criterion) && decide (criterion < 8)
  | .lineChannelFault ch code => decide (ch < 96) && decide (code < 65536)
  | .quietPeriodEnd root => decide (root < 136)
  | .dropConfig m => m.wf
  | .dropStatus m => m.wf
  | .dropCounters m => m.wf
  | .plcaBeacon ds => decide (ds < 32)
  | .plcaOpportunityTimeout ds => decide (ds < 32)
  | .dropFrameRx ds id _ _ f => decide (ds < 32) && decide (id < 16) && f.wf
  | .foreignBeaconRx ds => decide (ds < 32)
  | .coordConflictClear ds => decide (ds < 32)
  | .dropChannelFault ds code => decide (ds < 32) && decide (code < 65536)
  | .dropWakeDetect ds => decide (ds < 32)
  | .trunkSignalConfig m => m.wf
  | .trunkSignalStatus m => m.wf
  | .trunkLoadingRead m => m.wf
  | .trunkSignalCounters m => m.wf
  | .trunkConfig m => m.wf
  | .trunkStatus m => m.wf
  | .bypassSetPolicy m => m.wf
  | .trunkKindle m => m.wf
  | .kindlePatternSend tr => decide (tr < 4)
  | .trunkReflect m => m.wf
  | .reflectComplete tr _ _ => decide (tr < 4)
  | .trunkProbe tr _ => decide (tr < 4)
  | .relaySettleEnd tr => decide (tr < 4)
  | .preambleDetect tr _ => decide (tr < 4)
  | .halfPreamble tr => decide (tr < 4)
  | .missedBurst tr => decide (tr < 4)
  | .trunkBurstRx tr _ => decide (tr < 4)
  | .trunkBurstTx tr => decide (tr < 4)
  | .loadingCompute tr snr => decide (tr < 4) && decide (snr.length = 64)
  | .classEvaluation tr => decide (tr < 4)
  | .soundRequest tr => decide (tr < 4)
  | .tluGapTimeout tr => decide (tr < 4)
  | .frameActivation tr => decide (tr < 4)
  | .trunkTrainingTimeout tr => decide (tr < 4)
  | .trunkLinkDrop tr => decide (tr < 4)
  | .trunkChannelFault tr code => decide (tr < 4) && decide (code < 65536)
  | .kindleEnergy tr _ => decide (tr < 4)
  | .kindleDetect tr matched _ => decide (tr < 4) && decide (matched < 65536)
  | .kindleCorrelateTimeout tr => decide (tr < 4)
  | .hostConfig m => m.wf
  | .hostStatus m => m.wf
  | .hostCounters m => m.wf
  | .hostPrbs m => m.wf
  | .hostTrainingBlock g _ => decide (g < 4)
  | .hostTrainingTimeout g => decide (g < 4)
  | .lanePacketRx g _ => decide (g < 4)
  | .nakRepeat g => decide (g < 4)
  | .laneResend g => decide (g < 4)
  | .hostRetrain g cause => decide (g < 4) && decide (cause < 16)
  | .electricalIdleEntry g => decide (g < 4)
  | .electricalIdleExit g => decide (g < 4)
  | .sidebandPacket g _ _ => decide (g < 4)
  | .spoolAck g n => decide (g < 4) && decide (n < 4294967296)
  | .hostLaneFault g code => decide (g < 4) && decide (code < 65536)
  | .frameArrival port _ f => decide (port < 138) && f.wf
  | .frameClassify => true
  | .frerRecoveryReset handle => decide (1 ≤ handle) && decide (handle < 16384)
  | .schedulerSelect root => decide (root < 138)
  | .frameDeparture root _ => decide (root < 138)
  | .portBridgeConfig m => m.wf
  | .vlanSet m => m.wf
  | .fdbConfig m => m.wf
  | .fdbEntry m => m.wf
  | .fdbStatus m => m.wf
  | .streamSet m => m.wf
  | .nodeSet m => m.wf
  | .queueSet m => m.wf
  | .queueFlush m => m.wf
  | .queueStats m => m.wf
  | .rootSet m => m.wf
  | .shaperSet m => m.wf
  | .shaperRead m => m.wf
  | .policerSet m => m.wf
  | .policerStats m => m.wf
  | .gateListWrite m => m.wf
  | .gateListCommit m => m.wf
  | .guaranteeSet m => m.wf
  | .guaranteeStatus m => m.wf
  | .spoolConfig m => m.wf
  | .spoolStatus m => m.wf
  | .spoolReplay m => m.wf
  | .spoolReplayStart g => decide (g < 4)
  | .replayPlace g => decide (g < 4)
  | .cellarStatus m => m.wf
  | .cellarUe _ => true
  | .patrolScrub pages _ _ => decide (pages < 67108865)
  | .fabricSetIdentity m => m.wf
  | .fabricLinkSet m => m.wf
  | .fabricStatus m => m.wf
  | .fabricStage m => m.wf
  | .fabricPrepare m => m.wf
  | .frerStatus m => m.wf
  | .helloSend root => decide (root < 132)
  | .helloRx root _ => decide (root < 132)
  | .adjacencyExpiry root => decide (root < 132)
  | .topoSend => true
  | .topoRx root _ => decide (root < 132)
  | .leaderElection => true
  | .routeSend => true
  | .routeRx r => decide (r.root < 132)
  | .keyRx k _ => decide (k.root < 132) && decide (1 ≤ k.level) && decide (k.level < 5) && decide (k.serial < 18446744073709551616)
  | .fabricCommitTick => true
  | .syncSend => true
  | .syncRx y => decide (y.root < 132) && decide (y.phase < 25000)
  | .prepareRx epoch digest act origin _ => decide (epoch < 4294967296) && decide (digest < 18446744073709551616) && decide (act < 18446744073709551616) && decide (origin.root < 132) && decide (origin.src < 65536) && decide (origin.dst < 65536)
  | .prepAckRx path code => decide (path < 4294967296) && decide (code < 65536)
  | .prepareDeadline => true
  | .commitRx c => decide (c.root < 132) && decide (c.epoch < 4294967296)
  | .abortRx a => decide (a.root < 132) && decide (a.epoch < 4294967296) && decide (a.code < 256) && decide (a.refuser < 65536)
  | .fabricConfigActivate => true
  | .catchupReqRx root => decide (root < 132)
  | .catchupRx epoch digest _ => decide (epoch < 4294967296) && decide (digest < 18446744073709551616)
  | .catchupApply => true
  | .mkaFrameRx root _ _ _ => decide (root < 132)
  | .fatalFault code unit _ => decide (code < 65536) && decide (unit < 256)
  | .faultStatus m => m.wf
  | .faultClear m => m.wf
  | .faultConfig m => m.wf
  | .faultInject m => m.wf
  | .thermalSet m => m.wf
  | .thermalStatus m => m.wf
  | .temperatureReading readings => decide (readings.length = 10)
  | .thermalWarnConfirm sensor => decide (sensor < 10)
  | .thermalWarnClear sensor => decide (sensor < 10)
  | .thermalDamp sensor => decide (sensor < 10)
  | .sensorLost sensor => decide (sensor < 10)
  | .sensorRecover sensor => decide (sensor < 10)
  | .dinConfig m => m.wf
  | .dinStatus m => m.wf
  | .dinSample a b => decide (a < 16) && decide (b < 16)
  | .dinChange i => decide (i < 4)
  | .dinDiscrepancy i => decide (i < 4)
  | .dinDiscrepancyClear i => decide (i < 4)
  | .dinHearthSample a b => decide (a < 16) && decide (b < 16)
  | .referenceSlice v r => v.length == 8 && r.length == 8
  | .calSlice unit _ _ _ => decide (unit < 136)
  | .calStale unit => decide (unit < 136)
  | .calConfig m => m.wf
  | .calStatus m => m.wf
  | .calCommit m => m.wf
  | .selftestRun m => m.wf
  | .selftestGroupStart => true
  | .selftestUnitEnd unit check => (decide (unit < 136) || unit == 255) && decide (check < 16)
  | .selftestResult m => m.wf
  | .skimConfig m => m.wf
  | .skimStatus m => m.wf
  | .skimSlice unit _ check => decide (unit < 136) && decide (check < 16)
  | .skimOverdue unit => decide (unit < 136)
  | .keepWrite m => m.wf
  | .keepWordComplete => true
  | .keepStatus m => m.wf
  | .lifecycleTokenLoad m => m.wf
  | .lifecycleAdvance m => m.wf
  | .fuseInstruction _ => true
  | .standardTraining ch _ => decide (ch < 96)
  | .peerDelayExchange root _ => decide (root < 96)
  | .steeringStop => true

end Sys2Proof
end

