-- ==== Sys2Proof/Tests/Slice0.lean ====
section
/-! SUPPORT. Tests: ill-formed commands are refused; worked examples and tables of the spec; and for every statement with
hypotheses, states and operands that meet them, clause by clause. -/
open Sys2Proof Sys2Proof.Machine
namespace Sys2Proof.Tests
set_option Elab.async false

/-! ## Small states and messages -/

/-- A message of a command on channel 0. -/
def msg (args : List Word) : Msg := ⟨0, 7, 0, args.length + 1, args, 0, 0⟩

/-- The device in RUN at tick 4,000, READY, every domain on, all references running, all loops locked. -/
def run : State :=
  { State.reset with
    time := ⟨4000, true, false⟩
    boot := { State.reset.boot with held := false, power := .run, stage := .done, ready := true }
    power := { State.reset.power with on := 0x3FFF }
    clock := { State.reset.clock with runFio := true, runSio := true, runXa := true, runXb := true, xbFreq := 1, locked := 0x1FF }
    pins := { State.reset.pins with byp := .high } }

/-- A message of `cmd` is selected at once in `s`. -/
def sel (cmd : Cmd) (m : Msg) (s : State) : Bool :=
  let t := s.submit cmd.op m
  t.fwRuns && t.waits cmd.op m && t.turn m.chan && (m.chan == 3 || !(t.chan m.chan).cancel) &&
    (s.dispatched cmd.op m).check (some cmd) cmd.op m == none

theorem sel_spec {cmd : Cmd} {m : Msg} {s : State} (h : sel cmd m s = true) :
    s.selects cmd m (s.dispatched cmd.op m) := by
  simp only [sel, Bool.and_eq_true, Bool.or_eq_true, beq_iff_eq, Bool.not_eq_true'] at h
  exact ⟨rfl, h.1.1.1.1, h.1.1.1.2, h.1.1.2, fun h3 => h.1.2.resolve_left h3, h.2⟩

/-- A busy channel 0. -/
def busyRun : State := run.modChan 0 (fun c => { c with busy := true })

/-- A reset under way has ended; start-up stands at `st`. -/
def booting (st : Stage) : State :=
  { run with boot := { run.boot with power := .boot, stage := st, ready := false } }

/-- A peer's payload with its right tag, and the slot it is bound to. -/
def peer (path counter : Nat) : PeerPayload :=
  ⟨path, 0, 1, counter, List.replicate 16 0, 0, peerTag 5 path 0 1 counter (List.replicate 17 0)⟩

/-- The slot of `peer`. -/
def peerSlot : PeerSlot := ⟨5, 0x1234, 0⟩

/-- The device with a key in slot 0 and messages of peers waiting. -/
def peered (waiting : List PeerMsg) : State :=
  { run with peers := [(0, peerSlot)], mbx := { run.mbx with peerIn := waiting } }

/-- The device with line channel 95 in a given condition. -/
def lined (l : Line) : State := { run with lines := [(95, l)] }

/-- A frame for a witness. -/
def fr : Frame := ⟨0x0180C2000001, 2, some ⟨5, 3, false⟩, 64, 0, none, false, []⟩

/-- The header of a valid image. -/
def clocks : BootClocks := ⟨true, true, true, 1⟩

/-- A flash device that answers with nothing in it. -/
def blankFlash : Flash := ⟨true, true, none, none, none, none⟩

/-- A message waiting on channel 0. -/
def waiting (cancel : Bool) : State :=
  run.modChan 0 (fun c => { c with busy := true, cancel := cancel, msg := 0x10700 :: List.replicate 15 0 })

/-- A policer with 1,000 bytes in each bucket. -/
def fullPolicer : Policer := { Policer.reset with conf := true, tokC := 64000, tokP := 64000 }

/-- The header of an image, and the image without messages. -/
def img : Image := ⟨⟨0, 0, 1, 0, 0, 0, 0, 0⟩, []⟩

/-- The cellar has trained; the configuration images are not chosen yet. -/
def booted : State := { booting .cellar with cellar := { run.cellar with trained := true } }

/-- The device with a timer set as a wake source. -/
def timed : State := { run with power := { run.power with wake := { run.power.wake with timer := 60 } } }

/-- An entry into BANKED under way since tick 3,990. -/
def entry : Entry := ⟨false, 0, 0xF, 0xF, 3990, 0, 0, none, none, 0⟩

/-- The device in BANKED or EMBER, with all wake sources armed. -/
def asleep (p : Power) : State :=
  { run with
    boot := { run.boot with power := p }
    power := { run.power with on := 1, banked := some entry, wake := ⟨15, 0, 15, true, true, 60⟩ } }

/-- The device with the clocks in a given condition. -/
def clocked (c : ClockSt) : State := { run with clock := c }

/-- A line channel in UP in the LR10 mode, with everything that mode can have. -/
def upLine : Line :=
  { Line.reset with
    state := .up, mode := 6, peerHal := 0xFFFF
    cfg := { Line.reset.cfg with enable := true, userEn := true, lpiEn := true } }

/-- A line channel in LR10 training. -/
def trainingLine : Line := { upLine with state := .training, train := { upLine.train with stage := 1 } }

/-- An InfoField, version 1. -/
def info : Info := ⟨0, 1, false, true, false, false, false, false, false, 5, 2, 3, 4, 5, 6, 7⟩

/-- The device with drop segment 31, trunk 3 or lane group 3 in a given condition. -/
def dropped (d : Drop) : State := { run with drops := [(31, d)] }
/-- See `dropped`. -/
def trunked (t : Trunk) : State := { run with trunks := [(3, t)] }
/-- See `dropped`. -/
def hosted (g : LaneGroup) : State := { run with hosts := [(3, g)] }

/-- A drop segment in UP. -/
def upDrop : Drop := { Drop.reset with state := .up, cfg := { Drop.reset.cfg with enable := true } }

/-- An aligned trunk in UP, class F. -/
def upTrunk : Trunk := { Trunk.reset with state := .up, cls := 0, choice := 0, aligned := true }

/-- A lane group in UP with its settings. -/
def upHost : LaneGroup := { LaneGroup.reset with state := .up, coefValid := true, cfg := { HostCfg.reset with enable := true } }

/-- A lane group in a training stage. -/
def hostStage (st : HostStage) : LaneGroup := { upHost with state := .training, stage := st }

/-- Good training blocks, and a good IDLE packet. -/
def blocks : LaneBlocks :=
  ⟨true, [7, 6, 5, 4, 3, 2, 1, 0], List.replicate 8 false, [0, 32, 0, 0, 0, 0, 0, 0], 2, true, true, 0, 0, 0, false, 0, 0, 0⟩
/-- See `blocks`. -/
def packet : LanePacket := ⟨true, true, 0, 0, false, false, 0, 0, 0, 0, 0, 0, 0, 0, none, [], false⟩

/-- A burst without TLUs. -/
def burst : Burst := ⟨8, 0, false, 0, 0, [], 0, 0, []⟩

/-- The device with changed queues, policers or guarantees. -/
def sched (f : SchedSt → SchedSt) : State := run.modSched f

/-- A stream that takes class 7 and queue 1,103 of root 137, through policer 0. -/
def stream : Stream := ⟨false, 5, 1, true, 0, true, 7, true, 1103⟩

/-- The device with `stream` at index 262,143, its queue shaped and its policer set: a guarantee fits. -/
def guarded : State :=
  { sched (fun d => { d with
      queues := [(1103, { Queue.default 1103 with shaper := { Shaper.off with enabled := true, cir := 1000, pir := 1000, cbs := 64, pbs := 64 } })]
      policers := [(0, { Policer.reset with conf := true, yellowDrop := true, cir := 1000, pir := 1000, cbs := 64, pbs := 64 })] }) with
    bridge := { run.bridge with streams := [(262143, stream)] } }

/-- The guarantee that fits, admitted. -/
def guaranteed : State := guarded.modSched (fun d => { d with guars := [(262143, ⟨1000, 64, 0, 1096, 1, false, 0, 0, 0, 0⟩)] })

/-- A frame held in queue 1,103 of root 137. -/
def desc : Desc := ⟨0, 0, 64, false, false, 0, none⟩
/-- See `desc`. -/
def held : State :=
  { sched (fun d => { d with queues := [(1103, { Queue.default 1103 with held := [desc], elig := true })] }) with
    cellar := { run.cellar with trained := true, used := 1, nextId := 1, store := [(0, ⟨fr, 95, 7, 1, 0, false, 1, 1, false⟩)] } }

/-- Root 137 or root 95 sends a frame. -/
def sendingOf (r : Nat) : State := sched (fun d => { d with roots := [(r, { Root.default r with sending := [⟨desc, fr, 8 * r, 3999⟩] })] })

/-- A replication entry with the highest handle. -/
def rep : RepEntry := ⟨16383, 0x1111, 0x1112, 0, 16, 1, 1000⟩

/-- The device with the spool side of lane group 3 in a given condition. -/
def spooled (k : SpoolGroup) : State := { run with cellar := { run.cellar with groups := run.cellar.groups.set 3 k } }

/-- What a device of serial 9 says in its HELLO. -/
def hello : Hello := ⟨9, 7, 0, 0, 4000, 1, 0, true, false, 4⟩

/-- A device of serial `n` in fabric 7, joined over line channel 95 to the device of serial 9. -/
def fab (n : Nat) : State :=
  { lined upLine with
    fuses := { run.fuses with serial := n }
    fabric :=
      { run.fabric with
        started := true, fid := 7, fkey := 5, leads := if n < 9 then 0xF else 0
        links := [(95, ⟨true, false, 0, 4, 0, none, 1, none⟩)], adjs := [⟨95, hello, 3879⟩], paths := [(9, 0x1112)]
        topo := if n < 9 then [(n, ⟨n, 1, 0, 0, [⟨9, 95, 1, 0, 4⟩]⟩), (9, ⟨9, 1, 0, 0, [⟨n, 1, 95, 0, 4⟩]⟩)]
                else [(9, ⟨9, 1, 0, 0, [⟨n, 1, 95, 0, 4⟩]⟩), (n, ⟨n, 1, 0, 0, [⟨9, 95, 1, 0, 4⟩]⟩)] } }

/-- A route record of a device of serial 10. -/
def route : RouteRec := ⟨10, 0x1112, [], [], 0, 0, 4000⟩

/-- A commit under way at a device. -/
def prep (leader committed : Bool) : Prepare := ⟨leader, 1, 0, 4000, 60, ⟨0, []⟩, [], committed, none⟩

/-- The device of serial `n` in a commit. -/
def preparing (n : Nat) (p : Prepare) : State := (fab n).modFabric (fun f => { f with prep := some p })

/-- The device in state BENCH. -/
def bench : State := { run with life := { run.life with state := .bench } }

/-- The device with temperature sensor 9 or discrete input 3 in a given condition. -/
def sensed (x : Sensor) : State := { run with thermal := { run.thermal with sensors := run.thermal.sensors.set 9 x } }
/-- See `sensed`. -/
def inputOf (c : DinCfg) (x : Din) : State := { run with din := ⟨c, run.din.inputs.set 3 x⟩ }

/-- The device with line channel 95 under a self-test, and the device with a skim of unit 135 due. -/
def tested : State := { run with test := { run.test with state := 1, groups := [], active := [95], start := 3600 } }
/-- See `tested`. -/
def skimmed (k : SkimUnit) : State := { bench with skim := { run.skim with enable := true, count := 1, units := [(135, k)] }, power := { run.power with on := 2 ^ 11 + 15 } }

/-- A skim unit that is due. -/
def due : SkimUnit := { SkimUnit.reset with due := 4000, next := 8000, slices := some 0 }

/-- The domain of a root is closing. -/
def closing (r : Nat) (s : State) : State :=
  { s with power := { s.power with jobs := [⟨domOfRoot r, false, 4000, none⟩] } }

/-- The device in DAMPED after a FATAL fault. -/
def damped : State := { run with boot := { run.boot with halted := true } }

/-- A flash device with an image in area 0, signed by the key whose digest the fuses hold. -/
def signed : Image := ⟨⟨0x4643594B, 0, 1, 1, 0, 0, 0, 0⟩, []⟩
/-- See `signed`. -/
def rooted : State :=
  { run with fuses := { run.fuses with rootHash := BitVec.ofNat 256 (ofBe (sha256 (List.replicate 64 0))) } }
/-- See `signed`. -/
def signedFlash : Flash := { blankFlash with area0 := some signed }

/-- Where its signature verifies, the image is the area's. -/
theorem signed_image {f : Fuses} {area : Nat} (ha : area = 0)
    (hr : BitVec.ofNat 256 (ofBe (sha256 (beBytes 64 signed.hdr.pubKey.toNat))) = f.rootHash)
    (hv : Config.ecdsaVerify signed.hdr.pubKey (BitVec.ofNat 256 (ofBe (sha256 (headerBytes signed.hdr)))) signed.hdr.sig = true) :
    flashImage f signedFlash area = some signed := by
  have h1 : headerSigned f 0x4643594B signed.hdr = true := by
    rw [headerSigned, hr, hv]; simp [signed]
  have h2 : imageOk f signed = true := by rw [imageOk, h1]; decide
  subst ha; simp [flashImage, signedFlash, h2]

/-- Seventeen devices in a row: one group of level 1 excludes the last two (R447). -/
def chain : Table TopoRec :=
  (List.range 17).map (fun k => (k + 1, ⟨k + 1, 1, 0, 0,
    (if k = 0 then [] else [⟨k, 94, 95, 0, 4⟩]) ++ (if k = 16 then [] else [⟨k + 2, 95, 94, 0, 4⟩])⟩))

/-- The device of serial 17 in that row. -/
def apart : State := (fab 17).modFabric (fun f => { f with excl := 1, topo := chain })

/-! ## Well-formedness -/

/-- A message with a channel number that does not exist. -/
def badMsg : Msg := { msg [] with chan := 7 }

/-- A message that does not fit its channel is ill formed, field by field (R118, R119, R137). -/
theorem test_wf_msg : ([
   { msg [] with chan := 7 }, { msg [] with seq := 256 }, { msg [] with rsv := 8 }, { msg [] with len := 32 },
    { msg [] with args := List.replicate 16 0 }, { msg [] with slot := 16 },
    { msg [] with counter := 4294967296 }] : List Msg).all (fun m => !m.wf) = true := by decide

/-- An ill-formed tag and frame are refused (R20, R358). -/
theorem test_wf_frame : ([{ fr with da := 281474976710656 }, { fr with sa := 281474976710656 }, { fr with tag := some ⟨4096, 0, false⟩ },
    { fr with tag := some ⟨0, 8, false⟩ }] : List Frame).all (fun f => !f.wf) = true := by decide

/-- Every message command refuses an ill-formed message. -/
theorem test_wf_messages : ([
   .echo badMsg, .eventRead badMsg, .stewardMove badMsg, .deviceReset badMsg, .peerKeySet badMsg, .configLoad badMsg blankFlash,
    .rollbackAdvance badMsg, .powerDomainSet badMsg, .powerEnter badMsg, .wakeConfig badMsg, .powerStatus badMsg, .clockPlan badMsg,
    .clockStatus badMsg, .clockGate badMsg, .ppsConfig badMsg, .lineConfig badMsg, .lineStatus badMsg, .lineRetrain badMsg, .lineOamSend badMsg,
    .lineOamRead badMsg, .bundleConfig badMsg, .bundleStatus badMsg, .rxAdaptConfig badMsg, .rxStatus badMsg, .rxTapsRead badMsg,
    .lineCounters badMsg, .lineQuality badMsg, .lineWatchConfig badMsg, .lineTdr badMsg, .cableHealth badMsg, .dropConfig badMsg,
    .dropStatus badMsg, .dropCounters badMsg, .trunkSignalConfig badMsg, .trunkSignalStatus badMsg, .trunkLoadingRead badMsg,
    .trunkSignalCounters badMsg, .trunkConfig badMsg, .trunkStatus badMsg, .bypassSetPolicy badMsg, .trunkKindle badMsg,
    .trunkReflect badMsg, .hostConfig badMsg, .hostStatus badMsg, .hostCounters badMsg, .hostPrbs badMsg, .portBridgeConfig badMsg,
    .vlanSet badMsg, .fdbConfig badMsg, .fdbEntry badMsg, .fdbStatus badMsg, .streamSet badMsg, .nodeSet badMsg, .queueSet badMsg, .queueFlush badMsg,
    .queueStats badMsg, .rootSet badMsg, .shaperSet badMsg, .shaperRead badMsg, .policerSet badMsg, .policerStats badMsg, .gateListWrite badMsg,
    .gateListCommit badMsg, .guaranteeSet badMsg, .guaranteeStatus badMsg, .spoolConfig badMsg, .spoolStatus badMsg, .spoolReplay badMsg,
    .cellarStatus badMsg, .fabricSetIdentity badMsg, .fabricLinkSet badMsg, .fabricStatus badMsg, .fabricStage badMsg, .fabricPrepare badMsg,
    .frerStatus badMsg, .faultStatus badMsg, .faultClear badMsg, .faultConfig badMsg, .faultInject badMsg, .thermalSet badMsg,
    .thermalStatus badMsg, .dinConfig badMsg, .dinStatus badMsg, .calConfig badMsg, .calStatus badMsg, .calCommit badMsg, .selftestRun badMsg,
    .selftestResult badMsg, .skimConfig badMsg, .skimStatus badMsg, .keepWrite badMsg, .keepStatus badMsg, .lifecycleTokenLoad badMsg,
    .lifecycleAdvance badMsg] : List Instr).all (fun c => !c.wf) = true := by decide

/-- A command that names a unit, a code or a count outside its range is ill formed (1). -/
theorem test_wf_refuses_1 : ([
   .railReset 64, .tickOverrun 0 0 0, .tickOverrun 12 0 0, .tickOverrun 1 4 0, .tickOverrun 1 0 65536,
    .registerWrite .msp 4294967296 ⟨0, none⟩, .registerWrite .msp 0 ⟨0, some (.read 4294967296)⟩,
    .registerWrite .msp 0 ⟨0, some (.write 4294967296 0)⟩, .mailboxGo 8 0, .mailboxCancel 8 0, .ackClr 8 0,
    .peerMessage { peer 0 1 with path := 65536 }, .peerMessage { peer 0 1 with slot := 256 },
    .peerMessage { peer 0 1 with dir := 256 }, .peerMessage { peer 0 1 with counter := 4294967296 },
    .peerMessage { peer 0 1 with words := [] }, .domainPowered 3, .domainPowered 12,
    .bankedResume 18446744073709551616, .emberWake 18446744073709551616, .hostLaneWakeDetect 4, .pllLock 9,
    .pllUnlock 9, .clockStopDetect 4 true 0, .ppsInCapture 65536 0, .tdrComplete 96 true [],
    .baselineCapture 96, .anPageRx 96 ⟨0, none, false, false, false, false⟩,
    .trainingFrameRx 96 ⟨true, [], false, false⟩, .lineTrainingTimeout 96, .bundleSurvey 24,
    .surveyComplete 24 0 [], .joinSoftStartEnd 96, .sfmRx 96 0 (List.replicate 32 (0)) 0 0,
    .sfmRx 0 161 (List.replicate 32 (0)) 0 0, .sfmRx 0 0 (List.replicate 33 (0)) 0 0,
    .sfmRx 0 0 (List.replicate 32 (0)) 512 0, .oamMessageRx 96 [], .precoderSwitch 96 0,
    .precoderSwitch 0 4294967296, .precoderUpdate 96 0, .precoderUpdate 0 1073741824, .resumeTimeout 96,
    .blwSaturation 96, .lpiEntry 96] : List Instr).all (fun c => !c.wf) = true := by decide +kernel

/-- A command that names a unit, a code or a count outside its range is ill formed (2). -/
theorem test_wf_refuses_2 : ([
   .lpiRefresh 96, .lpiWake 96, .linkSleep 96, .wakeToneDetect 96, .lineWakeDetect 96, .linkDrop 96 1,
    .linkDrop 0 0, .linkDrop 0 8, .lineChannelFault 96 0, .lineChannelFault 0 65536, .quietPeriodEnd 136,
    .plcaBeacon 32, .plcaOpportunityTimeout 32, .dropFrameRx 32 0 true ⟨true, true, []⟩ fr,
    .dropFrameRx 0 16 true ⟨true, true, []⟩ fr,
    .dropFrameRx 0 0 true ⟨true, true, []⟩ { fr with da := 281474976710656 }, .foreignBeaconRx 32,
    .coordConflictClear 32, .dropChannelFault 32 0, .dropChannelFault 0 65536, .dropWakeDetect 32,
    .kindlePatternSend 4, .reflectComplete 4 0 [], .trunkProbe 4 true, .relaySettleEnd 4,
    .preambleDetect 4 ⟨[], 0, 0, 0, false, false⟩, .halfPreamble 4, .missedBurst 4, .trunkBurstRx 4 burst,
    .trunkBurstTx 4, .loadingCompute 4 (List.replicate 64 (0)), .loadingCompute 0 (List.replicate 65 (0)),
    .classEvaluation 4, .soundRequest 4, .tluGapTimeout 4, .frameActivation 4, .trunkTrainingTimeout 4,
    .trunkLinkDrop 4, .trunkChannelFault 4 0, .trunkChannelFault 0 65536, .kindleEnergy 4 0,
    .kindleDetect 4 0 0, .kindleDetect 0 65536 0, .kindleCorrelateTimeout 4, .hostTrainingBlock 4 blocks] : List Instr).all (fun c => !c.wf) = true := by decide +kernel

/-- A command that names a unit, a code or a count outside its range is ill formed (3). -/
theorem test_wf_refuses_3 : ([
   .hostTrainingTimeout 4, .lanePacketRx 4 packet, .nakRepeat 4, .laneResend 4, .hostRetrain 4 0,
    .hostRetrain 0 16, .electricalIdleEntry 4, .electricalIdleExit 4, .sidebandPacket 4 0 [], .spoolAck 4 0,
    .spoolAck 0 4294967296, .hostLaneFault 4 0, .hostLaneFault 0 65536, .frameArrival 138 ⟨true, true, []⟩ fr,
    .frameArrival 0 ⟨true, true, []⟩ { fr with da := 281474976710656 }, .frerRecoveryReset 0,
    .frerRecoveryReset 16384, .schedulerSelect 138, .frameDeparture 138 0, .spoolReplayStart 4, .replayPlace 4,
    .patrolScrub 67108865 0 none, .helloSend 132, .helloRx 132 hello, .adjacencyExpiry 132,
    .topoRx 132 ⟨0, 0, 0, 0, []⟩, .routeRx { (⟨95, route⟩ : RouteIn) with root := 132 },
    .keyRx { (⟨95, 1, 0⟩ : KeyIn) with root := 132 } 0, .keyRx { (⟨95, 1, 0⟩ : KeyIn) with level := 0 } 0,
    .keyRx { (⟨95, 1, 0⟩ : KeyIn) with level := 5 } 0,
    .keyRx { (⟨95, 1, 0⟩ : KeyIn) with serial := 18446744073709551616 } 0,
    .syncRx { (⟨95, 0, 0, 0, 0⟩ : SyncIn) with root := 132 },
    .syncRx { (⟨95, 0, 0, 0, 0⟩ : SyncIn) with phase := 25000 }, .prepareRx 4294967296 0 0 ⟨95, 0, 0⟩ ⟨0, []⟩,
    .prepareRx 0 18446744073709551616 0 ⟨95, 0, 0⟩ ⟨0, []⟩,
    .prepareRx 0 0 18446744073709551616 ⟨95, 0, 0⟩ ⟨0, []⟩,
    .prepareRx 0 0 0 { (⟨95, 0, 0⟩ : PrepareIn) with root := 132 } ⟨0, []⟩,
    .prepareRx 0 0 0 { (⟨95, 0, 0⟩ : PrepareIn) with src := 65536 } ⟨0, []⟩,
    .prepareRx 0 0 0 { (⟨95, 0, 0⟩ : PrepareIn) with dst := 65536 } ⟨0, []⟩, .prepAckRx 4294967296 0,
    .prepAckRx 0 65536, .commitRx { (⟨95, 0⟩ : CommitIn) with root := 132 },
    .commitRx { (⟨95, 0⟩ : CommitIn) with epoch := 4294967296 },
    .abortRx { (⟨95, 0, 0, 0⟩ : AbortIn) with root := 132 },
    .abortRx { (⟨95, 0, 0, 0⟩ : AbortIn) with epoch := 4294967296 }] : List Instr).all (fun c => !c.wf) = true := by decide +kernel

/-- A command that names a unit, a code or a count outside its range is ill formed (4). -/
theorem test_wf_refuses_4 : ([
   .abortRx { (⟨95, 0, 0, 0⟩ : AbortIn) with code := 256 },
    .abortRx { (⟨95, 0, 0, 0⟩ : AbortIn) with refuser := 65536 }, .catchupReqRx 132,
    .catchupRx 4294967296 0 ⟨0, []⟩, .catchupRx 0 18446744073709551616 ⟨0, []⟩,
    .mkaFrameRx 132 0 true ⟨0, none⟩, .fatalFault 65536 0 0, .fatalFault 0 256 0,
    .temperatureReading (List.replicate 11 (none)), .thermalWarnConfirm 10, .thermalWarnClear 10,
    .thermalDamp 10, .sensorLost 10, .sensorRecover 10, .dinSample 16 0, .dinSample 0 16, .dinChange 4,
    .dinDiscrepancy 4, .dinDiscrepancyClear 4, .dinHearthSample 16 0, .dinHearthSample 0 16,
    .referenceSlice (List.replicate 9 0) (List.replicate 8 0), .referenceSlice (List.replicate 8 0) [],
    .calSlice 136 true 0 0, .calStale 136, .selftestUnitEnd 136 0, .selftestUnitEnd 0 16,
    .skimSlice 136 true 0, .skimSlice 0 true 16, .skimOverdue 136, .standardTraining 96 .trainFail,
    .peerDelayExchange 96 ⟨0, 0⟩] : List Instr).all (fun c => !c.wf) = true := by decide +kernel

/-- The same commands within their ranges are well formed. -/
theorem test_wf_accepts : ([
   .railReset 0, .tickOverrun 1 0 0, .registerWrite .msp 0 ⟨0, none⟩, .mailboxGo 0 0, .mailboxCancel 0 0,
    .ackClr 0 0, .peerMessage (peer 0 1), .domainPowered 4, .bankedResume 0, .emberWake 0,
    .hostLaneWakeDetect 0, .pllLock 0, .pllUnlock 0, .clockStopDetect 0 true 0, .ppsInCapture 0 0,
    .tdrComplete 0 true [], .baselineCapture 0, .anPageRx 0 ⟨0, none, false, false, false, false⟩,
    .trainingFrameRx 0 ⟨true, [], false, false⟩, .lineTrainingTimeout 0, .bundleSurvey 0,
    .surveyComplete 0 0 [], .joinSoftStartEnd 0, .sfmRx 0 0 (List.replicate 32 (0)) 0 0, .oamMessageRx 0 [],
    .precoderSwitch 0 0, .precoderUpdate 0 0, .resumeTimeout 0, .blwSaturation 0, .lpiEntry 0, .lpiRefresh 0,
    .lpiWake 0, .linkSleep 0, .wakeToneDetect 0, .lineWakeDetect 0, .linkDrop 0 1, .lineChannelFault 0 0,
    .quietPeriodEnd 0, .plcaBeacon 0, .plcaOpportunityTimeout 0, .dropFrameRx 0 0 true ⟨true, true, []⟩ fr,
    .foreignBeaconRx 0, .coordConflictClear 0, .dropChannelFault 0 0, .dropWakeDetect 0, .kindlePatternSend 0,
    .reflectComplete 0 0 [], .trunkProbe 0 true, .relaySettleEnd 0,
    .preambleDetect 0 ⟨[], 0, 0, 0, false, false⟩, .halfPreamble 0, .missedBurst 0, .trunkBurstRx 0 burst,
    .trunkBurstTx 0, .loadingCompute 0 (List.replicate 64 (0)), .classEvaluation 0, .soundRequest 0,
    .tluGapTimeout 0, .frameActivation 0, .trunkTrainingTimeout 0, .trunkLinkDrop 0, .trunkChannelFault 0 0,
    .kindleEnergy 0 0, .kindleDetect 0 0 0, .kindleCorrelateTimeout 0, .hostTrainingBlock 0 blocks,
    .hostTrainingTimeout 0, .lanePacketRx 0 packet, .nakRepeat 0, .laneResend 0, .hostRetrain 0 0,
    .electricalIdleEntry 0, .electricalIdleExit 0, .sidebandPacket 0 0 [], .spoolAck 0 0, .hostLaneFault 0 0,
    .frameArrival 0 ⟨true, true, []⟩ fr, .frerRecoveryReset 1, .schedulerSelect 0, .frameDeparture 0 0,
    .spoolReplayStart 0, .replayPlace 0, .patrolScrub 0 0 none, .helloSend 0, .helloRx 0 hello,
    .adjacencyExpiry 0, .topoRx 0 ⟨0, 0, 0, 0, []⟩, .routeRx ⟨95, route⟩, .keyRx ⟨95, 1, 0⟩ 0,
    .syncRx ⟨95, 0, 0, 0, 0⟩, .prepareRx 0 0 0 ⟨95, 0, 0⟩ ⟨0, []⟩, .prepAckRx 0 0, .commitRx ⟨95, 0⟩,
    .abortRx ⟨95, 0, 0, 0⟩, .catchupReqRx 0, .catchupRx 0 0 ⟨0, []⟩, .mkaFrameRx 0 0 true ⟨0, none⟩,
    .fatalFault 0 0 0, .temperatureReading (List.replicate 10 (none)), .thermalWarnConfirm 0,
    .thermalWarnClear 0, .thermalDamp 0, .sensorLost 0, .sensorRecover 0, .dinSample 0 0, .dinChange 0,
    .dinDiscrepancy 0, .dinDiscrepancyClear 0, .dinHearthSample 0 0,
    .referenceSlice (List.replicate 8 0) (List.replicate 8 0), .calSlice 0 true 0 0, .calStale 0,
    .selftestUnitEnd 0 0, .skimSlice 0 true 0, .skimOverdue 0, .standardTraining 0 .trainFail,
    .peerDelayExchange 0 ⟨0, 0⟩] : List Instr).all Instr.wf = true := by decide +kernel

/-! ## Worked examples and tables of the spec -/

/-- SHA-256 of "abc" as FIPS 180-4 gives it (R597 names the function). -/
theorem test_sha256_abc :
    ofBe (sha256 [0x61, 0x62, 0x63]) = 0xba7816bf8f01cfea414140de5dae2223b00361a396177a9cb410ff61f20015ad := by decide +kernel

/-- Precoding one symbol: N = 2, c1 = 0.75, c2 = -0.25, past -3.5 and +0.5, level +3 gives -2.25 (05, worked example). -/
theorem test_precode_example : precode [0x180, 0xF80] [-1792, 256] 3 = -1152 := by decide

/-- The coefficient field of that example (05). -/
theorem test_precoder_field_example : packCoefs [0x180, 0xF80] = 0xF80180 ∧ readCoefs 2 0xF80180 = [0x180, 0xF80] := by decide

/-- The segment SNRs of a 60 m trunk (09, worked example). -/
def snr60 : List Int := List.replicate 24 440 ++ List.replicate 24 355 ++ List.replicate 12 280 ++ List.replicate 4 200

/-- Their loading holds 35,620 bits per symbol and 54 codewords in three data slots (09, worked example). -/
theorem test_loading_example :
    loadBits (firstLoad ⟨0, 1, 12, 7, 0⟩ snr60 0) = 35620 ∧ unitCodewords 0 3 (firstLoad ⟨0, 1, 12, 7, 0⟩ snr60 0) = 54 := by
  decide +kernel

/-- Segments 24 to 47 stay at 8 bits at 37.8 dB and rise to 10 at 38.0 dB (09, worked example). -/
theorem test_loading_hysteresis :
    nextCode ⟨0, 1, 12, 7, 0⟩ 24 378 5 = 5 ∧ nextCode ⟨0, 1, 12, 7, 0⟩ 24 380 5 = 6 := by decide

/-- The pilots of SET 2 are seeded with 0x77D (09, worked example). -/
theorem test_pilot_seed_of_set_two : pilotSeed 2 = 0x77D := by decide

/-- Pilot 63 stands before segment 63, whose data bins are 4,074 to 4,095; bin 4,096 is zero (R255). -/
theorem test_bins_of_segment_63 :
    binUse 4073 = .pilot 63 ∧ binUse 4074 = .data 63 0 ∧ binUse 4095 = .data 63 21 ∧ binUse 4096 = .zero ∧ binUse 40 = .zero := by
  decide

/-- The edges of a preamble slot's four parts (R259). -/
theorem test_preamble_slot_parts :
    preSample 1647 = .silence ∧ preSample 1648 = .rampUp 3936 ∧ preSample 1808 = .up 0 ∧ preSample 9999 = .down 4095 := by decide

/-- 16-QAM: the Gray words 00, 01, 11, 10 are the levels -3, -1, 1, 3 (R265). -/
theorem test_gray_levels :
    cellLevels [false, false, true, false] = (-3, 3) ∧ cellLevels [false, true, true, true] = (-1, 1) := by decide

/-- A CLASS and a TIME record, with the end of the list behind them (R309). -/
theorem test_control_records :
    (controlPayload [.cls 2, .time true]).take 8 = [0x04, 0x01, 0x02, 0x06, 0x01, 0x01, 0x00, 0x00] := by decide

/-- Twenty-four equal bits on one lane bring a stuff bit on every lane, and the receiver removes it (R331). -/
theorem test_lane_stuffing :
    let bits := (List.range 26).map (fun i => [true, i % 2 == 0])
    (laneStuff [(false, 0), (false, 0)] bits).getD 24 [] = [false, true] ∧
      laneUnstuff [(false, 0), (false, 0)] false (laneStuff [(false, 0), (false, 0)] bits) = bits := by decide

/-- Byte 0 to 2 of a fabric header: version 1, TYPE, TTL, class and plane (R438). -/
theorem test_fabric_header :
    (fabHeaderBytes ⟨1, 3, 255, 7, 1, false, 0x1111, 0x2710, 0, 0, 1⟩).take 8 = [0x13, 0xFF, 0x0F, 0x00, 0x11, 0x11, 0x27, 0x10] := by
  decide

/-- The frames of the nodes of DS04: the device sends up to 512 bytes, the nodes up to 256 (08, worked example). -/
def ds04 : DropNodes := ⟨512, List.replicate 7 (0, 128, 256)⟩

/-- Validator 3 of DS04 to the device: W(3) = 2,213.2 us and T_phy = 2,215.2 us (08, worked example). -/
theorem test_drop_wait_example :
    (⟨8, 32, 1, 128⟩ : Plca).burst ds04 0 = 8672 ∧ (⟨8, 32, 1, 128⟩ : Plca).wait ds04 3 = 22132 ∧
      (dropped { upDrop with cfg := { upDrop.cfg with plca := ⟨8, 32, 1, 128⟩ } }).dropPhy 31 ds04 3 = 22152 := by decide

/-- The state in BLANK_WAIT after XB was lost. -/
def blankNmi (xa : Bool) : State :=
  { run with
    clock := { run.clock with nmi := some 1, runXa := xa, runXb := false }
    boot := { run.boot with stage := .blankWait, power := .boot }
    time := { run.time with seq := false } }

/-- In BLANK_WAIT the boot ROM's handler moves to the crystal that runs; with none the boot fails (R598, R88). -/
theorem test_rom_handler :
    (match exec .nmiHandler (blankNmi true) with
      | .next t => t.clock.switch == some .xa && t.clock.nmi == none && t.clock.switchLost == none
      | _ => false) = true ∧
    (match exec .nmiHandler (blankNmi false) with
      | .next t => t.boot.stage == .bootFailed && t.boot.power == .damped
      | _ => false) = true := by
  decide +kernel

/-- BANKED with every bank and all four dies retained draws 6.0 W typ and 7.5 W max (R78, R489). -/
theorem test_banked_power : (Entry.mk false (2 ^ 64 - 1) 15 0 0 0 0 none none 0).bankedPower = (60000, 75000) := by decide

/-- SETs come after one another, 15 before 1 (R275). -/
theorem test_set_comes_after_one : nextSet 1 = 2 ∧ nextSet 15 = 1 := by decide

/-- The segment SNRs of 1,200 m with one bypassed device (10, worked example). -/
def snr1200 : List Int :=
  List.replicate 8 254 ++ List.replicate 8 182 ++ List.replicate 8 125 ++ List.replicate 8 (-1) ++ List.replicate 32 (-200)

/-- F holds 4,536 bits and fails, L4 and L16 fail, the neighbours relink in L64 (10, worked example). -/
theorem test_class_example :
    loadBits (firstLoad ⟨0, 1, 12, 7, 0⟩ snr1200 0) = 4536 ∧ classPick ⟨0, 1, 12, 7, 0⟩ snr1200 0 0 3 = some 3 := by
  decide +kernel

/-- A connector that went bad reads 0x012B3003 and 0x012A3F00 (07, worked example). -/
theorem test_cable_health_example :
    (healthOf (some [⟨298, 63, 1, false⟩]) 12 ⟨299, 48, 1, false⟩).words = [0x012B3003, 0x012A3F00] := by decide

/-- The event DATA of a link that comes up in LR10 is 0x0036 (05, worked example). -/
theorem test_line_event_example : upLine.eventData = 0x0036 := by decide

/-- 500,000 bytes and one packet of 1,538 bytes need 7,837 credits (11, worked example). -/
theorem test_credit_example : creditNeed (501538 - 20) = 7837 := by decide

/-- A spooled frame of 1,200 bytes takes 5 pages; a spool of 12 GB has 50,331,648 pages (14, worked example). -/
theorem test_spool_example :
    spoolPages 1200 = 5 ∧ ({ run.cellar with size := 12 } : CellarSt).cap = 50331648 := by decide

/-- A selection of 1,000 bytes adds 256,000 to the tag of weight 256 and 1,024,000 to that of weight 64; a queue that wakes
takes the later of V and F (12, worked example). -/
theorem test_tags_example :
    tagAfter 25600000 1000 256 = 25856000 ∧ tagAfter 26624000 1000 64 = 27648000 ∧ tagMax 25600000 40000 = 25600000 := by
  decide

/-- The tick that root capacities take on a fully fitted device: 72,780 at depth 1 (01, worked example). -/
theorem test_sched_load_example : run.schedLoad = 72780 := by decide +kernel

/-- Root 5 of the transaction queue: q, the SC7 and the SC6 queue shaped, the evidence at `c6` kb/s (13, worked example). -/
def transactions (c6 : Nat) : State :=
  { sched (fun d => { d with
      roots := [(5, { Root.default 5 with ovh := 20 })]
      queues :=
        [(45, { Queue.default 45 with shaper := { Shaper.off with enabled := true, cir := 2000, cbs := 1600 } }),
         (46, { Queue.default 46 with shaper := { Shaper.off with enabled := true, cir := c6, cbs := c6 / 8 } }),
         (47, { Queue.default 47 with shaper := { Shaper.off with enabled := true, cir := 1000, cbs := 1538 } })] }) with
    lines := [(5, upLine)] }

/-- T_queue is 44.720, 1,036.408 and 97,307.918 us at 1 %, 50 % and 99 % load, and BOUND its next whole microsecond (13). -/
theorem test_bound_example :
    (transactions 97000).bound 45 5 = some 45 ∧ (transactions 4997000).bound 45 5 = some 1037 ∧
      (transactions 9897000).bound 45 5 = some 97308 := by decide +kernel

/-- The hop delays of the metro train: 4 of an LR10 link, 20 of a class F trunk (15, worked example). -/
theorem test_hop_example : run.hopOf 0 = 4 ∧ (trunked { upTrunk with long := false }).hopOf 131 = 20 := by decide

/-- The generator of RS(544,514) has degree 30 and vanishes at each of the first 30 powers of the primitive element, and the
parity symbols of a message make a codeword that shows no error (R162). -/
theorem test_rs :
    rsGen.length = 31 ∧ (List.range 30).all (fun j => polyAt (gfPow j) rsGen == 0) = true ∧
      (List.range 30).all (fun j => polyAt (gfPow j) ([1023, 1, 512] ++ rsParity [1023, 1, 512]) == 0) = true := by decide +kernel

/-- A TLU's codeword has 1,944 bits and satisfies the parity checks (R269, R270). -/
theorem test_ldpc :
    let c := ldpcEncode (List.replicate 7 true ++ List.replicate 1613 false)
    c.length = 1944 ∧ ldpcOk c = true := by decide +kernel

/-- Four 66-bit blocks, the third a control block, become 257 bits and come back (R155). -/
theorem test_transcode :
    let d := encode66 (List.replicate 8 (.data 0xA5))
    let g := [d, d, encode66 (List.replicate 8 .idle), d]
    (transcode g).length = 257 ∧ untranscode (transcode g) = g ∧ d.length = 66 := by decide +kernel

/-! ## Reset, registers and start-up -/

/-- RESET_N released at tick 0: the device shows BOOT, ROM_CLOCK, and holds the bypass closed (R80, R85, R87). -/
theorem test_release :
    (match exec .resetRelease State.reset with
     | .next t => (t.boot.stage, t.pins.byp, t.pins.pwrenCore, t.now)
     | _ => (.reset, .high, .low, 1)) = (.romClock, .low, .high, 0) := by decide

/-- A power-on reset keeps nothing but the fuses and the keep-store (R82). -/
theorem test_power_on :
    (match exec .powerOnReset { run with fuses := { run.fuses with serial := 77 } } with
     | .next t => (t.fuses.serial, t.boot.held, t.power.on)
     | _ => (0, false, 1)) = (77, true, State.reset.power.on) := by decide

/-- A 64-bit tick counter reads its two words (R5, R112). -/
theorem test_tick_reads :
    ({ run with time := ⟨0x123456789A, true, false⟩ } : State).windowRead .msp 0x14 = 0x3456789A ∧
    ({ run with time := ⟨0x123456789A, true, false⟩ } : State).windowRead .msp 0x18 = 0x12 := by decide

/-- The debug port reaches channel 6 only in BENCH (R107). -/
theorem test_debug_channel : run.reaches .debug 6 = false ∧ bench.reaches .debug 6 = true ∧ bench.reaches .debug 0 = false := by
  decide

/-- A step takes the front of the queue first, and the command sees the queue's rest. -/
theorem test_step_is_fifo :
    (match step { run with pending := [.dbMaskWrite 5, .dbMaskWrite 6] } with
     | .next t => (t.mbx.dbMask, t.pending)
     | _ => (0, [])) = (5, [.dbMaskWrite 6]) := by decide +kernel

/-- A GO accepted and its ECHO answered: OK, SEQ 7, one word, doorbell 0 (R118, R123, R124). -/
theorem test_echo :
    (match exec (.echo (msg [0x1234])) run with
     | .next t => ((t.chan 0).ack, (t.chan 0).ret.head?, t.mbx.dbStatus)
     | _ => (⟨false, false, 0, 0, 0⟩, none, 0)) = (⟨true, false, 0, 7, 1⟩, some 0x1234, 1) := by decide +kernel

/-- A command of an open group before READY is answered WRONG_STATE (R99). -/
theorem test_not_ready :
    (match exec (.queueFlush (msg [0])) { run with boot := { run.boot with ready := false } } with
     | .next t => (t.chan 0).ack.code
     | _ => 0) = Code.wrongState.num := by decide +kernel

/-- An unknown opcode is answered BAD_ARG, and a reserved bit set likewise (R126, R595). -/
theorem test_bad_arg :
    (match exec (.clockStatus (msg [1])) run with
     | .next t => (t.chan 0).ack.code
     | _ => 0) = Code.badArg.num := by decide +kernel

/-- LINE_CONFIG is accepted for the next edge and in force from it on (R18, R185). -/
theorem test_line_config :
    (match exec (.lineConfig (msg [0x615F, 0])) run with
     | .next t => ((t.chan 0).ret.head?, (t.line 95).cfg.enable, (t.lineCfg 95).enable)
     | _ => (none, false, false)) = (some 4001, false, true) := by decide +kernel

/-- A tick edge counts one tick (R23, R27). -/
theorem test_tick_edge :
    (match exec .tickEdge { run with time := ⟨0xFFFFFFFFFFFFFFFF, true, true⟩ } with
     | .next t => t.now
     | _ => 1) = 0 := by decide +kernel

/-- A FATAL fault drives the bypass closed at once (R541, R542). -/
theorem test_fatal :
    (match exec (.fatalFault 0x0D01 0xFF 0) run with
     | .next t => (t.boot.halted, t.pins.byp, (t.faults.record.fatal.map FaultRec.code))
     | _ => (false, .high, none)) = (true, .low, some 0x0D01) := by decide +kernel

/-- The one fault of the model: clock ratios outside R513 leave the next edge undefined. -/
theorem test_bad_ratios :
    (match exec .tickEdge { clocked { run.clock with p := 0 } with time := ⟨4000, true, true⟩ } with
     | .fault .clockRatiosUndefined => true
     | _ => false) = true := by decide +kernel

/-- No row of the table gives bits: no word spells a command. -/
theorem test_no_words (nbits w : Nat) : decodeTableWord nbits w = none := rfl

/-! ## Clauses inside conclusions -/

/-- The 255th and the 256th good packet of CHECK (R334). -/
theorem wit_inner_check :
    ({ hostStage .check with checkGood := 254 } : LaneGroup).checkGood < 255 ∧
      255 ≤ ({ hostStage .check with checkGood := 255 } : LaneGroup).checkGood := by decide

/-- An edge in DAMPED. -/
theorem wit_inner_damped_edge :
    ∃ s : State, s.edgeComes = true ∧ s.ratiosOk = true ∧ s.fabric.step = none ∧ s.boot.power = .damped ∧
      s.faults.dampedDue = false := ⟨{ run with boot := { run.boot with power := .damped } }, by decide +kernel⟩

/-- Arriving frames: good, too short, and with a bad FCS. -/
theorem wit_inner_arrival :
    (∃ (arr : Arrival) (f : Frame), arr.fcsOk = true ∧ (verified arr f).fits = true) ∧
    (∃ (arr : Arrival) (f : Frame), arr.fcsOk = true ∧ (verified arr f).fits = false) ∧
    (∃ arr : Arrival, arr.fcsOk = false) :=
  ⟨⟨⟨true, true, []⟩, fr, by decide⟩, ⟨⟨true, true, []⟩, { fr with len := 63, tag := none }, by decide⟩, ⟨⟨false, true, []⟩, rfl⟩⟩

/-- Offsets of a Sync at the bounds of R459 and R460. -/
theorem wit_inner_sync :
    (∃ o : Int, 1000 < o ∨ o < -1000) ∧ (∃ o : Int, -1000 ≤ o ∧ o ≤ 1000) ∧ ∃ o : Int, -50 ≤ o ∧ o ≤ 50 :=
  ⟨⟨-1001, by decide⟩, ⟨1000, by decide⟩, ⟨50, by decide⟩⟩

/-- The two channels of a dual input that disagree, and that agree. -/
theorem wit_inner_din :
    (∃ s : State, s.supervised = true ∧ s.din.inputs.length = 4 ∧ s.din.cfg.dual 3 = true ∧ (s.input 3).fault = false ∧
      s.din.cfg.agree 3 true false = false ∧ (s.input 3).run < 65535) ∧
    (∃ s : State, s.supervised = true ∧ s.din.inputs.length = 4 ∧ s.din.cfg.dual 3 = true ∧ (s.input 3).fault = false ∧
      s.din.cfg.agree 3 true true = true) :=
  ⟨⟨inputOf ⟨1, 0, 15, 15, [1, 1, 1, 65535]⟩ { Din.reset with run := 65534 }, by decide +kernel⟩,
   ⟨inputOf ⟨1, 0, 15, 15, [1, 1, 1, 65535]⟩ Din.reset, by decide +kernel⟩⟩

/-- A loading that changes, and a reflection measurement on a link of class L. -/
theorem wit_inner_trunk :
    (∃ t : Trunk, nextLoad t.sig snr60 t.rxLoad ≠ t.rxLoad) ∧
    (∃ s : State, (s.trunk 3).state = .up ∧ (s.trunk 3).cls ≠ 0 ∧ (s.trunk 3).reflect = none) :=
  ⟨⟨upTrunk, by decide +kernel⟩, ⟨trunked { upTrunk with cls := 1 }, by decide +kernel⟩⟩

/-- A notice to report, a patrol pass that ends, and a DAMP limit met outside DAMPED. -/
theorem wit_inner_status :
    (∃ (s : State) (n : Notice), s.faults.notices[0]? = some n) ∧
    (∃ (s : State) (pages : Nat), 67108864 ≤ s.cellar.scrubPos + pages) ∧
    (∃ s : State, s.boot.halted = false ∧ s.boot.power ≠ .damped) :=
  ⟨⟨{ run with faults := { run.faults with notices := [⟨0x2D01, 1, 9⟩] } }, ⟨0x2D01, 1, 9⟩, rfl⟩, ⟨run, 67108864, by decide⟩,
   ⟨run, by decide⟩⟩

/-! ## Witnesses -/

/-- States and operands that meet the hypotheses of StepRunsCommand, clause by clause. -/
theorem wit_StepRunsCommand :
    ∃ (s : State), s.pending = [] :=
  ⟨run, by decide +kernel⟩

/-- States and operands that meet the hypotheses of FreeChannelMessageIsSelected, clause by clause. -/
theorem wit_FreeChannelMessageIsSelected :
    ∃ (cmd : Cmd) (m : Msg) (s : State), s.fwRuns = true ∧ s.boot.ready = true ∧ s.power.entry = none ∧
      s.mbx.chans.length = 8 ∧ m.chan < 7 ∧ m.chan ≠ 3 ∧ (s.chan m.chan).busy = false ∧ (m.chan = 6 →
      s.life.state = .bench ∧ bit s.clock.gates 2 = true) ∧ s.boot.tokenParity = true ∧ (∀ south,
      s.farFor south = none) ∧ (∀ c, c < 7 → c ≠ m.chan → s.isPending c = false) ∧ groupOk m.chan cmd.op = true ∧
      m.len ∈ cmd.lens ∧ lenFits cmd.op m = true ∧ 1 ≤ m.len ∧ m.len ≤ 16 ∧ m.rsv = 0 ∧ ¬ (cmd.steward = true ∧
      m.chan = 4) :=
  ⟨echoCmd, msg [1], run, by decide +kernel⟩

/-- States and operands that meet the hypotheses of SelectedMessageIsAnswered, clause by clause. -/
theorem wit_SelectedMessageIsAnswered :
    (∃ (cmd : Cmd) (m : Msg) (body : Msg → State → Reply) (s : State) (d : State) (d' : State) (ret : List Word),
      s.selects cmd m d ∧ body m d = .ok ret d') ∧
    (∃ (cmd : Cmd) (m : Msg) (body : Msg → State → Reply) (s : State) (d : State) (c : _), s.selects cmd m d ∧
      body m d = .err c) ∧
    (∃ (cmd : Cmd) (m : Msg) (body : Msg → State →
      Reply) (s : State) (d : State) (d' : State) (ret : List Word) (c : _), s.selects cmd m d ∧
      body m d = .part c ret d') ∧
    (∃ (cmd : Cmd) (m : Msg) (body : Msg → State → Reply) (s : State) (d : State) (d' : State), s.selects cmd m d ∧
      (body m d = .later d' ∨ body m d = .silent d')) ∧
    (∃ (cmd : Cmd) (m : Msg) (s : State) (d : State) (d' : State), s.selects cmd m d ∧ m.chan < 7 ∧ m.chan ≠ 3 ∧
      d'.mbx.chans.length = 8 ∧ m.chan < 3) :=
  ⟨⟨echoCmd, msg [5], cmdEcho, run, _, _, _, sel_spec (by decide +kernel), by rfl⟩,
   ⟨clockPlanCmd, msg [2], cmdClockPlan, run, _, .badArg, sel_spec (by decide +kernel), by rfl⟩,
   ⟨echoCmd, msg [5], fun _ t => .part .internal [] t, run, _, _, _, .internal, sel_spec (by decide +kernel), by rfl⟩,
   ⟨echoCmd, msg [5], fun _ t => .later t, run, _, _, sel_spec (by decide +kernel), by exact .inl rfl⟩,
   ⟨echoCmd, {msg [5] with chan := 2}, run, _, run, sel_spec (by decide +kernel), by decide +kernel⟩⟩

/-- States and operands that meet the hypotheses of GoIsAcceptedOnlyWhileNotBusy, clause by clause. -/
theorem wit_GoIsAcceptedOnlyWhileNotBusy :
    (∃ (ch : Nat) (s : State), (s.chan ch).busy = true) ∧
    (∃ (ctrl : Word), bit ctrl.toNat 1 = true) ∧
    (∃ (ch : Nat) (ctrl : Word) (s : State), ch < 7 ∧ ch ≠ 3 ∧ (ch = 6 → s.life.state = .bench ∧
      bit s.clock.gates 2 = true) ∧ s.mbx.chans.length = 8 ∧ (s.chan ch).busy = false ∧ bit ctrl.toNat 0 = true ∧
      bit ctrl.toNat 1 = false) :=
  ⟨⟨0, busyRun, by decide +kernel⟩,
   ⟨3, by decide +kernel⟩,
   ⟨5, 1, run, by decide +kernel⟩⟩

/-- States and operands that meet the hypotheses of CancelWriteIsIgnoredWithoutBusyOrWithGo, clause by clause. -/
theorem wit_CancelWriteIsIgnoredWithoutBusyOrWithGo :
    (∃ (ch : Nat) (s : State), (s.chan ch).busy = false) ∧
    (∃ (ctrl : Word), bit ctrl.toNat 0 = true ∧ bit ctrl.toNat 1 = true) :=
  ⟨⟨6, run, by decide +kernel⟩,
   ⟨3, by decide +kernel⟩⟩

/-- States and operands that meet the hypotheses of DoorbellBitsLatchAndClear, clause by clause. -/
theorem wit_DoorbellBitsLatchAndClear :
    (∃ (b : Nat) (i : Nat), b < 32 ∧ i < 32) ∧
    (∃ (i : Nat), (i < 24 ∨ i = 31)) :=
  ⟨⟨31, 31, by decide +kernel⟩,
   ⟨31, by decide +kernel⟩⟩

/-- States and operands that meet the hypotheses of RegisterCommandsComplete, clause by clause. -/
theorem wit_RegisterCommandsComplete :
    (∃ (s : State), s.awake = true) ∧
    (∃ (s : State) (ch : _), s.awake = true ∧ ch < 7 ∧ ch ≠ 3 ∧ s.bridged ch = true) ∧
    (∃ (s : State) (ch : _) (data : Word), s.awake = true ∧ ch < 7 ∧ ch ≠ 3 ∧ s.bridged ch = true ∧
      s.mbx.chans.length = 8 ∧ bit data.toNat 0 = true) ∧
    (∃ (s : State), s.awake = true ∧ s.mbx.shadow.length = 2) ∧
    (∃ (s : State) (p : Port), s.awake = true ∧ p ≠ .msp ∧ p ≠ .ssp) :=
  ⟨⟨run, by decide +kernel⟩,
   ⟨clocked { run.clock with gates := 7 }, 6, by decide +kernel⟩,
   ⟨clocked { run.clock with gates := 7 }, 6, 1, by decide +kernel⟩,
   ⟨run, by decide +kernel⟩,
   ⟨run, .debug, by decide +kernel⟩⟩

/-- States and operands that meet the hypotheses of WindowReachesChannelsOfTheirOwnersOnly, clause by clause. -/
theorem wit_WindowReachesChannelsOfTheirOwnersOnly :
    (∃ (p : Port) (addr : Nat) (s : State), 0x1000 ≤ addr ∧ addr < 0x1800 ∧
      s.reaches p ((addr - 0x1000) / 0x100) = false) ∧
    (∃ (p : Port) (addr : Nat), (addr < 0x1000 ∨ 0x1800 ≤ addr) ∧ p ≠ .msp ∧ p ≠ .ssp) :=
  ⟨⟨.ssp, 0x17FF, run, by decide +kernel⟩,
   ⟨.debug, 0x1800, by decide +kernel⟩⟩

/-- States and operands that meet the hypotheses of TickHiShadowHoldsForItsTransaction, clause by clause. -/
theorem wit_TickHiShadowHoldsForItsTransaction :
    (∃ (s : State), s.awake = true ∧ s.mbx.shadow.length = 2 ∧ s.boot.power ≠ .cold ∧ s.mbx.shadow[0]? = some none) ∧
    (∃ (s : State), s.awake = true ∧ s.mbx.shadow.length = 2 ∧ s.boot.power ≠ .cold ∧ s.mbx.shadow[1]? = some none) :=
  ⟨⟨run, by decide +kernel⟩,
   ⟨run, by decide +kernel⟩⟩

/-- States and operands that meet the hypotheses of GeneralMessagesAreAnswered, clause by clause. -/
theorem wit_GeneralMessagesAreAnswered :
    (∃ (m : Msg) (s : State) (d : State), s.selects echoCmd m d) ∧
    (∃ (m : Msg) (s : State) (d : State), s.selects eventReadCmd m d ∧ 1 ≤ m.get 1 0 3 ∧ m.stray 1 0x107 = false) ∧
    (∃ (m : Msg) (s : State) (d : State), s.selects stewardMoveCmd m d ∧ m.stray 1 1 = false ∧
      d.boot.replaying = false ∧ d.preparing = false ∧ d.keep.job = none ∧ d.boot.ready = true) ∧
    (∃ (m : Msg) (s : State) (d : State), s.selects deviceResetCmd m d ∧ m.get 1 0 16 = 0xA5C3 ∧
      m.stray 1 0x1FFFF = false ∧ (d.cellar.unacked = false ∨ m.flag 1 16 = true)) ∧
    (∃ (m : Msg) (s : State) (d : State), s.selects peerKeySetCmd m d ∧ m.stray 1 0x10F = false ∧
      (m.chan = 0 ∨ m.chan = 2) ∧ (m.flag 1 8 = true ∨ (m.stray 2 0xFFFF = false ∧ m.get 2 0 16 ≠ 0)) ∧
      (m.get 1 0 4 < 12 ∨ d.keepIdentity.2 = 0)) :=
  ⟨⟨msg [], run, _, sel_spec (by decide +kernel)⟩,
   ⟨msg [7], run, _, sel_spec (by decide +kernel), by decide +kernel⟩,
   ⟨msg [1], run, _, sel_spec (by decide +kernel), by decide +kernel⟩,
   ⟨msg [0xA5C3], run, _, sel_spec (by decide +kernel), by decide +kernel⟩,
   ⟨msg (0x10B :: List.replicate 9 0), run, _, sel_spec (by decide +kernel), by decide +kernel⟩⟩

/-- States and operands that meet the hypotheses of PeerMessageIsAcceptedOnce, clause by clause. -/
theorem wit_PeerMessageIsAcceptedOnce :
    (∃ (p : PeerPayload) (s : State), s.fwRuns = true ∧ p.dir = 1 ∧ tfind s.peers p.slot = none) ∧
    (∃ (p : PeerPayload) (s : State) (k : PeerSlot), s.fwRuns = true ∧ p.dir = 1 ∧ tfind s.peers p.slot = some k ∧
      payloadOk p k = true ∧ s.mbx.peerIn.length < 16) ∧
    (∃ (p : PeerPayload) (s : State) (k : PeerSlot), s.fwRuns = true ∧ p.dir = 1 ∧ tfind s.peers p.slot = some k ∧
      payloadOk p k = true ∧ 16 ≤ s.mbx.peerIn.length) ∧
    (∃ (p : PeerPayload) (s : State) (k : PeerSlot), s.fwRuns = true ∧ p.dir = 1 ∧ tfind s.peers p.slot = some k ∧
      payloadOk p k = false) :=
  ⟨⟨peer 0 1, run, by decide +kernel⟩,
   ⟨peer 0x1234 1, peered [], peerSlot, by decide +kernel⟩,
   ⟨peer 0x1234 1, peered (List.replicate 16 ⟨0, 0, []⟩), peerSlot, by decide +kernel⟩,
   ⟨peer 0x1234 0, peered [], peerSlot, by decide +kernel⟩⟩

/-- States and operands that meet the hypotheses of MessageSelectServesTheNextChannel, clause by clause. -/
theorem wit_MessageSelectServesTheNextChannel :
    (∃ (s : State), s.fwRuns = true ∧ s.boot.tokenParity = true ∧ s.farFor s.boot.stewardSouth = none ∧
      s.isPending 4 = true ∧ s.mbx.fourSouth = s.boot.stewardSouth) ∧
    (∃ (s : State) (ch c : Nat), s.fwRuns = true ∧ s.boot.tokenParity = true ∧ s.nextChan = some ch ∧ ch ≠ 4 ∧
      s.lastChan s.boot.stewardSouth < 7 ∧ c < 7 ∧ c ≠ 4 ∧ s.isPending c = true) ∧
    (∃ (s : State) (ch : Nat), s.fwRuns = true ∧ s.boot.tokenParity = true ∧
      s.dispatches (!s.boot.stewardSouth) = some ch) ∧
    (∃ (s : State) (south : Bool), s.fwRuns = true ∧ s.boot.tokenParity = true ∧ s.farFor south = none ∧
      s.dispatches south = none) ∧
    (∃ (s : State) (ch : Nat) (south : Bool), s.fwRuns = true ∧ s.boot.tokenParity = true ∧ s.farFor south = none ∧
      s.dispatches south = some ch ∧ ch ≠ 3 ∧ (s.chan ch).cancel = true) ∧
    (∃ (s : State) (ch : Nat) (south : Bool), s.fwRuns = true ∧ s.boot.tokenParity = true ∧ s.farFor south = none ∧
      s.dispatches south = some ch ∧ (ch ≠ 3 → (s.chan ch).cancel = false)) ∧
    (∃ (s : State) (south : Bool) (p : _), s.fwRuns = true ∧ s.boot.tokenParity = true ∧ s.farFor south = some p) :=
  ⟨⟨run.modChan 4 (fun c => { c with busy := true }), by decide +kernel⟩,
   ⟨waiting false, 0, 0, by decide +kernel⟩,
   ⟨{ run.modChan 4 (fun c => { c with busy := true }) with boot := { run.boot with stewardSouth := true } }, 4,
    by decide +kernel⟩,
   ⟨run, true, by decide +kernel⟩,
   ⟨waiting true, 0, false, by decide +kernel⟩,
   ⟨waiting false, 0, false, by decide +kernel⟩,
   ⟨run.modMbx (fun x => { x with far := [⟨[0x10700], ⟨4, 7, 0, 0⟩, true, false⟩] }), true, ⟨[0x10700], ⟨4, 7, 0, 0⟩,
    true, false⟩, by decide +kernel⟩⟩

/-- States and operands that meet the hypotheses of ReadingMessagesChangeOnlyTheMailbox, clause by clause. -/
theorem wit_ReadingMessagesChangeOnlyTheMailbox :
    ∃ (m : Msg) (s : State), s.power.entry = none ∧ s.boot.power ≠ .banked ∧ s.boot.power ≠ .ember ∧ m.chan ≠ 1 :=
  ⟨msg [1], run, by decide +kernel⟩

/-- States and operands that meet the hypotheses of FatalFaultsSilenceTheDevice, clause by clause. -/
theorem wit_FatalFaultsSilenceTheDevice :
    (∃ (code : Nat) (unit : Nat) (detail : Word) (s : State), s.awake = true ∧ isFatal code = true ∧
      fatalCan code unit detail = true ∧ (code = 0x0D02 → s.faults.parityA = true ∧ s.faults.parityB = true) ∧
      ((s.faults.record.ring.length < 60 ∧
      s.faults.record.next = s.faults.record.ring.length) ∨ (s.faults.record.ring.length = 60 ∧
      s.faults.record.next < 60)) ∧ s.boot.halted = false ∧ s.boot.power ≠ .damped ∧ s.faults.record.fatal = none) ∧
    (∃ (code : Nat) (unit : Nat) (detail : Word) (s : State), s.awake = true ∧ isFatal code = true ∧
      fatalCan code unit detail = true ∧ (code = 0x0D02 → s.faults.parityA = true ∧ s.faults.parityB = true) ∧
      ((s.faults.record.ring.length < 60 ∧
      s.faults.record.next = s.faults.record.ring.length) ∨ (s.faults.record.ring.length = 60 ∧
      s.faults.record.next < 60)) ∧ s.boot.halted = true) :=
  ⟨⟨0x3D01, 9, 0, run, by decide +kernel⟩,
   ⟨0x3D01, 9, 0, damped, by decide +kernel⟩⟩

/-- States and operands that meet the hypotheses of EventRingHoldsAtMost1024Records, clause by clause. -/
theorem wit_EventRingHoldsAtMost1024Records :
    (∃ (m : MbxSt), m.ring.length ≤ 1024 ∧ m.ring.length < 1024 ∧ m.ringLost = 0) ∧
    (∃ (m : MbxSt), m.ring.length ≤ 1024 ∧ m.ring.length = 1024) ∧
    (∃ (m : MbxSt), m.ring.length ≤ 1024 ∧ m.ring.length < 1023 ∧ 0 < m.ringLost) ∧
    (∃ (m : MbxSt), m.ring.length ≤ 1024 ∧ m.ring.length = 1023 ∧ 0 < m.ringLost) ∧
    (∃ (m : MbxSt), m.ring.length ≤ 1024 ∧ m.ring = []) :=
  ⟨⟨run.mbx, by decide +kernel⟩,
   ⟨{ run.mbx with ring := List.replicate 1024 ⟨0, 1, 0, 0⟩ }, by decide +kernel⟩,
   ⟨{ run.mbx with ringLost := 1 }, by decide +kernel⟩,
   ⟨{ run.mbx with ring := List.replicate 1023 ⟨0, 1, 0, 0⟩, ringLost := 1 }, by decide +kernel⟩,
   ⟨run.mbx, by decide +kernel⟩⟩

/-- States and operands that meet the hypotheses of BucketsAndPolicersKeepTheirBounds, clause by clause. -/
theorem wit_BucketsAndPolicersKeepTheirBounds :
    (∃ (rate : Nat) (size : Nat) (tok : Int) (rem : Nat), rem < 5 ∧
      tok + (((rate + rem) / 5 : Nat) : Int) ≤ ((size * 64 : Nat) : Int)) ∧
    (∃ (size : Nat) (tok : Int) (rem : Nat), rem < 5 ∧ tok ≤ ((size * 64 : Nat) : Int)) ∧
    (∃ (rate : Nat) (size : Nat) (n : Nat), rate * n ≤ size * 64 * 5) ∧
    (∃ (p : Policer) (len : Nat) (pre : Bool), 0 ≤ p.tokC ∧ 0 ≤ p.tokP ∧ (p.police len pre).1 = .green) ∧
    (∃ (p : Policer) (len : Nat) (pre : Bool), 0 ≤ p.tokC ∧ 0 ≤ p.tokP ∧ (p.police len pre).1 = .yellow) ∧
    (∃ (p : Policer) (len : Nat) (pre : Bool), 0 ≤ p.tokC ∧ 0 ≤ p.tokP ∧ (p.police len pre).1 = .red) ∧
    (∃ (p : Policer) (pre : Bool), 0 ≤ p.tokC ∧ 0 ≤ p.tokP ∧ p.aware = true ∧ pre = true) :=
  ⟨⟨9, 1, 60, 4, by decide⟩,
   ⟨1, 64, 4, by decide +kernel⟩,
   ⟨320, 1, 1, by decide +kernel⟩,
   ⟨fullPolicer, 1000, false, by decide +kernel⟩,
   ⟨{ fullPolicer with tokC := 0 }, 1000, false, by decide +kernel⟩,
   ⟨fullPolicer, 1001, false, by decide +kernel⟩,
   ⟨{ fullPolicer with aware := true }, true, by decide +kernel⟩⟩

/-- States and operands that meet the hypotheses of WireFormatsReadBack, clause by clause. -/
theorem wit_WireFormatsReadBack :
    (∃ (count : Nat) (f : SfmFlags), count < 2 ^ 32 ∧ f.coefSet < 16 ∧ f.down < 256) ∧
    (∃ (b : OamBlock), b.cls < 16 ∧ b.seq < 256 ∧ b.payload.length = 28) ∧
    (∃ (cls : Nat) (seq : Nat) (body : List Byte), cls < 4 ∧ seq < 256 ∧ body.length ≤ 255) ∧
    (∃ (i : Info), i.type < 16 ∧ i.version < 16 ∧ i.seed < 16 ∧ i.count < 256 ∧ i.snr < 2 ^ 16 ∧ i.resume < 2 ^ 16 ∧
      i.b8 < 256 ∧ i.field < 2 ^ 48 ∧ i.ntaps < 256) :=
  ⟨⟨2 ^ 32 - 1, ⟨true, true, true, true, true, true, 15, 255⟩, by decide +kernel⟩,
   ⟨⟨true, true, 15, 255, List.replicate 28 0⟩, by decide +kernel⟩,
   ⟨3, 255, List.replicate 255 0, by decide +kernel⟩,
   ⟨⟨15, 15, true, true, true, true, true, true, true, 15, 255, 65535, 65535, 255, 2 ^ 48 - 1, 255⟩,
    by decide +kernel⟩⟩

/-- States and operands that meet the hypotheses of ResetsBegin, clause by clause. -/
theorem wit_ResetsBegin :
    (∃ (s : State), s.boot.power ≠ .cold) ∧
    (∃ (s : State) (rails : _) (c : _), (((s.boot.power = .run ∨ s.boot.power = .banked ∨ s.boot.power = .damped) ∧
      s.power.railsOk = true) ∨ (s.boot.power = .boot ∧ s.boot.held = true)) ∧ [1, 2, 3, 4,
      5].find? (bit rails) = some c) ∧
    (∃ (s : State), (s.boot.power = .ember ∨ (s.boot.held = true ∧ s.boot.power ≠ .cold))) ∧
    (∃ (s : State), s.boot.power = .ember ∧ s.power.waking = true) ∧
    (∃ (s : State), s.boot.held = true ∧ s.boot.power ≠ .cold) :=
  ⟨⟨run, by decide +kernel⟩,
   ⟨run, 62, 1, by decide +kernel⟩,
   ⟨{ run with boot := { run.boot with power := .ember } }, by decide +kernel⟩,
   ⟨{ run with boot := { run.boot with power := .ember }, power := { run.power with waking := true } },
    by decide +kernel⟩,
   ⟨State.reset, by decide +kernel⟩⟩

/-- States and operands that meet the hypotheses of ResetKeepsFusesKeepStoreAndHearth, clause by clause. -/
theorem wit_ResetKeepsFusesKeepStoreAndHearth :
    (∃ (c : Cause) (s : State), s.boot.held = false ∧ (c = .powerOn ∨ c = .brownout)) ∧
    (∃ (c : Cause) (s : State), s.boot.held = false ∧ c ≠ .powerOn ∧ c ≠ .brownout) :=
  ⟨⟨.brownout, run, by decide +kernel⟩,
   ⟨.emberWake, run, by decide +kernel⟩⟩

/-- States and operands that meet the hypotheses of ResetValues, clause by clause. -/
theorem wit_ResetValues :
    ∃ p : Ball, p = .pwrenCore ∨ p = .pwrenAna ∨ p = .pwrenIo :=
  ⟨.pwrenIo, by decide⟩

/-- States and operands that meet the hypotheses of StartUpPhasesComplete, clause by clause. -/
theorem wit_StartUpPhasesComplete :
    (∃ (s : State) (ck : BootClocks), s.boot.held = false ∧ s.boot.stage = .romClock ∧ s.boot.power = .boot ∧
      bootRef ck = none) ∧
    (∃ (s : State) (ck : BootClocks) (r : _), s.boot.held = false ∧ s.boot.stage = .romClock ∧ s.boot.power = .boot ∧
      bootRef ck = some r ∧ s.life.state = .blank) ∧
    (∃ (s : State) (ck : BootClocks) (r : _), s.boot.held = false ∧ s.boot.stage = .romClock ∧ s.boot.power = .boot ∧
      bootRef ck = some r ∧ s.life.state ≠ .blank) ∧
    (∃ (s : State) (fl : Flash), s.boot.held = false ∧ s.boot.stage = .romImage ∧ s.boot.power = .boot ∧
      fl.answers = false) ∧
    (∃ (s : State) (fl : Flash), s.boot.held = false ∧ s.boot.stage = .romImage ∧ s.boot.power = .boot ∧
      fl.answers = true) ∧
    (∃ (s : State), s.fwRuns = true ∧ s.boot.stage = .fwStart) ∧
    (∃ (s : State) (i : _), s.fwRuns = true ∧ s.boot.stage = .cellar ∧ s.cellar.trained = true ∧
      s.boot.images.getD 0 none = some i) ∧
    (∃ (s : State) (i : _), s.fwRuns = true ∧ s.boot.stage = .cellar ∧ s.cellar.trained = true ∧
      s.boot.images.getD 0 none = none ∧ s.boot.images.getD 1 none = some i) ∧
    (∃ (s : State), s.fwRuns = true ∧ s.boot.stage = .cellar ∧ s.cellar.trained = true ∧
      s.boot.images.getD 0 none = none ∧ s.boot.images.getD 1 none = none) ∧
    (∃ (s : State), s.live = true ∧ s.boot.stage = .config ∧ s.boot.replaying = false) ∧
    (∃ (s : State), s.live = true ∧ s.boot.stage = .training ∧ s.settled = true) :=
  ⟨⟨booting .romClock, ⟨false, false, false, 0⟩, by decide +kernel⟩,
   ⟨booting .romClock, clocks, .xa, by decide +kernel⟩,
   ⟨{ booting .romClock with life := { run.life with state := .bench } }, clocks, .xa, by decide +kernel⟩,
   ⟨booting .romImage, { blankFlash with answers := false }, by decide +kernel⟩,
   ⟨booting .romImage, blankFlash, by decide +kernel⟩,
   ⟨booting .fwStart, by decide +kernel⟩,
   ⟨{ booted with boot := { booted.boot with images := [some img, none] } }, img, by decide +kernel⟩,
   ⟨{ booted with boot := { booted.boot with images := [none, some img] } }, img, by decide +kernel⟩,
   ⟨booted, by decide +kernel⟩,
   ⟨booting .config, by decide +kernel⟩,
   ⟨booting .training, by decide +kernel⟩⟩

/-- States and operands that meet the hypotheses of PowerMessagesAreAnswered, clause by clause. -/
theorem wit_PowerMessagesAreAnswered :
    (∃ (m : Msg) (s : State) (d : State), s.selects powerDomainSetCmd m d ∧ m.stray 1 0x10F = false ∧
      4 ≤ m.get 1 0 4 ∧ m.get 1 0 4 ≤ 11 ∧ d.power.jobs.any (fun j => j.dom == m.get 1 0 4) = false ∧
      d.power.entry = none ∧ d.domIsolated (m.get 1 0 4) = false ∧
      (m.flag 1 8 = true ∨ d.lastLinks (m.get 1 0 4) = false)) ∧
    (∃ (m : Msg) (s : State) (d : State), s.selects powerEnterCmd m d ∧ (m.get 1 16 2 = 1 ∨ m.get 1 16 2 = 2) ∧
      m.stray 1 0x80030F0F = false ∧ (m.get 1 16 2 = 2 → m.get 1 0 12 = 0 ∧ m.word 2 = 0 ∧ m.word 3 = 0 ∧
      d.iWorst d.wakeSet ≤ 3000) ∧ (m.flag 1 31 = true ∨ d.cellar.unacked = false ∨ (m.get 1 16 2 = 1 ∧
      banksLost (ofLohi (w32 (m.word 2)) (w32 (m.word 3))) 60 63 = false)) ∧
      d.anyWake (m.get 1 16 2 == 2) (m.get 1 8 4) = true ∧ d.enterBusy = false ∧ d.boot.ready = true) ∧
    (∃ (m : Msg) (s : State) (d : State), s.selects wakeConfigCmd m d ∧ m.stray 1 0xFFFC0000 = false ∧
      m.word 2 ≤ 2592000) ∧
    (∃ (m : Msg) (s : State) (d : State), s.selects powerStatusCmd m d ∧ m.stray 1 1 = false) ∧
    (∃ (m : Msg) (s : State) (d : State), s.selects clockPlanCmd m d ∧ m.get 1 0 2 ≤ 1 ∧ m.stray 1 0xFF3 = false ∧
      d.clock.runs d.clock.ref = true ∧ d.clock.runs (if m.get 1 0 2 = 0 then .xa else .xb) = true ∧
      (m.get 1 0 2 = 1 → d.clock.xbFreq ≠ 3) ∧ d.clock.switch = none) ∧
    (∃ (m : Msg) (s : State) (d : State), s.selects clockGateCmd m d ∧ m.stray 1 0x1F = false) ∧
    (∃ (m : Msg) (s : State) (d : State), s.selects ppsConfigCmd m d ∧ 1 ≤ m.get 1 16 16 ∧ m.get 1 16 16 ≤ 39999 ∧
      m.stray 1 0xFFFF0007 = false ∧ ((m.flag 1 0 = false ∧ m.flag 1 1 = false) ∨ bit d.gateSet 1 = true)) :=
  ⟨⟨msg [0x0B], run, _, sel_spec (by decide +kernel), by decide +kernel⟩,
   ⟨msg [0x10000, 0, 0xF0000000],
    { timed with cellar := { timed.cellar with spool := [⟨0, [0, 0, 0, 0], 64, 95, 1, 4000, 2, 0, 8, false⟩] } }, _,
    sel_spec (by decide +kernel), by decide +kernel⟩,
   ⟨msg [0, 2592000], run, _, sel_spec (by decide +kernel), by decide +kernel⟩,
   ⟨msg [1], run, _, sel_spec (by decide +kernel), by decide +kernel⟩,
   ⟨msg [1], run, _, sel_spec (by decide +kernel), by decide +kernel⟩,
   ⟨msg [31], run, _, sel_spec (by decide +kernel), by decide +kernel⟩,
   ⟨msg [39999 * 65536 + 7], run, _, sel_spec (by decide +kernel), by decide +kernel⟩⟩

/-- States and operands that meet the hypotheses of DomainsAndEntriesGoOn, clause by clause. -/
theorem wit_DomainsAndEntriesGoOn :
    (∃ (s : State) (dom : _) (j : _), s.live = true ∧ s.power.jobs.find? (fun j => j.dom == dom && j.on) = some j ∧
      j.start ≤ s.now) ∧
    (∃ (s : State) (e : _), s.time.seq = true ∧ s.boot.halted = false ∧ s.boot.power = .run ∧ s.power.jobs = [] ∧
      s.power.entry = some e) ∧
    (∃ (s : State), s.time.seq = true ∧ s.boot.halted = false ∧ s.boot.power = .run ∧
      (s.power.jobs.foldl State.closeDue s).power.entry = none) ∧
    (∃ (s : State) (w : _) (e : _), s.boot.power = .banked ∧ s.power.fired = some w ∧ s.power.banked = some e) ∧
    (∃ (s : State), s.boot.power = .ember ∧ s.power.waking = true) ∧
    (∃ (s : State), (s.boot.power = .banked ∨ s.boot.power = .ember) ∧ s.power.wake.timer ≠ 0 ∧
      s.power.fired = none) ∧
    (∃ (s : State) (g : _), g < 4 ∧ s.boot.power = .banked ∧ bit s.power.wake.host g = true ∧ s.power.fired = none) ∧
    (∃ (s : State) (g : _), g < 4 ∧ s.boot.power = .run ∧ bit s.power.wake.host g = true ∧ s.power.entry = none ∧
      s.domOn (domOfRoot (132 + g)) = false) :=
  ⟨⟨{ run with power := { run.power with jobs := [⟨11, true, 4000, none⟩] } }, 11, ⟨11, true, 4000, none⟩,
    by decide +kernel⟩,
   ⟨{ run with power := { run.power with entry := some entry } }, entry, by decide +kernel⟩,
   ⟨run, by decide +kernel⟩,
   ⟨{ asleep .banked with power := { (asleep .banked).power with fired := some ⟨1, 0⟩ } }, ⟨1, 0⟩, entry,
    by decide +kernel⟩,
   ⟨{ run with boot := { run.boot with power := .ember }, power := { run.power with waking := true } },
    by decide +kernel⟩,
   ⟨asleep .ember, by decide +kernel⟩,
   ⟨asleep .banked, 3, by decide +kernel⟩,
   ⟨{ run with power := { run.power with on := 15, wake := { run.power.wake with host := 8 } } }, 3,
    by decide +kernel⟩⟩

/-- States and operands that meet the hypotheses of EntryStepsFollowTheirTicks, clause by clause. -/
theorem wit_EntryStepsFollowTheirTicks :
    (∃ (e : Entry), e.steps = 0) ∧
    (∃ (e : Entry), e.steps = 1) ∧
    (∃ (e : Entry), e.steps = 2) ∧
    (∃ (e : Entry), e.steps = 3) ∧
    (∃ (e : Entry), e.steps = 4) ∧
    (∃ (e : Entry), e.givesUp = none ∧ e.steps < 4) ∧
    (∃ (e : Entry), e.givesUp = none ∧ e.steps = 4) ∧
    (∃ (e : Entry) (w : _), e.givesUp = some w) :=
  ⟨⟨entry, by decide +kernel⟩,
   ⟨{ entry with steps := 1 }, by decide +kernel⟩,
   ⟨{ entry with steps := 2 }, by decide +kernel⟩,
   ⟨{ entry with steps := 3 }, by decide +kernel⟩,
   ⟨{ entry with steps := 4 }, by decide +kernel⟩,
   ⟨{ entry with steps := 3 }, by decide +kernel⟩,
   ⟨{ entry with steps := 4 }, by decide +kernel⟩,
   ⟨{ entry with abandon := some ⟨1, 0⟩ }, ⟨1, 0⟩, by decide +kernel⟩⟩

/-- States and operands that meet the hypotheses of ClockEventsComplete, clause by clause. -/
theorem wit_ClockEventsComplete :
    (∃ (s : State) (loop : _), loop < 9 ∧ s.boot.power = .run ∧ s.boot.held = false ∧ s.boot.stage.fw = true ∧
      s.loopOn loop = true ∧ s.clock.runs s.clock.ref = true) ∧
    (∃ (s : State) (loop : _), loop < 9 ∧ bit s.clock.locked loop = true ∧ bit s.clock.first loop = true) ∧
    (∃ (s : State), s.coreRuns = true) ∧
    (∃ (s : State) (ppm : Int), s.coreRuns = true ∧ s.clock.runXa = true ∧ s.clock.runXb = true ∧
      s.clock.xbUsable = true ∧ -32767 ≤ ppm ∧ ppm ≤ 32767) ∧
    (∃ (s : State), s.coreRuns = true ∧ s.clock.ref ≠ .fio ∧ s.clock.runs s.clock.ref = false ∧
      s.clock.runFio = true) ∧
    (∃ (s : State) (l : _), s.clock.nmi = some l ∧ s.fwRuns = true) ∧
    (∃ (s : State) (r : _), s.clock.switch = some r ∧ s.coreRuns = true ∧ s.clock.runs s.clock.ref = true ∧
      s.clock.selectable r = true) :=
  ⟨⟨run, 8, by decide +kernel⟩,
   ⟨clocked { run.clock with first := 0x1FF }, 8, by decide +kernel⟩,
   ⟨run, by decide +kernel⟩,
   ⟨run, -32767, by decide +kernel⟩,
   ⟨clocked { run.clock with ref := .xa, runXa := false }, by decide +kernel⟩,
   ⟨clocked { run.clock with nmi := some 8 }, 8, by decide +kernel⟩,
   ⟨clocked { run.clock with switch := some .xb }, .xb, by decide +kernel⟩⟩

/-- States and operands that meet the hypotheses of PpsAndClkoutComplete, clause by clause. -/
theorem wit_PpsAndClkoutComplete :
    (∃ (s : State), s.ppsOn = true ∧ s.now % 40000 = 0 ∧ s.clock.ppsEnd = none) ∧
    (∃ (s : State) (e : _), s.clock.ppsEnd = some e ∧ e ≤ s.now) ∧
    (∃ (s : State), s.live = true ∧ s.clock.pps.inEn = true ∧ bit s.clock.gates 1 = true) ∧
    (∃ (s : State) (c : _), s.fabric.steering = true ∧ s.clock.capture = some c ∧ c.1 + 80004 ≤ s.now) ∧
    (∃ (s : State), (s.clock.changing = true ∨ s.clock.clkWait = true) ∧ s.clkoutLive = true ∧
      (s.clock.clkNow.enable = false ∨ s.srcStopped s.clock.clkNow.src = false) ∧ s.clock.clkHeld = none) ∧
    (∃ (s : State) (c : _), (s.clock.changing = true ∨ s.clock.clkWait = true) ∧ s.clkoutLive = true ∧
      (s.clock.clkNow.enable = false ∨ s.srcStopped s.clock.clkNow.src = false) ∧ s.clock.clkHeld = some c ∧
      c ≠ s.clock.clkNow) ∧
    (∃ (s : State), s.clock.clkNow.enable = true ∧ s.srcStopped s.clock.clkNow.src = true) :=
  ⟨⟨{ clocked { run.clock with pps := ⟨1, true, true, true⟩ } with time := ⟨40000, true, true⟩ }, by decide +kernel⟩,
   ⟨clocked { run.clock with ppsEnd := some 4000 }, 4000, by decide +kernel⟩,
   ⟨clocked { run.clock with pps := ⟨1, true, true, true⟩ }, by decide +kernel⟩,
   ⟨{ clocked { run.clock with capture := some (0, 0) } with time := ⟨80004, true, true⟩, fabric := { run.fabric with steering := true } },
    (0, 0), by decide +kernel⟩,
   ⟨clocked { run.clock with clkWait := true }, by decide +kernel⟩,
   ⟨clocked { run.clock with changing := true, clkHeld := some ⟨true, 1, 0⟩ }, ⟨true, 1, 0⟩, by decide +kernel⟩,
   ⟨clocked { run.clock with clkNow := ⟨true, 0, 0⟩, runXa := false }, by decide +kernel⟩⟩

/-- States and operands that meet the hypotheses of KeepStoreMessagesAreAnswered, clause by clause. -/
theorem wit_KeepStoreMessagesAreAnswered :
    (∃ (m : Msg) (s : State) (d : State), s.selects keepWriteCmd m d ∧
      (let ws := (List.range (m.get 1 8 4)).map (fun k => (m.get 1 0 8 + k, w32 (m.word (k + 2)))); 1 ≤ m.get 1 8 4 ∧
      m.get 1 8 4 ≤ 14 ∧ m.get 1 0 8 + m.get 1 8 4 ≤ 256 ∧ m.len = m.get 1 8 4 + 2 ∧ m.stray 1 0xFFF = false ∧
      d.keepWorn ws = false ∧ d.keep.job = none)) ∧
    (∃ (m : Msg) (s : State) (d : State), s.selects keepStatusCmd m d ∧ 1 ≤ m.get 1 12 4 ∧ m.get 1 12 4 ≤ 14 ∧
      m.get 1 0 9 + m.get 1 12 4 ≤ 512 ∧ m.stray 1 0xF1FF = false) ∧
    (∃ (m : Msg) (s : State) (d : State), s.selects lifecycleTokenLoadCmd m d ∧ 1 ≤ m.get 1 0 4 ∧ m.get 1 0 4 ≤ 14 ∧
      m.get 1 8 5 + m.get 1 0 4 ≤ 32 ∧ m.len = m.get 1 0 4 + 2 ∧ m.stray 1 0x1F0F = false) ∧
    (∃ (m : Msg) (s : State) (d : State), s.selects lifecycleAdvanceCmd m d ∧
      (let ws := d.advanceWords (m.get 1 0 3) (m.flag 1 8 && !fused d.fuses.testSeal); m.get 1 16 16 = 0xC3A5 ∧
      m.stray 1 0xFFFF0107 = false ∧ ((m.get 1 0 3 = 0 ∧ m.flag 1 8 = true) ∨ (2 ≤ m.get 1 0 3 ∧ m.get 1 0 3 ≤ 4 ∧
      m.get 1 0 3 = d.life.state.num + 1 ∧ (m.get 1 0 3 = 4 → d.tokenOk = true) ∧ d.life.advanced = false)) ∧
      d.keepWorn ws = false ∧ d.keep.job = none)) ∧
    (∃ (m : Msg) (s : State) (d : State), s.selects rollbackAdvanceCmd m d ∧ 1 ≤ m.get 1 0 7 ∧ m.get 1 0 7 ≤ 64 ∧
      d.fuses.rollback ≤ m.get 1 0 7 ∧ m.stray 1 0x7F = false ∧ m.get 1 0 7 ≤ d.boot.runSv ∧
      (d.life.state = .bench ∨ d.life.state = .field)) ∧
    (∃ (s : State), s.awake = true ∧ s.life.state = .blank ∧ s.life.sealed = false ∧ s.fuses.life = .blank) ∧
    (∃ (m : Msg) (s : State) (d : State), s.selects clockStatusCmd m d ∧ m.stray 1 0 = false) :=
  ⟨⟨msg (0xEF2 :: List.replicate 14 1), run, _, sel_spec (by decide +kernel), by (intro ws; decide +kernel)⟩,
   ⟨msg [0xE1F2], run, _, sel_spec (by decide +kernel), by decide +kernel⟩,
   ⟨msg (0x120E :: List.replicate 14 1), run, _, sel_spec (by decide +kernel), by decide +kernel⟩,
   ⟨msg [0xC3A50003], { run with life := { run.life with state := .bench } }, _, sel_spec (by decide +kernel),
    by (intro ws; decide +kernel)⟩,
   ⟨msg [64], { run with life := { run.life with state := .field }, boot := { run.boot with runSv := 64 } }, _,
    sel_spec (by decide +kernel), by decide +kernel⟩,
   ⟨run, by decide +kernel⟩,
   ⟨msg [0], run, _, sel_spec (by decide +kernel), by decide +kernel⟩⟩

/-- States and operands that meet the hypotheses of KeepWordCompletes, clause by clause. -/
theorem wit_KeepWordCompletes :
    (∃ (s : State), s.keep.job = none) ∧
    (∃ (s : State) (j : KeepJob) (w : Nat) (v : Word) (rest : List (Nat × Word)), s.keep.job = some j ∧ j.words = (w,
      v) :: rest) :=
  ⟨⟨run, by decide +kernel⟩,
   ⟨{ run with keep := { run.keep with job := some ⟨[(511, 1)], [511], none, 0, 0⟩ } }, ⟨[(511, 1)], [511], none, 0,
    0⟩, 511, 1, [], by decide +kernel⟩⟩

/-- States and operands that meet the hypotheses of KeepStoreStaysCanonical, clause by clause. -/
theorem wit_KeepStoreStaysCanonical :
    ∃ (s : State) (t : State), s.keepWf ∧ step s = .next t :=
  ⟨run, run, by exact ⟨⟨by decide, by decide, fun j h => by cases h⟩, rfl⟩⟩

/-- States and operands that meet the hypotheses of LineModeMessagesAreAnswered, clause by clause. -/
theorem wit_LineModeMessagesAreAnswered :
    (∃ (m : Msg) (s : State) (d : State), s.selects lineConfigCmd m d ∧ lineCfgBad m = false ∧
      d.lineCfgConflict (m.get 1 0 7) (lineCfgOf m) = false ∧ d.domOn (domOfRoot (m.get 1 0 7)) = true ∧
      (d.line (m.get 1 0 7)).isolated = false) ∧
    (∃ (m : Msg) (s : State) (d : State), s.selects lineStatusCmd m d ∧ m.stray 1 0x7F = false ∧ m.get 1 0 7 ≤ 95) ∧
    (∃ (m : Msg) (s : State) (d : State), s.selects lineRetrainCmd m d ∧ m.stray 1 0x17F = false ∧ m.get 1 0 7 ≤ 95 ∧
      (d.lineCfg (m.get 1 0 7)).enable = true ∧ d.domOn (domOfRoot (m.get 1 0 7)) = true ∧
      (d.line (m.get 1 0 7)).isolated = false) ∧
    (∃ (m : Msg) (s : State) (d : State), s.selects lineOamSendCmd m d ∧ (let l := d.line (m.get 1 0 7);
      m.stray 1 0xFF7F = false ∧ m.get 1 0 7 ≤ 95 ∧ 1 ≤ m.get 1 8 8 ∧ m.get 1 8 8 ≤ 48 ∧
      m.len = 2 + ceilDiv (m.get 1 8 8) 4 ∧ l.mode = 6 ∧ l.state = .up ∧ l.cfg.userEn = true ∧
      bit l.peerHal 4 = true ∧ l.oamTx.length < 4)) ∧
    (∃ (m : Msg) (s : State) (d : State), s.selects lineOamReadCmd m d ∧ m.stray 1 0x7F = false ∧ m.get 1 0 7 ≤ 95) :=
  ⟨⟨msg [0x615F, 0], run, _, sel_spec (by decide +kernel), by decide +kernel⟩,
   ⟨msg [95], run, _, sel_spec (by decide +kernel), by decide +kernel⟩,
   ⟨msg [95], lined upLine, _, sel_spec (by decide +kernel), by decide +kernel⟩,
   ⟨msg ((95 + 48 * 256 : Word) :: List.replicate 12 0), lined upLine, _, sel_spec (by decide +kernel),
    by decide +kernel⟩,
   ⟨msg [95], run, _, sel_spec (by decide +kernel), by decide +kernel⟩⟩

/-- States and operands that meet the hypotheses of LineReceiverMessagesAreAnswered, clause by clause. -/
theorem wit_LineReceiverMessagesAreAnswered :
    (∃ (m : Msg) (s : State) (d : State), s.selects bundleConfigCmd m d ∧ m.stray 1 0x1F01F = false ∧
      m.get 1 0 5 ≤ 23 ∧ (m.flag 1 16 = true → 3 ≤ m.get 1 12 4 ∧ m.get 1 12 4 ≤ 6 ∧
      d.bundleClash (m.get 1 0 5) (m.get 1 12 4) = false ∧ ((d.bundleCfg (m.get 1 0 5)).1 = true →
      (d.bundleCfg (m.get 1 0 5)).2 = m.get 1 12 4)) ∧ (m.flag 1 16 = false → m.get 1 12 4 = 0) ∧
      d.domOn (4 + m.get 1 0 5 / 6) = true ∧ (groupChans (m.get 1 0 5)).any (fun c => (d.line c).isolated) = false) ∧
    (∃ (m : Msg) (s : State) (d : State), s.selects bundleStatusCmd m d ∧ m.stray 1 0x1F = false ∧ m.get 1 0 5 ≤ 23 ∧
      d.domOn (4 + m.get 1 0 5 / 6) = true) ∧
    (∃ (m : Msg) (s : State) (d : State), s.selects rxAdaptConfigCmd m d ∧ m.stray 1 0x1F07F = false ∧
      m.stray 3 0xF = false ∧ m.get 1 0 7 ≤ 95 ∧ m.get 2 0 4 ≤ 7 ∧ m.get 2 8 4 ≤ 7 ∧ m.get 2 16 4 ≤ 7 ∧
      m.get 2 24 4 ≤ 7 ∧ m.get 3 0 4 ≤ 9 ∧ d.domOn (domOfRoot (m.get 1 0 7)) = true) ∧
    (∃ (m : Msg) (s : State) (d : State), s.selects rxStatusCmd m d ∧ m.stray 1 0x7F = false ∧ m.get 1 0 7 ≤ 95 ∧
      d.domOn (domOfRoot (m.get 1 0 7)) = true) ∧
    (∃ (m : Msg) (s : State) (d : State), s.selects rxTapsReadCmd m d ∧ m.stray 1 0x0FFF377F = false ∧
      m.get 1 0 7 ≤ 95 ∧ m.get 1 8 3 ≤ 4 ∧ m.get 1 16 12 < tapCount (m.get 1 8 3) ∧ (m.get 1 8 3 = 3 →
      m.get 1 12 2 ≠ m.get 1 0 7 % 4) ∧ d.domOn (domOfRoot (m.get 1 0 7)) = true ∧ (m.get 1 8 3 = 3 →
      (d.bundle (m.get 1 0 7 / 4)).enabled = true) ∧ (m.get 1 8 3 = 4 → (d.line (m.get 1 0 7)).mode = 6)) ∧
    (∃ (m : Msg) (s : State) (d : State), s.selects lineCountersCmd m d ∧ m.stray 1 0x37F = false ∧
      m.get 1 0 7 ≤ 95) ∧
    (∃ (m : Msg) (s : State) (d : State), s.selects lineQualityCmd m d ∧ m.stray 1 0x7F = false ∧ m.get 1 0 7 ≤ 95 ∧
      d.domOn (domOfRoot (m.get 1 0 7)) = true) ∧
    (∃ (m : Msg) (s : State) (d : State), s.selects lineWatchConfigCmd m d ∧ m.stray 1 0xFFFF0F7F = false ∧
      m.stray 2 0xFFFF03FF = false ∧ m.stray 3 0x00FFFFFF = false ∧ m.get 1 0 7 ≤ 95 ∧ 500 ≤ m.get 2 0 10 ∧
      m.get 2 0 10 ≤ 900 ∧ 1 ≤ m.get 2 16 16 ∧ 1 ≤ m.get 3 16 8 ∧ m.get 3 16 8 ≤ 40 ∧ 10 ≤ m.get 3 8 8 ∧
      m.get 3 8 8 ≤ 40 ∧ d.domOn (domOfRoot (m.get 1 0 7)) = true) ∧
    (∃ (m : Msg) (s : State) (d : State), s.selects lineTdrCmd m d ∧ m.stray 1 0x7F = false ∧ m.get 1 0 7 ≤ 95 ∧
      (d.line (m.get 1 0 7)).linked = false ∧ (d.line (m.get 1 0 7)).state ≠ .asleep ∧
      (d.line (m.get 1 0 7)).quietP = none ∧ (d.line (m.get 1 0 7)).isolated = false ∧
      d.domOn (domOfRoot (m.get 1 0 7)) = true ∧ (d.line (m.get 1 0 7)).tdr = none ∧ d.cfgq = [] ∧
      (d.bundle (m.get 1 0 7 / 4)).survey ≠ 1) ∧
    (∃ (m : Msg) (s : State) (d : State), s.selects cableHealthCmd m d ∧ m.stray 1 0x17F = false ∧ m.get 1 0 7 ≤ 95 ∧
      (d.line (m.get 1 0 7)).linked = true ∧ d.domOn (domOfRoot (m.get 1 0 7)) = true) :=
  ⟨⟨msg [0x16017], run, _, sel_spec (by decide +kernel), by decide +kernel⟩,
   ⟨msg [23], run, _, sel_spec (by decide +kernel), by decide +kernel⟩,
   ⟨msg [95, 0x07070707, 9], run, _, sel_spec (by decide +kernel), by decide +kernel⟩,
   ⟨msg [95], run, _, sel_spec (by decide +kernel), by decide +kernel⟩,
   ⟨msg [95 + 4 * 256 + 15 * 65536], lined upLine, _, sel_spec (by decide +kernel), by decide +kernel⟩,
   ⟨msg [95], run, _, sel_spec (by decide +kernel), by decide +kernel⟩,
   ⟨msg [95], run, _, sel_spec (by decide +kernel), by decide +kernel⟩,
   ⟨msg [95, 65535 * 65536 + 900, 40 * 65536 + 40 * 256], run, _, sel_spec (by decide +kernel), by decide +kernel⟩,
   ⟨msg [95], run, _, sel_spec (by decide +kernel), by decide +kernel⟩,
   ⟨msg [95], lined upLine, _, sel_spec (by decide +kernel), by decide +kernel⟩⟩

/-- States and operands that meet the hypotheses of LineTrainingEventsComplete, clause by clause. -/
theorem wit_LineTrainingEventsComplete :
    (∃ (ch : Nat) (s : State), ch < 96 ∧ s.powered ch = true) ∧
    (∃ (ch : Nat) (s : State) (x : AnExchange) (mode : _) (slave : _), ch < 96 ∧ s.powered ch = true ∧
      (s.line ch).state = .negotiating ∧ anResolve (s.line ch).cfg.adv x.std x.hal = some mode ∧
      anRole (s.line ch).cfg.role x = some slave) ∧
    (∃ (ch : Nat) (s : State) (x : AnExchange), ch < 96 ∧ s.powered ch = true ∧ (s.line ch).state = .negotiating ∧
      anResolve (s.line ch).cfg.adv x.std x.hal = none) ∧
    (∃ (ch : Nat) (s : State) (x : AnExchange) (mode : _), ch < 96 ∧ s.powered ch = true ∧
      (s.line ch).state = .negotiating ∧ anResolve (s.line ch).cfg.adv x.std x.hal = some mode ∧
      anRole (s.line ch).cfg.role x = none) ∧
    (∃ (ch : Nat) (s : State) (f : TrainingFrame), ch < 96 ∧ s.powered ch = true ∧ (s.line ch).state = .training ∧
      (s.line ch).mode = 6 ∧ (s.line ch).train.stage ≠ 0 ∧ (s.line ch).train.fresh = false ∧ f.delimOk = false) ∧
    (∃ (ch : Nat) (s : State) (f : TrainingFrame), ch < 96 ∧ s.powered ch = true ∧ (s.line ch).state = .training ∧
      (s.line ch).mode = 6 ∧ (s.line ch).train.stage ≠ 0 ∧ (s.line ch).train.fresh = false ∧ f.delimOk = true ∧
      infoRead f.bytes = none) ∧
    (∃ (ch : Nat) (s : State) (f : TrainingFrame) (i : Info), ch < 96 ∧ s.powered ch = true ∧
      (s.line ch).state = .training ∧ (s.line ch).mode = 6 ∧ (s.line ch).train.stage ≠ 0 ∧
      (s.line ch).train.fresh = false ∧ f.delimOk = true ∧ infoRead f.bytes = some i ∧ i.version ≠ 1) ∧
    (∃ (ch : Nat) (s : State) (f : TrainingFrame) (i : Info), ch < 96 ∧ s.powered ch = true ∧
      (s.line ch).state = .training ∧ (s.line ch).mode = 6 ∧ (s.line ch).train.stage ≠ 0 ∧
      (s.line ch).train.fresh = false ∧ f.delimOk = true ∧ infoRead f.bytes = some i ∧ i.version = 1 ∧
      (s.line ch).train.stage = 1 ∧ i.lock = true) ∧
    (∃ (ch : Nat) (s : State), ch < 96 ∧ s.powered ch = true ∧ (s.line ch).state = .training ∧ (s.line ch).mode = 6 ∧
      (s.line ch).train.stage ≠ 7 ∧ (s.line ch).resumed = false ∧ (s.line ch).train.fresh = false ∧
      ((s.line ch).train.stageStart + (stageTimeout (s.line ch).train.stage).2 ≤ s.now ∨ (s.line ch).attemptStart + 16000 ≤ s.now)) ∧
    (∃ (ch : Nat) (s : State), ch < 96 ∧ s.powered ch = true ∧ (s.line ch).state = .training ∧ (s.line ch).mode ≠ 6 ∧
      (s.line ch).attemptStart + 16000 ≤ s.now) ∧
    (∃ (ch : Nat) (s : State), ch < 96 ∧ s.powered ch = true ∧ (s.line ch).state = .negotiating ∧
      (s.line ch).attemptStart + 16000 ≤ s.now) ∧
    (∃ (ch : Nat) (s : State), ch < 96 ∧ s.powered ch = true ∧ (s.line ch).state = .training ∧ (s.line ch).mode = 6 ∧
      ((s.line ch).train.stage = 7 ∨ (s.line ch).resumed = true) ∧ (s.line ch).train.stageStart + 200 ≤ s.now) ∧
    (∃ (ch : Nat) (s : State), ch < 96 ∧ s.powered ch = true ∧ 1 ≤ (s.line ch).mode ∧ (s.line ch).mode ≤ 5 ∧
      (s.line ch).state = .training ∧ (s.line ch).train.fresh = false ∧ ((s.line ch).train.stage = 0 →
      (s.bundle (ch / 4)).enabled = false)) ∧
    (∃ (ch : Nat) (s : State), ch < 96 ∧ s.powered ch = true ∧ 1 ≤ (s.line ch).mode ∧ (s.line ch).mode ≤ 5 ∧
      (s.line ch).linked = true ∧ (s.line ch).lpiRx = .active ∧ (s.line ch).eee = true) ∧
    (∃ (ch : Nat) (s : State), ch < 96 ∧ s.powered ch = true ∧ 1 ≤ (s.line ch).mode ∧ (s.line ch).mode ≤ 5 ∧
      (s.line ch).linked = true ∧ (s.line ch).eee = true) ∧
    (∃ (ch : Nat) (s : State), ch < 96 ∧ s.powered ch = true ∧ 1 ≤ (s.line ch).mode ∧ (s.line ch).mode ≤ 5 ∧
      (s.line ch).linked = true ∧ 2 ≤ (s.line ch).mode) :=
  ⟨⟨95, run, by decide +kernel⟩,
   ⟨95, lined { upLine with state := .negotiating, cfg := { upLine.cfg with adv := 0x20, role := 2 } }, ⟨63,
    some 0x101, false, true, false, false⟩, 6, false, by decide +kernel⟩,
   ⟨95, lined { upLine with state := .negotiating, cfg := { upLine.cfg with adv := 0x1F } }, ⟨0, none, false, true,
    false, false⟩, by decide +kernel⟩,
   ⟨95, lined { upLine with state := .negotiating, cfg := { upLine.cfg with adv := 0x20, role := 1 } }, ⟨63,
    some 0x101, true, true, false, false⟩, 6, by decide +kernel⟩,
   ⟨95, lined trainingLine, ⟨false, [], false, false⟩, by decide +kernel⟩,
   ⟨95, lined trainingLine, ⟨true, [1], false, false⟩, by decide +kernel⟩,
   ⟨95, lined trainingLine, ⟨true, { info with version := 2 }.bytes, false, false⟩, { info with version := 2 },
    by decide +kernel⟩,
   ⟨95, lined trainingLine, ⟨true, info.bytes, false, false⟩, info, by decide +kernel⟩,
   ⟨95, { lined trainingLine with time := ⟨16000, true, true⟩ }, by decide +kernel⟩,
   ⟨95, { lined { trainingLine with mode := 5 } with time := ⟨16000, true, true⟩ }, by decide +kernel⟩,
   ⟨95,
    { lined { upLine with state := .negotiating, cfg := { upLine.cfg with adv := 0x20, role := 1 } } with time := ⟨16000, true, true⟩ },
    by decide +kernel⟩,
   ⟨95, lined { trainingLine with train := { trainingLine.train with stage := 7, stageStart := 3800 } },
    by decide +kernel⟩,
   ⟨95, lined { trainingLine with mode := 5 }, by decide +kernel⟩,
   ⟨95, lined { upLine with mode := 5, eee := true }, by decide +kernel⟩,
   ⟨95, lined { upLine with mode := 5, eee := true }, by decide +kernel⟩,
   ⟨95, lined { upLine with mode := 2 }, by decide +kernel⟩⟩

/-- States and operands that meet the hypotheses of LineLinkEventsComplete, clause by clause. -/
theorem wit_LineLinkEventsComplete :
    (∃ (ch : Nat) (s : State) (b : _) (bad : _), ch < 96 ∧ s.powered ch = true ∧ (s.line ch).mode = 6 ∧
      (s.line ch).linked = true ∧ (bit bad 0 = true ∨ sfmRead b = none)) ∧
    (∃ (ch : Nat) (s : State) (e : _) (b : _) (sf : _) (g : _), ch < 96 ∧ s.powered ch = true ∧ (s.line ch).mode = 6 ∧
      (s.line ch).state = .training ∧ (s.line ch).train.stage = 5 ∧ sfmRead b = some (sf, g) ∧ g.rxOk = true ∧
      (((s.line ch).sfm.marker e).lock = true) ∧ (s.line ch).sfm.okOwn ≤ 1 ∧ (s.line ch).sfTx.isSome = true ∧
      63 ≤ (s.line ch).sfm.good) ∧
    (∃ (ch : Nat) (s : State) (blocks : List (Bool × List Byte)) (body : List Byte), ch < 96 ∧ s.powered ch = true ∧
      (s.line ch).mode = 6 ∧ (s.line ch).linked = true ∧ blocks.all Prod.fst = true ∧
      oamMessage (s.line ch).oamSeq (blocks.map Prod.snd) = some (3, body) ∧ 1 ≤ body.length ∧ body.length ≤ 48 ∧
      (s.line ch).oamRx.length < 8) ∧
    (∃ (ch : Nat) (s : State) (c : _) (act : _), ch < 96 ∧ s.powered ch = true ∧ (s.line ch).coefTx = some (c, act) ∧
      (s.line ch).mode = 6 ∧ (s.line ch).linked = true ∧ (s.line ch).sfTx = some act) ∧
    (∃ (ch : Nat) (s : State), ch < 96 ∧ s.powered ch = true ∧ (s.line ch).mode = 6 ∧ (s.line ch).linked = true ∧
      (s.line ch).adapt.frzPre = false ∧ (s.line ch).coefRx = none ∧
      (s.line ch).preRun.any (fun n => decide (40 ≤ n)) = true) ∧
    (∃ (ch : Nat) (s : State), ch < 96 ∧ s.powered ch = true ∧ s.domClosing (domOfRoot ch) = false ∧
      (s.line ch).state = .up ∧ (s.line ch).lpiAllowed = true ∧ (s.line ch).watch.lpiIdle ≤ (s.line ch).idle) ∧
    (∃ (ch : Nat) (s : State) (since : _), ch < 96 ∧ s.powered ch = true ∧ (s.line ch).lpiTx = .quiet since ∧
      (s.line ch).mode = 6 ∧ (s.line ch).state = .lpi ∧ 224 * 4352 ≤ (s.now - since) * 25000) ∧
    (∃ (ch : Nat) (s : State), ch < 96 ∧ s.powered ch = true ∧ (s.line ch).state = .lpi ∧
      (s.line ch).lpiTx.wakes = false ∧ (s.line ch).lpiTx ≠ .active ∧ (s.line ch).sleep = .none ∧
      (s.rootWants ch = true ∨ (s.domClosing (domOfRoot ch) = true ∧ (s.line ch).mode = 6 ∧
      (s.line ch).cfg.sleepEn = true))) ∧
    (∃ (ch : Nat) (s : State), ch < 96 ∧ s.powered ch = true ∧ s.domClosing (domOfRoot ch) = false ∧
      (s.line ch).state = .asleep) ∧
    (∃ (ch : Nat) (s : State), ch < 96 ∧ s.powered ch = true ∧ 40 ≤ (s.line ch).blwRun) ∧
    (∃ (ch : Nat) (s : State) (k : Nat), ch < 96 ∧ s.powered ch = true ∧ k ≠ ch) :=
  ⟨⟨95, lined upLine, [], 1, by decide +kernel⟩,
   ⟨95,
    lined { trainingLine with train := { trainingLine.train with stage := 5 }, sfm := { trainingLine.sfm with lock := true, good := 63 }, sfTx := some 0 },
    0, sfmBytes 7 ⟨true, false, false, false, false, false, 0, 0⟩, 7, ⟨true, false, false, false, false, false, 0, 0⟩,
    by decide +kernel⟩,
   ⟨95, lined { upLine with oamRx := List.replicate 7 [] }, ((oamBlocks 3 10 true 9 [2, 65,
    66]).map OamBlock.bytes).map (fun x => (true, x)), [65, 66], by decide +kernel⟩,
   ⟨95, lined { upLine with coefTx := some (⟨1, []⟩, 5), sfTx := some 5 }, ⟨1, []⟩, 5, by decide +kernel⟩,
   ⟨95, lined { upLine with preRun := [40] }, by decide +kernel⟩,
   ⟨95, lined { upLine with idle := 40 }, by decide +kernel⟩,
   ⟨95, { lined { upLine with state := .lpi, lpiTx := .quiet 3960 } with time := ⟨3999, true, true⟩ }, 3960,
    by decide +kernel⟩,
   ⟨95, { lined { upLine with state := .lpi, lpiTx := .quiet 3960 } with sched := { run.sched with active := [95] } },
    by decide +kernel⟩,
   ⟨95, lined { upLine with state := .asleep }, by decide +kernel⟩,
   ⟨95, lined { upLine with blwRun := 40 }, by decide +kernel⟩,
   ⟨95, run, 94, by decide +kernel⟩⟩

/-- States and operands that meet the hypotheses of LineBundleAndWatchEventsComplete, clause by clause. -/
theorem wit_LineBundleAndWatchEventsComplete :
    (∃ (ch : Nat) (bg : Nat) (s : State) (p : _) (t : _), ch < 96 ∧ bg < 24 ∧ s.surveyors bg = p :: t ∧
      s.live = true ∧ s.domOn (4 + bg / 6) = true ∧ (s.bundle bg).enabled = true ∧ (s.bundle bg).survey ≠ 1) ∧
    (∃ (ch : Nat) (bg : Nat) (s : State), ch < 96 ∧ bg < 24 ∧ s.live = true ∧ (s.bundle bg).survey = 1 ∧
      (s.bundle bg).surveyStart + surveyTicks (s.bundle bg).surveyPos.length ≤ s.now) ∧
    (∃ (ch : Nat) (bg : Nat) (s : State) (t0 : _), ch < 96 ∧ bg < 24 ∧ (s.line ch).joinStart = some t0 ∧
      s.powered ch = true ∧ t0 + 400 ≤ s.now) ∧
    (∃ (ch : Nat) (bg : Nat) (s : State) (k : _), ch < 96 ∧ bg < 24 ∧ s.powered ch = true ∧
      (s.line ch).dropHolds s.now s.time.committed k = true ∧ (∀ a ∈ s.edgeq, a ≠ .relink ch ∧ ∀ code,
      a ≠ .silence ch code)) ∧
    (∃ (ch : Nat) (bg : Nat) (s : State) (code : _), ch < 96 ∧ bg < 24 ∧ isLineFault code = true ∧
      s.powered ch = true ∧ .silence ch code ∉ s.edgeq) ∧
    (∃ (ch : Nat) (bg : Nat) (s : State) (code : _), ch < 96 ∧ bg < 24 ∧ isLineFault code = true ∧
      s.powered ch = false ∧ s.awake = true ∧ s.boot.halted = true ∧ s.domOn (domOfRoot ch) = true) ∧
    (∃ (ch : Nat) (bg : Nat) (s : State) (job : _), ch < 96 ∧ bg < 24 ∧ (s.line ch).tdr = some job ∧ s.live = true ∧
      job.start + (if job.reduced then 160 else 40) ≤ s.now) ∧
    (∃ (ch : Nat) (bg : Nat) (s : State), ch < 96 ∧ bg < 24 ∧ s.powered ch = true ∧ (s.line ch).linked = true ∧
      (s.line ch).baseline = none ∧ (s.line ch).upTick + 4000 ≤ s.now) ∧
    (∃ (ch : Nat) (bg : Nat) (s : State), ch < 96 ∧ bg < 24 ∧ s.powered ch = true ∧
      s.domClosing (domOfRoot ch) = true ∧ (s.line ch).linked = true ∧ (s.line ch).sleep = .none ∧
      (s.line ch).mode = 6 ∧ (s.line ch).cfg.sleepEn = true ∧ (s.line ch).state = .up) ∧
    (∃ (ch : Nat) (bg : Nat) (s : State), ch < 96 ∧ bg < 24 ∧ s.powered ch = true ∧
      s.domClosing (domOfRoot ch) = true ∧ (s.line ch).linked = true ∧ (s.line ch).sleep = .none ∧
      (s.line ch).mode = 6 ∧ (s.line ch).cfg.sleepEn = true ∧ (s.line ch).state = .lpi) ∧
    (∃ (ch : Nat) (bg : Nat) (s : State), ch < 96 ∧ bg < 24 ∧ s.powered ch = true ∧
      s.domClosing (domOfRoot ch) = true ∧ (s.line ch).linked = true ∧ (s.line ch).sleep = .none ∧
      (s.line ch).mode ≠ 6 ∧ (s.line ch).eee = true ∧
      ((s.line ch).state = .up ∨ (s.line ch).lpiTx.wakes = true ∨ (s.line ch).lpiTx = .active)) ∧
    (∃ (ch : Nat) (bg : Nat) (s : State), ch < 96 ∧ bg < 24 ∧ s.powered ch = true ∧
      s.domClosing (domOfRoot ch) = true ∧ (s.line ch).linked = true ∧ (s.line ch).sleep = .none ∧
      (((s.line ch).mode = 6 ∧ (s.line ch).cfg.sleepEn = false) ∨ ((s.line ch).mode ≠ 6 ∧
      ((s.line ch).eee = false ∨ ((s.line ch).state = .lpi ∧ (s.line ch).lpiTx.wakes = false ∧
      (s.line ch).lpiTx ≠ .active))))) ∧
    (∃ (ch : Nat) (bg : Nat) (s : State) (e : _), ch < 96 ∧ bg < 24 ∧ s.boot.power = .banked ∧
      s.power.banked = some e ∧ (s.line ch).state = .asleep ∧ bit e.lineWake (ch / 24) = true ∧
      s.power.fired = none) ∧
    (∃ (ch : Nat) (bg : Nat) (s : State), ch < 96 ∧ bg < 24 ∧ s.boot.power = .run ∧ s.powered ch = true ∧
      (s.line ch).state = .asleep) :=
  ⟨⟨95, 23,
    { lined { trainingLine with train := { trainingLine.train with stage := 0 } } with bundles := [(23, { Bundle.reset with enabled := true })] },
    3, [], by decide +kernel⟩,
   ⟨95, 23,
    { run with bundles := [(23, { Bundle.reset with enabled := true, survey := 1, surveyStart := 3440, surveyPos := [3] })] },
    by decide +kernel⟩,
   ⟨95, 23, lined { upLine with joinStart := some 3600 }, 3600, by decide +kernel⟩,
   ⟨95, 23, lined upLine, 2, by exact ⟨by decide, by decide, by decide +kernel, by decide +kernel,
    fun a h => by cases h⟩⟩,
   ⟨95, 23, run, 0x1201, by decide +kernel⟩,
   ⟨95, 23, damped, 0x1201, by decide +kernel⟩,
   ⟨95, 23, lined { upLine with tdr := some ⟨3960, false, none, false, false⟩ }, ⟨3960, false, none, false, false⟩,
    by decide +kernel⟩,
   ⟨95, 23, lined upLine, by decide +kernel⟩,
   ⟨95, 23, closing 95 (lined { upLine with cfg := { upLine.cfg with sleepEn := true } }), by decide +kernel⟩,
   ⟨95, 23, closing 95 (lined { upLine with state := .lpi, cfg := { upLine.cfg with sleepEn := true } }),
    by decide +kernel⟩,
   ⟨95, 23, closing 95 (lined { upLine with mode := 5, eee := true, state := .lpi, lpiTx := .waking 0 }),
    by decide +kernel⟩,
   ⟨95, 23, closing 95 (lined { upLine with mode := 5, eee := true, state := .lpi, lpiTx := .quiet 3960 }),
    by decide +kernel⟩,
   ⟨95, 23, { asleep .banked with lines := [(95, { upLine with state := .asleep })] }, entry, by decide +kernel⟩,
   ⟨95, 23, lined { upLine with state := .asleep }, by decide +kernel⟩⟩

/-- States and operands that meet the hypotheses of LineChannelFaultSilencesUntilItsQuietPeriodEnds, clause by clause. -/
theorem wit_LineChannelFaultSilencesUntilItsQuietPeriodEnds :
    (∃ (ch : Nat) (s : State) (u : State), ch < 96 ∧ u.quietOf ch = some ⟨s.now, s.faults.quiet.line⟩ ∧
      u.now < s.now + s.faults.quiet.line) ∧
    (∃ (ch : Nat) (u : State) (q : Quiet), ch < 96 ∧ u.live = true ∧ u.quietOf ch = some q ∧
      q.start + q.len ≤ u.now) :=
  ⟨⟨95, run, lined { upLine with quietP := some ⟨4000, 4000⟩ }, by decide +kernel⟩,
   ⟨95, lined { upLine with quietP := some ⟨3000, 1000⟩ }, ⟨3000, 1000⟩, by decide +kernel⟩⟩

/-- States and operands that meet the hypotheses of DropMessagesAndEventsComplete, clause by clause. -/
theorem wit_DropMessagesAndEventsComplete :
    (∃ (m : Msg) (s : State) (d : State) (ds : Nat), s.selects dropConfigCmd m d ∧ ds < 32 ∧
      m.stray 1 0x0007FF1F = false ∧ m.stray 2 0x0000FFFF = false ∧ 2 ≤ m.get 1 12 4 ∧ m.get 1 12 4 ≤ 14 ∧
      1 ≤ m.get 2 0 8 ∧ 1 ≤ m.get 2 8 8 ∧
      (d.domOn (domOfRoot (dropRoot (m.get 1 0 5))) = true ∨ m.flag 1 16 = false) ∧
      (d.drop (m.get 1 0 5)).isolated = false) ∧
    (∃ (m : Msg) (s : State) (d : State) (ds : Nat), s.selects dropStatusCmd m d ∧ ds < 32 ∧ m.stray 1 0x1F = false) ∧
    (∃ (m : Msg) (s : State) (d : State) (ds : Nat), s.selects dropCountersCmd m d ∧ ds < 32 ∧
      m.stray 1 0x31F = false) ∧
    (∃ (s : State) (ds : Nat), ds < 32 ∧ s.unitOn (dropRoot ds) = true ∧ (s.drop ds).state = .up ∧
      (s.drop ds).cycleOver = true) ∧
    (∃ (s : State) (ds : Nat) (k : _), ds < 32 ∧ s.unitOn (dropRoot ds) = true ∧ (s.drop ds).state = .up ∧
      (s.drop ds).opp = some k) ∧
    (∃ (s : State) (ds : Nat) (k : _) (id : _) (arr : Arrival) (f : Frame), ds < 32 ∧ s.unitOn (dropRoot ds) = true ∧
      (s.drop ds).state = .up ∧ (s.drop ds).opp = some k ∧ k ≤ id ∧ id < (s.drop ds).plca.nodeCount ∧
      arr.fcsOk = true ∧ f.fits = true) ∧
    (∃ (s : State) (ds : Nat) (k : _) (id : _) (arr : Arrival), ds < 32 ∧ s.unitOn (dropRoot ds) = true ∧
      (s.drop ds).state = .up ∧ (s.drop ds).opp = some k ∧ k ≤ id ∧ id < (s.drop ds).plca.nodeCount ∧
      arr.fcsOk = false) ∧
    (∃ (s : State) (ds : Nat), ds < 32 ∧ s.live = true ∧ (s.drop ds).conflict = true ∧ 1000 ≤ (s.drop ds).cleanRun) ∧
    (∃ (s : State) (ds : Nat) (code : _), ds < 32 ∧ isDropFault code = true ∧ s.powered (dropRoot ds) = true ∧
      .silence (dropRoot ds) code ∉ s.edgeq) ∧
    (∃ (s : State) (ds : Nat) (code : _), ds < 32 ∧ isDropFault code = true ∧ s.powered (dropRoot ds) = false ∧
      s.awake = true ∧ s.boot.halted = true ∧ s.domOn (domOfRoot (dropRoot ds)) = true) ∧
    (∃ (s : State) (ds : Nat), ds < 32 ∧ s.dropArmed ds = true) ∧
    (∃ (s : State) (ds : Nat), ds < 32 ∧ s.boot.power = .banked ∧ (s.drop ds).cfg.wakeEn = true ∧
      s.power.fired = none) :=
  ⟨⟨msg [31 + 14 * 4096 + 65536, 0xFFFF], run, _, 31, sel_spec (by decide +kernel), by decide +kernel⟩,
   ⟨msg [31], run, _, 31, sel_spec (by decide +kernel), by decide +kernel⟩,
   ⟨msg [31], run, _, 31, sel_spec (by decide +kernel), by decide +kernel⟩,
   ⟨dropped upDrop, 31, by decide +kernel⟩,
   ⟨dropped { upDrop with opp := some 13 }, 31, 13, by decide +kernel⟩,
   ⟨dropped { upDrop with opp := some 0 }, 31, 0, 13, ⟨true, true, []⟩, fr, by decide +kernel⟩,
   ⟨dropped { upDrop with opp := some 0 }, 31, 0, 13, ⟨false, true, []⟩, by decide +kernel⟩,
   ⟨dropped { upDrop with conflict := true, cleanRun := 1000 }, 31, by decide +kernel⟩,
   ⟨run, 31, 0x1303, by decide +kernel⟩,
   ⟨damped, 31, 0x1303, by decide +kernel⟩,
   ⟨{ asleep .banked with drops := [(31, { upDrop with cfg := { upDrop.cfg with wakeEn := true } })] }, 31,
    by decide +kernel⟩,
   ⟨{ asleep .banked with drops := [(31, { upDrop with cfg := { upDrop.cfg with wakeEn := true } })] }, 31,
    by decide +kernel⟩⟩

/-- States and operands that meet the hypotheses of TrunkMessagesAreAnswered, clause by clause. -/
theorem wit_TrunkMessagesAreAnswered :
    (∃ (m : Msg) (s : State) (d : State), s.selects trunkSignalConfigCmd m d ∧ m.stray 1 0x03FFF003 = false ∧
      m.get 1 19 2 ≠ 3 ∧ m.get 1 21 5 ≤ 18 ∧ 1 ≤ m.get 1 12 3 ∧ d.trunkOn (m.get 1 0 2) = true ∧
      (d.trunk (m.get 1 0 2)).isolated = false) ∧
    (∃ (m : Msg) (s : State) (d : State), s.selects trunkSignalStatusCmd m d ∧ m.stray 1 3 = false ∧
      d.trunkOn (m.get 1 0 2) = true) ∧
    (∃ (m : Msg) (s : State) (d : State), s.selects trunkLoadingReadCmd m d ∧ m.stray 1 0xF = false ∧
      d.trunkOn (m.get 1 0 2) = true) ∧
    (∃ (m : Msg) (s : State) (d : State), s.selects trunkSignalCountersCmd m d ∧ m.stray 1 0x103 = false) ∧
    (∃ (m : Msg) (s : State) (d : State), s.selects trunkConfigCmd m d ∧ m.stray 1 0x003FF803 = false ∧
      m.stray 2 0x3FF = false ∧ 1 ≤ m.get 1 12 3 ∧ m.get 1 19 2 ≠ 3 ∧ m.get 1 15 2 ≤ m.get 1 17 2 ∧
      500 ≤ m.get 2 0 10 ∧ m.get 2 0 10 ≤ 900 ∧ (m.get 1 19 2 ≠ 0 →
      (d.trunkCfg (trunkMate (m.get 1 0 2))).enable = true) ∧ d.trunkOn (m.get 1 0 2) = true ∧
      (d.trunk (m.get 1 0 2)).isolated = false) ∧
    (∃ (m : Msg) (s : State) (d : State), s.selects trunkStatusCmd m d ∧ m.stray 1 3 = false) ∧
    (∃ (m : Msg) (s : State) (d : State), s.selects bypassSetPolicyCmd m d ∧ m.stray 1 0x1F = false ∧
      m.get 1 2 3 ≤ 4 ∧ m.get 1 0 2 ≤ 1 ∧ d.keepWear 457 < 100000 ∧ d.keep.job = none) ∧
    (∃ (m : Msg) (s : State) (d : State), s.selects trunkKindleCmd m d ∧ m.stray 1 3 = false ∧
      (d.trunk (m.get 1 0 2)).state ≠ .up ∧ d.trunkOn (m.get 1 0 2) = true ∧
      (d.trunk (m.get 1 0 2)).isolated = false ∧ (d.trunk (m.get 1 0 2)).heard d.now = false ∧
      (d.trunk (m.get 1 0 2)).kindle = none ∧ .trunkKindle (m.get 1 0 2) ∉ d.cfgq) ∧
    (∃ (m : Msg) (s : State) (d : State), s.selects trunkReflectCmd m d ∧ m.stray 1 3 = false ∧
      (d.trunk (m.get 1 0 2)).state ≠ .bypassed ∧ (d.trunk (m.get 1 0 2)).quietP = none ∧
      (d.trunk (m.get 1 0 2)).isolated = false ∧ d.trunkOn (m.get 1 0 2) = true ∧
      (d.trunk (m.get 1 0 2)).reflect = none) :=
  ⟨⟨msg [3 + 7 * 4096 + 2 * 2 ^ 19 + 18 * 2 ^ 21, 0, 0], run, _, sel_spec (by decide +kernel), by decide +kernel⟩,
   ⟨msg [3], run, _, sel_spec (by decide +kernel), by decide +kernel⟩,
   ⟨msg [15], run, _, sel_spec (by decide +kernel), by decide +kernel⟩,
   ⟨msg [3], run, _, sel_spec (by decide +kernel), by decide +kernel⟩,
   ⟨msg [3 + 7 * 4096 + 2 * 2 ^ 15 + 2 * 2 ^ 17, 900], run, _, sel_spec (by decide +kernel), by decide +kernel⟩,
   ⟨msg [3], run, _, sel_spec (by decide +kernel), by decide +kernel⟩,
   ⟨msg [17], run, _, sel_spec (by decide +kernel), by decide +kernel⟩,
   ⟨msg [3], run, _, sel_spec (by decide +kernel), by decide +kernel⟩,
   ⟨msg [3], trunked { Trunk.reset with state := .seek }, _, sel_spec (by decide +kernel), by decide +kernel⟩⟩

/-- States and operands that meet the hypotheses of TrunkSignalEventsComplete, clause by clause. -/
theorem wit_TrunkSignalEventsComplete :
    (∃ (tr : Nat) (s : State), tr < 4 ∧ s.unitOn (128 + tr) = true ∧ s.inPath = true ∧ (s.trunk tr).state = .seek ∧
      (s.trunk tr).kindle = none ∧ (s.trunk tr).relaySettled s.now = true ∧ s.now % 8 = 0 ∧
      (s.trunk tr).drawTick ≠ some s.now ∧ (s.trunk tr).sig.range = (s.trunk tr).rangeNow) ∧
    (∃ (tr : Nat) (s : State), tr < 4 ∧ s.unitOn (128 + tr) = true ∧ s.inPath = true ∧ (s.trunk tr).state = .seek ∧
      (s.trunk tr).kindle = none ∧ (s.trunk tr).relaySettled s.now = true ∧ s.now % 8 = 0 ∧
      (s.trunk tr).drawTick ≠ some s.now ∧ (s.trunk tr).sig.range ≠ (s.trunk tr).rangeNow) ∧
    (∃ (tr : Nat) (s : State), tr < 4 ∧ s.unitOn (128 + tr) = true ∧ s.inPath = true ∧
      (s.trunk tr).drawTick = some s.now) ∧
    (∃ (tr : Nat) (s : State) (e : _), tr < 4 ∧ s.unitOn (128 + tr) = true ∧ s.inPath = true ∧
      (s.trunk tr).relayEnd = some e ∧ e ≤ s.now) ∧
    (∃ (tr : Nat) (s : State) (p : Preamble), tr < 4 ∧ s.unitOn (128 + tr) = true ∧ s.inPath = true ∧ p.classes ≠ [] ∧
      (∀ c ∈ p.classes, c < 4) ∧ (s.trunk tr).blankedAt s.now p.delay = true) ∧
    (∃ (tr : Nat) (s : State) (p : Preamble),
      let busy := p.inBurst || (s.trunk tr).receiving s.now || !s.trunkTakesBursts tr; tr < 4 ∧
      s.unitOn (128 + tr) = true ∧ s.inPath = true ∧ p.classes ≠ [] ∧ (∀ c ∈ p.classes, c < 4) ∧
      (s.trunk tr).blankedAt s.now p.delay = false ∧ -25000 ≤ p.offset ∧ p.offset ≤ 25000 ∧ busy = false ∧
      (s.trunk tr).cls ∈ p.classes) ∧
    (∃ (tr : Nat) (s : State) (p : Preamble),
      let busy := p.inBurst || (s.trunk tr).receiving s.now || !s.trunkTakesBursts tr; tr < 4 ∧
      s.unitOn (128 + tr) = true ∧ s.inPath = true ∧ p.classes ≠ [] ∧ (∀ c ∈ p.classes, c < 4) ∧
      (s.trunk tr).blankedAt s.now p.delay = false ∧ -25000 ≤ p.offset ∧ p.offset ≤ 25000 ∧ busy = false ∧
      (s.trunk tr).cls ∉ p.classes) ∧
    (∃ (tr : Nat) (s : State) (p : Preamble),
      let busy := p.inBurst || (s.trunk tr).receiving s.now || !s.trunkTakesBursts tr; tr < 4 ∧
      s.unitOn (128 + tr) = true ∧ s.inPath = true ∧ p.classes ≠ [] ∧ (∀ c ∈ p.classes, c < 4) ∧
      (s.trunk tr).blankedAt s.now p.delay = false ∧ -25000 ≤ p.offset ∧ p.offset ≤ 25000 ∧ busy = true) ∧
    (∃ (tr : Nat) (s : State), tr < 4 ∧ s.unitOn (128 + tr) = true ∧ s.inPath = true ∧
      (s.trunk tr).blankedTick s.now = false) ∧
    (∃ (tr : Nat) (s : State), tr < 4 ∧ s.unitOn (128 + tr) = true ∧ s.inPath = true ∧
      ((s.trunk tr).state = .up ∨ ((s.trunk tr).state = .training ∧ 1 ≤ (s.trunk tr).stage)) ∧
      (s.trunk tr).expects s.now = true) ∧
    (∃ (tr : Nat) (s : State), tr < 4 ∧ s.unitOn (128 + tr) = true ∧ s.inPath = true ∧ s.trunkTakesBursts tr = true ∧
      ((s.trunk tr).taken = true ∨ (s.trunk tr).combine = true)) ∧
    (∃ (tr : Nat) (s : State), tr < 4 ∧ s.unitOn (128 + tr) = true ∧ s.inPath = true ∧
      ((s.trunk tr).state = .up ∨ (s.trunk tr).state = .training) ∧ (s.trunk tr).slotDue s.now = true ∧
      (s.trunk tr).txTick ≠ some s.now ∧ (2 ≤ (s.trunk tr).slots ∨ (s.trunk tr).sig.range = (s.trunk tr).rangeNow)) ∧
    (∃ (tr : Nat) (s : State), tr < 4 ∧ s.unitOn (128 + tr) = true ∧ s.inPath = true ∧
      ((s.trunk tr).state = .up ∨ (s.trunk tr).state = .training) ∧ (s.trunk tr).slotDue s.now = true ∧
      (s.trunk tr).txTick ≠ some s.now ∧ (s.trunk tr).slots ≤ 1 ∧ (s.trunk tr).sig.range ≠ (s.trunk tr).rangeNow) ∧
    (∃ (tr : Nat) (s : State) (since : _) (k : _), tr < 4 ∧ s.unitOn (128 + tr) = true ∧ s.inPath = true ∧
      (s.trunk tr).gapSince = some since ∧ (s.trunk tr).afterGap = some k ∧ since + (s.trunk tr).gapLimit ≤ s.now) ∧
    (∃ (tr : Nat) (s : State) (a : _), tr < 4 ∧ s.unitOn (128 + tr) = true ∧ s.inPath = true ∧
      (s.trunk tr).ann = some a ∧ (s.leadFrame tr s.now + 2 ^ 32 - a.at_ % 2 ^ 32) % 2 ^ 32 < 2 ^ 31) :=
  ⟨⟨3, trunked { Trunk.reset with state := .seek }, by decide +kernel⟩,
   ⟨3, trunked { Trunk.reset with state := .seek, rangeNow := 7 }, by decide +kernel⟩,
   ⟨3, trunked { Trunk.reset with state := .seek, drawTick := some 4000 }, by decide +kernel⟩,
   ⟨3, trunked { Trunk.reset with state := .seek, relayEnd := some 4000 }, 4000, by decide +kernel⟩,
   ⟨3, trunked { upTrunk with txSpan := some (40000000, 40001000) }, ⟨[0, 3], 0, 0, 0, false, false⟩,
    by decide +kernel⟩,
   ⟨3, trunked upTrunk, ⟨[0, 3], 0, -25000, 0, false, false⟩, by decide +kernel⟩,
   ⟨3, trunked upTrunk, ⟨[3], 0, 25000, 0, false, false⟩, by decide +kernel⟩,
   ⟨3, trunked upTrunk, ⟨[0], 0, 0, 0, true, false⟩, by decide +kernel⟩,
   ⟨3, trunked upTrunk, by decide +kernel⟩,
   ⟨3, trunked { upTrunk with aligned := false }, by decide +kernel⟩,
   ⟨3, trunked { upTrunk with combine := true }, by decide +kernel⟩,
   ⟨3, trunked upTrunk, by decide +kernel⟩,
   ⟨3, trunked { upTrunk with split := 1, rangeNow := 7 }, by decide +kernel⟩,
   ⟨3, trunked { upTrunk with rxGot := [(3976, ⟨1, 0, true, 0, false, [], [], 0⟩)] }, 3976, 1, by decide +kernel⟩,
   ⟨3, trunked { upTrunk with ann := some ⟨500, 4, true, false, 0⟩ }, ⟨500, 4, true, false, 0⟩, by decide +kernel⟩⟩

/-- States and operands that meet the hypotheses of TrunkLinkEventsComplete, clause by clause. -/
theorem wit_TrunkLinkEventsComplete :
    (∃ (tr : Nat) (s : State), tr < 4 ∧ s.powered (128 + tr) = true ∧
      ((s.trunk tr).state = .seek ∨ (s.trunk tr).state = .training) ∧
      (s.trunk tr).stageStart + (stageLimit (s.trunk tr).stage).1 ≤ s.now) ∧
    (∃ (tr : Nat) (s : State), tr < 4 ∧ s.powered (128 + tr) = true ∧ (s.trunk tr).state = .up ∧
      (40 ≤ (s.trunk tr).missFrames ∨ 10 ≤ (s.trunk tr).abandonFrames)) ∧
    (∃ (tr : Nat) (s : State) (code : _), tr < 4 ∧ s.powered (128 + tr) = true ∧ isTrunkFault code = true ∧
      .silence (128 + tr) code ∉ s.edgeq) ∧
    (∃ (tr : Nat) (s : State), tr < 4 ∧ s.powered (128 + tr) = true ∧ (s.trunk tr).state = .up ∧
      (s.trunk tr).cls = 0 ∧ (s.trunk tr).loadDue ≤ s.now) ∧
    (∃ (tr : Nat) (s : State), tr < 4 ∧ s.powered (128 + tr) = true ∧ (s.trunk tr).state = .up ∧
      (s.trunk tr).evalDue ≤ s.now) ∧
    (∃ (tr : Nat) (s : State), tr < 4 ∧ s.powered (128 + tr) = true ∧ (s.trunk tr).state = .up ∧
      (s.trunk tr).soundDue ≤ s.now) ∧
    (∃ (tr : Nat) (s : State) (due : _) (left : _), tr < 4 ∧ s.powered (128 + tr) = true ∧
      (s.trunk tr).kindle = some (due, left) ∧ due ≤ s.now ∧ s.unitOn (128 + tr) = true ∧
      (s.trunk tr).heard s.now = true) ∧
    (∃ (tr : Nat) (s : State) (due : _) (left : _), tr < 4 ∧ s.powered (128 + tr) = true ∧
      (s.trunk tr).kindle = some (due, left) ∧ due ≤ s.now ∧ s.unitOn (128 + tr) = true ∧
      (s.trunk tr).heard s.now = false) ∧
    (∃ (tr : Nat) (s : State) (start : _) (reply : _) (echoes : _), tr < 4 ∧ s.powered (128 + tr) = true ∧
      (s.trunk tr).reflect = some (start, reply) ∧ start < s.now ∧ 64 ≤ echoes ∧ s.now ≤ start + 800) ∧
    (∃ (tr : Nat) (s : State) (start : _) (reply : _) (echoes : _), tr < 4 ∧ s.powered (128 + tr) = true ∧
      (s.trunk tr).reflect = some (start, reply) ∧ start < s.now ∧ (echoes < 64 ∨ start + 800 < s.now) ∧
      start + 800 ≤ s.now) ∧
    (∃ (tr : Nat) (s : State) (code : _) (u : State), tr < 4 ∧ s.powered (128 + tr) = true ∧
      isTrunkFault code = true ∧ u.powered (128 + tr) = false ∧ u.awake = true ∧ u.boot.halted = true ∧
      u.domOn (domOfRoot (128 + tr)) = true) :=
  ⟨⟨3, trunked { upTrunk with state := .training, stage := 3 }, by decide +kernel⟩,
   ⟨3, trunked { upTrunk with abandonFrames := 10 }, by decide +kernel⟩,
   ⟨3, run, 0x1403, by decide +kernel⟩,
   ⟨3, trunked { upTrunk with loadDue := 4000 }, by decide +kernel⟩,
   ⟨3, trunked { upTrunk with evalDue := 4000 }, by decide +kernel⟩,
   ⟨3, trunked { upTrunk with soundDue := 4000 }, by decide +kernel⟩,
   ⟨3, trunked { upTrunk with kindle := some (4000, 1), preTick := some 3999 }, 4000, 1, by decide +kernel⟩,
   ⟨3, trunked { upTrunk with kindle := some (4000, 1) }, 4000, 1, by decide +kernel⟩,
   ⟨3, trunked { upTrunk with reflect := some (3200, none) }, 3200, none, 64, by decide +kernel⟩,
   ⟨3, trunked { upTrunk with reflect := some (3199, none) }, 3199, none, 64, by decide +kernel⟩,
   ⟨3, run, 0x1403, damped, by decide +kernel⟩⟩

/-- States and operands that meet the hypotheses of KindleDetectorWakes, clause by clause. -/
theorem wit_KindleDetectorWakes :
    (∃ (tr : Nat) (s : State) (dbm : _), tr < 4 ∧ s.kindleArmed tr = true ∧ (s.trunk tr).detector = .rest ∧
      -80 < dbm) ∧
    (∃ (tr : Nat) (s : State) (dbm : _) (since : _), tr < 4 ∧ s.kindleArmed tr = true ∧
      (s.trunk tr).detector = .resting since ∧ s.twoMs since = true ∧ -80 < dbm) ∧
    (∃ (tr : Nat) (dbm : _), tr < 4 ∧ dbm ≤ -80) ∧
    (∃ (tr : Nat) (s : State) (since : _), tr < 4 ∧ (s.trunk tr).detector = .resting since ∧ s.twoMs since = false) ∧
    (∃ (tr : Nat) (s : State) (since : _), tr < 4 ∧ (s.trunk tr).detector = .correlating since) ∧
    (∃ (tr : Nat) (s : State) (matched : _) (dbm : _) (since : _), tr < 4 ∧ s.kindleArmed tr = true ∧
      (s.trunk tr).detector = .correlating since ∧ 14 ≤ matched ∧ -65 ≤ dbm) ∧
    (∃ (tr : Nat) (matched : _) (dbm : _), tr < 4 ∧ (matched < 14 ∨ dbm < -65)) ∧
    (∃ (tr : Nat) (s : State) (since : _), tr < 4 ∧ s.kindleArmed tr = true ∧
      (s.trunk tr).detector = .correlating since ∧ s.twoMs since = true) ∧
    (∃ (tr : Nat) (s : State) (since : _), tr < 4 ∧ (s.trunk tr).detector = .correlating since ∧
      s.twoMs since = false) ∧
    (∃ (tr : Nat) (s : State), tr < 4 ∧ (∀ since, (s.trunk tr).detector ≠ .correlating since)) ∧
    (∃ (tr : Nat) (s : State), tr < 4 ∧ s.kindleArmed tr = false) :=
  ⟨⟨3, asleep .banked, -79, by decide +kernel⟩,
   ⟨3,
    { asleep .banked with trunks := [(3, { Trunk.reset with detector := .resting 3920 })], boot := run.boot, power := { (asleep .banked).power with on := 1 } },
    -79, 3920, by decide +kernel⟩,
   ⟨3, -80, by decide +kernel⟩,
   ⟨3,
    { asleep .banked with trunks := [(3, { Trunk.reset with detector := .resting 3921 })], boot := run.boot, power := { (asleep .banked).power with on := 1 } },
    3921, by decide +kernel⟩,
   ⟨3, { asleep .banked with trunks := [(3, { Trunk.reset with detector := .correlating 1 })] }, 1,
    by decide +kernel⟩,
   ⟨3, { asleep .banked with trunks := [(3, { Trunk.reset with detector := .correlating 1 })] }, 14, -65, 1,
    by decide +kernel⟩,
   ⟨3, 13, -65, by decide +kernel⟩,
   ⟨3,
    { asleep .banked with trunks := [(3, { Trunk.reset with detector := .correlating 3920 })], boot := run.boot, power := { (asleep .banked).power with on := 1 } },
    3920, by decide +kernel⟩,
   ⟨3,
    { asleep .banked with trunks := [(3, { Trunk.reset with detector := .correlating 3921 })], boot := run.boot, power := { (asleep .banked).power with on := 1 } },
    3921, by decide +kernel⟩,
   ⟨3, run, by refine ⟨by decide, fun _ h => ?_⟩; cases h⟩,
   ⟨3, run, by decide +kernel⟩⟩

/-- States and operands that meet the hypotheses of HostMessagesAndTrainingComplete, clause by clause. -/
theorem wit_HostMessagesAndTrainingComplete :
    (∃ (m : Msg) (s : State) (d : State) (g : Nat), s.selects hostConfigCmd m d ∧
      (let cred := (List.range 4).map (fun k => m.get 2 (8 * k) 8) ++ (List.range 4).map (fun k => m.get 3 (8 * k) 8);
      g < 4 ∧ m.stray 1 0x03FF1D03 = false ∧ 1 ≤ m.get 1 16 10 ∧ cred.foldl (· + ·) 0 ≤ 256 ∧ (m.flag 1 10 = true →
      cred.getD 7 0 ≠ 0) ∧ d.domOn (domOfRoot (132 + m.get 1 0 2)) = true)) ∧
    (∃ (m : Msg) (s : State) (d : State) (g : Nat), s.selects hostStatusCmd m d ∧ g < 4 ∧ m.stray 1 3 = false) ∧
    (∃ (m : Msg) (s : State) (d : State) (g : Nat), s.selects hostCountersCmd m d ∧ g < 4 ∧ m.stray 1 0x103 = false) ∧
    (∃ (m : Msg) (s : State) (d : State) (g : Nat), s.selects hostPrbsCmd m d ∧ g < 4 ∧ m.stray 1 0x1F03 = false ∧
      (m.get 1 8 2 = 0 ∨ m.flag 1 10 = true ∨ m.flag 1 11 = true) ∧ (d.host (m.get 1 0 2)).cfg.enable = true ∧
      (d.host (m.get 1 0 2)).coefValid = true ∧ d.domOn (domOfRoot (132 + m.get 1 0 2)) = true) ∧
    (∃ (s : State) (g : Nat), g < 4 ∧ s.powered (132 + g) = true ∧ (s.host g).state = .training ∧
      (s.host g).stage = .clock) ∧
    (∃ (s : State) (g : Nat) (b : LaneBlocks), g < 4 ∧ s.powered (132 + g) = true ∧ (s.host g).state = .training ∧
      (s.host g).stage = .align ∧ b.crcOk = false) ∧
    (∃ (s : State) (g : Nat) (b : LaneBlocks), g < 4 ∧ s.powered (132 + g) = true ∧ (s.host g).state = .training ∧
      (s.host g).stage = .align ∧ b.crcOk = true ∧ laneMap b.lanes = none) ∧
    (∃ (s : State) (g : Nat) (b : LaneBlocks), g < 4 ∧ s.powered (132 + g) = true ∧ (s.host g).state = .training ∧
      (s.host g).stage = .align ∧ b.crcOk = true ∧ (laneMap b.lanes).isSome = true ∧ 32 < skewSpan b.skew) ∧
    (∃ (s : State) (g : Nat) (b : LaneBlocks) (rev : _), g < 4 ∧ s.powered (132 + g) = true ∧
      (s.host g).state = .training ∧ (s.host g).stage = .align ∧ b.crcOk = true ∧ laneMap b.lanes = some rev ∧
      skewSpan b.skew ≤ 32) ∧
    (∃ (s : State) (g : Nat) (b : LaneBlocks), g < 4 ∧ s.powered (132 + g) = true ∧ (s.host g).state = .training ∧
      (s.host g).stage = .tune ∧ b.crcOk = false) ∧
    (∃ (s : State) (g : Nat) (b : LaneBlocks), g < 4 ∧ s.powered (132 + g) = true ∧ (s.host g).state = .training ∧
      (s.host g).stage = .tune ∧ b.crcOk = true) ∧
    (∃ (s : State) (g : Nat), g < 4 ∧ s.powered (132 + g) = true ∧ (s.host g).state = .training ∧
      (s.host g).stageStart + (hostLimit (s.host g).stage).1 ≤ s.now) ∧
    (∃ (s : State) (g : Nat) (p : LanePacket), g < 4 ∧ s.powered (132 + g) = true ∧ (s.host g).state = .training ∧
      (s.host g).stage = .check ∧ p.hcrcOk = true ∧ p.crcOk = true) ∧
    (∃ (s : State) (g : Nat) (p : LanePacket), g < 4 ∧ s.powered (132 + g) = true ∧ (s.host g).state = .training ∧
      (s.host g).stage = .check ∧ (p.hcrcOk = false ∨ p.crcOk = false)) :=
  ⟨⟨msg [0x03FF1903, 0x20202020, 0x20202020], run, _, 3, sel_spec (by decide +kernel), by decide +kernel⟩,
   ⟨msg [3], run, _, 3, sel_spec (by decide +kernel), by decide +kernel⟩,
   ⟨msg [3], run, _, 3, sel_spec (by decide +kernel), by decide +kernel⟩,
   ⟨msg [3], hosted upHost, _, 3, sel_spec (by decide +kernel), by decide +kernel⟩,
   ⟨hosted (hostStage .clock), 3, by decide +kernel⟩,
   ⟨hosted (hostStage .align), 3, { blocks with crcOk := false }, by decide +kernel⟩,
   ⟨hosted (hostStage .align), 3, { blocks with lanes := [] }, by decide +kernel⟩,
   ⟨hosted (hostStage .align), 3, { blocks with skew := [0, 33, 0, 0, 0, 0, 0, 0] }, by decide +kernel⟩,
   ⟨hosted (hostStage .align), 3, blocks, true, by decide +kernel⟩,
   ⟨hosted (hostStage .tune), 3, { blocks with crcOk := false }, by decide +kernel⟩,
   ⟨hosted (hostStage .tune), 3, blocks, by decide +kernel⟩,
   ⟨hosted { hostStage .check with stageStart := 3992 }, 3, by decide +kernel⟩,
   ⟨hosted (hostStage .check), 3, packet, by decide +kernel⟩,
   ⟨hosted (hostStage .check), 3, { packet with crcOk := false }, by decide +kernel⟩⟩

/-- States and operands that meet the hypotheses of HostLinkEventsComplete, clause by clause. -/
theorem wit_HostLinkEventsComplete :
    (∃ (g : Nat) (s : State) (p : LanePacket), g < 4 ∧ s.powered (132 + g) = true ∧ (s.host g).state = .up ∧
      p.hcrcOk = false ∧ (s.host g).hunting = false) ∧
    (∃ (g : Nat) (s : State) (p : LanePacket), g < 4 ∧ s.powered (132 + g) = true ∧ (s.host g).state = .up ∧
      p.hcrcOk = true ∧ (s.host g).hunting = true ∧ (s.host g).huntOne = false) ∧
    (∃ (g : Nat) (s : State) (p : LanePacket), g < 4 ∧ s.powered (132 + g) = true ∧ (s.host g).state = .up ∧
      p.hcrcOk = true ∧ p.crcOk = false ∧ (s.host g).hunting = false ∧ (p.type = 1 ∨ p.type = 2)) ∧
    (∃ (g : Nat) (s : State) (p : LanePacket), g < 4 ∧ s.powered (132 + g) = true ∧ (s.host g).state = .up ∧
      p.seq = (s.host g).rxExpect) ∧
    (∃ (g : Nat) (s : State), g < 4 ∧ s.powered (132 + g) = true ∧ (s.host g).state = .up ∧
      (s.host g).nakOwed = true) ∧
    (∃ (g : Nat) (s : State), g < 4 ∧ s.powered (132 + g) = true ∧ (s.host g).state = .up ∧ (s.host g).unacked ≠ []) ∧
    (∃ (g : Nat) (s : State) (cause : _), g < 4 ∧ s.powered (132 + g) = true ∧ (s.host g).state = .up ∧
      (s.host g).retrainCause cause = true ∧ .hostRetrain g ∉ s.edgeq) ∧
    (∃ (g : Nat) (s : State), g < 4 ∧ s.powered (132 + g) = true ∧ (s.host g).state = .up ∧
      (((s.host g).cfg.eiEn = true ∧
      (s.host g).cfg.eiIdle ≤ (s.host g).idle) ∨ s.domClosing (domOfRoot (132 + g)) = true) ∧
      (s.host g).txEidle = false ∧ (s.host g).unacked = [] ∧ (s.host g).nakOwed = false) ∧
    (∃ (g : Nat) (s : State), g < 4 ∧ s.powered (132 + g) = true ∧ (s.host g).state = .up ∧
      (s.host g).txEidle = true ∧ s.hostWants g = true) ∧
    (∃ (g : Nat) (s : State), g < 4 ∧ s.powered (132 + g) = true ∧ (s.host g).state = .up) ∧
    (∃ (g : Nat) (s : State), g < 4 ∧ s.powered (132 + g) = true ∧ (s.host g).state = .up ∧ s.accepts 1 = true ∧
      (s.host g).cfg.sideEn = true ∧ s.mbx.chans.length = 8) ∧
    (∃ (g : Nat) (s : State) (n : _), let k := n % 2 ^ 32; g < 4 ∧ s.powered (132 + g) = true ∧
      (s.host g).state = .up ∧ (k + 2 ^ 32 - (s.host g).spoolAcked) % 2 ^ 32 < 2 ^ 31 ∧
      ((s.host g).spoolSent + 2 ^ 32 - k) % 2 ^ 32 < 2 ^ 31) ∧
    (∃ (g : Nat) (s : State) (n : _), let k := n % 2 ^ 32; g < 4 ∧ s.powered (132 + g) = true ∧
      (s.host g).state = .up ∧ (k + 2 ^ 32 - (s.host g).spoolAcked) % 2 ^ 32 < 2 ^ 31 ∧
      2 ^ 31 ≤ ((s.host g).spoolSent + 2 ^ 32 - k) % 2 ^ 32) ∧
    (∃ (g : Nat) (s : State) (code : _), g < 4 ∧ s.powered (132 + g) = true ∧ (s.host g).state = .up ∧
      isHostFault code = true ∧ .silence (132 + g) code ∉ s.edgeq) ∧
    (∃ (g : Nat) (s : State) (code : _) (u : State), g < 4 ∧ s.powered (132 + g) = true ∧ (s.host g).state = .up ∧
      isHostFault code = true ∧ u.powered (132 + g) = false ∧ u.awake = true ∧ u.boot.halted = true ∧
      u.domOn (domOfRoot (132 + g)) = true) :=
  ⟨⟨3, hosted upHost, { packet with hcrcOk := false }, by decide +kernel⟩,
   ⟨3, hosted { upHost with hunting := true }, packet, by decide +kernel⟩,
   ⟨3, hosted upHost, { packet with crcOk := false, type := 1 }, by decide +kernel⟩,
   ⟨3, hosted upHost, packet, by decide +kernel⟩,
   ⟨3, hosted { upHost with nakOwed := true }, by decide +kernel⟩,
   ⟨3, hosted { upHost with unacked := [⟨0, 64, 0, none, none, 0, packet, []⟩] }, by decide +kernel⟩,
   ⟨3, hosted { upHost with rxEidle := true }, 6, by decide +kernel⟩,
   ⟨3, closing 135 (hosted { upHost with txEidle := false }), by decide +kernel⟩,
   ⟨3, hosted { upHost with owes := true }, by decide +kernel⟩,
   ⟨3, hosted upHost, by decide +kernel⟩,
   ⟨3, hosted upHost, by decide +kernel⟩,
   ⟨3, hosted { upHost with spoolSent := 5, spoolAcked := 2 }, 4, by decide +kernel⟩,
   ⟨3, hosted { upHost with spoolSent := 5, spoolAcked := 2 }, 9, by decide +kernel⟩,
   ⟨3, hosted upHost, 0x1502, by decide +kernel⟩,
   ⟨3, hosted upHost, 0x1502, damped, by decide +kernel⟩⟩

/-- States and operands that meet the hypotheses of LanePacketsAreTakenInOrderOnce, clause by clause. -/
theorem wit_LanePacketsAreTakenInOrderOnce :
    (∃ (g : Nat) (p : LanePacket) (s : State), g < 4 ∧ p.seq ≠ (s.host g).rxExpect) ∧
    (∃ (g : Nat) (p : LanePacket) (s : State), g < 4 ∧ p.seq = (s.host g).rxExpect) ∧
    (∃ (g : Nat) (p : LanePacket) (s : State), g < 4 ∧
      2 ^ 15 ≤ ((s.host g).grantOut.getD (p.sc % 8) 0 + 2 ^ 16 - ((s.host g).usedIn.getD (p.sc % 8) 0 + creditNeed p.len) % 2 ^ 16) % 2 ^ 16) :=
  ⟨⟨3, { packet with seq := 1 }, hosted upHost, by decide +kernel⟩,
   ⟨3, { packet with seq := 65535 }, hosted { upHost with rxExpect := 65535 }, by decide +kernel⟩,
   ⟨3, { packet with len := 64 }, hosted upHost, by decide +kernel⟩⟩

/-- States and operands that meet the hypotheses of TickEdgesAndCommitsComplete, clause by clause. -/
theorem wit_TickEdgesAndCommitsComplete :
    (∃ (s : State), s.edgeComes = true ∧ s.ratiosOk = true) ∧
    (∃ (s : State), s.edgeComes = true ∧ s.ratiosOk = false) ∧
    (∃ (s : State), s.commits = true ∧ s.time.committed = false) ∧
    (∃ (s : State), s.commits = true ∧ s.time.committed = true) ∧
    (∃ (s : State) (engine : Nat), 1 ≤ engine ∧ engine ≤ 11 ∧ s.time.seq = true ∧ s.time.committed = false ∧
      s.awake = true ∧ (s.boot.halted = false ∨ s.faults.dampedDue = true)) ∧
    (∃ (s : State) (m : Msg) (fl : Flash) (d : State), s.selects configLoadCmd m d ∧ m.stray 1 0x101 = false ∧
      Flash.reads fl = true ∧ flashImage d.fuses fl (m.get 1 0 1) = none) ∧
    (∃ (s : State) (m : Msg) (fl : Flash) (d : State), s.selects configLoadCmd m d ∧ m.stray 1 0x101 = false ∧
      (Flash.reads fl = false ∨ (flashImage d.fuses fl (m.get 1 0 1)).isSome = true) ∧ d.boot.replaying = true) ∧
    (∃ (s : State) (m : Msg) (fl : Flash) (d : State), s.selects configLoadCmd m d ∧ m.stray 1 0x101 = false ∧
      Flash.reads fl = false ∧ d.boot.replaying = false) ∧
    (Config.ecdsaVerify signed.hdr.pubKey (BitVec.ofNat 256 (ofBe (sha256 (headerBytes signed.hdr)))) signed.hdr.sig = true →
      ∃ (m : Msg) (s : State) (fl : Flash) (d : State) (im : Image), s.selects configLoadCmd m d ∧
      m.stray 1 0x101 = false ∧ Flash.reads fl = true ∧ flashImage d.fuses fl (m.get 1 0 1) = some im ∧
      d.boot.replaying = false ∧ m.flag 1 8 = true) ∧
    (Config.ecdsaVerify signed.hdr.pubKey (BitVec.ofNat 256 (ofBe (sha256 (headerBytes signed.hdr)))) signed.hdr.sig = true →
      ∃ (m : Msg) (s : State) (fl : Flash) (d : State) (im : Image), s.selects configLoadCmd m d ∧
      m.stray 1 0x101 = false ∧ Flash.reads fl = true ∧ flashImage d.fuses fl (m.get 1 0 1) = some im ∧
      d.boot.replaying = false ∧ m.flag 1 8 = false) :=
  ⟨⟨{ run with time := ⟨4000, true, true⟩ }, by decide +kernel⟩,
   ⟨{ clocked { run.clock with p := 0 } with time := ⟨4000, true, true⟩ }, by decide +kernel⟩,
   ⟨run, by decide +kernel⟩,
   ⟨{ run with time := ⟨4000, true, true⟩ }, by decide +kernel⟩,
   ⟨run, 11, by decide +kernel⟩,
   ⟨run, msg [0], blankFlash, _, sel_spec (by decide +kernel), by decide +kernel⟩,
   ⟨{ run with boot := { run.boot with replaying := true } }, msg [0], { blankFlash with answers := false }, _,
    sel_spec (by decide +kernel), by decide +kernel⟩,
   ⟨run, msg [0], { blankFlash with answers := false }, _, sel_spec (by decide +kernel), by decide +kernel⟩,
   fun hv => ⟨msg [0x100], rooted, signedFlash, _, signed, sel_spec (by decide +kernel), by decide, by decide,
    signed_image (by decide +kernel) (by decide +kernel) hv, by decide +kernel, by decide⟩,
   fun hv => ⟨msg [0], rooted, signedFlash, _, signed, sel_spec (by decide +kernel), by decide, by decide,
    signed_image (by decide +kernel) (by decide +kernel) hv, by decide +kernel, by decide⟩⟩

/-- States and operands that meet the hypotheses of TickCounterAdvancesByOneAtEachEdge, clause by clause. -/
theorem wit_TickCounterAdvancesByOneAtEachEdge :
    ∃ (s : State), s.edgeComes = true ∧ s.ratiosOk = true ∧ s.fabric.step = none ∧
      (s.boot.resetAt.any (fun e => decide (e ≤ s.now + 1)) && s.keep.job.isNone) = false :=
  ⟨{ run with time := ⟨4000, true, true⟩ }, by decide +kernel⟩

/-- States and operands that meet the hypotheses of ForwardingSettingsAreAccepted, clause by clause. -/
theorem wit_ForwardingSettingsAreAccepted :
    (∃ (m : Msg) (s : State) (d : State), s.selects portBridgeConfigCmd m d ∧ m.stray 1 0xFFFFC0FF = false ∧
      m.stray 2 0xFFFFFF = false ∧ m.get 1 0 8 ≤ 135 ∧ m.get 1 20 12 ≠ 0 ∧ m.get 1 20 12 ≠ 4095) ∧
    (∃ (m : Msg) (s : State) (d : State), s.selects vlanSetCmd m d ∧ m.stray 1 0x1FFF = false ∧ m.get 1 0 12 ≠ 0 ∧
      m.get 1 0 12 ≠ 4095 ∧ (m.flag 1 12 = true ∨ m.stray 6 0xFF = false)) ∧
    (∃ (m : Msg) (s : State) (d : State), s.selects fdbConfigCmd m d ∧ m.stray 1 0xFFFF3FFF = false ∧
      1 ≤ m.get 1 0 14 ∧ m.get 1 0 14 ≤ 8192) ∧
    (∃ (m : Msg) (s : State) (d : State), s.selects fdbEntryCmd m d ∧ m.stray 1 0xCFFFFFFF = false ∧
      m.get 1 16 12 ≠ 0 ∧ m.get 1 16 12 ≠ 4095 ∧ m.get 1 30 2 = 0 ∧ m.len = 3) ∧
    (∃ (m : Msg) (s : State) (d : State), s.selects fdbEntryCmd m d ∧ (let mac := m.get 1 0 16 * 2 ^ 32 + m.word 2;
      m.stray 1 0xCFFFFFFF = false ∧ m.get 1 16 12 ≠ 0 ∧ m.get 1 16 12 ≠ 4095 ∧ m.get 1 30 2 = 1 ∧ m.len = 8 ∧
      m.chan ≠ 4 ∧ m.stray 7 0xFF = false ∧ portMask m 3 ≠ 0 ∧
      (fdbFind d.commitLearns.schedProj.bridge.fdb mac (m.get 1 16 12) ≠ none ∨ d.commitLearns.schedProj.bridge.fdb.length < 131072))) ∧
    (∃ (m : Msg) (s : State) (d : State), s.selects fdbEntryCmd m d ∧ m.stray 1 0xCFFFFFFF = false ∧
      m.get 1 16 12 ≠ 0 ∧ m.get 1 16 12 ≠ 4095 ∧ m.get 1 30 2 = 2 ∧ m.len = 3 ∧ m.chan ≠ 4) ∧
    (∃ (m : Msg) (s : State) (d : State), s.selects fdbStatusCmd m d ∧ m.stray 1 1 = false) ∧
    (∃ (m : Msg) (s : State) (d : State) (x : _), s.selects streamSetCmd m d ∧ (let p := d.guarProj;
      let e : Stream := ⟨m.flag 1 30, m.get 1 0 16 * 2 ^ 32 + m.word 2, m.get 1 16 12, m.flag 3 31, m.get 3 0 18,
      m.flag 3 27, m.get 3 28 3, m.flag 4 31, m.get 4 0 20⟩; m.stray 1 0xCFFFFFFF = false ∧ m.get 1 16 12 ≠ 0 ∧
      m.get 1 16 12 ≠ 4095 ∧ m.flag 1 31 = false ∧ m.stray 3 0xF803FFFF = false ∧ m.stray 4 0x800FFFFF = false ∧
      (e.qEn = true → (p.queue e.queue).conf = true) ∧ (e.polEn = true → (p.policer e.policer).conf = true) ∧
      p.streamKey e.sa e.mac e.vid = some x ∧ p.guaranteed x.1 = false)) ∧
    (∃ (m : Msg) (s : State) (d : State) (n : _), s.selects streamSetCmd m d ∧ (let p := d.guarProj;
      let e : Stream := ⟨m.flag 1 30, m.get 1 0 16 * 2 ^ 32 + m.word 2, m.get 1 16 12, m.flag 3 31, m.get 3 0 18,
      m.flag 3 27, m.get 3 28 3, m.flag 4 31, m.get 4 0 20⟩; m.stray 1 0xCFFFFFFF = false ∧ m.get 1 16 12 ≠ 0 ∧
      m.get 1 16 12 ≠ 4095 ∧ m.flag 1 31 = false ∧ m.stray 3 0xF803FFFF = false ∧ m.stray 4 0x800FFFFF = false ∧
      (e.qEn = true → (p.queue e.queue).conf = true) ∧ (e.polEn = true → (p.policer e.policer).conf = true) ∧
      p.streamKey e.sa e.mac e.vid = none ∧ tfree p.bridge.streams 0 262144 = some n)) ∧
    (∃ (m : Msg) (s : State) (d : State) (x : _), s.selects streamSetCmd m d ∧ (let p := d.guarProj;
      let e : Stream := ⟨m.flag 1 30, m.get 1 0 16 * 2 ^ 32 + m.word 2, m.get 1 16 12, m.flag 3 31, m.get 3 0 18,
      m.flag 3 27, m.get 3 28 3, m.flag 4 31, m.get 4 0 20⟩; m.stray 1 0xCFFFFFFF = false ∧ m.get 1 16 12 ≠ 0 ∧
      m.get 1 16 12 ≠ 4095 ∧ m.flag 1 31 = true ∧ p.streamKey e.sa e.mac e.vid = some x ∧ p.guaranteed x.1 = false)) ∧
    (∃ (m : Msg) (s : State) (d : State), s.selects nodeSetCmd m d ∧ (let n := m.get 1 0 16; let p := d.schedProj;
      let c : Cfg := .nodeSet n (parentOf m) (m.get 1 16 3) (m.get 3 0 16); m.stray 1 0x8007FFFF = false ∧
      m.flag 1 31 = false ∧ parentBad m = false ∧ m.stray 3 0xFFFF = false ∧ m.get 3 0 16 ≠ 0 ∧
      p.parentOk (parentOf m) = true ∧ ((parentOf m).isRoot = true ∨ p.above n (parentOf m) = false) ∧
      (p.applySched c).defaultsOk = true ∧ ((p.node n).conf = true →
      ((p.node n).parent ≠ parentOf m ∨ (p.node n).level ≠ m.get 1 16 3) → p.subtreeHolds n = false) ∧
      (p.applySched c).schedLoad ≤ 1200000)) ∧
    (∃ (m : Msg) (s : State) (d : State), s.selects nodeSetCmd m d ∧ (let n := m.get 1 0 16; let p := d.schedProj;
      m.stray 1 0x8007FFFF = false ∧ m.flag 1 31 = true ∧ p.hasKids n = false ∧ (p.node n).conf = true)) ∧
    (∃ (m : Msg) (s : State) (d : State), s.selects queueSetCmd m d ∧ (let q := m.get 1 0 20; let p := d.schedProj;
      let c : Cfg := .queueSet q ⟨parentOf m, m.get 1 24 3, m.get 3 0 16, m.get 4 0 24, m.flag 1 30, m.get 1 27 3⟩;
      m.stray 1 0xFF0FFFFF = false ∧ m.flag 1 31 = false ∧ parentBad m = false ∧ m.stray 3 0xFFFF = false ∧
      m.stray 4 0xFFFFFF = false ∧ m.get 3 0 16 ≠ 0 ∧ m.get 4 0 24 ≠ 0 ∧ p.parentOk (parentOf m) = true ∧
      (p.applySched c).defaultsOk = true ∧ ((p.queue q).conf = true →
      ((p.queue q).cfg.parent ≠ parentOf m ∨ (p.queue q).cfg.level ≠ m.get 1 24 3) → (d.queue q).held = []) ∧
      (p.applySched c).schedLoad ≤ 1200000)) ∧
    (∃ (m : Msg) (s : State) (d : State), s.selects queueSetCmd m d ∧ (let q := m.get 1 0 20; let p := d.schedProj;
      m.stray 1 0xFF0FFFFF = false ∧ m.flag 1 31 = true ∧ (∀ e ∈ p.bridge.streams, e.2.qEn = true → e.2.queue ≠ q) ∧
      (p.queue q).conf = true ∧ (d.queue q).held = [])) ∧
    (∃ (m : Msg) (s : State) (d : State), s.selects queueFlushCmd m d ∧ m.stray 1 0xFFFFF = false ∧
      (d.schedProj.queue (m.get 1 0 20)).conf = true) ∧
    (∃ (m : Msg) (s : State) (d : State), s.selects queueStatsCmd m d ∧ m.stray 1 0x1FFFFF = false) :=
  ⟨⟨msg [135 + 4094 * 2 ^ 20, 0xFFFFFF], run, _, sel_spec (by decide +kernel), by decide +kernel⟩,
   ⟨msg [4094 + 4096, 0, 0, 0, 0, 0xFF], run, _, sel_spec (by decide +kernel), by decide +kernel⟩,
   ⟨msg [8192], run, _, sel_spec (by decide +kernel), by decide +kernel⟩,
   ⟨msg [4094 * 2 ^ 16, 0], run, _, sel_spec (by decide +kernel), by decide +kernel⟩,
   ⟨msg [2 ^ 30 + 4094 * 2 ^ 16, 5, 1, 0, 0, 0, 0], run, _, sel_spec (by decide +kernel), by decide +kernel⟩,
   ⟨msg [2 ^ 31 + 4094 * 2 ^ 16, 5], run, _, sel_spec (by decide +kernel), by decide +kernel⟩,
   ⟨msg [1], run, _, sel_spec (by decide +kernel), by decide +kernel⟩,
   ⟨msg [2 ^ 16, 5, 0, 0], guarded, _, (262143, stream), sel_spec (by decide +kernel), by decide +kernel⟩,
   ⟨msg [4094 * 2 ^ 16, 5, 0, 0], run, _, 0, sel_spec (by decide +kernel), by decide +kernel⟩,
   ⟨msg [2 ^ 31 + 2 ^ 16, 5, 0, 0], guarded, _, (262143, stream), sel_spec (by decide +kernel), by decide +kernel⟩,
   ⟨msg [65535 + 7 * 2 ^ 16, 2 ^ 16 + 137, 65535], run, _, sel_spec (by decide +kernel), by decide +kernel⟩,
   ⟨msg [2 ^ 31 + 65535, 0, 0], sched (fun d => { d with nodes := [(65535, { Node.reset with conf := true })] }), _,
    sel_spec (by decide +kernel), by decide +kernel⟩,
   ⟨msg [0xFFFFF + 7 * 2 ^ 24, 2 ^ 16 + 137, 65535, 0xFFFFFF], run, _, sel_spec (by decide +kernel),
    by decide +kernel⟩,
   ⟨msg [2 ^ 31 + 1103, 0, 0, 0], run, _, sel_spec (by decide +kernel), by decide +kernel⟩,
   ⟨msg [1103], run, _, sel_spec (by decide +kernel), by decide +kernel⟩,
   ⟨msg [0xFFFFF], run, _, sel_spec (by decide +kernel), by decide +kernel⟩⟩

/-- States and operands that meet the hypotheses of FrameStepsComplete, clause by clause. -/
theorem wit_FrameStepsComplete :
    (∃ (s : State) (port : Nat) (arr : Arrival) (f : Frame), let x := verified arr f; s.powered port = true ∧
      port < 96 ∧ (s.line port).linked = true ∧ arr.fcsOk = true ∧ x.fits = true) ∧
    (∃ (s : State) (port : Nat) (arr : Arrival) (f : Frame), let x := verified arr f; s.powered port = true ∧
      port < 96 ∧ (s.line port).linked = true ∧ arr.fcsOk = true ∧ x.fits = false) ∧
    (∃ (s : State) (port : Nat) (arr : Arrival), s.powered port = true ∧ port < 96 ∧ (s.line port).linked = true ∧
      arr.fcsOk = false) ∧
    (∃ (s : State) (port : Nat), s.powered port = true ∧ 96 ≤ port ∧ port < 128 ∧ (s.drop (port - 96)).state = .up ∧
      (s.drop (port - 96)).opp = none) ∧
    (∃ (s : State) (port : Nat) (k : _), s.powered port = true ∧ 96 ≤ port ∧ port < 128 ∧
      (s.drop (port - 96)).state = .up ∧ (s.drop (port - 96)).opp = some k) ∧
    (∃ (s : State) (port : Nat), s.powered port = true ∧ 128 ≤ port ∧ port < 132 ∧
      (s.trunk (port - 128)).state = .up) ∧
    (∃ (s : State) (port : Nat), s.powered port = true ∧ 132 ≤ port ∧ port < 136 ∧
      (s.host (port - 132)).state = .up) ∧
    (∃ (s : State) (port : Nat), s.powered port = true ∧ s.unitOn port = true) ∧
    (∃ (s : State) (port : Nat), s.powered port = true ∧ s.unitOn port = false) ∧
    (∃ (s : State) (a : Arrived) (rest : List Arrived), s.live = true ∧ s.arrived = a :: rest ∧ a.tick < s.now) ∧
    (∃ (s : State) (root : Nat) (q : Nat) (d : Desc) (more : List Desc) (st : Stored), s.working = true ∧ root < 138 ∧
      0 ≤ (s.root root).tok ∧ lastQueue (s.descend root s.depthMax ⟨true, root⟩) = some q ∧
      (s.queue q).held = d :: more ∧ s.stored d.id = some st ∧ s.unitTakes root (s.leaving root st d).len = true) ∧
    (∃ (s : State) (root : Nat) (x : Sending) (more : List Sending), s.live = true ∧
      (s.root root).sending = x :: more ∧ 136 ≤ root) ∧
    (∃ (s : State) (root : Nat) (x : Sending) (more : List Sending), s.live = true ∧
      (s.root root).sending = x :: more ∧ root < 96 ∧ s.powered root = true ∧ (s.line root).linked = true) ∧
    (∃ (s : State) (root : Nat) (x : Sending) (more : List Sending), s.live = true ∧
      (s.root root).sending = x :: more ∧ 96 ≤ root ∧ root < 128 ∧ s.powered root = true ∧
      (s.drop (root - 96)).state = .up ∧ (s.drop (root - 96)).opp = some 0 ∧ 0 < (s.drop (root - 96)).burstLeft) ∧
    (∃ (s : State) (root : Nat) (x : Sending) (more : List Sending), s.live = true ∧
      (s.root root).sending = x :: more ∧ 128 ≤ root ∧ root < 132) ∧
    (∃ (s : State) (root : Nat) (x : Sending) (more : List Sending) (sc : Nat), s.live = true ∧
      (s.root root).sending = x :: more ∧ 132 ≤ root ∧ root < 136 ∧ s.powered root = true ∧
      (s.host (root - 132)).state = .up ∧ (s.host (root - 132)).txEidle = false ∧
      (s.host (root - 132)).room x.frame.len = true ∧
      sc = (match s.stored x.desc.id with | some st => st.sc | none => 0) ∧
      (s.host (root - 132)).credit sc x.frame.len = true) ∧
    (∃ (s : State) (handle : Nat) (e : RepEntry) (r : Recovery), s.working = true ∧
      cfgEntry s.fabric.cfg handle = some e ∧ tfind s.fabric.recov handle = some r ∧ r.start = false ∧
      r.passTick + e.reset ≤ s.now) :=
  ⟨⟨lined upLine, 95, ⟨true, true, []⟩, fr, by decide +kernel⟩,
   ⟨lined upLine, 95, ⟨true, true, []⟩, { fr with len := 63, tag := none }, by decide +kernel⟩,
   ⟨lined upLine, 95, ⟨false, true, []⟩, by decide +kernel⟩,
   ⟨dropped { upDrop with opp := none }, 127, by decide +kernel⟩,
   ⟨dropped { upDrop with opp := some 0 }, 127, 0, by decide +kernel⟩,
   ⟨trunked upTrunk, 131, by decide +kernel⟩,
   ⟨hosted upHost, 135, by decide +kernel⟩,
   ⟨run, 95, by decide +kernel⟩,
   ⟨closing 95 run, 95, by decide +kernel⟩,
   ⟨{ run with arrived := [⟨95, fr, 3999, none, 0⟩] }, ⟨95, fr, 3999, none, 0⟩, [], by decide +kernel⟩,
   ⟨held, 137, 1103, desc, [], ⟨fr, 95, 7, 1, 0, false, 1, 1, false⟩, by decide +kernel⟩,
   ⟨sendingOf 137, 137, ⟨desc, fr, 1096, 3999⟩, [], by decide +kernel⟩,
   ⟨{ sendingOf 95 with lines := [(95, upLine)] }, 95, ⟨desc, fr, 760, 3999⟩, [], by decide +kernel⟩,
   ⟨{ sendingOf 127 with drops := [(31, { upDrop with opp := some 0, burstLeft := 1 })] }, 127, ⟨desc, fr, 1016,
    3999⟩, [], by decide +kernel⟩,
   ⟨sendingOf 131, 131, ⟨desc, fr, 1048, 3999⟩, [], by decide +kernel⟩,
   ⟨{ sendingOf 135 with hosts := [(3, { upHost with txEidle := false, grantIn := List.replicate 8 64 })] }, 135,
    ⟨desc, fr, 1080, 3999⟩, [], 0, by decide +kernel⟩,
   ⟨{ run with fabric := { run.fabric with cfg := ⟨0x0029CB6D#32, [rep]⟩, recov := [(16383, { Recovery.reset with start := false, passTick := 3000 })] } },
    16383, rep, { Recovery.reset with start := false, passTick := 3000 }, by decide +kernel⟩⟩

/-- States and operands that meet the hypotheses of RateSettingsAreAccepted, clause by clause. -/
theorem wit_RateSettingsAreAccepted :
    (∃ (m : Msg) (s : State) (d : State), s.selects rootSetCmd m d ∧
      (let c : Cfg := .root (m.get 1 0 8) (m.get 2 0 28) (m.get 3 0 6); m.stray 1 0xFF = false ∧
      m.stray 2 0x0FFFFFFF = false ∧ m.stray 3 0x3F = false ∧ m.get 1 0 8 ≤ 137 ∧ m.get 2 0 28 ≠ 0 ∧
      (d.guarProj.applySched c).schedLoad ≤ 1200000 ∧ d.guarProj.keepsGuars c = true)) ∧
    (∃ (m : Msg) (s : State) (d : State), s.selects shaperSetCmd m d ∧
      (let c : Cfg := .shaper (m.get 1 30 2 == 1) (m.get 1 0 20) (m.flag 1 29) (m.word 2) (m.word 3) (m.word 4) (m.word 5);
      m.stray 1 0xE00FFFFF = false ∧ shaperIdBad m = false ∧ (m.flag 1 29 = true → m.stray 2 0x0FFFFFFF = false ∧
      m.stray 3 0x0FFFFFFF = false ∧ m.stray 4 0xFFFFFF = false ∧ m.stray 5 0xFFFFFF = false ∧ m.word 2 ≠ 0 ∧
      m.word 4 ≠ 0 ∧ m.word 5 ≠ 0 ∧ m.word 2 ≤ m.word 3) ∧
      d.guarProj.elemConf (m.get 1 30 2 == 1) (m.get 1 0 20) = true ∧ d.guarProj.keepsGuars c = true)) ∧
    (∃ (m : Msg) (s : State) (d : State), s.selects shaperReadCmd m d ∧ m.stray 1 0xC00FFFFF = false ∧
      shaperIdBad m = false ∧ d.schedProj.elemConf (m.get 1 30 2 == 1) (m.get 1 0 20) = true) ∧
    (∃ (m : Msg) (s : State) (d : State), s.selects policerSetCmd m d ∧
      (let c : Cfg := .policer (m.get 1 0 18) (m.flag 1 31) (m.flag 1 30) (m.flag 1 29) (m.flag 1 28) (m.get 1 18 6) (m.word 2) (m.word 3) (m.word 4) (m.word 5);
      m.stray 1 0xF0FFFFFF = false ∧ (m.flag 1 31 = true → m.stray 2 0x0FFFFFFF = false ∧
      m.stray 3 0x0FFFFFFF = false ∧ m.stray 4 0xFFFFFF = false ∧ m.stray 5 0xFFFFFF = false ∧ m.word 2 ≠ 0 ∧
      m.word 3 ≠ 0 ∧ m.word 4 ≠ 0 ∧ m.word 5 ≠ 0 ∧ (m.flag 1 30 = true ∨ m.word 2 ≤ m.word 3)) ∧
      (m.flag 1 31 = true ∨ ∀ e ∈ d.guarProj.bridge.streams, e.2.polEn = true → e.2.policer ≠ m.get 1 0 18) ∧
      d.guarProj.keepsGuars c = true)) ∧
    (∃ (m : Msg) (s : State) (d : State), s.selects policerStatsCmd m d ∧ m.stray 1 0x7FFFF = false) ∧
    (∃ (m : Msg) (s : State) (d : State), s.selects gateListWriteCmd m d ∧ m.stray 1 0xFFFFFF = false ∧
      m.get 1 0 8 ≤ 137 ∧ 1 ≤ m.get 1 16 8 ∧ m.get 1 16 8 ≤ 14 ∧ m.get 1 8 8 + m.get 1 16 8 ≤ 256 ∧
      m.len = m.get 1 16 8 + 2 ∧ (∀ k, k < m.get 1 16 8 → m.get (k + 2) 0 16 ≠ 0 ∧
      m.stray (k + 2) 0xFF00FFFF = false)) ∧
    (∃ (m : Msg) (s : State) (d : State), s.selects gateListCommitCmd m d ∧
      (let l := if m.flag 1 8 then (d.root (m.get 1 0 8)).adminList (m.get 1 16 9) else [];
      let cycle := if m.flag 1 8 then gateCycle l else 1;
      let act := gateAct (m.word 2 + 2 ^ 32 * m.word 3) cycle d.nextEdge; m.stray 1 0x01FF01FF = false ∧
      m.get 1 0 8 ≤ 137 ∧ (m.flag 1 8 = true → 1 ≤ m.get 1 16 9 ∧ m.get 1 16 9 ≤ 256) ∧
      d.guarProj.keepsGates (m.get 1 0 8) l act = true)) ∧
    (∃ (m : Msg) (s : State) (d : State) (st : Stream), s.selects guaranteeSetCmd m d ∧
      (let c : Cfg := .guar (m.get 1 0 18) (m.word 2) (m.word 3) (m.word 4) (m.word 5); m.flag 1 31 = false ∧
      m.stray 1 0x8003FFFF = false ∧ m.stray 2 0x0FFFFFFF = false ∧ m.stray 3 0x00FFFFFF = false ∧
      m.stray 5 0x000FFFFF = false ∧ m.word 2 ≠ 0 ∧ m.word 3 ≠ 0 ∧ d.guarProj.stream (m.get 1 0 18) = some st ∧
      m.get 1 0 18 ∈ (d.guarProj.applySched c).admitted.map Prod.fst ∧
      (tfind d.guarProj.sched.guars (m.get 1 0 18) ≠ none ∨ d.guarProj.sched.guars.length < 65536))) ∧
    (∃ (m : Msg) (s : State) (d : State), s.selects guaranteeSetCmd m d ∧ m.flag 1 31 = true ∧
      m.stray 1 0x8003FFFF = false ∧ d.schedProj.stream (m.get 1 0 18) ≠ none) ∧
    (∃ (m : Msg) (s : State) (d : State) (g : _) (st : _), s.selects guaranteeStatusCmd m d ∧
      m.stray 1 0x0003FFFF = false ∧ tfind d.sched.guars (m.get 1 0 18) = some g ∧
      d.stream (m.get 1 0 18) = some st) ∧
    (∃ (m : Msg) (s : State) (d : State), s.selects guaranteeStatusCmd m d ∧ m.stray 1 0x0003FFFF = false ∧
      (tfind d.sched.guars (m.get 1 0 18) = none ∨ d.stream (m.get 1 0 18) = none)) :=
  ⟨⟨msg [137, 0x0FFFFFFF, 63], run, _, sel_spec (by decide +kernel), by decide +kernel⟩,
   ⟨msg [1103 + 2 ^ 29, 1, 0x0FFFFFFF, 0xFFFFFF, 1], run, _, sel_spec (by decide +kernel), by decide +kernel⟩,
   ⟨msg [1103], run, _, sel_spec (by decide +kernel), by decide +kernel⟩,
   ⟨msg [262143 + 2 ^ 31, 1, 0x0FFFFFFF, 0xFFFFFF, 1], run, _, sel_spec (by decide +kernel), by decide +kernel⟩,
   ⟨msg [262143], run, _, sel_spec (by decide +kernel), by decide +kernel⟩,
   ⟨msg ((137 + 242 * 256 + 14 * 65536 : Word) :: List.replicate 14 1), run, _, sel_spec (by decide +kernel),
    by decide +kernel⟩,
   ⟨msg [137 + 256 + 256 * 65536, 0, 0], run, _, sel_spec (by decide +kernel), by decide +kernel⟩,
   ⟨msg [262143, 1000, 64, 1000, 1096], guarded, _, stream, sel_spec (by decide +kernel), by decide +kernel⟩,
   ⟨msg [262143 + 2 ^ 31, 0, 0, 0, 0], guaranteed, _, sel_spec (by decide +kernel), by decide +kernel⟩,
   ⟨msg [262143], guaranteed, _, ⟨1000, 64, 0, 1096, 1, false, 0, 0, 0, 0⟩, stream, sel_spec (by decide +kernel),
    by decide +kernel⟩,
   ⟨msg [262143], run, _, sel_spec (by decide +kernel), by decide +kernel⟩⟩

/-- States and operands that meet the hypotheses of CellarCommandsComplete, clause by clause. -/
theorem wit_CellarCommandsComplete :
    (∃ (m : Msg) (s : State) (d : State), s.selects spoolConfigCmd m d ∧ m.stray 1 0x00FF010F = false ∧
      m.get 1 0 4 ≤ 12 ∧ m.get 1 16 8 ≠ 0 ∧ (∀ g, g < 4 → m.stray (g + 2) 0x800FFFFF = false ∧
      ((replayQOf m g).1 = true → d.schedProj.queueRoot (replayQOf m g).2 = some (132 + g))) ∧
      (m.get 1 0 4 = d.schedProj.cellar.size ∨ d.cellar.spool = []) ∧
      d.cellar.used ≤ (d.schedProj.cellar.sized (m.get 1 0 4)).border - (d.schedProj.cellar.sized (m.get 1 0 4)).retiredFrames) ∧
    (∃ (m : Msg) (s : State) (d : State), s.selects spoolStatusCmd m d ∧ m.stray 1 0x103 = false) ∧
    (∃ (m : Msg) (s : State) (d : State), s.selects spoolReplayCmd m d ∧ m.stray 1 3 = false ∧ d.cellar.size ≠ 0 ∧
      (d.host (m.get 1 0 2)).state = .up ∧ (d.spoolGroup (m.get 1 0 2)).replaying = false) ∧
    (∃ (m : Msg) (s : State) (d : State), s.selects cellarStatusCmd m d ∧ m.stray 1 1 = false) ∧
    (∃ (g : Nat) (s : State) (e : _), s.live = true ∧ g < 4 ∧ (s.spoolGroup g).startDue = some e ∧ e ≤ s.now) ∧
    (∃ (g : Nat) (s : State) (id : Nat) (q : Nat) (rest : List Nat) (st : Stored), s.live = true ∧ g < 4 ∧
      (s.spoolGroup g).replaying = true ∧ (s.spoolGroup g).todo = id :: rest ∧ s.replayQueue g = some q ∧
      s.stored id = some st ∧ s.occupancy q + 9216 ≤ (s.queue q).cfg.limit * 64) ∧
    (∃ (g : Nat) (s : State) (id : Nat) (q : Nat) (rest : List Nat) (st : Stored), s.live = true ∧ g < 4 ∧
      (s.spoolGroup g).replaying = true ∧ (s.spoolGroup g).todo = id :: rest ∧ s.replayQueue g = some q ∧
      s.stored id = some st ∧ (s.queue q).cfg.limit * 64 < s.occupancy q + 9216) ∧
    (∃ (s : State) (id : Nat) (page : Nat), s.live = true ∧ s.cellar.trained = true ∧
      s.siteOk (.frame id page) = true) ∧
    (∃ (s : State) (page : Nat), s.live = true ∧ s.cellar.trained = true ∧ s.siteOk (.free page) = true) ∧
    (∃ (s : State) (id : Nat) (page : Nat), s.live = true ∧ s.cellar.trained = true ∧
      s.siteOk (.header id page) = true) ∧
    (∃ (s : State), s.live = true ∧ s.cellar.trained = true) :=
  ⟨⟨msg [12 + 255 * 65536, 0x80000000 + 1062, 0x80000000 + 1070, 0, 0], run, _, sel_spec (by decide +kernel),
    by decide +kernel⟩,
   ⟨msg [3], run, _, sel_spec (by decide +kernel), by decide +kernel⟩,
   ⟨msg [3], { hosted upHost with cellar := { run.cellar with size := 12 } }, _, sel_spec (by decide +kernel),
    by decide +kernel⟩,
   ⟨msg [1], run, _, sel_spec (by decide +kernel), by decide +kernel⟩,
   ⟨3, spooled { SpoolGroup.reset with startDue := some 4000 }, 4000, by decide +kernel⟩,
   ⟨3,
    { spooled { SpoolGroup.reset with replaying := true, todo := [0] } with cellar := { (spooled { SpoolGroup.reset with replaying := true, todo := [0] }).cellar with store := held.cellar.store } },
    0, 1086, [], ⟨fr, 95, 7, 1, 0, false, 1, 1, false⟩, by decide +kernel⟩,
   ⟨3,
    { spooled { SpoolGroup.reset with replaying := true, todo := [0] } with cellar := { (spooled { SpoolGroup.reset with replaying := true, todo := [0] }).cellar with store := held.cellar.store }, sched := { run.sched with queues := [(1086, { Queue.default 1086 with cfg := { (Queue.default 1086).cfg with limit := 1 } })] } },
    0, 1086, [], ⟨fr, 95, 7, 1, 0, false, 1, 1, false⟩, by decide +kernel⟩,
   ⟨held, 0, 0, by decide +kernel⟩,
   ⟨held, 67108863, by decide +kernel⟩,
   ⟨{ held with cellar := { held.cellar with size := 12, spool := [⟨0, [0, 0, 0, 0], 64, 95, 1, 4000, 2, 0, 0, false⟩] } },
    0, 67108863, by decide +kernel⟩,
   ⟨held, by decide +kernel⟩⟩

/-- States and operands that meet the hypotheses of FabricMessagesAreAnswered, clause by clause. -/
theorem wit_FabricMessagesAreAnswered :
    (∃ (m : Msg) (s : State) (d : State), s.selects fabricSetIdentityCmd m d ∧ m.chan ≠ 3 ∧ m.word 1 ≠ 0 ∧
      d.keepWorn (identityWords m) = false ∧ d.keep.job = none) ∧
    (∃ (m : Msg) (s : State) (d : State), s.selects fabricLinkSetCmd m d ∧ (let r := m.get 1 0 8; m.chan ≠ 3 ∧
      m.stray 1 0x1B0FF = false ∧ (r < 96 ∨ (128 ≤ r ∧ r < 132 ∧ m.flag 1 16 = true)) ∧ (m.flag 1 16 = true → r < 96 →
      d.foreignMode r = false) ∧ (m.flag 1 15 = true → d.keepIdentity.2 ≠ 0) ∧ (m.flag 1 16 = true → r < 96 →
      (d.schedProj.fabLink r).designated = false → d.designatedCount < 16))) ∧
    (∃ (m : Msg) (s : State) (d : State), s.selects fabricStatusCmd m d ∧ m.stray 1 1 = false) ∧
    (∃ (m : Msg) (s : State) (d : State), s.selects fabricStageCmd m d ∧ m.stray 1 0xF0003FFF = false ∧
      m.get 1 30 2 = 0 ∧ m.get 1 28 2 = 0 ∧ m.get 1 0 14 = 0 ∧ m.word 3 = 0 ∧ m.word 4 = 0 ∧ m.word 2 < 2 ^ 24 ∧ (∀ k,
      k < 8 → fld (m.word 2) (3 * k) 3 ≠ 0)) ∧
    (∃ (m : Msg) (s : State) (d : State), s.selects fabricStageCmd m d ∧ (let c := d.fabric.staged;
      m.stray 1 0xF0003FFF = false ∧ m.get 1 28 2 = 1 ∧ m.get 1 0 14 ≠ 0 ∧
      (cfgEntry c (m.get 1 0 14) ≠ none ∨ c.entries.length < 16383) ∧ m.get 1 30 2 = 0 ∧
      repEntryBad m (repEntryOf m) = false)) ∧
    (∃ (m : Msg) (s : State) (d : State), s.selects fabricStageCmd m d ∧ (let c := d.fabric.staged;
      m.stray 1 0xF0003FFF = false ∧ m.get 1 28 2 = 1 ∧ m.get 1 0 14 ≠ 0 ∧
      (cfgEntry c (m.get 1 0 14) ≠ none ∨ c.entries.length < 16383) ∧ m.get 1 30 2 = 1 ∧ m.word 3 = 0 ∧
      m.word 4 = 0)) ∧
    (∃ (m : Msg) (s : State) (d : State), s.selects fabricPrepareCmd m d ∧ (let c := d.fabric.staged;
      m.stray 1 0xFFFF = false ∧ (m.get 1 0 16 = 0 ∨ 400 ≤ m.get 1 0 16) ∧ d.fabric.prep = none ∧
      d.fabric.state ≠ .inaugurating ∧ d.isTop = true ∧ d.fabFits c = true)) ∧
    (∃ (m : Msg) (s : State) (d : State), s.selects fabricPrepareCmd m d ∧ (let c := d.fabric.staged;
      m.stray 1 0xFFFF = false ∧ (m.get 1 0 16 = 0 ∨ 400 ≤ m.get 1 0 16) ∧ d.fabric.prep = none ∧
      d.fabric.state ≠ .inaugurating ∧ d.isTop = true ∧ d.fabFits c = false)) ∧
    (∃ (m : Msg) (s : State) (d : State), s.selects fabricPrepareCmd m d ∧ m.stray 1 0xFFFF = false ∧
      (m.get 1 0 16 = 0 ∨ 400 ≤ m.get 1 0 16) ∧ d.fabric.prep = none ∧ d.fabric.state ≠ .inaugurating ∧
      d.isTop = false) ∧
    (∃ (m : Msg) (s : State) (d : State) (e : _), s.selects frerStatusCmd m d ∧ m.stray 1 0x7FFF = false ∧
      m.get 1 0 14 ≠ 0 ∧ cfgEntry d.fabric.cfg (m.get 1 0 14) = some e) ∧
    (∃ (m : Msg) (s : State) (d : State), s.selects frerStatusCmd m d ∧ m.stray 1 0x7FFF = false ∧ m.get 1 0 14 ≠ 0 ∧
      cfgEntry d.fabric.cfg (m.get 1 0 14) = none) :=
  ⟨⟨msg (7 :: List.replicate 8 0), run, _, sel_spec (by decide +kernel), by decide +kernel⟩,
   ⟨msg [95 + 65536], run, _, sel_spec (by decide +kernel), by decide +kernel⟩,
   ⟨msg [1], run, _, sel_spec (by decide +kernel), by decide +kernel⟩,
   ⟨msg [0, 0xFFFFFF, 0, 0], run, _, sel_spec (by decide +kernel), by decide +kernel⟩,
   ⟨msg [2 ^ 28 + 16383, 0x11111112, 7 * 2 ^ 29 + 32 * 2 ^ 23 + 5, 65535], run, _, sel_spec (by decide +kernel),
    by decide +kernel⟩,
   ⟨msg [2 ^ 30 + 2 ^ 28 + 16383, 0, 0, 0], run, _, sel_spec (by decide +kernel), by decide +kernel⟩,
   ⟨msg [400], run, _, sel_spec (by decide +kernel), by decide +kernel⟩,
   ⟨msg [400],
    { run with fabric := { run.fabric with staged := ⟨0, List.replicate 16385 { rep with dst := run.fabric.path }⟩ } },
    _, sel_spec (by decide +kernel), by decide +kernel⟩,
   ⟨msg [400], fab 10, _, sel_spec (by decide +kernel), by decide +kernel⟩,
   ⟨msg [16383], { run with fabric := { run.fabric with cfg := ⟨0, [rep]⟩ } }, _, rep, sel_spec (by decide +kernel),
    by decide +kernel⟩,
   ⟨msg [16383], run, _, sel_spec (by decide +kernel), by decide +kernel⟩⟩

/-- States and operands that meet the hypotheses of FabricMessagesOfTheLinksComplete, clause by clause. -/
theorem wit_FabricMessagesOfTheLinksComplete :
    (∃ (s : State) (root : Nat), s.fabOn = true ∧ s.linkOpen root = true ∧ s.helloDue root = true) ∧
    (∃ (s : State) (root : Nat) (h : Hello), s.fabOn = true ∧ s.linkOpen root = true ∧ h.fabricId ≠ s.fabric.fid) ∧
    (∃ (s : State) (root : Nat) (h : Hello), s.fabOn = true ∧ s.linkOpen root = true ∧ h.fabricId = s.fabric.fid ∧
      h.macsec ≠ (s.fabLink root).macsec) ∧
    (∃ (s : State) (root : Nat) (h : Hello) (a : _), s.fabOn = true ∧ s.linkOpen root = true ∧
      h.fabricId = s.fabric.fid ∧ h.macsec = (s.fabLink root).macsec ∧ s.adj root = some a ∧
      a.hello.serial = h.serial ∧ a.hello.port = h.port ∧ a.hello.boundary = h.boundary) ∧
    (∃ (s : State) (root : Nat) (a : Adj), s.fabOn = true ∧ s.adj root = some a ∧ a.rxTick + 120 < s.now) ∧
    (∃ (s : State), s.fabOn = true ∧ (s.fabric.topoDue = true ∨ s.fabric.topoSent + 4000 ≤ s.now)) ∧
    (∃ (s : State) (root : Nat) (r : TopoRec), s.fabOn = true ∧ (s.adj root).isSome = true ∧ r.serial ≠ s.serial ∧
      s.topoNewer r = true) ∧
    (∃ (s : State) (te : Nat), s.fabOn = true ∧ s.fabric.elected = some te ∧ s.fabric.routesSent = false) ∧
    (∃ (s : State) (r : RouteIn), s.fabOn = true ∧ (s.adj r.root).isSome = true ∧ s.excluded r.root = true) ∧
    (∃ (s : State) (r : RouteIn), s.fabOn = true ∧ (s.adj r.root).isSome = true ∧ s.excluded r.root = false ∧
      s.isTop = false ∧ tfind s.fabric.routeRecs r.route.serial = some r.route) ∧
    (∃ (s : State) (r : RouteIn), s.fabOn = true ∧ (s.adj r.root).isSome = true ∧ s.excluded r.root = false ∧
      s.isTop = false ∧ tfind s.fabric.routeRecs r.route.serial ≠ some r.route) ∧
    (∃ (s : State) (k : KeyIn), s.fabOn = true ∧ (s.adj k.root).isSome = true ∧ s.excluded k.root = false ∧
      k.serial = s.serial ∧ s.hasKey = true ∧ 1 ≤ k.level ∧ k.level ≤ 4) ∧
    (∃ (s : State) (k : KeyIn) (wrapped : BitVec 320), s.fabOn = true ∧ (s.adj k.root).isSome = true ∧
      s.excluded k.root = false ∧ k.serial ≠ s.serial ∧ s.fabric.keySeen.contains (k.level, k.serial,
      wrapped) = true) ∧
    (∃ (s : State) (k : KeyIn) (wrapped : BitVec 320), s.fabOn = true ∧ (s.adj k.root).isSome = true ∧
      s.excluded k.root = false ∧ k.serial ≠ s.serial ∧ s.fabric.keySeen.contains (k.level, k.serial,
      wrapped) = false) ∧
    (∃ (s : State) (r : RouteRec), s.fabOn = true ∧ s.fabric.pendRoute = some r ∧ r.tc ≤ s.now) :=
  ⟨⟨fab 8, 95, by decide +kernel⟩,
   ⟨fab 8, 95, { hello with fabricId := 8 }, by decide +kernel⟩,
   ⟨fab 8, 95, { hello with macsec := true }, by decide +kernel⟩,
   ⟨fab 8, 95, hello, ⟨95, hello, 3879⟩, by decide +kernel⟩,
   ⟨fab 8, 95, ⟨95, hello, 3879⟩, by decide +kernel⟩,
   ⟨(fab 8).modFabric (fun f => { f with topoDue := true }), by decide +kernel⟩,
   ⟨fab 8, 95, ⟨9, 2, 0, 0, []⟩, by decide +kernel⟩,
   ⟨(fab 8).modFabric (fun f => { f with elected := some 4000 }), 4000, by decide +kernel⟩,
   ⟨apart, ⟨95, route⟩, by decide +kernel⟩,
   ⟨(fab 10).modFabric (fun f => { f with routeRecs := [(10, route)] }), ⟨95, route⟩, by decide +kernel⟩,
   ⟨fab 10, ⟨95, route⟩, by decide +kernel⟩,
   ⟨fab 8, ⟨95, 4, 8⟩, by decide +kernel⟩,
   ⟨(fab 8).modFabric (fun f => { f with keySeen := [(1, 9, 0)] }), ⟨95, 1, 9⟩, 0, by decide +kernel⟩,
   ⟨fab 8, ⟨95, 4, 9⟩, 0, by decide +kernel⟩,
   ⟨(fab 10).modFabric (fun f => { f with pendRoute := some route }), route, by decide +kernel⟩⟩

/-- States and operands that meet the hypotheses of FabricCommitsAndTimeComplete, clause by clause. -/
theorem wit_FabricCommitsAndTimeComplete :
    (∃ (s : State) (epoch : Nat) (act : Nat) (o : PrepareIn), s.fabOn = true ∧ s.fabric.path ≠ 0 ∧
      (s.adj o.root).isSome = true ∧ s.excluded o.root = false ∧ o.dst = 0 ∧ s.isTop = false ∧
      s.fabric.holds epoch act = false) ∧
    (∃ (s : State) (o : PrepareIn) (cfg : FabConfig), s.fabOn = true ∧ s.fabric.path ≠ 0 ∧
      (s.adj o.root).isSome = true ∧ s.excluded o.root = false ∧ o.dst = s.fabric.path ∧ s.isTop = true ∧
      s.fabric.prep = none ∧ s.fabric.state ≠ .inaugurating ∧ s.fabFits cfg = true) ∧
    (∃ (s : State) (o : PrepareIn) (cfg : FabConfig), s.fabOn = true ∧ s.fabric.path ≠ 0 ∧
      (s.adj o.root).isSome = true ∧ s.excluded o.root = false ∧ o.dst = s.fabric.path ∧ s.isTop = true ∧
      s.fabric.prep = none ∧ s.fabric.state ≠ .inaugurating ∧ s.fabFits cfg = false) ∧
    (∃ (s : State) (o : PrepareIn), s.fabOn = true ∧ s.fabric.path ≠ 0 ∧ (s.adj o.root).isSome = true ∧
      s.excluded o.root = false ∧ o.dst = s.fabric.path ∧ s.isTop = true ∧ s.fabric.prep ≠ none) ∧
    (∃ (s : State) (p : Prepare) (code : Nat), s.fabOn = true ∧ s.fabric.prep = some p ∧ p.leader = true ∧
      p.committed = false ∧ code ≠ 0) ∧
    (∃ (s : State) (p : Prepare) (path : Nat) (code : Nat),
      let l := if p.answers.any (fun a => a.1 == path) then p.answers else p.answers ++ [(path, code)];
      s.fabOn = true ∧ s.fabric.prep = some p ∧ p.leader = true ∧ p.committed = false ∧ code = 0 ∧
      s.otherPaths.all (fun q => l.any (fun a => a.1 == q)) = false) ∧
    (∃ (s : State) (p : Prepare) (path : Nat) (code : Nat),
      let l := if p.answers.any (fun a => a.1 == path) then p.answers else p.answers ++ [(path, code)];
      s.fabOn = true ∧ s.fabric.prep = some p ∧ p.leader = true ∧ p.committed = false ∧ code = 0 ∧
      s.otherPaths.all (fun q => l.any (fun a => a.1 == q)) = true) ∧
    (∃ (s : State) (p : Prepare), s.fabOn = true ∧ s.fabric.prep = some p ∧ p.leader = true ∧ p.committed = false ∧
      p.act ≤ s.now + p.reach + 40) ∧
    (∃ (s : State) (p : Prepare), s.fabOn = true ∧ s.fabric.prep = some p ∧ p.leader = false ∧ p.act = 0 ∧
      p.reply.isSome = true ∧ p.reach ≤ s.now) ∧
    (∃ (s : State) (p : Prepare) (root : Nat), s.fabOn = true ∧ s.fabric.prep = some p ∧ p.leader = false ∧
      p.committed = false ∧ (s.adj root).isSome = true ∧ s.excluded root = false ∧ p.act ≠ 0) ∧
    (∃ (s : State) (p : Prepare), s.fabOn = true ∧ s.fabric.prep = some p ∧ p.act ≠ 0 ∧ p.act ≤ s.now ∧
      p.committed = true) ∧
    (∃ (s : State) (p : Prepare), s.fabOn = true ∧ s.fabric.prep = some p ∧ p.act ≠ 0 ∧ p.act ≤ s.now ∧
      p.committed = false) ∧
    (∃ (s : State) (root : Nat), s.fabOn = true ∧ (s.adj root).isSome = true ∧ s.differs = false) ∧
    (∃ (s : State) (digest : Nat) (cfg : FabConfig), s.fabOn = true ∧ s.differs = true ∧ cfgDigest cfg = digest) ∧
    (∃ (s : State) (epoch : Nat) (edge : Nat) (cfg : FabConfig), s.fabOn = true ∧ s.fabric.catchup = some (epoch, cfg,
      edge) ∧ edge ≤ s.now ∧ s.fabFits cfg = true) ∧
    (∃ (s : State), s.fabOn = true ∧ s.isTop = true ∧ syncEdge s.fabric.syncNext ≤ s.now) ∧
    (∃ (s : State) (x : SyncHeld), s.fabOn = true ∧ s.isTop = false ∧ s.fabric.syncPass = some x ∧ x.due ≤ s.now) ∧
    (∃ (s : State) (y : SyncIn), s.fabOn = true ∧ s.isTop = false ∧ s.uplink ≠ some y.root) ∧
    (∃ (s : State) (y : SyncIn), s.fabOn = true ∧ s.isTop = false ∧ s.uplink = some y.root) ∧
    (∃ (s : State) (root : Nat), s.fabOn = true ∧ root < 96 ∧ s.linkUp root = true) ∧
    (∃ (s : State) (root : Nat) (ckn : Word), s.fabOn = true ∧ s.linkUp root = true ∧ (s.fabLink root).macsec = true ∧
      s.hasKey = true ∧ ckn.toNat = s.fabric.fid) :=
  ⟨⟨fab 10, 1, 5000, ⟨95, 0x1112, 0⟩, by decide +kernel⟩,
   ⟨fab 8, ⟨95, 0x1112, (fab 8).fabric.path⟩, ⟨0, []⟩, by decide +kernel⟩,
   ⟨fab 8, ⟨95, 0x1112, (fab 8).fabric.path⟩, ⟨0, List.replicate 16385 { rep with dst := (fab 8).fabric.path }⟩,
    by decide +kernel⟩,
   ⟨preparing 8 (prep true false), ⟨95, 0x1112, (fab 8).fabric.path⟩, by decide +kernel⟩,
   ⟨preparing 8 (prep true false), prep true false, 7, by decide +kernel⟩,
   ⟨preparing 8 (prep true false), prep true false, 0x1113, 0, by decide +kernel⟩,
   ⟨preparing 8 (prep true false), prep true false, 0x1112, 0, by decide +kernel⟩,
   ⟨preparing 8 { prep true false with act := 4100 }, { prep true false with act := 4100 }, by decide +kernel⟩,
   ⟨preparing 10 ⟨false, 1, 0, 0, 4000, ⟨0, []⟩, [], false, some ⟨0, 7, 0, 0⟩⟩, ⟨false, 1, 0, 0, 4000, ⟨0, []⟩, [],
    false, some ⟨0, 7, 0, 0⟩⟩, by decide +kernel⟩,
   ⟨preparing 10 (prep false false), prep false false, 95, by decide +kernel⟩,
   ⟨preparing 8 (prep true true), prep true true, by decide +kernel⟩,
   ⟨preparing 10 (prep false false), prep false false, by decide +kernel⟩,
   ⟨fab 8, 95, by decide +kernel⟩,
   ⟨(fab 8).modFabric (fun f => { f with epoch := 3 }), cfgDigest ⟨0, []⟩, ⟨0, []⟩, by decide +kernel⟩,
   ⟨(fab 10).modFabric (fun f => { f with catchup := some (1, ⟨0, []⟩, 4000) }), 1, 4000, ⟨0, []⟩, by decide +kernel⟩,
   ⟨fab 8, by decide +kernel⟩,
   ⟨(fab 10).modFabric (fun f => { f with syncPass := some ⟨4000, 0, 0, 0, 0⟩ }), ⟨4000, 0, 0, 0, 0⟩,
    by decide +kernel⟩,
   ⟨fab 10, ⟨94, 0, 0, 0, 0⟩, by decide +kernel⟩,
   ⟨fab 10, ⟨95, 0, 0, 0, 0⟩, by decide +kernel⟩,
   ⟨fab 8, 95, by decide +kernel⟩,
   ⟨(fab 8).modFabric (fun f => { f with links := [(95, ⟨true, true, 0, 4, 0, none, 1, none⟩)] }), 95, 7,
    by decide +kernel⟩⟩

/-- States and operands that meet the hypotheses of FaultMessagesAreAnswered, clause by clause. -/
theorem wit_FaultMessagesAreAnswered :
    (∃ (code : Nat) (unit : Nat) (detail : Word) (s : State), s.awake = true ∧ isFatal code = true ∧
      fatalCan code unit detail = false) ∧
    (∃ (code : Nat) (unit : Nat) (detail : Word) (s : State), s.awake = true ∧ isFatal code = true ∧
      fatalCan code unit detail = true ∧ code ≠ 0x0D01 ∧ code ≠ 0x0D02 ∧ code ≠ 0x0D03) ∧
    (∃ (code : Nat) (unit : Nat) (detail : Word) (s : State), s.awake = true ∧ isFatal code = true ∧
      fatalCan code unit detail = true ∧ code = 0x0D01) ∧
    (∃ (code : Nat) (unit : Nat) (detail : Word) (s : State), s.awake = true ∧ isFatal code = true ∧
      fatalCan code unit detail = true ∧ code = 0x0D02 ∧ s.faults.parityA = true ∧ s.faults.parityB = true) ∧
    (∃ (code : Nat) (unit : Nat) (detail : Word) (s : State), s.awake = true ∧ isFatal code = true ∧
      fatalCan code unit detail = true ∧ code = 0x0D03) ∧
    (∃ (m : Msg) (s : State) (d : State), s.selects faultStatusCmd m d ∧ m.stray 1 0x3F = false) ∧
    (∃ (m : Msg) (s : State) (d : State), s.selects faultClearCmd m d ∧ m.flag 1 16 = false ∧
      m.stray 1 0x1FFFF = false ∧ levelOf (m.get 1 0 16) = 2 ∧ d.present (m.get 1 0 16) = false ∧
      (∃ n ∈ d.faults.notices, n.code = m.get 1 0 16)) ∧
    (∃ (m : Msg) (s : State) (d : State), s.selects faultClearCmd m d ∧ m.flag 1 16 = true ∧
      m.stray 1 0x1FFFF = false ∧ m.get 1 0 16 = 0) ∧
    (∃ (m : Msg) (s : State) (d : State), s.selects faultConfigCmd m d ∧ m.stray 3 0xFFFF = false ∧ m.get 1 0 16 ≠ 0 ∧
      m.get 1 16 16 ≠ 0 ∧ m.get 2 0 16 ≠ 0 ∧ m.get 2 16 16 ≠ 0 ∧ m.get 3 0 16 ≠ 0) ∧
    (∃ (m : Msg) (s : State) (d : State), s.selects faultInjectCmd m d ∧ m.word 2 = 0x5AC3 ∧
      isFault (m.get 1 0 16) = true ∧ faultUnitOk (m.get 1 0 16) (m.get 1 16 8) = true ∧ m.stray 1 0xFFFFFF = false ∧
      d.life.state.open = true ∧ isFatal (m.get 1 0 16) = false ∧ isChannel (m.get 1 0 16) = true) ∧
    (∃ (m : Msg) (s : State) (d : State), s.selects faultInjectCmd m d ∧ m.word 2 = 0x5AC3 ∧
      isFault (m.get 1 0 16) = true ∧ faultUnitOk (m.get 1 0 16) (m.get 1 16 8) = true ∧ m.stray 1 0xFFFFFF = false ∧
      d.life.state.open = true ∧ isFatal (m.get 1 0 16) = false ∧ isChannel (m.get 1 0 16) = false) ∧
    (∃ (m : Msg) (s : State) (d : State), s.selects faultInjectCmd m d ∧ m.word 2 = 0x5AC3 ∧
      isFault (m.get 1 0 16) = true ∧ faultUnitOk (m.get 1 0 16) (m.get 1 16 8) = true ∧ m.stray 1 0xFFFFFF = false ∧
      d.life.state.open = true ∧ isFatal (m.get 1 0 16) = true) :=
  ⟨⟨0x3B02, 9, 0, run, by decide +kernel⟩,
   ⟨0x3B02, 8, 0, run, by decide +kernel⟩,
   ⟨0x0D01, 1, 0, run, by decide +kernel⟩,
   ⟨0x0D02, 0, 0, run, by decide +kernel⟩,
   ⟨0x0D03, 1, 0, run, by decide +kernel⟩,
   ⟨msg [63], run, _, sel_spec (by decide +kernel), by decide +kernel⟩,
   ⟨msg [0x2D01], { run with faults := { run.faults with notices := [⟨0x2D01, 1, 9⟩] } }, _,
    sel_spec (by decide +kernel), by decide +kernel⟩,
   ⟨msg [65536], run, _, sel_spec (by decide +kernel), by decide +kernel⟩,
   ⟨msg [0x00010001, 0x00010001, 1], run, _, sel_spec (by decide +kernel), by decide +kernel⟩,
   ⟨msg [0x1201 + 95 * 65536, 0x5AC3], bench, _, sel_spec (by decide +kernel), by decide +kernel⟩,
   ⟨msg [0x2D01 + 9 * 65536, 0x5AC3], bench, _, sel_spec (by decide +kernel), by decide +kernel⟩,
   ⟨msg [0x0D01 + 255 * 65536, 0x5AC3], bench, _, sel_spec (by decide +kernel), by decide +kernel⟩⟩

/-- States and operands that meet the hypotheses of SensorCommandsComplete, clause by clause. -/
theorem wit_SensorCommandsComplete :
    (∃ (m : Msg) (s : State) (d : State), s.selects thermalSetCmd m d ∧ m.stray 1 0xFFFF = false ∧ 40 ≤ m.get 1 0 8 ∧
      m.get 1 0 8 < m.get 1 8 8 ∧ 50 ≤ m.get 1 8 8 ∧ m.get 1 8 8 ≤ (if d.fuses.gradeX then 127 else 112)) ∧
    (∃ (m : Msg) (s : State) (d : State), s.selects thermalStatusCmd m d ∧ m.stray 1 0 = false) ∧
    (∃ (s : State), s.supervised = true) ∧
    (∃ (x : Sensor) (v : Int) (warn : Int), x.lost = false ∧ x.warn = false ∧ 4 * warn ≤ v + x.offset / 16 ∧
      x.warnUp < 255) ∧
    (∃ (x : Sensor) (v : Int) (warn : Int), x.lost = false ∧ x.warn = false ∧ v + x.offset / 16 < 4 * warn) ∧
    (∃ (x : Sensor) (v : Int) (damp : Int), x.lost = false ∧ x.damp = false ∧ 4 * damp ≤ v + x.offset / 16 ∧
      x.dampUp < 255) ∧
    (∃ (x : Sensor) (v : Int) (damp : Int), x.lost = false ∧ x.damp = false ∧ v + x.offset / 16 < 4 * damp) ∧
    (∃ (x : Sensor) (v : Int) (warn : Int), x.lost = false ∧ x.warn = true ∧ v + x.offset / 16 < 4 * (warn - 4) ∧
      x.warnDn < 255) ∧
    (∃ (x : Sensor) (v : Int) (damp : Int), x.lost = false ∧ x.damp = true ∧ v + x.offset / 16 < 4 * (damp - 4) ∧
      x.dampDn < 255) ∧
    (∃ (x : Sensor), x.lost = false ∧ x.invalid < 255) ∧
    (∃ (k : Nat) (s : State), let x := s.sensor k; s.supervised = true ∧ k < 10 ∧ x.warn = false ∧ 40 ≤ x.warnUp) ∧
    (∃ (k : Nat) (s : State), let x := s.sensor k; s.supervised = true ∧ k < 10 ∧ x.warn = true ∧ 40 ≤ x.warnDn) ∧
    (∃ (k : Nat) (s : State), let x := s.sensor k; s.supervised = true ∧ k < 10 ∧ x.damp = false ∧ 40 ≤ x.dampUp) ∧
    (∃ (k : Nat) (s : State), let x := s.sensor k; s.supervised = true ∧ k < 10 ∧ k < s.thermal.sensors.length ∧
      x.damp = true) ∧
    (∃ (k : Nat) (s : State), let x := s.sensor k; s.supervised = true ∧ k < 10 ∧ x.lost = false ∧ 40 ≤ x.invalid) ∧
    (∃ (k : Nat) (s : State), let x := s.sensor k; s.supervised = true ∧ k < 10 ∧ x.lost = true ∧ 40 ≤ x.validRun) :=
  ⟨⟨msg [111 + 112 * 256], run, _, sel_spec (by decide +kernel), by decide +kernel⟩,
   ⟨msg [0], run, _, sel_spec (by decide +kernel), by decide +kernel⟩,
   ⟨run, by decide +kernel⟩,
   ⟨Sensor.reset, 400, 100, by decide +kernel⟩,
   ⟨Sensor.reset, 399, 100, by decide +kernel⟩,
   ⟨Sensor.reset, 448, 112, by decide +kernel⟩,
   ⟨Sensor.reset, 447, 112, by decide +kernel⟩,
   ⟨{ Sensor.reset with warn := true }, 383, 100, by decide +kernel⟩,
   ⟨{ Sensor.reset with damp := true }, 431, 112, by decide +kernel⟩,
   ⟨{ Sensor.reset with invalid := 254 }, by decide +kernel⟩,
   ⟨9, sensed { Sensor.reset with warnUp := 40 }, by decide +kernel⟩,
   ⟨9, sensed { Sensor.reset with warn := true, warnDn := 40 }, by decide +kernel⟩,
   ⟨9, sensed { Sensor.reset with dampUp := 40 }, by decide +kernel⟩,
   ⟨9, sensed { Sensor.reset with damp := true }, by decide +kernel⟩,
   ⟨9, sensed { Sensor.reset with invalid := 40 }, by decide +kernel⟩,
   ⟨9, sensed { Sensor.reset with lost := true, validRun := 40 }, by decide +kernel⟩⟩

/-- States and operands that meet the hypotheses of DiscreteInputCommandsComplete, clause by clause. -/
theorem wit_DiscreteInputCommandsComplete :
    (∃ (m : Msg) (s : State) (d : State), s.selects dinConfigCmd m d ∧ m.stray 1 0x00FFF0FF = false ∧
      m.get 1 16 8 ≠ 0 ∧ 0 ∉ (dinOf m).d ∧ d.policyLoses (dinOf m) = false) ∧
    (∃ (m : Msg) (s : State) (d : State), s.selects dinStatusCmd m d ∧ m.stray 1 0 = false) ∧
    (∃ (s : State), s.supervised = true ∧ s.din.inputs.length = 4) ∧
    (∃ (k : Nat) (s : State), s.supervised = true ∧ k < 4 ∧ s.din.inputs.length = 4 ∧ (s.input k).fault = false ∧
      (s.input k).cand ≠ (s.input k).value ∧ s.din.cfg.filter ≤ (s.input k).filt) ∧
    (∃ (k : Nat) (s : State), s.supervised = true ∧ k < 4 ∧ s.din.inputs.length = 4 ∧ s.din.cfg.dual k = true ∧
      (s.input k).fault = false ∧ s.din.cfg.d.getD k 0 ≤ (s.input k).run) ∧
    (∃ (k : Nat) (s : State), s.supervised = true ∧ k < 4 ∧ s.din.inputs.length = 4 ∧ (s.input k).fault = true ∧
      (s.input k).quietNeed ≠ 0 ∧ (s.input k).quietNeed ≤ (s.input k).quiet) ∧
    (∃ (s : State), (s.boot.power = .banked ∨ s.boot.power = .ember) ∧ s.din.inputs.length = 4) :=
  ⟨⟨msg [255 * 65536 + 0x80F0, 0x00010001, 0x00010001], run, _, sel_spec (by decide +kernel), by decide +kernel⟩,
   ⟨msg [0], run, _, sel_spec (by decide +kernel), by decide +kernel⟩,
   ⟨run, by decide +kernel⟩,
   ⟨3, inputOf run.din.cfg { Din.reset with cand := true, filt := 255 }, by decide +kernel⟩,
   ⟨3, inputOf ⟨1, 0, 15, 15, [1, 1, 1, 65535]⟩ { Din.reset with run := 65535 }, by decide +kernel⟩,
   ⟨3, inputOf run.din.cfg { Din.reset with fault := true, quietNeed := 4000, quiet := 4000 }, by decide +kernel⟩,
   ⟨asleep .ember, by decide +kernel⟩⟩

/-- States and operands that meet the hypotheses of CalibrationCommandsComplete, clause by clause. -/
theorem wit_CalibrationCommandsComplete :
    (∃ (m : Msg) (s : State) (d : State), s.selects calConfigCmd m d ∧ m.stray 1 0xFFFF = false ∧
      m.get 1 0 4 + m.get 1 4 4 + m.get 1 8 4 + m.get 1 12 4 + 1 ≤ 16) ∧
    (∃ (m : Msg) (s : State) (d : State), s.selects calStatusCmd m d ∧ m.stray 1 0xFF = false ∧ m.get 1 0 8 ≤ 135 ∧
      d.domOn (domOfRoot (m.get 1 0 8)) = true) ∧
    (∃ (m : Msg) (s : State) (d : State), s.selects calCommitCmd m d ∧ (m.stray 1 0xC0FFFF0F = false ∧
      (m.flag 1 31 = false → m.get 1 16 8 = 0) ∧ d.commitWords m ≠ [] ∧ (∀ u ∈ commitUnits m,
      (d.calUnit u).stale = false ∧ (d.calUnit u).ever = true ∧ d.domOn (domOfRoot u) = true) ∧
      d.calSuspended = false ∧ (m.flag 1 31 = true → d.thermal.sensors.any Sensor.lost = false ∧
      (d.life.state = .maker ∨ d.life.state = .ret)) ∧ d.keepWorn (d.commitWords m) = false ∧ d.keep.job = none)) ∧
    (∃ (s : State), s.working = true ∧ s.now % 400 = 0 ∧ 255 ∉ s.cal.served) ∧
    (∃ (unit : Nat) (s : State), s.working = true ∧ unit < 136 ∧ s.slicesRun = true ∧ (s.skimUnit unit).ran = none ∧
      s.calSuspended = false ∧ s.servedOf (calClass unit) < s.cal.cfg.alloc (calClass unit) ∧
      s.nextServed (calClass unit) = some unit) ∧
    (∃ (unit : Nat) (s : State), s.live = true ∧ unit < 136 ∧ s.domOn (domOfRoot unit) = true ∧
      (s.calUnit unit).stale = false ∧ (s.calUnit unit).doneTick + 2 ^ 20 ≤ s.now) :=
  ⟨⟨msg [0x3444], run, _, sel_spec (by decide +kernel), by decide +kernel⟩,
   ⟨msg [135], run, _, sel_spec (by decide +kernel), by decide +kernel⟩,
   ⟨msg [2 ^ 30 + 2 ^ 11], { run with cal := { run.cal with units := [(131, { CalUnit.reset with ever := true })] } },
    _, sel_spec (by decide +kernel), by decide +kernel⟩,
   ⟨run, by decide +kernel⟩,
   ⟨95, { run with time := ⟨4001, true, false⟩, cal := { run.cal with last := [94, 0, 0, 0] } }, by decide +kernel⟩,
   ⟨135, { run with time := ⟨2 ^ 20, true, true⟩ }, by decide +kernel⟩⟩

/-- States and operands that meet the hypotheses of SelfTestAndSkimComplete, clause by clause. -/
theorem wit_SelfTestAndSkimComplete :
    (∃ (m : Msg) (s : State) (d : State), s.selects selftestRunCmd m d ∧ m.stray 1 0x1FFF = false ∧ m.get 1 0 13 ≠ 0 ∧
      d.life.state.open = true ∧ d.testBusy = false ∧ d.powerBusy = false) ∧
    (∃ (m : Msg) (s : State) (d : State), s.selects selftestResultCmd m d ∧ m.stray 1 0xFF = false ∧
      (m.get 1 0 8 ≤ 135 ∨ m.get 1 0 8 = 0xFF)) ∧
    (∃ (m : Msg) (s : State) (d : State), s.selects skimConfigCmd m d ∧ m.stray 1 0xFFFF8007 = false ∧
      m.get 1 16 16 ≠ 0 ∧ 1 ≤ m.get 1 0 3 ∧ m.get 1 0 3 ≤ 4 ∧ (m.flag 1 15 = true → d.life.state.skims = true)) ∧
    (∃ (m : Msg) (s : State) (d : State), s.selects skimStatusCmd m d ∧ m.stray 1 0x1FF = false ∧ m.get 1 0 8 ≤ 135) ∧
    (∃ (g : List Nat) (rest : List (List Nat)) (s : State), s.live = true ∧ s.test.state = 1 ∧ s.test.active = [] ∧
      s.test.groups = g :: rest ∧ s.test.start ≤ s.now) ∧
    (∃ (unit : Nat) (check : Nat) (s : State), s.live = true ∧ s.test.state = 1 ∧ unit ∈ s.test.active ∧ check = 0 ∧
      s.test.start + testTime unit ≤ s.now) ∧
    (∃ (unit : Nat) (check : Nat) (s : State), s.live = true ∧ s.test.state = 1 ∧ unit ∈ s.test.active ∧
      checkFits unit check = true ∧ check ≠ 0) ∧
    (∃ (unit : Nat) (check : Nat) (s : State), s.skimActive = true ∧ s.skimDue unit = true ∧ s.inGap unit = true ∧
      unit ∉ s.cal.served ∧ (s.skimUnit unit).ran = none ∧ skimCheckOk check = true ∧ s.skimTakes unit = true ∧
      s.now < (s.skimUnit unit).next) ∧
    (∃ (unit : Nat) (check : Nat) (n : Nat) (s : State), (s.skimUnit unit).ran = some check ∧
      (s.skimUnit unit).slices = some n ∧ n + 1 < skimLen unit) ∧
    (∃ (unit : Nat) (check : Nat) (n : Nat) (s : State), (s.skimUnit unit).ran = some check ∧
      (s.skimUnit unit).slices = some n ∧ skimLen unit ≤ n + 1) ∧
    (∃ (unit : Nat) (s : State), s.skimActive = true ∧ s.skimDue unit = true ∧ (s.skimUnit unit).next ≤ s.now) :=
  ⟨⟨msg [0x1FFF], bench, _, sel_spec (by decide +kernel), by decide +kernel⟩,
   ⟨msg [255], run, _, sel_spec (by decide +kernel), by decide +kernel⟩,
   ⟨msg [4 + 2 ^ 15 + 65535 * 65536], bench, _, sel_spec (by decide +kernel), by decide +kernel⟩,
   ⟨msg [135], run, _, sel_spec (by decide +kernel), by decide +kernel⟩,
   ⟨[95], [], { tested with test := { tested.test with active := [], groups := [[95]], start := 4000 } },
    by decide +kernel⟩,
   ⟨95, 0, tested, by decide +kernel⟩,
   ⟨95, 6, tested, by decide +kernel⟩,
   ⟨135, 6, skimmed due, by decide +kernel⟩,
   ⟨135, 6, 6, skimmed { due with slices := some 6, ran := some 6 }, by decide +kernel⟩,
   ⟨135, 6, 7, skimmed { due with slices := some 7, ran := some 6 }, by decide +kernel⟩,
   ⟨135, skimmed { due with next := 4000 }, by decide +kernel⟩⟩

end Sys2Proof.Tests
end

section
/-! SUPPORT. The queue of commands, the general messages, and the rows of the tick sequencer: proofs of O1, O10 and O46. -/
namespace Sys2Proof
open Machine

/-- Settles O1 (R23; log 32): `step` takes the front of the queue. -/
theorem stepRunsCommand : Obligations.StepRunsCommand := by
  refine ⟨fun c rest s => rfl, fun s h => ?_⟩
  rw [step, h]

namespace Machine

/-- Where no cause holds, the command goes on (R595). -/
theorem Reply.unless_of_false {cause : Bool} (c : Code) (k : Reply) (h : cause = false) :
    Reply.unless cause c k = k := by
  rw [h]; rfl

end Machine

/-- Settles O10 (R36, R82, R134 to R140). -/
theorem generalMessagesAreAnswered : Obligations.GeneralMessagesAreAnswered := by
  intro m s d
  refine ⟨fun h => ?_, fun h hn hs => ?_, fun h hs hr hp hk hy => ?_, fun h hg hs hu => ?_, fun h hs hc hw hi => ?_⟩
  · exact congrArg _ (State.mailbox_selects h)
  · refine congrArg _ ((State.mailbox_selects h).trans ?_)
    have hn' : (m.get 1 0 3 == 0) = false := by simpa using by omega
    rw [cmdEventRead, Reply.unless_of_false _ _ (by simp [hn', hs])]
    rfl
  · refine congrArg _ ((State.mailbox_selects h).trans ?_)
    rw [cmdStewardMove, Reply.unless_of_false _ _ hs,
      Reply.unless_of_false _ _ (by simp [hr, hp, hk, State.keepBusy]), Reply.unless_of_false _ _ (by simp [hy])]
    split <;> rfl
  · refine congrArg _ ((State.mailbox_selects h).trans ?_)
    rw [cmdDeviceReset, Reply.unless_of_false _ _ (by simp [hg, hs]),
      Reply.unless_of_false _ _ (by rcases hu with hu | hu <;> simp [hu])]
    rfl
  · refine ⟨_, congrArg _ ((State.mailbox_selects h).trans ?_), rfl⟩
    have hbad : (m.stray 1 0x10F || (!m.flag 1 8 && (m.stray 2 0xFFFF || m.get 2 0 16 == 0))) = false := by
      rcases hw with hw | ⟨h2, h0⟩ <;> simp [*]
    rw [cmdPeerKeySet, Reply.unless_of_false _ _ hbad, Reply.unless_of_false _ _ (by rcases hc with hc | hc <;> simp [hc]),
      Reply.unless_of_false _ _ (by rcases hi with hi | hi <;> simp [hi])]
    rfl

namespace Machine

/-! ## CONFIG_LOAD (R103) -/

/-- A valid image is kept and replayed; the answer is left for later when a message of it works on, and otherwise says how far
the replay came (R102, R103). -/
theorem State.settle_configLoad {m : Msg} {fl : Flash} {d : State} {im : Image} (rt : ReplyTo)
    (hs : m.stray 1 0x101 = false) (hr : Flash.reads fl = true) (hi : flashImage d.fuses fl (m.get 1 0 1) = some im)
    (hb : d.boot.replaying = false) (hf : m.flag 1 8 = false) :
    let r := (d.modBoot (fun b => { b with images := b.images.set (m.get 1 0 1) (some im) })).replay (m.get 1 0 1)
      (d.replyTo m) im.msgs
    d.settle rt (cmdConfigLoad fl m d) = if r.waits then r.s else r.s.ack rt r.words.1 r.words.2 := by
  intro r
  rw [cmdConfigLoad, Reply.unless_of_false _ _ hs, Reply.unless_of_false _ _ (by simp [hi]), Reply.unless_of_false _ _ hb,
    Reply.unless_of_false _ _ (by simp [hr]), hi]
  simp only [hf, Bool.false_eq_true, if_false]
  change d.settle rt (if r.waits = true then _ else _) = _
  split
  · rfl
  · split
    · next hc => rw [hc]; rfl
    · rfl

end Machine

/-- Settles O46 (R23 to R25, R32, R103, R513, R547; log 83). -/
theorem tickEdgesAndCommitsComplete : Obligations.TickEdgesAndCommitsComplete := by
  intro s
  refine ⟨fun hc hr => ?_, fun hc hr => ?_, fun hc ht => ?_, fun hc ht => ?_,
    fun engine die finish h1 h11 hq ht ha hh => ?_, fun m fl d h hs => ?_⟩
  · simp [exec, execTickEdge, hc, hr]
  · simp [exec, execTickEdge, hc, hr]
  · exact ⟨_, by simp [exec, execTickCommit, hc, ht], rfl, rfl⟩
  · simp [exec, execTickCommit, ht]
  · have hh' : (!s.boot.halted || s.faults.dampedDue) = true := by simpa using hh
    simp only [exec, execTickOverrun, hq, ht, ha, hh', h1, h11, Bool.not_false, Bool.and_self, decide_true, Bool.true_and,
      decide_eq_true_eq]
    split <;> rfl
  · have hx : exec (.configLoad m fl) s = .next (d.settle m.rt (cmdConfigLoad fl m d)) :=
      congrArg _ (State.mailbox_selects h)
    refine hx ▸ ⟨fun hr hi => ?_, fun hi hb => ?_, fun hr hb => ?_, fun im hr hi hb => ⟨fun hf => ?_, fun hf => ?_⟩⟩
    · rw [cmdConfigLoad, Reply.unless_of_false _ _ hs, hr, hi]
      rfl
    · have ha : (Flash.reads fl && (flashImage d.fuses fl (m.get 1 0 1)).isNone) = false := by
        rcases hi with hi | hi <;> simp [hi]
      rw [cmdConfigLoad, Reply.unless_of_false _ _ hs, Reply.unless_of_false _ _ ha, hb]
      rfl
    · rw [cmdConfigLoad, Reply.unless_of_false _ _ hs, Reply.unless_of_false _ _ (by simp [hr]),
        Reply.unless_of_false _ _ hb, hr]
      rfl
    · rw [cmdConfigLoad, Reply.unless_of_false _ _ hs, Reply.unless_of_false _ _ (by simp [hi]),
        Reply.unless_of_false _ _ hb, Reply.unless_of_false _ _ (by simp [hr]), hi]
      simp only [hf]
      rfl
    · intro r
      rw [State.settle_configLoad m.rt hs hr hi hb hf]
      change Host.Outcome.next (if r.waits = true then r.s else _) = _
      rw [Replay.words]
      cases r.stop <;> rfl

end Sys2Proof
end

section
/-! SUPPORT. FATAL faults: what they find, record and silence; proof of O14. -/
namespace Sys2Proof
open Machine
namespace Machine

/-! ## FATAL faults (R541 to R547) -/

/-- Codes of FATAL and collector-level faults carry one of the two levels that the summary takes (R532, R546). -/
theorem levelOf_of_isFatal {code : Nat} (h : isFatal code = true) : levelOf code = 0 ∨ levelOf code = 3 := by
  rcases Bool.or_eq_true_iff.mp h with h | h
  · have hall : ∀ c ∈ fatalCodes, levelOf c = 0 ∨ levelOf c = 3 := by decide
    exact hall code (List.contains_iff_mem.mp h)
  · simp only [isOverrun, Bool.and_eq_true, beq_iff_eq] at h
    exact .inr h.1.1.1.1

/-- What the comparison finds is raised (R544). -/
theorem State.collectorCheck_of_compare {s : State} {code : Nat} (h : s.faults.compare = some code) :
    s.collectorCheck = s.fatal code 0xFF := by
  simp [State.collectorCheck, h]

/-- A parity error in a copy of the collector's registers is COLLECTOR_PARITY. -/
theorem State.collectorParity_eq (s : State) (unit : Nat) :
    ∃ f : FaultSt, f = { s.faults with parityA := f.parityA, parityB := f.parityB } ∧
      s.collectorParity unit = ({ s with faults := f } : State).fatal 0x0D01 0xFF := by
  refine ⟨if bit unit 0 then { s.faults with parityB := false } else { s.faults with parityA := false }, by split <;> rfl,
    State.collectorCheck_of_compare ?_⟩
  rw [State.modFaults_faults]
  split <;> simp [FaultSt.compare]

/-- A difference of two copies of good parity is COLLECTOR_DUP. -/
theorem State.collectorDup_eq {s : State} (hp : s.faults.parityA = true ∧ s.faults.parityB = true) :
    s.collectorDup = ({ s with faults := { s.faults with same := false } } : State).fatal 0x0D02 0xFF := by
  obtain ⟨hA, hB⟩ := hp
  rw [State.collectorDup, if_pos (by simp [hA, hB])]
  exact State.collectorCheck_of_compare (by simp [FaultSt.compare, hA, hB])

/-- A FATAL_FAULT is the fault of its code with the UNIT and detail of R547, in a state in which the parity, the comparison or
the token bit that its source checks stands as found (R544, R545). -/
theorem exec_fatalFault {code unit : Nat} {detail : Word} {s : State} (ha : s.awake = true) (hf : isFatal code = true)
    (hc : fatalCan code unit detail = true) (hp : code = 0x0D02 → s.faults.parityA = true ∧ s.faults.parityB = true) :
    ∃ (f : FaultSt) (b : BootSt), f = { s.faults with parityA := f.parityA, parityB := f.parityB, same := f.same } ∧
      b = { s.boot with tokenParity := s.boot.tokenParity && code != 0x0D03
                        stewardSouth := if code = 0x0D03 then bit unit 0 else s.boot.stewardSouth } ∧
      exec (.fatalFault code unit detail) s = .next (({ s with faults := f, boot := b } : State).fatal code
        (if code = 0x0D03 then b2n (bit unit 0) else fatalUnit code unit) (fatalDetail code detail)) := by
  simp only [exec, execFatalFault, ha, hf, hc, Bool.and_self, if_true]
  by_cases h1 : code = 0x0D01
  · obtain ⟨f, hf, he⟩ := s.collectorParity_eq unit
    refine ⟨f, s.boot, hf ▸ rfl, by simp [h1], ?_⟩
    subst h1
    exact congrArg _ he
  by_cases h2 : code = 0x0D02
  · subst h2
    exact ⟨{ s.faults with same := false }, s.boot, rfl, by simp,
      congrArg Host.Outcome.next (State.collectorDup_eq (hp rfl))⟩
  by_cases h3 : code = 0x0D03
  · subst h3
    refine ⟨s.faults, _, rfl, rfl, ?_⟩
    simp [State.tokenBad, State.tokenCheck, State.modBoot, fatalDetail, isOverrun, levelOf, fld]
  · have h3' : (code != 0x0D03) = true := by simpa using h3
    exact ⟨s.faults, s.boot, rfl, by simp [h3, h3'], by simp only [h1, h2, h3, if_false]⟩

/-! ### The fault record (R546) -/

/-- A count saturates at the least upper bound of its width. -/
theorem sat32_eq_min (n : Nat) : sat32 n = min 0xFFFFFFFF n := by
  unfold sat32 satTo
  split <;> omega

@[simp] theorem Record.add_total (r : Record) (e : FaultRec) (detail : Word) : (r.add e detail).total = sat32 (r.total + 1) := by
  unfold Record.add; dsimp only; split <;> rfl

@[simp] theorem Record.add_ring (r : Record) (e : FaultRec) (detail : Word) : (r.add e detail).ring = (r.push e).ring := by
  unfold Record.add; dsimp only; split <;> rfl

/-- The first FATAL or collector-level fault becomes the summary. -/
theorem Record.add_summary {r : Record} {e : FaultRec} (detail : Word) (hl : levelOf e.code = 0 ∨ levelOf e.code = 3)
    (hn : r.fatal = none) : (r.add e detail).fatal = some e ∧ (r.add e detail).detail = detail := by
  have hn' : (r.push e).fatal.isNone = true := by simp [Record.push, hn]
  simp only [Record.add, hl, hn', and_self, if_true]

/-- A record stands at the place that was the next to be written. -/
theorem Record.push_ring_next {r : Record} (e : FaultRec)
    (h : (r.ring.length < 60 ∧ r.next = r.ring.length) ∨ (r.ring.length = 60 ∧ r.next < 60)) :
    (r.push e).ring[r.next]? = some e := by
  unfold Record.push
  rcases h with ⟨hl, hn⟩ | ⟨hl, hn⟩
  · simp [hl, hn]
  · simp [hl, hn]

/-! ### The kill lines (R541, R542) -/

theorem State.keepPut_frame (s : State) (w : Nat) (v : Word) :
    s.keepPut w v = { s with keep := (s.keepPut w v).keep, mbx := (s.keepPut w v).mbx } := by
  unfold State.keepPut
  dsimp only
  split
  · rw [State.event_frame]; rfl
  · rfl

/-- A command cut short changes the keep-store, the doorbells and the ring at most (R589). -/
theorem State.keepCutShort_frame (s : State) :
    s.keepCutShort = { s with keep := s.keepCutShort.keep, mbx := s.keepCutShort.mbx } := by
  unfold State.keepCutShort
  split
  · rfl
  · next j _ =>
    rcases j.words with _ | ⟨⟨w, v⟩, rest⟩
    · rfl
    · dsimp only
      rw [State.keepPut_frame]
      rfl

/-- No keep-store command is left after a cut. -/
@[simp] theorem State.keepCutShort_job (s : State) : s.keepCutShort.keep.job = none := by
  unfold State.keepCutShort
  split
  · assumption
  · rfl

/-- What the kill lines do, and that they change nothing else but the trunks, the keep-store and the mailboxes (R500, R542,
R589). -/
theorem State.kill_frame (s : State) : s.kill = { s with
    boot := { s.boot with halted := true }
    pins := { s.pins with byp := .low, ppsOut := .low, bfCsN := .high }
    power := { s.power with entry := none, jobs := [] }
    faults := { s.faults with dampedDue := true }
    trunks := s.kill.trunks, keep := s.kill.keep, mbx := s.kill.mbx } := by
  unfold State.kill
  rw [State.keepCutShort_frame]
  rfl

theorem State.kill_boot (s : State) : s.kill.boot = { s.boot with halted := true } := by rw [State.kill_frame]
theorem State.kill_faults (s : State) : s.kill.faults = { s.faults with dampedDue := true } := by rw [State.kill_frame]

/-- The entry into DAMPED changes the start-up status, the faults, the skims and the doorbells (R541, R543, R579). -/
theorem State.enterDamped_frame (s : State) : s.enterDamped = { s with
    boot := { s.boot with power := .damped, ready := false }, faults := { s.faults with dampedDue := false }
    skim := s.enterDamped.skim, mbx := s.enterDamped.mbx } := rfl

/-- With both complexes halted no firmware runs (R541). -/
theorem State.fwRuns_of_killed {s : State} (h : s.killed) : s.fwRuns = false := by
  simp [State.fwRuns, show s.boot.halted = true from h]

/-- With both complexes halted and the bypass low no unit sends (R39, R542). -/
theorem State.silent_of_killed {s : State} (h : s.killed) (hb : s.pins.byp = .low) : s.silent := by
  have hl : s.live = false := by simp [State.live, State.fwRuns_of_killed h]
  exact ⟨fun ch => by simp [State.lineSends, hl], fun ds => by simp [State.dropSends, hl],
    fun tr => by simp [State.trunkSends, hl], fun g => by simp [State.hostSends, hl], hb⟩

/-- A FATAL fault outside DAMPED is recorded and asserts the kill lines. -/
theorem State.fatal_kills {s : State} (code unit : Nat) (detail : Word) (hh : s.boot.halted = false)
    (hd : s.boot.power ≠ .damped) : s.fatal code unit detail =
      if s.time.seq then (s.recordFault code unit detail).kill else (s.recordFault code unit detail).kill.enterDamped := by
  have hd' : (s.boot.power == .damped) = false := by simpa using hd
  unfold State.fatal
  exact if_neg (by simp [hh, hd'])

/-- In DAMPED a FATAL fault is only recorded (R541). -/
theorem State.fatal_of_halted {s : State} (code unit : Nat) (detail : Word) (hh : s.boot.halted = true) :
    s.fatal code unit detail = s.recordFault code unit detail := by
  simp [State.fatal, hh]

/-- After a FATAL fault outside DAMPED everything is silent, nothing under way is left, and the rest stays (R39, R500, R541,
R542, R589). -/
theorem State.fatal_outside_damped {s : State} (code unit : Nat) (detail : Word) (hh : s.boot.halted = false)
    (hd : s.boot.power ≠ .damped) :
    let t := s.fatal code unit detail
    t.killed ∧ t.silent ∧ t.pins.ppsOut = .low ∧ t.power.entry = none ∧ t.power.jobs = [] ∧ t.keep.job = none ∧
      t.faults.record = s.faults.record.add ⟨code, unit, s.now⟩ detail ∧
      t.lines = s.lines ∧ t.sched = s.sched ∧ t.bridge = s.bridge ∧ t.fabric = s.fabric := by
  intro t
  let k := (s.recordFault code unit detail).kill
  have hkb : k.boot.halted = true := by rw [State.kill_boot]
  have hkr : k.faults.record = s.faults.record.add ⟨code, unit, s.now⟩ detail := by rw [State.kill_faults]; rfl
  have hk : ∃ f b m x, t = { k with faults := f, boot := b, mbx := m, skim := x } ∧ b.halted = true ∧
      f.record = s.faults.record.add ⟨code, unit, s.now⟩ detail := by
    rw [show t = if s.time.seq then k else k.enterDamped from State.fatal_kills code unit detail hh hd]
    split
    · exact ⟨k.faults, k.boot, k.mbx, k.skim, rfl, hkb, hkr⟩
    · exact ⟨_, _, _, _, State.enterDamped_frame k, hkb, hkr⟩
  have hj : (s.recordFault code unit detail).kill.keep.job = none := State.keepCutShort_job _
  obtain ⟨f, b, m, x, ht, hb, hr⟩ := hk
  rw [show k = _ from State.kill_frame _] at ht
  have hkilled : t.killed := by rw [ht]; exact hb
  exact ⟨hkilled, State.silent_of_killed hkilled (by rw [ht]), by rw [ht], by rw [ht], by rw [ht], by rw [ht]; exact hj,
    by rw [ht]; exact hr, by rw [ht]; rfl, by rw [ht]; rfl, by rw [ht]; rfl, by rw [ht]; rfl⟩
end Machine

/-- Settles O14 (R39, R500, R541 to R547, R589). -/
theorem fatalFaultsSilenceTheDevice : Obligations.FatalFaultsSilenceTheDevice := by
  intro code unit detail s ha hf hc hp u hring
  obtain ⟨f, b, hff, hbb, he⟩ := exec_fatalFault ha hf hc hp
  have hrec : f.record = s.faults.record := by rw [hff]
  have hhalt : b.halted = s.boot.halted := by rw [hbb]
  have hpow : b.power = s.boot.power := by rw [hbb]
  refine ⟨fun hh hd hn => ?_, fun hh => ?_⟩
  · obtain ⟨hk, hs, hpps, hen, hjobs, hjob, hr, hl, hsc, hbr, hfa⟩ := State.fatal_outside_damped
      (s := { s with faults := f, boot := b }) code u (fatalDetail code detail) (hhalt.trans hh) (hpow ▸ hd)
    have hsum := Record.add_summary (e := ⟨code, u, s.now⟩) (fatalDetail code detail) (levelOf_of_isFatal hf)
      (show f.record.fatal = none from hrec ▸ hn)
    exact ⟨_, he, hk, hs, State.fwRuns_of_killed hk, hpps, hen, hjobs, hjob, hr ▸ hsum.1, hr ▸ hsum.2, hl, hsc, hbr, hfa⟩
  · rw [State.fatal_of_halted _ _ _ (hhalt.trans hh)] at he
    refine ⟨_, he, ?_, ?_, ?_⟩
    · rw [State.recordFault_frame]
      simp only [State.recordFault_faults]
      rw [hff, hbb]
    · simp [hrec, sat32_eq_min]
    · simp only [State.recordFault_faults, Record.add_ring, hrec]
      exact Record.push_ring_next _ hring
end Sys2Proof
end

section
/-! SUPPORT. Arrival, classification, selection and departure of frames; proof of O49. -/
namespace Sys2Proof
open Machine
namespace Machine

/-! ## Arrival of a frame (R20 to R22, R379) -/

/-- Whether a unit passes frames depends on the start-up status, the time and the power state only. -/
theorem State.unitOn_congr {s t : State} (ht : t.time = s.time) (hb : t.boot = s.boot) (hp : t.power = s.power) (r : Nat) :
    t.unitOn r = s.unitOn r := by
  cases s; cases t; cases ht; cases hb; cases hp; rfl

@[simp] theorem State.fdbFound_time (s : State) (l : List (Nat × Nat)) : (s.fdbFound l).time = s.time := by
  rw [State.fdbFound_frame]
@[simp] theorem State.fdbFound_boot (s : State) (l : List (Nat × Nat)) : (s.fdbFound l).boot = s.boot := by
  rw [State.fdbFound_frame]
@[simp] theorem State.fdbFound_arrived (s : State) (l : List (Nat × Nat)) : (s.fdbFound l).arrived = s.arrived := by
  rw [State.fdbFound_frame]
@[simp] theorem State.fdbFound_power (s : State) (l : List (Nat × Nat)) : (s.fdbFound l).power = s.power := by
  rw [State.fdbFound_frame]
theorem State.powered_fdbFound (s : State) (l : List (Nat × Nat)) (r : Nat) : (s.fdbFound l).powered r = s.powered r := by
  rw [State.fdbFound_frame]; rfl
theorem State.unitOn_fdbFound (s : State) (l : List (Nat × Nat)) (r : Nat) : (s.fdbFound l).unitOn r = s.unitOn r := by
  rw [State.fdbFound_frame]; rfl
theorem State.line_fdbFound (s : State) (l : List (Nat × Nat)) (ch : Nat) : (s.fdbFound l).line ch = s.line ch := by
  rw [State.fdbFound_frame]; rfl
theorem State.drop_fdbFound (s : State) (l : List (Nat × Nat)) (ds : Nat) : (s.fdbFound l).drop ds = s.drop ds := by
  rw [State.fdbFound_frame]; rfl
theorem State.trunk_fdbFound (s : State) (l : List (Nat × Nat)) (tr : Nat) : (s.fdbFound l).trunk tr = s.trunk tr := by
  rw [State.fdbFound_frame]; rfl
theorem State.host_fdbFound (s : State) (l : List (Nat × Nat)) (g : Nat) : (s.fdbFound l).host g = s.host g := by
  rw [State.fdbFound_frame]; rfl

/-- An arrival changes the frames that wait for classification and nothing else (R20, R482). -/
theorem State.arrive_frame (s : State) (port : Nat) (f : Frame) :
    s.arrive port f = { s with arrived := (s.arrive port f).arrived } := by
  unfold State.arrive; split <;> rfl

@[simp] theorem State.drop_arrive (s : State) (port ds : Nat) (f : Frame) : (s.arrive port f).drop ds = s.drop ds := by
  rw [State.arrive_frame]; rfl

theorem State.arrive_arrived_congr {s t : State} (port : Nat) (f : Frame) (ht : t.time = s.time) (hb : t.boot = s.boot)
    (hp : t.power = s.power) (ha : t.arrived = s.arrived) : (t.arrive port f).arrived = (s.arrive port f).arrived := by
  unfold State.arrive
  rw [State.unitOn_congr ht hb hp]
  split
  · rw [ha, State.now, ht, State.now]
  · exact ha

/-- A gap that ends changes calibration and skim only (R566, R578). -/
theorem State.cutSlice_frame (s : State) (u : Nat) :
    s.cutSlice u = { s with cal := (s.cutSlice u).cal, skim := (s.cutSlice u).skim } := by
  unfold State.cutSlice; dsimp only; split <;> split <;> rfl

@[simp] theorem State.cutSlice_time (s : State) (u : Nat) : (s.cutSlice u).time = s.time := by
  rw [State.cutSlice_frame]
@[simp] theorem State.cutSlice_boot (s : State) (u : Nat) : (s.cutSlice u).boot = s.boot := by
  rw [State.cutSlice_frame]
@[simp] theorem State.cutSlice_drops (s : State) (u : Nat) : (s.cutSlice u).drops = s.drops := by
  rw [State.cutSlice_frame]
@[simp] theorem State.cutSlice_arrived (s : State) (u : Nat) : (s.cutSlice u).arrived = s.arrived := by
  rw [State.cutSlice_frame]
@[simp] theorem State.cutSlice_power (s : State) (u : Nat) : (s.cutSlice u).power = s.power := by
  rw [State.cutSlice_frame]
@[simp] theorem State.drop_cutSlice (s : State) (u ds : Nat) : (s.cutSlice u).drop ds = s.drop ds := by
  rw [State.drop, State.cutSlice_drops, State.drop]

/-- The event of a drop changes the doorbells and the ring only (R249). -/
theorem State.dropEvent_frame (s : State) (ds id cause : Nat) :
    s.dropEvent ds id cause = { s with mbx := (s.dropEvent ds id cause).mbx } := State.event_frame ..
@[simp] theorem State.dropEvent_time (s : State) (ds id cause : Nat) : (s.dropEvent ds id cause).time = s.time := by
  rw [State.dropEvent_frame]
@[simp] theorem State.dropEvent_boot (s : State) (ds id cause : Nat) : (s.dropEvent ds id cause).boot = s.boot := by
  rw [State.dropEvent_frame]
@[simp] theorem State.dropEvent_drops (s : State) (ds id cause : Nat) : (s.dropEvent ds id cause).drops = s.drops := by
  rw [State.dropEvent_frame]
@[simp] theorem State.dropEvent_arrived (s : State) (ds id cause : Nat) : (s.dropEvent ds id cause).arrived = s.arrived := by
  rw [State.dropEvent_frame]
@[simp] theorem State.dropEvent_power (s : State) (ds id cause : Nat) : (s.dropEvent ds id cause).power = s.power := by
  rw [State.dropEvent_frame]
@[simp] theorem State.drop_dropEvent (s : State) (n id cause ds : Nat) : (s.dropEvent n id cause).drop ds = s.drop ds := by
  rw [State.drop, State.dropEvent_drops, State.drop]

/-- A frame received on a drop without a collision is counted in its opportunity, which is then taken; a good one waits for
classification (R246, R250). -/
theorem State.dropReceive_spec (s : State) (ds id : Nat) (arr : Arrival) (f : Frame) :
    ((s.dropReceive ds id false arr f).drop ds).cntTick = (s.drop ds).cntTick.rx id arr f ∧
    ((s.dropReceive ds id false arr f).drop ds).opp = some id ∧ ((s.dropReceive ds id false arr f).drop ds).taken = true ∧
    (s.dropReceive ds id false arr f).arrived =
      if arr.fcsOk && f.fits then (s.arrive (dropRoot ds) f).arrived else s.arrived := by
  unfold State.dropReceive
  simp only [Bool.false_eq_true, if_false]
  cases hg : arr.fcsOk && f.fits
  · simp only [Bool.false_eq_true, if_false]
    split_ifs <;> simp
  · simp only [if_true]
    split_ifs <;> refine ⟨by simp, by simp, by simp, State.arrive_arrived_congr _ _ ?_ ?_ ?_ ?_⟩ <;> simp

/-- A frame's arrival acts in the state that the damaged forwarding entries leave (R20, R22, R379). -/
theorem exec_frameArrival {port : Nat} (arr : Arrival) (f : Frame) {s : State} (hp : s.powered port = true) :
    exec (.frameArrival port arr f) s = .next (
      let x := verified arr f
      let u := s.fdbFound arr.fdbBad
      if port < 96 then if (s.line port).linked then u.lineArrival port arr x else u
      else if port < 128 then if (s.drop (port - 96)).state == .up then u.dropArrival (port - 96) arr x else u
      else if port < 132 then if (s.trunk (port - 128)).state == .up then u.trunkArrival (port - 128) arr.fcsOk x else u
      else if port < 136 then if (s.host (port - 132)).state == .up then u.hostArrival (port - 132) arr x else u
      else u) := by
  simp only [exec, execFrameArrival, State.powered_fdbFound, hp, Bool.not_true, Bool.false_eq_true, if_false,
    State.line_fdbFound, State.drop_fdbFound, State.trunk_fdbFound, State.host_fdbFound]
  split_ifs <;> rfl

section
variable {port : Nat} (arr : Arrival) (f : Frame) {s : State} (hp : s.powered port = true)
include hp

theorem exec_frameArrival_line (hlt : port < 96) (hlk : (s.line port).linked = true) :
    exec (.frameArrival port arr f) s = .next ((s.fdbFound arr.fdbBad).lineArrival port arr (verified arr f)) := by
  simp only [exec_frameArrival arr f hp, hlt, hlk, if_true]

theorem exec_frameArrival_drop (hge : 96 ≤ port) (hlt : port < 128) (hup : (s.drop (port - 96)).state = .up) :
    exec (.frameArrival port arr f) s = .next ((s.fdbFound arr.fdbBad).dropArrival (port - 96) arr (verified arr f)) := by
  simp only [exec_frameArrival arr f hp, Nat.not_lt.2 hge, hlt, hup, if_false, if_true, beq_self_eq_true]

theorem exec_frameArrival_trunk (hge : 128 ≤ port) (hlt : port < 132) (hup : (s.trunk (port - 128)).state = .up) :
    exec (.frameArrival port arr f) s =
      .next ((s.fdbFound arr.fdbBad).trunkArrival (port - 128) arr.fcsOk (verified arr f)) := by
  simp only [exec_frameArrival arr f hp, show ¬ port < 96 by omega, Nat.not_lt.2 hge, hlt, hup, if_false, if_true,
    beq_self_eq_true]

theorem exec_frameArrival_host (hge : 132 ≤ port) (hlt : port < 136) (hup : (s.host (port - 132)).state = .up) :
    exec (.frameArrival port arr f) s = .next ((s.fdbFound arr.fdbBad).hostArrival (port - 132) arr (verified arr f)) := by
  simp only [exec_frameArrival arr f hp, show ¬ port < 96 by omega, show ¬ port < 128 by omega, Nat.not_lt.2 hge, hlt, hup,
    if_false, if_true, beq_self_eq_true]

end

/-- In an opportunity a drop counts the frame, is taken, and a good frame waits for classification (R246, R250). -/
theorem State.fdbFound_dropReceive_spec (s : State) {port : Nat} (hge : 96 ≤ port) (l : List (Nat × Nat)) (id : Nat)
    (arr : Arrival) (f : Frame) :
    let t := (s.fdbFound l).dropReceive (port - 96) id false arr f
    (t.drop (port - 96)).cntTick = (s.drop (port - 96)).cntTick.rx id arr f ∧
    (t.drop (port - 96)).opp = some id ∧ (t.drop (port - 96)).taken = true ∧
    t.arrived = if arr.fcsOk && f.fits then (s.arrive port f).arrived else s.arrived := by
  intro t
  have hroot : dropRoot (port - 96) = port := Nat.add_sub_cancel' hge
  obtain ⟨hcnt, hopp, htaken, harr⟩ := (s.fdbFound l).dropReceive_spec (port - 96) id arr f
  refine ⟨by rw [hcnt, State.drop_fdbFound], hopp, htaken, ?_⟩
  rw [harr, hroot, State.fdbFound_arrived]
  congr 1
  exact State.arrive_arrived_congr _ _ (State.fdbFound_time ..) (State.fdbFound_boot ..) (State.fdbFound_power ..)
    (State.fdbFound_arrived ..)

/-! ## Departure of a frame (R21, R418) -/

/-- FRAME_DEPARTURE of a live root that holds a selected frame acts on the oldest one, once its corrected bursts are counted. -/
theorem exec_frameDeparture {root : Nat} (corrected : Nat) {s : State} {x : Sending} {more : List Sending}
    (hl : s.live = true) (hx : (s.root root).sending = x :: more) :
    exec (.frameDeparture root corrected) s = .next (
      let t := s.modCellar (fun c => { c with tkCe := c.tkCe + corrected })
      let d := s.drop (root - 96)
      if root < 96 then if s.powered root && (s.line root).linked then t.depart root else t
      else if root < 128 then
        if s.powered root && d.state == .up && d.opp == some 0 && decide (0 < d.burstLeft) then
          (t.depart root).modDrop (root - 96) (fun d => { d with taken := true, burstLeft := d.burstLeft - 1 })
        else t
      else if root < 132 then t
      else if root < 136 then
        let sc := match s.stored x.desc.id with
          | some st => st.sc
          | none => 0
        if s.powered root && s.laneReady (root - 132) sc x.frame.len then t.laneSend (root - 132) x sc else t
      else t.depart root) := by
  have hgo : (s.live && !(s.root root).sending.isEmpty) = true := by simp [hl, hx]
  have hsend : ((s.modCellar (fun c => { c with tkCe := c.tkCe + corrected })).root root).sending = x :: more := hx
  have hlive : (s.modCellar (fun c => { c with tkCe := c.tkCe + corrected })).live = true := hl
  simp only [exec, execFrameDeparture, hgo, if_true, hsend, hlive, apply_ite Host.Outcome.next]
  rfl

end Machine

/-- Settles O49 (R20 to R22, R219, R373, R374, R390, R418, R470; log 84). -/
theorem frameStepsComplete : Obligations.FrameStepsComplete := by
  intro s
  refine ⟨fun port arr f hp => ?_, fun a rest hl ha ht => ?_, fun root q d more st hw hr htok hq hh hs hu => ?_,
    fun root corrected x more hl hx => ?_, fun handle e r hw he hr hst hd => ?_⟩
  · intro x u
    refine ⟨fun hlt hlk => ?_, fun hge hlt hup => ?_, fun hge hlt hup => ?_, fun hge hlt hup => ?_, fun hon => ?_, fun hon => ?_⟩
    · rw [exec_frameArrival_line arr f hp hlt hlk]
      exact ⟨fun hg hf => by simp [State.lineArrival, hg, x, u, show (verified arr f).fits = true from hf],
        fun hg hf => by simp [State.lineArrival, hg, u, show (verified arr f).fits = false from hf],
        fun hg => by simp [State.lineArrival, hg, u]⟩
    · rw [exec_frameArrival_drop arr f hp hge hlt hup]
      refine ⟨fun ho => ?_, fun k ho => ⟨_, rfl, ?_⟩⟩
      · simp [State.dropArrival, u, State.drop_fdbFound, ho]
      · have hk : u.dropArrival (port - 96) arr x = u.dropReceive (port - 96) k false arr x := by
          simp [State.dropArrival, u, State.drop_fdbFound, ho]
        rw [hk]
        exact s.fdbFound_dropReceive_spec hge arr.fdbBad k arr x
    · rw [exec_frameArrival_trunk arr f hp hge hlt hup, State.trunkArrival, Nat.add_sub_cancel' hge]
    · rw [exec_frameArrival_host arr f hp hge hlt hup, State.hostArrival, Nat.add_sub_cancel' hge]
    · simp [State.arrive, hon]
    · simp [State.arrive, hon]
  · simp [exec, execFrameClassify, hl, State.classifyOne, ha, ht]
  · simp [exec, execSchedulerSelect, hw, hr, htok, hq, hh, hs, hu]
  · intro t
    rw [exec_frameDeparture corrected hl hx]
    refine ⟨fun hge => ?_, fun hlt hp hlk => ?_, fun hge hlt hp hup ho hb => ?_, fun hge hlt => ?_, fun hge hlt hp hup he hroom => ?_⟩
    · simp only [show ¬ root < 96 by omega, show ¬ root < 128 by omega, show ¬ root < 132 by omega, Nat.not_lt.2 hge,
        if_false, t]
    · simp only [hlt, hp, hlk, Bool.and_self, if_true, t]
    · simp only [Nat.not_lt.2 hge, hlt, hp, hup, ho, hb, beq_self_eq_true, decide_true, Bool.and_self, if_false, if_true, t]
    · simp only [show ¬ root < 96 by omega, Nat.not_lt.2 hge, hlt, if_false, if_true, t]
    · intro sc hcr
      have hready : s.laneReady (root - 132) sc x.frame.len = true := by simp [State.laneReady, hup, he, hroom, hcr]
      simp only [show ¬ root < 96 by omega, show ¬ root < 128 by omega, Nat.not_lt.2 hge, hlt, if_false, if_true, hp,
        Bool.true_and]
      exact congrArg Host.Outcome.next (if_pos hready)
  · simp [exec, execFrerRecoveryReset, he, hr, hw, hst, hd, State.modFabric, tmod, tget_of_tfind r hr, Recovery.count]
end Sys2Proof
end

section
/-! SUPPORT. The beat: the tick counter, its commit window and the edge of fabric time that waits. Every operation that an edge
can bring about, the replay of a configuration image included, leaves it as it was, save the one advance of the edge; proof of
O47. -/
namespace Sys2Proof
open Machine
namespace Machine

/-! ## The beat -/

/-- The tick counter with its commit window, and the edge of fabric time that waits to be stepped to (R23, R24, R460). -/
def State.beat (s : State) : TimeSt × Option Nat := (s.time, s.fabric.step)

@[simp] theorem State.beat_mk (time : TimeSt) (boot : BootSt) (fuses : Fuses) (life : LifeSt) (pins : Pins) (mbx : MbxSt)
    (peers : Table PeerSlot) (cfgq : List Cfg) (cfgDue : Nat) (edgeq : List EdgeAct) (lines : Table Line)
    (bundles : Table Bundle) (drops : Table Drop) (trunks : Table Trunk) (hosts : Table LaneGroup) (bridge : BridgeSt)
    (sched : SchedSt) (arrived : List Arrived) (cellar : CellarSt) (fabric : FabricSt) (power : PowerSt) (clock : ClockSt)
    (faults : FaultSt) (thermal : ThermalSt) (din : DinSt) (cal : CalSt) (test : TestSt) (skim : SkimSt) (keep : KeepSt)
    (pending : List Instr) :
    State.beat ⟨time, boot, fuses, life, pins, mbx, peers, cfgq, cfgDue, edgeq, lines, bundles, drops, trunks, hosts, bridge,
      sched, arrived, cellar, fabric, power, clock, faults, thermal, din, cal, test, skim, keep, pending⟩ =
    (time, fabric.step) := rfl
@[simp] theorem State.time_step_eq_beat (s : State) : (s.time, s.fabric.step) = s.beat := rfl
@[simp] theorem State.beat_ite (c : Prop) [Decidable c] (s t : State) :
    (if c then s else t).beat = if c then s.beat else t.beat := apply_ite ..

/-- The fabric engine keeps the beat where it leaves the waiting edge of fabric time. -/
@[simp] theorem State.modFabric_beat (s : State) (f : FabricSt → FabricSt) (h : (f s.fabric).step = s.fabric.step) :
    (s.modFabric f).beat = s.beat := Prod.ext rfl h

/-- What each of many steps leaves, all of them leave. -/
theorem State.foldl_beat {α : Type} {f : State → α → State} (h : ∀ s a, (f s a).beat = s.beat) (l : List α) (s : State) :
    (l.foldl f s).beat = s.beat := by
  induction l generalizing s with
  | nil => rfl
  | cons a l ih => rw [List.foldl_cons, ih, h]

/-! ## Operations that leave the beat as it was -/

/-! ### Units, doorbells, records, notices -/

@[simp] theorem State.modLine_beat (s : State) (ch : Nat) (f : Line → Line) : (s.modLine ch f).beat = s.beat := rfl
@[simp] theorem State.modBundle_beat (s : State) (bg : Nat) (f : Bundle → Bundle) : (s.modBundle bg f).beat = s.beat := rfl
@[simp] theorem State.modDrop_beat (s : State) (ds : Nat) (f : Drop → Drop) : (s.modDrop ds f).beat = s.beat := rfl
@[simp] theorem State.modTrunk_beat (s : State) (tr : Nat) (f : Trunk → Trunk) : (s.modTrunk tr f).beat = s.beat := rfl
@[simp] theorem State.modHost_beat (s : State) (g : Nat) (f : LaneGroup → LaneGroup) : (s.modHost g f).beat = s.beat := rfl
@[simp] theorem State.modMbx_beat (s : State) (f : MbxSt → MbxSt) : (s.modMbx f).beat = s.beat := rfl
@[simp] theorem State.modChan_beat (s : State) (n : Nat) (f : Chan → Chan) : (s.modChan n f).beat = s.beat := rfl
@[simp] theorem State.modBoot_beat (s : State) (f : BootSt → BootSt) : (s.modBoot f).beat = s.beat := rfl
@[simp] theorem State.modPins_beat (s : State) (f : Pins → Pins) : (s.modPins f).beat = s.beat := rfl
@[simp] theorem State.modPower_beat (s : State) (f : PowerSt → PowerSt) : (s.modPower f).beat = s.beat := rfl
@[simp] theorem State.modClock_beat (s : State) (f : ClockSt → ClockSt) : (s.modClock f).beat = s.beat := rfl
@[simp] theorem State.modFaults_beat (s : State) (f : FaultSt → FaultSt) : (s.modFaults f).beat = s.beat := rfl
@[simp] theorem State.modBridge_beat (s : State) (f : BridgeSt → BridgeSt) : (s.modBridge f).beat = s.beat := rfl
@[simp] theorem State.modSched_beat (s : State) (f : SchedSt → SchedSt) : (s.modSched f).beat = s.beat := rfl
@[simp] theorem State.modCellar_beat (s : State) (f : CellarSt → CellarSt) : (s.modCellar f).beat = s.beat := rfl
@[simp] theorem State.modKeep_beat (s : State) (f : KeepSt → KeepSt) : (s.modKeep f).beat = s.beat := rfl
@[simp] theorem State.accept_beat (s : State) (c : Cfg) : (s.accept c).beat = s.beat := rfl
@[simp] theorem State.doorbell_beat (s : State) (b : Nat) : (s.doorbell b).beat = s.beat := rfl
@[simp] theorem State.record_beat (s : State) (type source data : Nat) : (s.record type source data).beat = s.beat := by
  simp [State.record]
@[simp] theorem State.event_beat (s : State) (type source data : Nat) : (s.event type source data).beat = s.beat := by
  simp [State.event]
@[simp] theorem State.recordLater_beat (s : State) (type source data : Nat) :
    (s.recordLater type source data).beat = s.beat := by
  simp [State.recordLater]
@[simp] theorem State.recordFault_beat (s : State) (code unit : Nat) (detail : Word) :
    (s.recordFault code unit detail).beat = s.beat :=
  rfl
@[simp] theorem State.notice_beat (s : State) (code unit : Nat) : (s.notice code unit).beat = s.beat := by simp [State.notice]
@[simp] theorem State.atEdge_beat (s : State) (a : EdgeAct) : (s.atEdge a).beat = s.beat := by simp [State.atEdge]
@[simp] theorem State.runDue_beat (s : State) (cause : Nat) : (s.runDue cause).beat = s.beat := rfl

/-! ### Sideband words of a lane group (R346) -/

@[simp] theorem State.flushSide_beat (s : State) (g : Nat) : (s.flushSide g).beat = s.beat := rfl
@[simp] theorem State.sideSend_beat (s : State) (g : Nat) (ack : Word) (ret : List Word) :
    (s.sideSend g ack ret).beat = s.beat :=
  rfl

/-! ### Wake sources (R496 to R502) -/

@[simp] theorem State.firedInRun_beat (s : State) (w : Wake) : (s.firedInRun w).beat = s.beat := by simp [State.firedInRun]
@[simp] theorem State.firedInEntry_beat (s : State) (e : Entry) (w : Wake) (privileged : Bool) :
    (s.firedInEntry e w privileged).beat = s.beat := by
  simp [State.firedInEntry]
@[simp] theorem State.pwrenHigh_beat (s : State) : s.pwrenHigh.beat = s.beat := rfl
@[simp] theorem State.firedAsleep_beat (s : State) (w : Wake) : (s.firedAsleep w).beat = s.beat := by simp [State.firedAsleep]
@[simp] theorem State.fireWake_beat (s : State) (w : Wake) (privileged : Bool) : (s.fireWake w privileged).beat = s.beat := by
  unfold State.fireWake
  split
  · split <;> simp
  all_goals simp

/-! ### Answers to messages (R124) -/

@[simp] theorem State.answerPeer_beat (s : State) (slot counter : Nat) (ack : Word) (ret : List Word) :
    (s.answerPeer slot counter ack ret).beat = s.beat := by
  unfold State.answerPeer
  split <;> simp
@[simp] theorem State.ackWrite_beat (s : State) (rt : ReplyTo) (c : Code) (ret : List Word) :
    (s.ackWrite rt c ret).beat = s.beat := by
  simp [State.ackWrite]
@[simp] theorem State.ack_beat (s : State) (rt : ReplyTo) (c : Code) (ret : List Word) : (s.ack rt c ret).beat = s.beat := by
  simp [State.ack]
@[simp] theorem State.ackLater_beat (s : State) (rt : Option ReplyTo) (c : Code) (ret : List Word) :
    (s.ackLater rt c ret).beat = s.beat := by
  unfold State.ackLater
  split <;> simp

/-! ### The cellar and its spool -/

@[simp] theorem State.spoolAdvance_beat (s : State) : s.spoolAdvance.beat = s.beat := rfl
@[simp] theorem State.freeIf_beat (s : State) (id : Nat) : (s.freeIf id).beat = s.beat := by
  unfold State.freeIf
  split <;> simp
@[simp] theorem State.unref_beat (s : State) (id : Nat) : (s.unref id).beat = s.beat := by
  unfold State.unref
  split <;> simp
@[simp] theorem State.modSpool_beat (s : State) (g : Nat) (f : SpoolGroup → SpoolGroup) : (s.modSpool g f).beat = s.beat := rfl
@[simp] theorem State.spoolPass_beat (s : State) (g n : Nat) : (s.spoolPass g n).beat = s.beat := rfl
@[simp] theorem State.watermarks_beat (s : State) : s.watermarks.beat = s.beat := by
  unfold State.watermarks
  dsimp only
  rw [State.modCellar_beat, State.beat_ite, State.event_beat, ite_self, State.beat_ite, State.event_beat, ite_self]
@[simp] theorem State.applySpool_beat (s : State) (size : Nat) (overwrite : Bool) (hours : Nat) (rq : List (Bool × Nat)) :
    (s.applySpool size overwrite hours rq).beat = s.beat :=
  rfl

/-! ### The queue tree -/

@[simp] theorem State.modRoot_beat (s : State) (r : Nat) (f : Root → Root) : (s.modRoot r f).beat = s.beat := rfl
@[simp] theorem State.modQueue_beat (s : State) (q : Nat) (f : Queue → Queue) : (s.modQueue q f).beat = s.beat := rfl
@[simp] theorem State.modNode_beat (s : State) (n : Nat) (f : Node → Node) : (s.modNode n f).beat = s.beat := rfl
@[simp] theorem State.wakeTags_beat (s : State) : s.wakeTags.beat = s.beat := rfl
@[simp] theorem State.dropTags_beat (s : State) : s.dropTags.beat = s.beat := rfl
@[simp] theorem State.countTx_beat (s : State) (root len : Nat) : (s.countTx root len).beat = s.beat := by simp [State.countTx]
@[simp] theorem State.newKey_beat (s : State) (root : Nat) : (s.newKey root).beat = s.beat := rfl
@[simp] theorem State.secureTx_beat (s : State) (root : Nat) : (s.secureTx root).beat = s.beat := by simp [State.secureTx]
@[simp] theorem State.dropSending_beat (s : State) (root : Nat) : (s.dropSending root).beat = s.beat :=
  (State.foldl_beat (fun s _ => s.unref_beat _) _ _).trans (State.modRoot_beat ..)

/-! ### Queues, and the configuration of bridge and tree -/

@[simp] theorem State.flushQueue_beat (s : State) (q : Nat) : (s.flushQueue q).beat = s.beat := by
  unfold State.flushQueue
  rw [State.foldl_beat State.unref_beat]
  simp
@[simp] theorem State.placeQueue_beat (s : State) (q : Nat) (c : QueueCfg) : (s.placeQueue q c).beat = s.beat := by
  simp [State.placeQueue]
@[simp] theorem State.placeNode_beat (s : State) (n : Nat) (p : Parent) (level weight : Nat) :
    (s.placeNode n p level weight).beat = s.beat := by
  simp [State.placeNode]
@[simp] theorem State.applySched_beat (s : State) (c : Cfg) : (s.applySched c).beat = s.beat := by
  unfold State.applySched
  split <;> simp

/-! ### Admission runs (R404) -/

@[simp] theorem State.guarSettle_beat (s : State) (done : List Nat) (cause i : Nat) :
    (s.guarSettle done cause i).beat = s.beat := by
  unfold State.guarSettle
  split <;> simp
@[simp] theorem State.guarsEdge_beat (s : State) : s.guarsEdge.beat = s.beat := rfl
@[simp] theorem State.admissionRun_beat (s : State) : s.admissionRun.beat = s.beat := by
  unfold State.admissionRun
  split
  · rfl
  · exact State.foldl_beat (fun s i => s.guarSettle_beat _ _ i) _ _
@[simp] theorem State.runsEdge_beat (s : State) : s.runsEdge.beat = s.beat := rfl
@[simp] theorem State.acceptRun_beat (s : State) (c : Cfg) (due : Bool) (cause : Nat) :
    (s.acceptRun c due cause).beat = s.beat := by
  simp [State.acceptRun]

/-! ### Line channels -/

@[simp] theorem State.lineSt_beat (s : State) (ch : Nat) (st : LineState) : (s.lineSt ch st).beat = s.beat := by
  simp [State.lineSt]
@[simp] theorem State.reportLpi_beat (s : State) (ch : Nat) (lpi : Bool) : (s.reportLpi ch lpi).beat = s.beat := by
  simp [State.reportLpi]
@[simp] theorem State.lineMode_beat (s : State) (ch mode : Nat) (slave : Bool) : (s.lineMode ch mode slave).beat = s.beat := by
  simp [State.lineMode]
@[simp] theorem State.tapsInvalid_beat (s : State) (ch : Nat) : (s.tapsInvalid ch).beat = s.beat := rfl
@[simp] theorem State.leaveSurvey_beat (s : State) (ch : Nat) : (s.leaveSurvey ch).beat = s.beat := by simp [State.leaveSurvey]
@[simp] theorem State.lineDown_beat (s : State) (ch : Nat) (st : LineState) : (s.lineDown ch st).beat = s.beat := by
  simp [State.lineDown]
@[simp] theorem State.lineTrain_beat (s : State) (ch mode : Nat) (slave : Bool) (start : Nat) (resume count : Bool) :
    (s.lineTrain ch mode slave start resume count).beat = s.beat := by
  simp [State.lineTrain]
@[simp] theorem State.decideGroup_beat (s : State) (bg : Nat) : (s.decideGroup bg).beat = s.beat :=
  State.foldl_beat (fun s c => s.modLine_beat c _) _ _
@[simp] theorem State.decideStarts_beat (s : State) : s.decideStarts.beat = s.beat :=
  State.foldl_beat State.decideGroup_beat _ _
@[simp] theorem State.lineStart_beat (s : State) (ch start : Nat) (resume : Bool) :
    (s.lineStart ch start resume).beat = s.beat := by
  simp [State.lineStart]
@[simp] theorem State.lineRelink_beat (s : State) (ch : Nat) : (s.lineRelink ch).beat = s.beat := by simp [State.lineRelink]
@[simp] theorem State.endTdr_beat (s : State) (ch : Nat) : (s.endTdr ch).beat = s.beat := by
  unfold State.endTdr
  split <;> simp
@[simp] theorem State.applyLine_beat (s : State) (ch : Nat) (c : LineCfg) : (s.applyLine ch c).beat = s.beat := by
  simp [State.applyLine]
@[simp] theorem State.applyRetrain_beat (s : State) (ch : Nat) (full : Bool) : (s.applyRetrain ch full).beat = s.beat := by
  simp [State.applyRetrain]
@[simp] theorem State.releaseHeld_beat (s : State) (bg start : Nat) : (s.releaseHeld bg start).beat = s.beat :=
  State.foldl_beat (fun s c => by simp) _ _
@[simp] theorem State.applyBundle_beat (s : State) (bg : Nat) (enable : Bool) (mode : Nat) :
    (s.applyBundle bg enable mode).beat = s.beat := by
  unfold State.applyBundle
  dsimp only
  split
  · split
    · rfl
    · rw [State.foldl_beat (fun s c => s.lineStart_beat c _ _), State.foldl_beat (fun s c => s.lineDown_beat c _)]
      rfl
  · rw [State.releaseHeld_beat, State.foldl_beat (fun s c => s.modLine_beat c _)]
    rfl
@[simp] theorem State.applyTdr_beat (s : State) (ch : Nat) (reply : Option ReplyTo) : (s.applyTdr ch reply).beat = s.beat := by
  simp [State.applyTdr]

/-! ### Line faults (R224 to R227) -/

@[simp] theorem State.undoDrop_beat (s : State) (ch : Nat) : (s.undoDrop ch).beat = s.beat := by simp [State.undoDrop]
@[simp] theorem State.lineFault_beat (s : State) (ch code : Nat) : (s.lineFault ch code).beat = s.beat := by
  simp [State.lineFault]
@[simp] theorem State.lineSilence_beat (s : State) (ch code : Nat) : (s.lineSilence ch code).beat = s.beat := by
  simp [State.lineSilence]

/-! ### Keep-store commands (R589) -/

@[simp] theorem State.keepPut_beat (s : State) (w : Nat) (v : Word) : (s.keepPut w v).beat = s.beat := by simp [State.keepPut]
@[simp] theorem State.keepStart_beat (s : State) (ws : List (Nat × Word)) (op extra : Nat) (reply : Option ReplyTo) :
    (s.keepStart ws op extra reply).beat = s.beat :=
  rfl
@[simp] theorem State.keepCutShort_beat (s : State) : s.keepCutShort.beat = s.beat := by
  rw [State.keepCutShort_frame]; rfl

/-! ### Trunks and the bypass -/

@[simp] theorem State.trunkEvent_beat (s : State) (tr : Nat) : (s.trunkEvent tr).beat = s.beat := by simp [State.trunkEvent]
@[simp] theorem State.trunkSt_beat (s : State) (tr : Nat) (st : TrunkState) : (s.trunkSt tr st).beat = s.beat := by
  simp [State.trunkSt]
@[simp] theorem State.handOver_beat (s : State) (tr : Nat) : (s.handOver tr).beat = s.beat := by simp [State.handOver]
@[simp] theorem State.trunkDown_beat (s : State) (tr : Nat) (st : TrunkState) : (s.trunkDown tr st).beat = s.beat := by
  simp [State.trunkDown]
@[simp] theorem State.trunkStart_beat (s : State) (tr start : Nat) : (s.trunkStart tr start).beat = s.beat := by
  simp [State.trunkStart]
@[simp] theorem State.trunkLost_beat (s : State) (tr reason : Nat) : (s.trunkLost tr reason).beat = s.beat := by
  simp [State.trunkLost]
@[simp] theorem State.trunkEnterPath_beat (s : State) (start tr : Nat) : (s.trunkEnterPath start tr).beat = s.beat := by
  simp [State.trunkEnterPath]
@[simp] theorem State.trunkRelease_beat (s : State) (tr : Nat) : (s.trunkRelease tr).beat = s.beat := by
  simp [State.trunkRelease]
@[simp] theorem State.updateBypass_beat (s : State) (start : Nat) : (s.updateBypass start).beat = s.beat := by
  unfold State.updateBypass
  split_ifs
  · rfl
  · exact State.foldl_beat (fun s tr => s.trunkEnterPath_beat start tr) _ _
  · exact State.foldl_beat (fun s tr => s.trunkRelease_beat tr) _ _
@[simp] theorem State.applyTrunkSig_beat (s : State) (tr : Nat) (c : SigCfg) : (s.applyTrunkSig tr c).beat = s.beat := rfl
@[simp] theorem State.applyTrunk_beat (s : State) (tr : Nat) (c : TrunkCfg) : (s.applyTrunk tr c).beat = s.beat := by
  simp [State.applyTrunk]
@[simp] theorem State.applyKindle_beat (s : State) (tr : Nat) : (s.applyKindle tr).beat = s.beat := rfl
@[simp] theorem State.trunkFault_beat (s : State) (tr code : Nat) : (s.trunkFault tr code).beat = s.beat := by
  simp [State.trunkFault]
@[simp] theorem State.trunkSilence_beat (s : State) (tr : Nat) : (s.trunkSilence tr).beat = s.beat := by
  simp [State.trunkSilence]

/-! ### Calibration and skim units -/

@[simp] theorem State.modCal_beat (s : State) (f : CalSt → CalSt) : (s.modCal f).beat = s.beat := rfl
@[simp] theorem State.modCalUnit_beat (s : State) (u : Nat) (f : CalUnit → CalUnit) : (s.modCalUnit u f).beat = s.beat := rfl
@[simp] theorem State.modSkimUnit_beat (s : State) (u : Nat) (f : SkimUnit → SkimUnit) : (s.modSkimUnit u f).beat = s.beat :=
  rfl
@[simp] theorem State.calFresh_beat (s : State) (u : Nat) : (s.calFresh u).beat = s.beat := by simp [State.calFresh]
@[simp] theorem State.calibrate_beat (s : State) (u : Nat) : (s.calibrate u).beat = s.beat := by simp [State.calibrate]
@[simp] theorem State.skimDiscard_beat (s : State) : s.skimDiscard.beat = s.beat := rfl

/-! ### Drop segments -/

@[simp] theorem State.dropEvent_beat (s : State) (ds id cause : Nat) : (s.dropEvent ds id cause).beat = s.beat := by
  simp [State.dropEvent]
@[simp] theorem State.dropSt_beat (s : State) (ds : Nat) (st : DropState) : (s.dropSt ds st).beat = s.beat := by
  simp [State.dropSt]
@[simp] theorem State.dropUp_beat (s : State) (ds t : Nat) : (s.dropUp ds t).beat = s.beat := by simp [State.dropUp]
@[simp] theorem State.dropDown_beat (s : State) (ds : Nat) (st : DropState) : (s.dropDown ds st).beat = s.beat := by
  simp [State.dropDown]
@[simp] theorem State.dropStart_beat (s : State) (ds t : Nat) : (s.dropStart ds t).beat = s.beat := by simp [State.dropStart]
@[simp] theorem State.applyDrop_beat (s : State) (ds : Nat) (c : DropCfg) : (s.applyDrop ds c).beat = s.beat := by
  simp [State.applyDrop]
@[simp] theorem State.dropFault_beat (s : State) (ds code : Nat) : (s.dropFault ds code).beat = s.beat := by
  simp [State.dropFault]
@[simp] theorem State.dropSilence_beat (s : State) (ds : Nat) : (s.dropSilence ds).beat = s.beat := by simp [State.dropSilence]

/-! ### Link drops of trunks -/

@[simp] theorem State.trunkDropNow_beat (s : State) (tr : Nat) : (s.trunkDropNow tr).beat = s.beat := by
  unfold State.trunkDropNow
  split <;> simp

/-! ### The run of an edge (R404) -/

@[simp] theorem State.runEdge_beat (s : State) : s.runEdge.beat = s.beat := by simp [State.runEdge]
@[simp] theorem State.runNow_beat (s : State) (cause : Nat) : (s.runNow cause).beat = s.beat := by simp [State.runNow]

/-! ### The fabric engine -/

@[simp] theorem State.fabCount_beat (s : State) (f : FabCnt → FabCnt) : (s.fabCount f).beat = s.beat := rfl
@[simp] theorem State.badType_beat (s : State) : s.badType.beat = s.beat := rfl
@[simp] theorem State.fabSend_beat (s : State) (root dst : Nat) (b : FabBody) : (s.fabSend root dst b).beat = s.beat := by
  unfold State.fabSend
  split <;> simp
@[simp] theorem State.fabFlood_beat (s : State) (except : Option Nat) (b : FabBody) : (s.fabFlood except b).beat = s.beat :=
  State.foldl_beat (fun s _ => s.fabSend_beat _ 0 b) _ _
@[simp] theorem State.abort_beat (s : State) (c : Code) (refuser code : Nat) : (s.abort c refuser code).beat = s.beat := by
  unfold State.abort
  split <;> simp
@[simp] theorem State.topoNew_beat (s : State) (before : List (List (Nat × List TopoLink))) :
    (s.topoNew before).beat = s.beat := by
  unfold State.topoNew
  dsimp only
  split
  · rfl
  · split <;> simp
@[simp] theorem State.adjNew_beat (s : State) (f : FabricSt → FabricSt) (h : (f s.fabric).step = s.fabric.step) :
    (s.adjNew f).beat = s.beat := by
  simp [State.adjNew, h]
@[simp] theorem State.adjEnd_beat (s : State) (root : Nat) : (s.adjEnd root).beat = s.beat := by simp [State.adjEnd]
@[simp] theorem State.adjSweep_beat (s : State) : s.adjSweep.beat = s.beat := by
  unfold State.adjSweep
  rw [State.modFabric_beat _ _ rfl, State.foldl_beat (fun s _ => s.adjEnd_beat _)]
@[simp] theorem State.toTop_beat (s : State) (b : FabBody) : (s.toTop b).beat = s.beat := by
  unfold State.toTop
  dsimp only
  split <;> simp
@[simp] theorem State.fabConfigure_beat (s : State) (epoch : Nat) (c : FabConfig) : (s.fabConfigure epoch c).beat = s.beat := by
  unfold State.fabConfigure
  dsimp only
  split_ifs
  · rfl
  · rfl
  · exact State.runNow_beat _ 3
  · exact State.runNow_beat _ 3
@[simp] theorem State.rejoin_beat (s : State) : s.rejoin.beat = s.beat := by
  unfold State.rejoin
  dsimp only
  split_ifs <;> rfl
@[simp] theorem State.applyLink_beat (s : State) (root : Nat) (fabric macsec : Bool) (boundary : Nat) :
    (s.applyLink root fabric macsec boundary).beat = s.beat := by
  simp [State.applyLink]
@[simp] theorem State.countCtl_beat (s : State) : s.countCtl.beat = s.beat := by
  unfold State.countCtl
  rw [State.modFabric_beat _ _ rfl]
  refine State.foldl_beat (fun s c => ?_) _ _
  split <;> simp

/-! ### Host lane groups -/

@[simp] theorem State.hostSt_beat (s : State) (g : Nat) (st : HostState) : (s.hostSt g st).beat = s.beat := by
  simp [State.hostSt]
@[simp] theorem State.hostDown_beat (s : State) (g : Nat) (st : HostState) : (s.hostDown g st).beat = s.beat := by
  simp [State.hostDown]
@[simp] theorem State.hostStart_beat (s : State) (g start : Nat) : (s.hostStart g start).beat = s.beat := by
  simp [State.hostStart]
@[simp] theorem State.hostRetrainNow_beat (s : State) (g : Nat) : (s.hostRetrainNow g).beat = s.beat := by
  simp [State.hostRetrainNow]
@[simp] theorem State.hostFault_beat (s : State) (g code : Nat) : (s.hostFault g code).beat = s.beat := by
  simp [State.hostFault]
@[simp] theorem State.hostSilence_beat (s : State) (g : Nat) : (s.hostSilence g).beat = s.beat := by simp [State.hostSilence]
@[simp] theorem State.applyHost_beat (s : State) (g : Nat) (c : HostCfg) (retune : Bool) :
    (s.applyHost g c retune).beat = s.beat := by
  simp [State.applyHost]
@[simp] theorem State.applyPrbs_beat (s : State) (g : Nat) (p : Prbs) : (s.applyPrbs g p).beat = s.beat := by
  simp [State.applyPrbs]

/-! ### Discrete inputs -/

@[simp] theorem State.modDin_beat (s : State) (f : DinSt → DinSt) : (s.modDin f).beat = s.beat := rfl
@[simp] theorem State.modInput_beat (s : State) (i : Nat) (f : Din → Din) : (s.modInput i f).beat = s.beat := rfl
@[simp] theorem State.dinAgree_beat (s : State) (i : Nat) (v : Bool) (start : Nat) : (s.dinAgree i v start).beat = s.beat := by
  simp [State.dinAgree]
@[simp] theorem State.dinFault_beat (s : State) (i : Nat) : (s.dinFault i).beat = s.beat := by simp [State.dinFault]
@[simp] theorem State.dinTake_beat (s : State) (old : DinCfg) (i : Nat) : (s.dinTake old i).beat = s.beat := by
  simp [State.dinTake]
@[simp] theorem State.applyDin_beat (s : State) (c : DinCfg) : (s.applyDin c).beat = s.beat :=
  State.foldl_beat (fun s i => s.dinTake_beat _ i) _ _

/-! ### FATAL faults (R541 to R545) -/

@[simp] theorem State.enterDamped_beat (s : State) : s.enterDamped.beat = s.beat := rfl
@[simp] theorem State.releaseAll_beat (s : State) : s.releaseAll.beat = s.beat := rfl
@[simp] theorem State.kill_beat (s : State) : s.kill.beat = s.beat := by simp [State.kill]
@[simp] theorem State.fatal_beat (s : State) (code unit : Nat) (detail : Word) : (s.fatal code unit detail).beat = s.beat := by
  unfold State.fatal
  dsimp only
  split_ifs <;> simp
@[simp] theorem State.tokenCheck_beat (s : State) : s.tokenCheck.beat = s.beat := by simp [State.tokenCheck]

/-! ### Temperature -/

@[simp] theorem State.modThermal_beat (s : State) (f : ThermalSt → ThermalSt) : (s.modThermal f).beat = s.beat := rfl
@[simp] theorem State.modSensor_beat (s : State) (k : Nat) (f : Sensor → Sensor) : (s.modSensor k f).beat = s.beat := rfl
@[simp] theorem State.applyThermal_beat (s : State) (warn damp : Int) : (s.applyThermal warn damp).beat = s.beat := rfl

/-! ### Injected faults (R599) -/

@[simp] theorem State.channelFault_beat (s : State) (code unit : Nat) : (s.channelFault code unit).beat = s.beat := by
  simp [State.channelFault]

/-! ### Calibration at the edge -/

@[simp] theorem State.calEdgeUnit_beat (s : State) (u : Nat) : (s.calEdgeUnit u).beat = s.beat := by
  unfold State.calEdgeUnit
  split <;> simp
@[simp] theorem State.calEdge_beat (s : State) : s.calEdge.beat = s.beat :=
  State.foldl_beat (fun s _ => s.calEdgeUnit_beat _) _ _

/-! ### Fabric commits (R466) -/

@[simp] theorem State.commitStart_beat (s : State) (lead : Nat) (cfg : FabConfig) (reply : Option ReplyTo) :
    (s.commitStart lead cfg reply).beat = s.beat := by
  simp [State.commitStart]
@[simp] theorem State.prepareAsk_beat (s : State) (lead : Nat) (cfg : FabConfig) (reply : Option ReplyTo) :
    (s.prepareAsk lead cfg reply).beat = s.beat := by
  simp [State.prepareAsk]

/-! ### Gates -/

@[simp] theorem State.commitGates_beat (s : State) (edge : Nat) : (s.commitGates edge).beat = s.beat := by
  simp [State.commitGates]

/-! ### Clocks and PPS -/

@[simp] theorem State.applyPlan_beat (s : State) (p q : Nat) (ref : Ref) : (s.applyPlan p q ref).beat = s.beat := rfl
@[simp] theorem State.ppsLow_beat (s : State) : s.ppsLow.beat = s.beat := by simp [State.ppsLow]
@[simp] theorem State.applyGate_beat (s : State) (en : Nat) : (s.applyGate en).beat = s.beat := by simp [State.applyGate]
@[simp] theorem State.applyPps_beat (s : State) (c : PpsCfg) : (s.applyPps c).beat = s.beat := by
  unfold State.applyPps
  dsimp only
  split_ifs
  · rfl
  · rfl
  · exact State.ppsLow_beat _
  · exact State.ppsLow_beat _

/-! ### Self-test -/

@[simp] theorem State.modTest_beat (s : State) (f : TestSt → TestSt) : (s.modTest f).beat = s.beat := rfl
@[simp] theorem State.applySelftest_beat (s : State) (groups : List (List Nat)) (skipped : List Nat) :
    (s.applySelftest groups skipped).beat = s.beat := by
  simp [State.applySelftest]
@[simp] theorem State.rejoinUnit_beat (s : State) (u : Nat) : (s.rejoinUnit u).beat = s.beat := by simp [State.rejoinUnit]
@[simp] theorem State.testEnd_beat (s : State) (u check : Nat) : (s.testEnd u check).beat = s.beat := by simp [State.testEnd]
@[simp] theorem State.testFault_beat (s : State) (u : Nat) : (s.testFault u).beat = s.beat := by simp [State.testFault]

/-! ### Skim tests -/

@[simp] theorem State.modSkim_beat (s : State) (f : SkimSt → SkimSt) : (s.modSkim f).beat = s.beat := rfl
@[simp] theorem State.skimEnd_beat (s : State) (u result check : Nat) : (s.skimEnd u result check).beat = s.beat := by
  simp [State.skimEnd]
@[simp] theorem State.skimEdgeUnit_beat (s : State) (u : Nat) : (s.skimEdgeUnit u).beat = s.beat := by
  unfold State.skimEdgeUnit
  dsimp only
  split <;> simp
@[simp] theorem State.skimEdge_beat (s : State) : s.skimEdge.beat = s.beat :=
  State.foldl_beat (fun s _ => s.skimEdgeUnit_beat _) _ _
@[simp] theorem State.applySkim_beat (s : State) (period : Nat) (enable : Bool) (count : Nat) :
    (s.applySkim period enable count).beat = s.beat := by
  simp [State.applySkim]

/-! ### The end of a keep-store command -/

@[simp] theorem State.modFuses_beat (s : State) (f : Fuses → Fuses) : (s.modFuses f).beat = s.beat := rfl
@[simp] theorem State.modLife_beat (s : State) (f : LifeSt → LifeSt) : (s.modLife f).beat = s.beat := rfl
@[simp] theorem State.blowState_beat (s : State) (target : Nat) : (s.blowState target).beat = s.beat := by
  simp [State.blowState]
@[simp] theorem State.blowSeal_beat (s : State) : s.blowSeal.beat = s.beat := by simp [State.blowSeal]
@[simp] theorem State.keepDone_beat (s : State) (j : KeepJob) : (s.keepDone j).beat = s.beat := by simp [State.keepDone]
theorem State.keepFuses_beat {s t : State} {j : KeepJob} (h : s.keepFuses j = some t) : t.beat = s.beat := by
  unfold State.keepFuses at h
  split at h
  · cases h; rfl
  · dsimp only at h
    split_ifs at h <;> cases h <;> simp
@[simp] theorem State.keepNext_beat (s : State) (j : KeepJob) : (s.keepNext j).beat = s.beat := by
  unfold State.keepNext
  split
  · simp
  · split
    · next t ht => simpa using State.keepFuses_beat ht
    · simp

/-! ### What a line transmitter leaves -/

@[simp] theorem State.txOutcome_beat (s : State) (ch : Nat) (allowed : Bool) : (s.txOutcome ch allowed).beat = s.beat := by
  unfold State.txOutcome
  dsimp only
  split <;> simp only [State.beat_ite, State.modLine_beat, State.lineDown_beat, State.lineStart_beat, ite_self]
  all_goals split <;> simp

/-! ### Changes that take effect (R26) -/

@[simp] theorem State.applyBypass_beat (s : State) : s.applyBypass.beat = s.beat := by simp [State.applyBypass]
@[simp] theorem State.applyCfg_beat (s : State) (c : Cfg) : (s.applyCfg c).beat = s.beat := by
  unfold State.applyCfg
  split <;> simp
@[simp] theorem State.configEdge_beat (s : State) : s.configEdge.beat = s.beat :=
  State.foldl_beat State.applyCfg_beat _ _

/-! ### The steps of an edge -/

@[simp] theorem State.silence_beat (s : State) (root code : Nat) : (s.silence root code).beat = s.beat := by
  simp [State.silence]
@[simp] theorem State.edgeAct_beat (s : State) (a : EdgeAct) : (s.edgeAct a).beat = s.beat := by
  unfold State.edgeAct
  split <;> simp
@[simp] theorem State.edgeLines_beat (s : State) : s.edgeLines.beat = s.beat := rfl
@[simp] theorem State.edgeTx_beat (s : State) (ch : Nat) : (s.edgeTx ch).beat = s.beat := by simp [State.edgeTx]
@[simp] theorem State.edgeViews_beat (s : State) (ended : Nat) : (s.edgeViews ended).beat = s.beat := rfl
@[simp] theorem State.edgeJoin_beat (s : State) (ch : Nat) : (s.edgeJoin ch).beat = s.beat := by
  unfold State.edgeJoin
  split <;> simp
@[simp] theorem State.edgeSpool_beat (s : State) (g : Nat) : (s.edgeSpool g).beat = s.beat := by
  unfold State.edgeSpool
  split <;> simp
@[simp] theorem State.edgeSteward_beat (s : State) : s.edgeSteward.beat = s.beat := by
  unfold State.edgeSteward
  split <;> simp
@[simp] theorem State.edgeReady_beat (s : State) : s.edgeReady.beat = s.beat := by simp [State.edgeReady]

/-! ### Replies and rows -/

/-- A reply leaves the beat as it was: the state that it carries, where it carries one, has it. -/
def Reply.keeps (b : TimeSt × Option Nat) : Reply → Prop
  | .ok _ s | .part _ _ s | .later s | .silent s => s.beat = b
  | .err _ => True

/-- The body of a row leaves the beat as it was, whatever the message and the state. -/
def Row.keeps (r : Row) : Prop := ∀ m s, (r.2 m s).keeps s.beat

section
variable {b : TimeSt × Option Nat}

@[simp] theorem Reply.keeps_ok (ret : List Word) (s : State) : (Reply.ok ret s).keeps b ↔ s.beat = b := Iff.rfl
@[simp] theorem Reply.keeps_part (c : Code) (ret : List Word) (s : State) : (Reply.part c ret s).keeps b ↔ s.beat = b := Iff.rfl
@[simp] theorem Reply.keeps_later (s : State) : (Reply.later s).keeps b ↔ s.beat = b := Iff.rfl
@[simp] theorem Reply.keeps_silent (s : State) : (Reply.silent s).keeps b ↔ s.beat = b := Iff.rfl
@[simp] theorem Reply.keeps_err (c : Code) : (Reply.err c).keeps b := trivial
@[simp] theorem Reply.keeps_unless (cause : Bool) (c : Code) (k : Reply) :
    (Reply.unless cause c k).keeps b ↔ cause = true ∨ k.keeps b := by
  cases cause <;> simp [Reply.unless]
@[simp] theorem Reply.keeps_ite (p : Prop) [Decidable p] (k l : Reply) :
    (if p then k else l).keeps b ↔ if p then k.keeps b else l.keeps b := by
  split <;> rfl

end

/-- A cause that refuses the message changes nothing (R595). -/
theorem Reply.keeps.unless {b : TimeSt × Option Nat} {k : Reply} (h : k.keeps b) (cause : Bool) (c : Code) :
    (Reply.unless cause c k).keeps b := (Reply.keeps_unless ..).2 (.inr h)

theorem cmdGuaranteeStatus_keeps (m : Msg) (s : State) : (cmdGuaranteeStatus m s).keeps s.beat := by
  simp only [cmdGuaranteeStatus, Reply.keeps_unless]
  split <;> simp

theorem cmdGuaranteeSet_keeps (m : Msg) (s : State) : (cmdGuaranteeSet m s).keeps s.beat := by
  have hadd : (cmdGuarAdd m s).keeps s.beat := by
    simp only [cmdGuarAdd, Reply.keeps_unless]
    split <;> simp
  simp [cmdGuaranteeSet, cmdGuarDel, hadd]

theorem cmdFdbEntry_keeps (m : Msg) (s : State) : (cmdFdbEntry m s).keeps s.beat := by
  refine .unless (.unless (.unless ?_ _ _) _ _) _ _
  split <;> simp

theorem cmdStreamSet_keeps (m : Msg) (s : State) : (cmdStreamSet m s).keeps s.beat := by
  refine .unless (.unless ?_ _ _) _ _
  split
  · simp
  · simp
  · simp
  · split <;> simp

theorem cmdCalCommit_keeps (m : Msg) (s : State) : (cmdCalCommit m s).keeps s.beat := by
  have hfold : ∀ (l : List Nat) (t : State), (l.foldl (fun s k =>
      s.modSensor k (fun x => { x with offset := x.offsetFor (m.get 1 16 8) })) t).beat = t.beat :=
    State.foldl_beat (fun s k => s.modSensor_beat k _)
  refine .unless (.unless (.unless (.unless (.unless ?_ _ _) _ _) _ _) _ _) _ _
  simp only [Reply.keeps_later, State.keepStart_beat, State.beat_ite, hfold, ite_self]

theorem cmdFrerStatus_keeps (m : Msg) (s : State) : (cmdFrerStatus m s).keeps s.beat := by
  simp only [cmdFrerStatus, Reply.keeps_unless]
  split <;> simp

theorem State.stage_keeps (s : State) (c : FabConfig) : (s.stage c).keeps s.beat := rfl

/-! ### The rows of the dispatcher, group by group -/

theorem generalRows_keep : ∀ r ∈ generalRows, r.keeps := by
  simp [generalRows, Row.keeps, cmdEcho, cmdEventRead, cmdStewardMove, cmdDeviceReset, cmdPeerKeySet]
theorem bootRows_keep : ∀ r ∈ bootRows, r.keeps := by
  simp [bootRows, Row.keeps, cmdRollbackAdvance]
theorem powerRows_keep : ∀ r ∈ powerRows, r.keeps := by
  simp [powerRows, Row.keeps, cmdPowerDomainSet, cmdPowerEnter, cmdWakeConfig, cmdPowerStatus]
theorem clockRows_keep : ∀ r ∈ clockRows, r.keeps := by
  simp [clockRows, Row.keeps, cmdClockPlan, cmdClockStatus, cmdClockGate, cmdPpsConfig]
theorem lineRows_keep : ∀ r ∈ lineRows, r.keeps := by
  simp [lineRows, Row.keeps, cmdLineConfig, cmdLineStatus, cmdLineRetrain, cmdLineOamSend, cmdLineOamRead,
    cmdBundleConfig, cmdBundleStatus, cmdRxAdaptConfig, cmdRxStatus, cmdRxTapsRead, cmdLineCounters, cmdLineQuality,
    cmdLineWatchConfig, cmdLineTdr, cmdCableHealth]
theorem dropRows_keep : ∀ r ∈ dropRows, r.keeps := by
  simp [dropRows, Row.keeps, cmdDropConfig, cmdDropStatus, cmdDropCounters]
theorem trunkRows_keep : ∀ r ∈ trunkRows, r.keeps := by
  simp [trunkRows, Row.keeps, cmdTrunkSignalConfig, cmdTrunkSignalStatus, cmdTrunkLoadingRead, cmdTrunkSignalCounters,
    cmdTrunkConfig, cmdTrunkStatus, cmdBypassSetPolicy, cmdTrunkKindle, cmdTrunkReflect]
theorem hostRows_keep : ∀ r ∈ hostRows, r.keeps := by
  simp [hostRows, Row.keeps, cmdHostConfig, cmdHostStatus, cmdHostCounters, cmdHostPrbs]
theorem forwardRows_keep : ∀ r ∈ forwardRows, r.keeps := by
  simp [forwardRows, Row.keeps, cmdPortBridgeConfig, cmdVlanSet, cmdFdbConfig, cmdFdbEntry_keeps, cmdFdbStatus,
    cmdStreamSet_keeps, cmdNodeSet, cmdNodeDel, cmdNodeAdd, cmdQueueSet, cmdQueueDel, cmdQueueAdd, cmdQueueFlush,
    cmdQueueStats]
theorem rateRows_keep : ∀ r ∈ rateRows, r.keeps := by
  simp [rateRows, Row.keeps, cmdRootSet, cmdShaperSet, cmdShaperRead, cmdPolicerSet, cmdPolicerStats,
    cmdGateListWrite, cmdGateListCommit, cmdGuaranteeSet_keeps, cmdGuaranteeStatus_keeps]
theorem cellarRows_keep : ∀ r ∈ cellarRows, r.keeps := by
  simp [cellarRows, Row.keeps, cmdSpoolConfig, cmdSpoolStatus, cmdSpoolReplay, cmdCellarStatus]
theorem fabricRows_keep : ∀ r ∈ fabricRows, r.keeps := by
  simp [fabricRows, Row.keeps, cmdFabricSetIdentity, cmdFabricLinkSet, cmdFabricStatus, cmdFabricStage,
    State.stage_keeps, cmdFabricPrepare, cmdFrerStatus_keeps]
theorem faultRows_keep : ∀ r ∈ faultRows, r.keeps := by
  simp [faultRows, Row.keeps, cmdFaultStatus, cmdFaultClear, cmdFaultConfig, cmdThermalSet, cmdThermalStatus,
    cmdDinConfig, cmdDinStatus, cmdFaultInject]
theorem testRows_keep : ∀ r ∈ testRows, r.keeps := by
  simp [testRows, Row.keeps, cmdCalConfig, cmdCalStatus, cmdCalCommit_keeps, cmdSelftestRun, cmdSelftestResult,
    cmdSkimConfig, cmdSkimStatus]
theorem keepRows_keep : ∀ r ∈ keepRows, r.keeps := by
  simp [keepRows, Row.keeps, cmdKeepWrite, cmdKeepStatus, cmdTokenLoad, cmdLifecycleAdvance]

/-- No row of the dispatcher changes the beat. -/
theorem rows_keep : ∀ r ∈ rows, r.keeps := by
  simp only [rows, List.forall_mem_append]
  exact ⟨⟨⟨⟨⟨⟨⟨⟨⟨⟨⟨⟨⟨⟨generalRows_keep, bootRows_keep⟩, powerRows_keep⟩, clockRows_keep⟩, lineRows_keep⟩, dropRows_keep⟩,
    trunkRows_keep⟩, hostRows_keep⟩, forwardRows_keep⟩, rateRows_keep⟩, cellarRows_keep⟩, fabricRows_keep⟩, faultRows_keep⟩,
    testRows_keep⟩, keepRows_keep⟩

/-! ### Replay of a configuration image (R102, R103) -/

theorem State.execute_keeps {s : State} {known : Option Cmd} {op : Nat} {m : Msg} {body : Msg → State → Reply}
    (h : (body m s).keeps s.beat) : (s.execute known op m body).keeps s.beat := by
  unfold State.execute
  split
  · trivial
  · exact h

theorem State.answerImage_keeps (s : State) (ws : List Word) : (s.answerImage ws).keeps s.beat := by
  unfold State.answerImage
  dsimp only
  split
  · exact State.execute_keeps (by simp)
  · split
    · next c body hr => exact State.execute_keeps (rows_keep _ (List.mem_of_find?_eq_some hr) _ s)
    · exact State.execute_keeps rfl

@[simp] theorem State.replayOver_beat (s : State) (done : Nat) (stop : Option (Nat × Code)) :
    (s.replayOver done stop).s.beat = s.beat := rfl

@[simp] theorem State.replayOn_beat (s : State) (done : Nat) (reply : Option ReplyTo) (msgs : List (List Word)) :
    (s.replayOn done reply msgs).s.beat = s.beat := by
  induction msgs generalizing s done with
  | nil => rfl
  | cons ws rest ih =>
    have hk := s.answerImage_keeps ws
    unfold State.replayOn
    split
    · next h => rw [h] at hk; exact (ih ..).trans hk
    · next h => rw [h] at hk; exact hk
    · rfl
    · next h => rw [h] at hk; exact hk
    · next h => rw [h] at hk; exact hk

@[simp] theorem State.replayNext_beat (s : State) : s.replayNext.beat = s.beat := by
  unfold State.replayNext
  split
  · rfl
  · split
    · rfl
    · dsimp only
      split_ifs <;> simp

/-! ### The edge (R23, R27, R541) -/

/-- With no edge of fabric time to step to, the counter goes to the next number, and the new tick is not committed. -/
theorem State.advance_beat {s : State} (h : s.beat.2 = none) :
    s.advance.beat = ({ s.beat.1 with tick := wrap64 (s.beat.1.tick + 1), committed := false }, none) := by
  have h' : s.fabric.step = none := h
  simp only [State.advance, h']
  exact Prod.ext rfl h'

/-- What happens at an edge before the counter advances, and after it, leaves the beat; so the edge advances it once. -/
theorem State.open_beat {s : State} (h : s.fabric.step = none) :
    s.open.beat = ({ s.time with tick := wrap64 (s.now + 1), committed := false }, none) := by
  unfold State.open
  dsimp only
  rw [State.edgeReady_beat, State.edgeViews_beat, State.wakeTags_beat, State.watermarks_beat, State.runEdge_beat,
    State.runsEdge_beat, State.adjSweep_beat, State.skimEdge_beat, State.calEdge_beat, State.foldl_beat State.edgeJoin_beat,
    State.decideStarts_beat, State.foldl_beat State.edgeTx_beat, State.foldl_beat State.edgeSpool_beat,
    State.foldl_beat State.edgeAct_beat]
  simp only [State.beat_mk, State.time_step_eq_beat, State.edgeSteward_beat, State.modFaults_beat, State.modMbx_beat,
    State.modFabric_beat, State.countCtl_beat, State.modSched_beat, State.replayNext_beat]
  rw [State.advance_beat] <;> simp only [State.commitGates_beat, State.configEdge_beat, State.beat_mk,
    State.time_step_eq_beat, State.edgeLines_beat, State.dropTags_beat]
  · rfl
  · exact h

/-- A DAMP condition that clears changes temperature supervision only (R549). -/
theorem State.dampEdge_frame (s : State) : s.dampEdge = { s with thermal := s.dampEdge.thermal } := by
  unfold State.dampEdge
  split <;> rfl

/-! ### What the edge leaves of the faults in DAMPED (R542, R543) -/

theorem State.foldl_faults {α : Type} {f : State → α → State} (h : ∀ s a, (f s a).faults = s.faults) (l : List α)
    (s : State) : (l.foldl f s).faults = s.faults := by
  induction l generalizing s with
  | nil => rfl
  | cons a l ih => rw [List.foldl_cons, ih, h]

@[simp] theorem State.trunkSt_faults (s : State) (tr : Nat) (st : TrunkState) : (s.trunkSt tr st).faults = s.faults := by
  unfold State.trunkSt
  dsimp only
  split <;> simp [State.trunkEvent]
@[simp] theorem State.handOver_faults (s : State) (tr : Nat) : (s.handOver tr).faults = s.faults := by
  unfold State.handOver
  dsimp only
  split <;> simp
@[simp] theorem State.trunkDown_faults (s : State) (tr : Nat) (st : TrunkState) : (s.trunkDown tr st).faults = s.faults := by
  unfold State.trunkDown
  dsimp only
  split <;> simp
@[simp] theorem State.trunkStart_faults (s : State) (tr start : Nat) : (s.trunkStart tr start).faults = s.faults := by
  unfold State.trunkStart
  dsimp only
  split_ifs <;> simp
@[simp] theorem State.trunkEnterPath_faults (s : State) (start tr : Nat) :
    (s.trunkEnterPath start tr).faults = s.faults := by
  unfold State.trunkEnterPath
  simp
@[simp] theorem State.trunkRelease_faults (s : State) (tr : Nat) : (s.trunkRelease tr).faults = s.faults := by
  unfold State.trunkRelease
  simp
@[simp] theorem State.updateBypass_faults (s : State) (start : Nat) : (s.updateBypass start).faults = s.faults := by
  unfold State.updateBypass
  split_ifs
  · rfl
  · exact State.foldl_faults (fun s tr => s.trunkEnterPath_faults start tr) _ _
  · exact State.foldl_faults (fun s tr => s.trunkRelease_faults tr) _ _
@[simp] theorem State.firedInEntry_faults (s : State) (e : Entry) (w : Wake) (privileged : Bool) :
    (s.firedInEntry e w privileged).faults = s.faults := by
  unfold State.firedInEntry
  split_ifs <;> simp
@[simp] theorem State.firedAsleep_faults (s : State) (w : Wake) : (s.firedAsleep w).faults = s.faults := by
  unfold State.firedAsleep State.pwrenHigh
  dsimp only
  split_ifs <;> simp

/-- A wake that fires changes the power state, the output balls, the doorbells and the ring only (R496, R501, R502). -/
@[simp] theorem State.fireWake_faults (s : State) (w : Wake) (privileged : Bool) :
    (s.fireWake w privileged).faults = s.faults := by
  unfold State.fireWake State.firedInRun
  split
  · split
    · split_ifs <;> simp
    · simp
  all_goals simp

@[simp] theorem State.dinAgree_faults (s : State) (i : Nat) (v : Bool) (start : Nat) :
    (s.dinAgree i v start).faults = s.faults := by
  unfold State.dinAgree
  dsimp only
  split_ifs <;> simp [State.modInput]

/-- DIN_CONFIG leaves the faults as they were. -/
@[simp] theorem State.dinTake_faults (s : State) (old : DinCfg) (i : Nat) : (s.dinTake old i).faults = s.faults := by
  unfold State.dinTake
  dsimp only
  split
  · rfl
  · split
    · rfl
    · exact State.dinAgree_faults ..

/-- A change that hardware carries in DAMPED leaves what the collector waits for (R542, R543). -/
theorem State.applyCfg_dampedDue (s : State) {c : Cfg} (h : c.inDamped = true) :
    (s.applyCfg c).faults.dampedDue = s.faults.dampedDue := by
  cases c with
  | thermal | quiet | clockPlan => rfl
  | din c => exact congrArg FaultSt.dampedDue (State.foldl_faults (fun s i => s.dinTake_faults _ i) _ _)
  | clockGate en =>
    simp only [State.applyCfg, State.applyGate]
    split
    · rfl
    · unfold State.ppsLow; split <;> rfl
  | _ => cases h

theorem State.configKept_dampedDue (s : State) : s.configKept.faults.dampedDue = s.faults.dampedDue := by
  have hfold : ∀ (l : List Cfg), (∀ c ∈ l, c.inDamped = true) → ∀ t : State,
      (l.foldl State.applyCfg t).faults.dampedDue = t.faults.dampedDue := by
    intro l
    induction l with
    | nil => exact fun _ _ => rfl
    | cons c l ih =>
      intro hl t
      rw [List.foldl_cons, ih (fun x hx => hl x (List.mem_cons_of_mem c hx)), t.applyCfg_dampedDue (hl c List.mem_cons_self)]
  exact hfold _ (fun c hc => (List.mem_filter.1 hc).2) _

/-- The edge of a running device opens a tick, and the parity of the token is checked (R23, R545). -/
theorem State.edge_of_running {s : State} (hr : (s.boot.halted || s.boot.power == .damped) = false)
    (hreset : (s.boot.resetAt.any (fun e => decide (e ≤ s.now + 1)) && s.keep.job.isNone) = false) :
    s.edge = s.dampEdge.open.tokenCheck := by
  unfold State.edge
  rw [State.dampEdge_frame]
  dsimp only
  exact (if_neg (by rw [Bool.not_eq_true]; exact hreset)).trans (if_neg (by rw [Bool.not_eq_true]; exact hr))

/-- The edge of a halted device keeps the settings of hardware and counts (R27, R541). -/
theorem State.edge_of_damped {s : State} (hr : (s.boot.halted || s.boot.power == .damped) = true)
    (hreset : (s.boot.resetAt.any (fun e => decide (e ≤ s.now + 1)) && s.keep.job.isNone) = false) :
    let u := s.dampEdge.configKept
    let t : State := { u with time := { s.time with tick := wrap64 (s.now + 1), committed := false }
                              faults := { u.faults with raised := [] } }
    s.edge = if s.faults.dampedDue then t.enterDamped else t := by
  intro u t
  have hdue : t.faults.dampedDue = s.faults.dampedDue := by
    rw [show t.faults.dampedDue = u.faults.dampedDue from rfl, State.configKept_dampedDue, State.dampEdge_frame]
  have hadv : ({ u with time := { s.dampEdge.time with tick := wrap64 (s.dampEdge.now + 1), committed := false } }
      : State).modFaults (fun f => { f with raised := [] }) = t := by
    simp only [State.now, show s.dampEdge.time = s.time by rw [State.dampEdge_frame]]
    rfl
  rw [← hdue, ← hadv]
  unfold State.edge
  refine (if_neg ?_).trans (if_pos ?_)
  · rw [State.dampEdge_frame, Bool.not_eq_true]
    exact hreset
  · rw [State.dampEdge_frame]
    exact hr

end Machine

/-- Settles O47 (R23, R27, R460, R541, R549): the beat of the edge is that of one advance, whatever takes effect at it. -/
theorem tickCounterAdvancesByOneAtEachEdge : Obligations.TickCounterAdvancesByOneAtEachEdge := by
  intro s hc hr hstep hreset
  refine ⟨s.edge, by simp [exec, execTickEdge, hc, hr], ?_⟩
  cases hdamp : s.boot.halted || s.boot.power == .damped
  · have hbeat : s.edge.beat = ({ s.time with tick := wrap64 (s.now + 1), committed := false }, none) := by
      rw [State.edge_of_running hdamp hreset, State.tokenCheck_beat, State.open_beat] <;> rw [State.dampEdge_frame]
      · rfl
      · exact hstep
    have htime : s.edge.time = { s.time with tick := wrap64 (s.now + 1), committed := false } := congrArg Prod.fst hbeat
    refine ⟨by rw [State.now, htime]; rfl, by rw [htime], fun h _ => ?_⟩
    rcases h with h | h <;> simp [h] at hdamp
  · have hedge := State.edge_of_damped hdamp hreset
    cases hdue : s.faults.dampedDue
    · rw [hdue] at hedge
      have hedge' : s.edge = _ := hedge
      rw [hedge']
      exact ⟨rfl, rfl, fun _ _ => rfl⟩
    · rw [hdue] at hedge
      have hedge' : s.edge = State.enterDamped _ := hedge
      rw [hedge']
      exact ⟨rfl, rfl, fun _ h => nomatch h⟩
end Sys2Proof
end

section
/-! SUPPORT. Resets: what begins one, which cause it names, its release, and the values after a power-on reset; proofs of O18
and O20. -/
namespace Sys2Proof
open Machine
namespace Machine

/-! ## A reset begins (R82 to R84) -/

@[simp] theorem State.resetTo_held (s : State) (c : Cause) (rail : Nat) : (s.resetTo c rail).boot.held = true := rfl

/-- Within a held reset the earlier cause stands unless the new one comes before it in the order of R83. -/
theorem State.resetTo_cause (s : State) (c : Cause) (rail : Nat) :
    (s.resetTo c rail).boot.cause.cause =
      if s.boot.held && decide (s.boot.cause.cause.rank ≤ c.rank) then s.boot.cause.cause else c := rfl

@[simp] theorem State.resetTo_fuses (s : State) (c : Cause) (rail : Nat) : (s.resetTo c rail).fuses = s.fuses := rfl

/-- A word write that VDDE18's loss interrupts leaves the fuses (R589). -/
@[simp] theorem State.keepTorn_fuses (s : State) : s.keepTorn.fuses = s.fuses := by
  unfold State.keepTorn
  split
  · rfl
  · split
    · rfl
    · split
      · rw [State.keepCutShort_frame]
      · rfl

/-! ## The conditions of each reset (R55, R56, R64, R82, R504) -/

theorem execPinReset_of_powered {s : State} (h : s.boot.power ≠ .cold) : execPinReset s = .next (s.resetTo .pin 0) := by
  simp [execPinReset, h]

/-- A failed rail resets while the switched rails are compared, and restarts the hold of a held reset (R55, R83). -/
theorem execRailReset_of_compared {s : State} {rails c : Nat}
    (hon : ((s.boot.power = .run ∨ s.boot.power = .banked ∨ s.boot.power = .damped) ∧ s.power.railsOk = true) ∨
      (s.boot.power = .boot ∧ s.boot.held = true))
    (hc : [1, 2, 3, 4, 5].find? (bit rails) = some c) : execRailReset rails s = .next (s.resetTo .rail c) := by
  unfold execRailReset
  rw [hc]
  rcases hon with ⟨hp | hp | hp, hr⟩ | ⟨hp, hr⟩ <;> simp [hp, hr]

theorem execHearthBrownout_of_ember_or_held {s : State}
    (h : s.boot.power = .ember ∨ (s.boot.held = true ∧ s.boot.power ≠ .cold)) :
    execHearthBrownout s = .next (s.resetTo .brownout 0) := by
  rcases h with hp | ⟨hh, hp⟩
  · simp [execHearthBrownout, hp]
  · simp [execHearthBrownout, hh, hp]

theorem execEmberWake_of_waking {s : State} (sleep : Nat) (hp : s.boot.power = .ember) (hw : s.power.waking = true) :
    execEmberWake sleep s =
      .next ((s.modPower (fun p => { p with sleep := wrap64 sleep })).resetTo .emberWake 0) := by
  simp [execEmberWake, hp, hw]

/-- The release starts the boot ROM on FIO and drives the outputs of R80. -/
theorem execResetRelease_of_held {s : State} (hh : s.boot.held = true) (hp : s.boot.power ≠ .cold) :
    execResetRelease s = .next (((s.modBoot (fun b => { b with held := false, stage := .romClock })).modPins (fun p =>
      { p with pwrenCore := .high, pwrenAna := .high, pwrenIo := .high, byp := .low, ppsOut := .low, tdo := .hiZ
               bfCsN := .high })).modClock (fun c => { c with runFio := true })) := by
  simp [execResetRelease, hh, hp]

/-! ## The state after a power-on reset (R54, R80) -/

@[simp] theorem State.reset_awake : State.reset.awake = false := rfl
@[simp] theorem State.reset_fwRuns : State.reset.fwRuns = false := rfl

/-- With VDDE18 present the balls follow the state of the block (R57). -/
theorem State.ball_of_powered {s : State} (h : s.boot.power ≠ .cold) (us : Nat) (a b : Bool) (x : Ball) :
    s.ball us a b x = s.ballOn us a b x := by
  simp [State.ball, h]

/-- While a reset is held INT_N is released (R54, R132). -/
theorem State.intLow_of_not_awake {s : State} (h : s.awake = false) : s.intLow = false := by
  simp [State.intLow, h]

/-- CLKOUT is low where its setting does not enable it (R525). -/
theorem State.clkoutShown_of_disabled {s : State} (h : s.clock.clkNow.enable = false) : s.clkoutShown = false := by
  simp [State.clkoutShown, h]

/-- An index of an empty table has the default: so every unit has its reset settings after reset. -/
@[simp] theorem tget_nil {α : Type} (d : α) (i : Nat) : tget d ([] : Table α) i = d := rfl

theorem State.reset_line (ch : Nat) : State.reset.line ch = Line.reset := tget_nil ..
theorem State.reset_drop (ds : Nat) : State.reset.drop ds = Drop.reset := tget_nil ..
theorem State.reset_trunk (tr : Nat) : State.reset.trunk tr = Trunk.reset := tget_nil ..
theorem State.reset_host (g : Nat) : State.reset.host g = LaneGroup.reset := tget_nil ..

end Machine

/-- Settles O18 (R54 to R56, R80, R82 to R84, R504). -/
theorem resetsBegin : Obligations.ResetsBegin := by
  intro s
  refine ⟨fun c rail => ⟨s.resetTo_held c rail, s.resetTo_cause c rail⟩, rfl, execPinReset_of_powered,
    fun rails c => execRailReset_of_compared, execHearthBrownout_of_ember_or_held, fun sleep => execEmberWake_of_waking sleep,
    ⟨_, rfl, rfl, rfl, rfl, rfl, rfl, (s.keepTorn.resetTo_fuses .powerOn 0).trans s.keepTorn_fuses⟩,
    fun hh hp => ⟨_, execResetRelease_of_held hh hp, rfl, rfl, rfl, rfl, rfl, rfl, rfl⟩⟩

/-- Settles O20 (R54, R80, R84, R85, R130, R358, R511, R512). -/
theorem resetValues : Obligations.ResetValues := by
  refine ⟨State.reset_fwRuns, by decide, rfl, rfl, rfl, fun us a b => ?_, fun ch => ?_, fun ds => ?_, fun tr => ?_, fun g => ?_,
    rfl, rfl, rfl, rfl, rfl, rfl⟩
  · have hball := State.ball_of_powered (s := State.reset) nofun us a b
    have hint : State.reset.intLow = false := State.intLow_of_not_awake State.reset_awake
    have hclk : State.reset.clkoutShown = false := State.clkoutShown_of_disabled rfl
    refine ⟨hball _, hball _, hball _, (hball _).trans ?_, (hball _).trans ?_, ?_⟩
    · simp only [State.ballOn, hclk]
      rfl
    · simp [State.ballOn, hint]
    · rintro p (rfl | rfl | rfl) <;> exact hball _
  · rw [State.reset_line]
    exact ⟨rfl, rfl, rfl⟩
  · rw [State.reset_drop]
    exact ⟨rfl, rfl⟩
  · rw [State.reset_trunk]
    rfl
  · rw [State.reset_host]
    rfl

end Sys2Proof
end

section
/-! SUPPORT. What a reset keeps and puts back, the boot ROM and the start-up phases: proofs of O19 and O21. -/
namespace Sys2Proof
open Machine
namespace Machine

/-! ## What a reset keeps and puts back (R82 to R84, R115, R589, R590) -/

/-- A count saturates at its bound. -/
theorem satTo_eq_min (n k : Nat) : satTo n k = min n k := by
  unfold satTo
  split <;> omega

/-- A reset that begins while none is held has its own cause, and it is cold or warm by that cause alone (R82, R84). -/
theorem State.resetCause_of_released {s : State} (c : Cause) (rail : Nat) (hh : s.boot.held = false) :
    s.resetCause c rail = ⟨c, rail, s.boot.power == .damped, !c.cold,
      if c.cold then 0 else min 255 (s.boot.cause.warmCount + 1)⟩ := by
  simp [State.resetCause, hh, satTo_eq_min]

/-- The hearth of a reset that begins while none is held: cleared by a cold one, kept by a warm one (R82). -/
theorem State.resetTo_hearth {s : State} (c : Cause) (rail : Nat) (hh : s.boot.held = false) :
    (s.resetTo c rail).faults.record = (if c.cold then Record.empty else s.faults.record) ∧
      (s.resetTo c rail).power = (if c.cold then PowerSt.reset else s.power.warm) := by
  have hf : (s.resetTo c rail).faults =
    if (s.resetCause c rail).recordKept then { State.reset.faults with record := s.faults.record } else State.reset.faults := rfl
  have hp : (s.resetTo c rail).power = if (s.resetCause c rail).recordKept then s.power.warm else PowerSt.reset := rfl
  rw [hf, hp, State.resetCause_of_released c rail hh]
  cases c.cold <;> exact ⟨rfl, rfl⟩

theorem Cause.cold_iff (c : Cause) : c.cold = true ↔ c = .powerOn ∨ c = .brownout := by
  cases c <;> simp [Cause.cold]

/-! ## The boot ROM (R87 to R93) -/

section
variable {s : State} {ck : BootClocks} {fl : Flash} (hh : s.boot.held = false) (hp : s.boot.power = .boot)
include hh hp

theorem execBootRom_romClock (hs : s.boot.stage = .romClock) : execBootRom ck fl s = .next (s.romStart ck) := by
  simp [execBootRom, hh, hp, hs]

theorem execBootRom_romImage (hs : s.boot.stage = .romImage) : execBootRom ck fl s = .next (s.romBoot fl) := by
  simp [execBootRom, hh, hp, hs]
end

/-- With a crystal the ROM runs on it, and only a BLANK device waits there (R87, R89). -/
theorem State.romStart_of_bootRef {s : State} {ck : BootClocks} {r : Ref} (h : bootRef ck = some r) :
    s.romStart ck = (s.romClock ck r).modBoot (fun b =>
      { b with stage := if s.life.state == .blank then .blankWait else .romImage }) := by
  simp [State.romStart, h]

/-- With an answering flash a bootable slot decides what the ROM starts (R88, R93). -/
theorem State.romBoot_of_answers {s : State} {fl : Flash} (h : fl.answers = true) :
    s.romBoot fl = match bootSlot s.fuses fl with
      | none => s.bootFail 0x3A12
      | some x => s.fwStart x.1 x.2.1 x.2.2 := by
  simp only [State.romBoot, h, Bool.not_true, Bool.false_eq_true, if_false]
  cases bootSlot s.fuses fl <;> rfl

/-! ## The phases after FW_START (R94, R101, R102, R422) -/

/-- Firmware runs only outside DAMPED with no kill line asserted. -/
theorem State.unkilled_of_fwRuns {s : State} (h : s.fwRuns = true) : s.boot.halted = false ∧ s.boot.power ≠ .damped := by
  simp only [State.fwRuns, Bool.and_eq_true, Bool.not_eq_true', Bool.or_eq_true, beq_iff_eq] at h
  obtain ⟨⟨⟨⟨_, hh⟩, _⟩, hp⟩, _⟩ := h
  exact ⟨hh, by rcases hp with hp | hp <;> simp [hp]⟩

/-! ### Doorbells that are set stay set (R131 to R136) -/

/-- Bits that are all set stay set when further bits are. -/
theorem or_and_of_and_eq {a w : Word} (x : Word) (h : a &&& w = w) : (a ||| x) &&& w = w := by
  apply BitVec.eq_of_getElem_eq
  intro i hi
  have hb : (a &&& w)[i] = w[i] := by rw [h]
  simp only [BitVec.getElem_and, BitVec.getElem_or, Bool.and_eq_right_iff_imp, Bool.or_eq_true] at hb ⊢
  exact fun hw => .inl (hb hw)

section
variable {m : MbxSt} {w : Word} (h : m.dbStatus &&& w = w)
include h

theorem ringPut_keeps_doorbell (e : Event) : (ringPut m e).dbStatus &&& w = w := by
  unfold ringPut
  cases m.ring.isEmpty
  · exact h
  · exact or_and_of_and_eq _ h

theorem ringFlush_keeps_doorbell (now : Nat) : (ringFlush now m).dbStatus &&& w = w := by
  unfold ringFlush
  split
  · exact ringPut_keeps_doorbell h ⟨now % 2 ^ 24, 0x3F, 0, sat16 m.ringLost⟩
  · exact h

theorem ringAdd_keeps_doorbell (now : Nat) (e : Event) : (ringAdd now m e).dbStatus &&& w = w := by
  have hf := ringFlush_keeps_doorbell h now
  unfold ringAdd
  dsimp only
  split
  · exact ringPut_keeps_doorbell hf e
  · exact hf
end

theorem State.record_keeps_doorbell {s : State} {w : Word} (h : s.mbx.dbStatus &&& w = w) (type source data : Nat) :
    (s.record type source data).mbx.dbStatus &&& w = w := by
  unfold State.record
  split
  · exact ringAdd_keeps_doorbell h ..
  · exact h

/-- After an event its doorbell is set (R131, R135). -/
theorem State.event_bit (s : State) (type source data : Nat) :
    (s.event type source data).mbx.dbStatus &&& w32 (2 ^ type) = w32 (2 ^ type) :=
  State.record_keeps_doorbell (s.doorbell_bit type) ..

/-! ### The rows of the phases -/

/-- The state of the CELLAR phase once both configuration images have been read and checked (R94, R101). -/
def State.imagesRead (s : State) (fl : Flash) : State :=
  let image := fun area => if Flash.reads fl then flashImage s.fuses fl area else none
  s.modBoot (fun b => { b with stage := .cellar, images := [image 0, image 1] })

section
variable {s : State} (fl : Flash) (hr : s.fwRuns = true)
include hr

/-- CELLAR goes on only with a cellar that trains (R422). -/
theorem execCellarPhase_of_fwStart (trained : Bool) (hs : s.boot.stage = .fwStart) :
    execCellarPhase trained fl s = .next (if trained
      then (s.imagesRead fl).modCellar (fun c => { c with trained := true }) else (s.imagesRead fl).fatal 0x3802 0xFF) := by
  refine (if_pos (by simp [hr, hs])).trans ?_
  cases trained <;> rfl

/-- CONFIG replays area 0 when it is valid, otherwise area 1, otherwise nothing (R101, R102). -/
theorem execConfigReplay_of_cellar (hs : s.boot.stage = .cellar) (ht : s.cellar.trained = true) :
    execConfigReplay s = .next (match s.boot.images.getD 0 none, s.boot.images.getD 1 none with
      | some i, _ => ((s.modBoot (fun b => { b with stage := .config })).replay 0 none i.msgs).s
      | none, some i => ((s.modBoot (fun b => { b with stage := .config })).replay 1 none i.msgs).s
      | none, none => s.modBoot (fun b => { b with stage := .config, configState := .none })) := by
  simp only [execConfigReplay, hr, hs, ht, beq_self_eq_true, Bool.and_self, if_true]
  cases h0 : s.boot.images.getD 0 none <;> cases h1 : s.boot.images.getD 1 none <;> simp only [State.modBoot, h0, h1]
end

theorem execTrainingPhase_of_config {s : State} (hl : s.live = true) (hs : s.boot.stage = .config)
    (hb : s.boot.replaying = false) :
    execTrainingPhase s = .next ((s.modBoot (fun b => { b with stage := .training })).updateBypass s.now) := by
  simp [execTrainingPhase, hl, hs, hb]

theorem execReadinessPhase_of_settled {s : State} (hl : s.live = true) (hs : s.boot.stage = .training)
    (ht : s.settled = true) :
    execReadinessPhase s = .next ((s.fabStart.firstHello.modBoot (fun b =>
      { b with stage := .done, ready := true, power := .run })).event 20 0 (powerData 1 0 false 0)) := by
  simp only [execReadinessPhase, hl, hs, ht, beq_self_eq_true, Bool.and_self, if_true]
  rfl

end Machine

/-- Settles O19 (R82, R84, R115, R134, R425, R546, R589; log 1, log 6). -/
theorem resetKeepsFusesKeepStoreAndHearth : Obligations.ResetKeepsFusesKeepStoreAndHearth := by
  intro c rail s hh t
  have hcause : t.boot.cause = ⟨c, rail, s.boot.power == .damped, !c.cold, _⟩ := State.resetCause_of_released c rail hh
  obtain ⟨hrec, hpow⟩ := State.resetTo_hearth c rail hh
  -- the settings, queues and memories of `State.resetTo` do not depend on the cause
  refine ⟨rfl, rfl, rfl, rfl, rfl, rfl, rfl, rfl, rfl, rfl, rfl, rfl, rfl, rfl, rfl, rfl, rfl, rfl, rfl, rfl, rfl, rfl,
    by rw [hcause], by rw [hcause], fun hc => ?_, fun hp hb => ?_⟩
  · have hcold : c.cold = true := c.cold_iff.mpr hc
    rw [hcold] at hrec hpow hcause
    exact ⟨hrec, by rw [hcause]; rfl, by rw [hpow]; rfl, by rw [hpow]; rfl⟩
  · have hwarm : c.cold = false := by simpa using fun h => (c.cold_iff.mp h).elim hp hb
    rw [hwarm] at hrec hpow hcause
    exact ⟨hrec, by rw [hpow]; rfl, by rw [hpow]; rfl, by rw [hcause]; rfl⟩

/-- Settles O21 (R81, R86 to R89, R93 to R95, R101, R422; log 39). -/
theorem startUpPhasesComplete : Obligations.StartUpPhasesComplete := by
  intro s ck fl
  refine ⟨fun hh hs hp => ?_, fun hh hs hp => ?_, fun hr hs => ?_, fun hr hs => ?_, fun hr hs ht => ?_,
    execTrainingPhase_of_config, fun hl hs ht => ?_⟩
  · have hx : exec (.bootRom ck fl) s = .next (s.romStart ck) := execBootRom_romClock hh hp hs
    rw [hx]
    refine ⟨fun hn => by simp [State.romStart, hn], fun r hr => ?_⟩
    rw [State.romStart_of_bootRef hr]
    exact ⟨fun hb => ⟨_, rfl, by simp [hb], rfl⟩, fun hb => ⟨_, rfl, by simp [hb], rfl, rfl⟩⟩
  · have hx : exec (.bootRom ck fl) s = .next (s.romBoot fl) := execBootRom_romImage hh hp hs
    rw [hx]
    exact ⟨fun hn => by simp [State.romBoot, hn], fun ha => ⟨congrArg _ (State.romBoot_of_answers ha), fun b fb h => rfl⟩⟩
  · exact ⟨_, execCellarPhase_of_fwStart fl hr true hs, rfl, rfl⟩
  · obtain ⟨hh, hd⟩ := State.unkilled_of_fwRuns hr
    exact ⟨_, execCellarPhase_of_fwStart fl hr false hs,
      (State.fatal_outside_damped (s := s.imagesRead fl) 0x3802 0xFF 0 hh hd).1⟩
  · have hx : exec .configReplay s = _ := execConfigReplay_of_cellar hr hs ht
    refine ⟨fun i h0 => ?_, fun i h0 h1 => ?_, fun h0 h1 => ⟨_, hx, ?_⟩⟩
    · rw [hx, h0]
    · rw [hx, h0, h1]
    · rw [h0, h1]
      exact ⟨rfl, rfl⟩
  · refine ⟨_, execReadinessPhase_of_settled hl hs ht, by simp, by simp, by simp, ?_⟩
    rw [State.event_bit]
    decide

end Sys2Proof
end

section
/-! SUPPORT. The keep-store and life-cycle commands: proof of O27. -/
namespace Sys2Proof
open Machine
namespace Machine

/-! ## The conditions of the commands (R104, R582, R583, R589, R595) -/

theorem State.keepBusy_of_idle {s : State} (h : s.keep.job = none) : s.keepBusy = false := by
  simp [State.keepBusy, h]

/-- A count of one to fourteen words inside a memory of `n` words passes the checks of its command. -/
theorem countBad_of_fits {count index n : Nat} (h1 : 1 ≤ count) (h14 : count ≤ 14) (hn : index + count ≤ n) :
    (count == 0 || decide (14 < count) || decide (n < index + count)) = false := by
  simp only [Bool.or_eq_false_iff, beq_eq_false_iff_ne, decide_eq_false_iff_not]
  omega

/-- What LIFECYCLE_ADVANCE is asked for is allowed: TEST_SEAL alone, or the next state, with a token that verifies where that is
RETURN, once per reset (R582, R583). -/
def State.mayAdvance (s : State) (target : Nat) (doSeal : Bool) : Prop :=
  (target = 0 ∧ doSeal = true) ∨ (2 ≤ target ∧ target ≤ 4 ∧ target = s.life.state.num + 1 ∧
    (target = 4 → s.tokenOk = true) ∧ s.life.advanced = false)

/-- An allowed advance passes the checks of its target, its token and its number since the reset. -/
theorem State.mayAdvance_checks {s : State} {target : Nat} {doSeal : Bool} (h : s.mayAdvance target doSeal) :
    ((target == 0 && !doSeal) || (target != 0 && (target < 2 || 4 < target || target != s.life.state.num + 1))) = false ∧
      (target == 4 && !s.tokenOk) = false ∧ (target != 0 && s.life.advanced) = false := by
  rcases h with ⟨rfl, hs⟩ | ⟨h2, h4, hn, ht, ha⟩
  · simp [hs]
  · refine ⟨?_, ?_, by simp [ha]⟩
    · simp [← hn]
      omega
    · by_cases h : target = 4 <;> simp [h, ht]

/-- The count that reads back lies between the present one and the one asked for, which it is unless the blow fails (R104; log 8). -/
theorem State.rollbackGets_spec (s : State) {count : Nat} (h : s.fuses.rollback ≤ count) :
    s.fuses.rollback ≤ s.rollbackGets count ∧ s.rollbackGets count ≤ count ∧
      (Config.fuseBlowFails (8 * s.now + 6) = false → s.rollbackGets count = count) := by
  unfold State.rollbackGets
  split
  · next hf =>
    obtain ⟨hlt, hfail⟩ := hf
    have hmod := Nat.mod_lt (Config.fuseBlown (8 * s.now + 6)) (Nat.sub_pos_of_lt hlt)
    exact ⟨by omega, by omega, fun hn => by simp [hn] at hfail⟩
  · exact ⟨h, le_rfl, fun _ => rfl⟩

/-! ## What each command answers -/

/-- A selected command is answered what its body answers (R124, R595). -/
theorem State.mailbox_of_answer {cmd : Cmd} {m : Msg} {body : Msg → State → Reply} {s d : State} {r : Reply}
    (h : s.selects cmd m d) (hr : body m d = r) : s.mailbox cmd m body = d.settle m.rt r := by
  rw [State.mailbox_selects h, hr]

section
variable {m : Msg} {d : State}

theorem cmdKeepWrite_of_fits (h1 : 1 ≤ m.get 1 8 4) (h14 : m.get 1 8 4 ≤ 14) (hn : m.get 1 0 8 + m.get 1 8 4 ≤ 256)
    (hl : m.len = m.get 1 8 4 + 2) (hs : m.stray 1 0xFFF = false)
    (hw : d.keepWorn ((List.range (m.get 1 8 4)).map (fun k => (m.get 1 0 8 + k, w32 (m.word (k + 2))))) = false)
    (hj : d.keep.job = none) :
    cmdKeepWrite m d = .later (d.keepStart
      ((List.range (m.get 1 8 4)).map (fun k => (m.get 1 0 8 + k, w32 (m.word (k + 2))))) 0x4200 0 (d.replyTo m)) := by
  rw [cmdKeepWrite, Reply.unless_of_false _ _ (by simp [countBad_of_fits h1 h14 hn, hl, hs]), Reply.unless_of_false _ _ hw,
    Reply.unless_of_false _ _ (State.keepBusy_of_idle hj)]

theorem cmdKeepStatus_of_fits (h1 : 1 ≤ m.get 1 12 4) (h14 : m.get 1 12 4 ≤ 14) (hn : m.get 1 0 9 + m.get 1 12 4 ≤ 512)
    (hs : m.stray 1 0xF1FF = false) :
    cmdKeepStatus m d = .ok (packW [(16, d.wornAt 100000), (16, d.wornAt 90000)] ::
      (List.range (m.get 1 12 4)).map (fun k => w32 (d.keepWear (m.get 1 0 9 + k)))) d := by
  rw [cmdKeepStatus, Reply.unless_of_false _ _ (by simp [countBad_of_fits h1 h14 hn, hs])]

/-- The token words of a message are staged beside those that are staged already (R583). -/
theorem cmdTokenLoad_of_fits (h1 : 1 ≤ m.get 1 0 4) (h14 : m.get 1 0 4 ≤ 14) (hn : m.get 1 8 5 + m.get 1 0 4 ≤ 32)
    (hl : m.len = m.get 1 0 4 + 2) (hs : m.stray 1 0x1F0F = false) :
    let l := { d.life with
      token := (List.range (m.get 1 0 4)).foldl (fun t k => tset t (m.get 1 8 5 + k) (w32 (m.word (k + 2)))) d.life.token
      loaded := (List.range (m.get 1 0 4)).foldl (fun w k => w ||| w32 (2 ^ (m.get 1 8 5 + k))) d.life.loaded }
    cmdTokenLoad m d = .ok [l.loaded] { d with life := l } := by
  intro l
  rw [cmdTokenLoad, Reply.unless_of_false _ _ (by simp [countBad_of_fits h1 h14 hn, hl, hs])]
  rfl

theorem cmdLifecycleAdvance_of_mayAdvance (hm : m.get 1 16 16 = 0xC3A5) (hs : m.stray 1 0xFFFF0107 = false)
    (ha : d.mayAdvance (m.get 1 0 3) (m.flag 1 8))
    (hw : d.keepWorn (d.advanceWords (m.get 1 0 3) (m.flag 1 8 && !fused d.fuses.testSeal)) = false)
    (hj : d.keep.job = none) :
    let ws := d.advanceWords (m.get 1 0 3) (m.flag 1 8 && !fused d.fuses.testSeal)
    let t := d.modLife (fun l => { l with token := [], loaded := 0 })
    cmdLifecycleAdvance m d = if ws = [] then .ok [d.fuses.word, d.keepWord 461] t
      else .later (t.keepNext ⟨ws, ws.map Prod.fst, d.replyTo m, 0x4203, 16 * d.logWord.toNat⟩) := by
  intro ws t
  obtain ⟨htarget, htoken, honce⟩ := State.mayAdvance_checks ha
  have hbad : (m.get 1 16 16 != 0xC3A5 || (m.get 1 0 3 == 0 && !m.flag 1 8) ||
      (m.get 1 0 3 != 0 && (m.get 1 0 3 < 2 || 4 < m.get 1 0 3 || m.get 1 0 3 != d.life.state.num + 1)) ||
      m.stray 1 0xFFFF0107) = false := by
    simp only [hm, hs, bne_self_eq_false, Bool.false_or, Bool.or_false, htarget]
  rw [cmdLifecycleAdvance, Reply.unless_of_false _ _ hbad, Reply.unless_of_false _ _ htoken,
    Reply.unless_of_false _ _ honce, Reply.unless_of_false _ _ hw, Reply.unless_of_false _ _ (State.keepBusy_of_idle hj)]
  simp only [List.isEmpty_iff]
  rfl

theorem cmdRollbackAdvance_of_signed (h1 : 1 ≤ m.get 1 0 7) (h64 : m.get 1 0 7 ≤ 64) (hr : d.fuses.rollback ≤ m.get 1 0 7)
    (hs : m.stray 1 0x7F = false) (hv : m.get 1 0 7 ≤ d.boot.runSv) (hl : d.life.state = .bench ∨ d.life.state = .field) :
    let got := d.rollbackGets (m.get 1 0 7)
    let t := d.modFuses (fun f => { f with rollback := got })
    cmdRollbackAdvance m d = if got = m.get 1 0 7 then .ok [w32 (m.get 1 0 7)] t else .part .internal [w32 got] t := by
  have hbad : (m.get 1 0 7 == 0 || decide (64 < m.get 1 0 7) || decide (m.get 1 0 7 < d.fuses.rollback) ||
      m.stray 1 0x7F) = false := by
    simp [hs]
    omega
  rw [cmdRollbackAdvance, Reply.unless_of_false _ _ hbad, Reply.unless_of_false _ _ (by simpa using hv),
    Reply.unless_of_false _ _ (by rcases hl with hl | hl <;> simp [hl])]

/-- CLOCK_STATUS answers six words and changes nothing; the third holds the gates (R518). -/
theorem cmdClockStatus_words (hs : m.stray 1 0 = false) :
    ∃ ret, cmdClockStatus m d = .ok ret d ∧ ret.length = 6 ∧ ret[2]? = some (w32 d.clock.gates) := by
  rw [cmdClockStatus, Reply.unless_of_false _ _ hs]
  exact ⟨_, rfl, rfl, rfl⟩
end

/-- JTAG works in BLANK with no seal, and its fuse instruction records the root key hash there (R580 to R582). -/
theorem execFuseInstruction_of_blank {s : State} (hash : BitVec 256) (ha : s.awake = true) (hb : s.life.state = .blank)
    (hs : s.life.sealed = false) (hf : s.fuses.life = .blank) :
    execFuseInstruction hash s = .next (s.modFuses (fun f => { f with maker := 3, rootHash := hash })) := by
  simp [execFuseInstruction, State.jtagWorks, ha, hb, hs, hf]

end Machine

/-- Settles O27 (R104, R115, R518, R580 to R586, R589, R591; log 8, log 76). -/
theorem keepStoreMessagesAreAnswered : Obligations.KeepStoreMessagesAreAnswered := by
  intro m s d
  refine ⟨fun h h1 h14 hn hl hs => ?_, fun h h1 h14 hn hs => ?_, fun h h1 h14 hn hl hs => ?_, fun h hm hs ha => ?_,
    fun h h1 h64 hr hs hv hl => ?_, fun hash => execFuseInstruction_of_blank hash, fun h hs => ?_⟩
  · intro ws hw hj
    exact congrArg _ (State.mailbox_of_answer h (cmdKeepWrite_of_fits h1 h14 hn hl hs hw hj))
  · exact congrArg _ (State.mailbox_of_answer h (cmdKeepStatus_of_fits h1 h14 hn hs))
  · exact ⟨_, congrArg _ (State.mailbox_of_answer h (cmdTokenLoad_of_fits h1 h14 hn hl hs)), rfl, rfl, rfl⟩
  · intro ws hw hj t
    refine congrArg _ ((State.mailbox_of_answer h (cmdLifecycleAdvance_of_mayAdvance hm hs ha hw hj)).trans ?_)
    split <;> rfl
  · obtain ⟨hlow, hhigh, hall⟩ := d.rollbackGets_spec hr
    refine ⟨_, hlow, hhigh, hall,
      congrArg _ ((State.mailbox_of_answer h (cmdRollbackAdvance_of_signed h1 h64 hr hs hv hl)).trans ?_)⟩
    split
    · next hg => rw [hg]; rfl
    · rfl
  · obtain ⟨ret, hr, hlen, hgates⟩ := cmdClockStatus_words hs
    exact ⟨ret, congrArg _ (State.mailbox_of_answer h hr), hlen, hgates⟩

end Sys2Proof
end

section
/-! SUPPORT. Doorbells, the event ring, the direct window and the fabric-peer channel: proofs of O4 to O9, O11 and O15. -/
namespace Sys2Proof
open Machine
namespace Machine

/-! ## Doorbells (R130, R131) -/

theorem getLsbD_w32_two_pow (b : Nat) {i : Nat} (hi : i < 32) : (w32 (2 ^ b)).getLsbD i = decide (i = b) := by
  rw [w32, BitVec.getLsbD_ofNat, Nat.testBit_two_pow]
  simp [hi, eq_comm]

/-- The bits that are not reserved are 0 to 23 and 31 (R130). -/
theorem dbBits_getLsbD {i : Nat} (h : i < 24 ∨ i = 31) : dbBits.getLsbD i = true := by
  rcases h with h | rfl
  · exact (by decide : ∀ i < 24, dbBits.getLsbD i = true) i h
  · rfl

end Machine

/-- Settles O6 (R131). -/
theorem doorbellBitsLatchAndClear : Obligations.DoorbellBitsLatchAndClear := by
  refine ⟨fun s b i _ hi => ⟨?_, ?_, rfl⟩, fun s mask events i hi => ?_⟩
  · simp [getLsbD_w32_two_pow b hi]
  · simp only [State.doorbell_frame, BitVec.or_assoc, BitVec.or_self]
  · have h32 : i < 32 := by omega
    simp only [State.dbClear, State.modMbx_mbx, BitVec.getLsbD_or, BitVec.getLsbD_and, BitVec.getLsbD_not, dbBits_getLsbD hi,
      h32, decide_true, Bool.true_and, Bool.and_true]

namespace Machine

/-! ## The event ring (R133, R136) -/

/-- The record that tells how many were lost (R136). -/
def ringLostRecord (now : Nat) (m : MbxSt) : Event := ⟨now % 2 ^ 24, 0x3F, 0, min 0xFFFF m.ringLost⟩

section
variable {m : MbxSt} (now : Nat) (e : Event)

theorem ringFlush_of_none_lost (hl : m.ringLost = 0) : ringFlush now m = m := by
  simp [ringFlush, hl]

theorem ringFlush_of_full (hr : m.ring.length = 1024) : ringFlush now m = m := by
  simp [ringFlush, hr]

theorem ringFlush_of_lost (hl : 0 < m.ringLost) (hr : m.ring.length < 1024) :
    ringFlush now m = { ringPut m (ringLostRecord now m) with ringLost := 0 } := by
  rw [ringFlush, if_pos ⟨hl, hr⟩, sat16, satTo_eq_min]
  rfl

theorem ringAdd_of_none_lost (hl : m.ringLost = 0) (hr : m.ring.length < 1024) : ringAdd now m e = ringPut m e := by
  simp [ringAdd, ringFlush_of_none_lost now hl, hr]

theorem ringAdd_of_full (hr : m.ring.length = 1024) : ringAdd now m e = { m with ringLost := m.ringLost + 1 } := by
  simp [ringAdd, ringFlush_of_full now hr, hr]

theorem ringAdd_of_lost (hl : 0 < m.ringLost) (hr : m.ring.length < 1023) :
    ringAdd now m e = ringPut { ringPut m (ringLostRecord now m) with ringLost := 0 } e := by
  simp only [ringAdd, ringFlush_of_lost now hl (Nat.lt_succ_of_lt hr), ringPut_length]
  exact if_pos (by omega)

/-- The last space takes the RING_LOST record, and the new record is lost in turn. -/
theorem ringAdd_of_lost_last (hl : 0 < m.ringLost) (hr : m.ring.length = 1023) :
    ringAdd now m e = { ringPut m (ringLostRecord now m) with ringLost := 1 } := by
  simp only [ringAdd, ringFlush_of_lost now hl (by omega), ringPut_length]
  exact if_neg (by omega)

theorem ringPut_ring : (ringPut m e).ring = m.ring ++ [e] := rfl

/-- A record that comes into the empty ring rings doorbell 3 (R133). -/
theorem ringPut_bit (h : m.ring = []) : (ringPut m e).dbStatus.getLsbD 3 = true := by
  simp [ringPut, h, w32]

theorem ringPut_keeps_bit (h : m.dbStatus.getLsbD 3 = true) : (ringPut m e).dbStatus.getLsbD 3 = true := by
  unfold ringPut
  split
  · rw [BitVec.getLsbD_or, h, Bool.true_or]
  · exact h

/-- What a new record makes of the ring: it is held, it is lost, or the RING_LOST record goes before it (R136). -/
theorem ringAdd_cases (h : m.ring.length ≤ 1024) :
    (m.ringLost = 0 ∧ m.ring.length < 1024 ∧ ringAdd now m e = ringPut m e) ∨
    (m.ring.length = 1024 ∧ ringAdd now m e = { m with ringLost := m.ringLost + 1 }) ∨
    (0 < m.ringLost ∧ m.ring.length < 1023 ∧
      ringAdd now m e = ringPut { ringPut m (ringLostRecord now m) with ringLost := 0 } e) ∨
    (0 < m.ringLost ∧ m.ring.length = 1023 ∧ ringAdd now m e = { ringPut m (ringLostRecord now m) with ringLost := 1 }) := by
  by_cases hr : m.ring.length = 1024
  · exact .inr (.inl ⟨hr, ringAdd_of_full now e hr⟩)
  · rcases Nat.eq_zero_or_pos m.ringLost with hl | hl
    · have hr' : m.ring.length < 1024 := by omega
      exact .inl ⟨hl, hr', ringAdd_of_none_lost now e hl hr'⟩
    · by_cases hr' : m.ring.length = 1023
      · exact .inr (.inr (.inr ⟨hl, hr', ringAdd_of_lost_last now e hl hr'⟩))
      · have hr'' : m.ring.length < 1023 := by omega
        exact .inr (.inr (.inl ⟨hl, hr'', ringAdd_of_lost now e hl hr''⟩))

theorem ringAdd_length (h : m.ring.length ≤ 1024) : (ringAdd now m e).ring.length ≤ 1024 := by
  rcases ringAdd_cases now e h with ⟨_, hr, ha⟩ | ⟨_, ha⟩ | ⟨_, hr, ha⟩ | ⟨_, hr, ha⟩ <;> rw [ha]
  · simp only [ringPut_length]; omega
  · exact h
  · simp only [ringPut_length]; omega
  · simp only [ringPut_length]; omega

/-- The records held stay, in their order; at most two are added. -/
theorem ringAdd_appends (h : m.ring.length ≤ 1024) : ∃ l, (ringAdd now m e).ring = m.ring ++ l ∧ l.length ≤ 2 := by
  rcases ringAdd_cases now e h with ⟨_, _, ha⟩ | ⟨_, ha⟩ | ⟨_, _, ha⟩ | ⟨_, _, ha⟩ <;> rw [ha]
  · exact ⟨[e], rfl, by simp⟩
  · exact ⟨[], (List.append_nil _).symm, by simp⟩
  · exact ⟨[ringLostRecord now m, e], by simp [ringPut_ring], by simp⟩
  · exact ⟨[ringLostRecord now m], rfl, by simp⟩

theorem ringAdd_bit (h : m.ring = []) : (ringAdd now m e).dbStatus.getLsbD 3 = true := by
  rcases Nat.eq_zero_or_pos m.ringLost with hl | hl
  · rw [ringAdd_of_none_lost now e hl (by simp [h])]
    exact ringPut_bit e h
  · rw [ringAdd_of_lost now e hl (by simp [h])]
    exact ringPut_keeps_bit e (ringPut_bit (ringLostRecord now m) h)
end

end Machine

/-- Settles O15 (R133, R134, R136). -/
theorem eventRingHoldsAtMost1024Records : Obligations.EventRingHoldsAtMost1024Records := by
  intro now m e h
  refine ⟨ringAdd_length now e h, ringFlush_length now m h, ringAdd_appends now e h, fun hr hl => ?_, fun hr => ?_,
    fun hr hl => ?_, fun hr hl => ?_, ringAdd_bit now e⟩
  · rw [ringAdd_of_none_lost now e hl hr]
    exact ⟨rfl, hl⟩
  · rw [ringAdd_of_full now e hr]
    exact ⟨rfl, rfl⟩
  · rw [ringAdd_of_lost now e hl hr]
    exact ⟨by simp [ringPut_ring, ringLostRecord], rfl⟩
  · rw [ringAdd_of_lost_last now e hl hr]
    exact ⟨rfl, rfl⟩

namespace Machine

/-! ## The mailbox registers (R116, R118, R120, R121) -/

/-! ### What leaves every mailbox channel as it was -/

theorem ringPut_chans (m : MbxSt) (e : Event) : (ringPut m e).chans = m.chans := rfl

theorem ringFlush_chans (now : Nat) (m : MbxSt) : (ringFlush now m).chans = m.chans := by
  unfold ringFlush
  split <;> rfl

theorem ringAdd_chans (now : Nat) (m : MbxSt) (e : Event) : (ringAdd now m e).chans = m.chans := by
  unfold ringAdd
  dsimp only
  split
  · exact (ringPut_chans ..).trans (ringFlush_chans ..)
  · exact ringFlush_chans ..

@[simp] theorem State.record_chans (s : State) (type source data : Nat) :
    (s.record type source data).mbx.chans = s.mbx.chans := by
  unfold State.record
  split
  · exact ringAdd_chans ..
  · rfl

@[simp] theorem State.event_chans (s : State) (type source data : Nat) :
    (s.event type source data).mbx.chans = s.mbx.chans := State.record_chans ..

@[simp] theorem State.recordLater_chans (s : State) (type source data : Nat) :
    (s.recordLater type source data).mbx.chans = s.mbx.chans := by
  unfold State.recordLater
  split
  · exact State.record_chans ..
  · rfl

@[simp] theorem State.firedInEntry_chans (s : State) (e : Entry) (w : Wake) (privileged : Bool) :
    (s.firedInEntry e w privileged).mbx.chans = s.mbx.chans := by
  unfold State.firedInEntry
  split
  · split <;> rfl
  · split <;> rfl

@[simp] theorem State.firedAsleep_chans (s : State) (w : Wake) : (s.firedAsleep w).mbx.chans = s.mbx.chans := by
  unfold State.firedAsleep
  split
  · rfl
  · dsimp only
    split <;> rfl

@[simp] theorem State.fireWake_chans (s : State) (w : Wake) (privileged : Bool) :
    (s.fireWake w privileged).mbx.chans = s.mbx.chans := by
  unfold State.fireWake
  split
  · split
    · split <;> simp [State.firedInRun]
    · exact State.event_chans ..
  · exact State.firedAsleep_chans ..
  · exact State.firedAsleep_chans ..
  all_goals rfl

@[simp] theorem State.goWake_chans (s : State) (ch : Nat) : (s.goWake ch).mbx.chans = s.mbx.chans := by
  unfold State.goWake
  dsimp only
  split
  · exact State.fireWake_chans ..
  · rfl

@[simp] theorem State.aim_chans (s : State) (ch : Nat) : (s.aim ch).mbx.chans = s.mbx.chans := by
  unfold State.aim
  split <;> rfl

theorem State.chan_congr {s t : State} (h : t.mbx.chans = s.mbx.chans) (n : Nat) : t.chan n = s.chan n := by
  rw [State.chan, h, State.chan]

/-! ### GO and CANCEL -/

/-- Where the owner may send, and channel 6 is open, a channel takes a message exactly when it is not BUSY (R116, R120). -/
theorem State.accepts_of_free {s : State} {ch : Nat} (hlt : ch < 7) (h3 : ch ≠ 3)
    (h6 : ch = 6 → s.life.state = .bench ∧ bit s.clock.gates 2 = true) (hb : (s.chan ch).busy = false) :
    s.accepts ch = true := by
  by_cases hc : ch = 6
  · obtain ⟨hl, hg⟩ := h6 hc
    simp [State.accepts, State.bridged, hlt, h3, hb, hl, hg]
  · simp [State.accepts, State.bridged, hlt, h3, hb, hc]

theorem State.accepts_of_busy {s : State} {ch : Nat} (hb : (s.chan ch).busy = true) : s.accepts ch = false := by
  simp [State.accepts, hb]

theorem State.goWrite_of_busy {s : State} {ch : Nat} (ctrl : Word) (hb : (s.chan ch).busy = true) : s.goWrite ch ctrl = s := by
  simp [State.goWrite, State.accepts_of_busy hb]

theorem State.goWrite_of_cancel (s : State) (ch : Nat) {ctrl : Word} (hc : bit ctrl.toNat 1 = true) : s.goWrite ch ctrl = s := by
  simp [State.goWrite, hc]

theorem State.goWrite_of_accepts {s : State} {ch : Nat} {ctrl : Word} (ha : s.accepts ch = true)
    (hg : bit ctrl.toNat 0 = true) (hc : bit ctrl.toNat 1 = false) :
    s.goWrite ch ctrl = ((s.modChan ch (fun c => c.go c.msg)).aim ch).goWake ch := by
  simp [State.goWrite, ha, hg, hc]

/-- An accepted GO makes of its channel what R120 says. -/
theorem State.chan_goWrite {s : State} {ch : Nat} {ctrl : Word} (hn : ch < s.mbx.chans.length) (ha : s.accepts ch = true)
    (hg : bit ctrl.toNat 0 = true) (hc : bit ctrl.toNat 1 = false) :
    (s.goWrite ch ctrl).chan ch = (s.chan ch).go (s.chan ch).msg := by
  rw [State.goWrite_of_accepts ha hg hc]
  exact (State.chan_congr ((State.goWake_chans ..).trans (State.aim_chans ..)) ch).trans
    (State.chan_modChan_self s (fun c => c.go c.msg) hn)

theorem State.cancelWrite_of_idle {s : State} {ch : Nat} (ctrl : Word) (hb : (s.chan ch).busy = false) :
    s.cancelWrite ch ctrl = s := by
  simp [State.cancelWrite, hb]

theorem State.cancelWrite_zero (s : State) (ch : Nat) : s.cancelWrite ch 0 = s := by
  simp [State.cancelWrite, bit, fld]

end Machine

/-- Settles O4 (R117, R120, R522). -/
theorem goIsAcceptedOnlyWhileNotBusy : Obligations.GoIsAcceptedOnlyWhileNotBusy := by
  intro ch ctrl k data s
  refine ⟨State.goWrite_of_busy ctrl, s.goWrite_of_cancel ch, fun hb => ?_, fun hlt h3 h6 hn hb hg hc => ?_⟩
  · simp [State.msgWrite, hb]
  · rw [State.chan_goWrite (by omega) (State.accepts_of_free hlt h3 h6 hb) hg hc]
    exact ⟨rfl, rfl, rfl, rfl⟩

/-- Settles O5 (R121). -/
theorem cancelWriteIsIgnoredWithoutBusyOrWithGo : Obligations.CancelWriteIsIgnoredWithoutBusyOrWithGo := by
  intro ch ctrl s
  refine ⟨State.cancelWrite_of_idle ctrl, fun hg hc => ?_⟩
  rw [State.chanWrite, if_neg (by decide), if_pos rfl, s.goWrite_of_cancel ch hc, if_pos hg, State.cancelWrite_zero]

namespace Machine

/-! ## The direct window (R107 to R112) -/

/-- What ACK_CLR makes of its channel (R118). -/
theorem State.chan_ackClr {s : State} {ch : Nat} {data : Word} (hlt : ch < 7) (h3 : ch ≠ 3) (hn : ch < s.mbx.chans.length)
    (hd : bit data.toNat 0 = true) :
    (s.ackClr ch data).chan ch =
      { s.chan ch with ack := ⟨false, false, 0, 0, 0⟩, ret := List.replicate 16 0 } := by
  have hc : (s.ackClr ch data).mbx.chans =
      (s.modChan ch (fun c => { c with ack := ⟨false, false, 0, 0, 0⟩, ret := List.replicate 16 0 })).mbx.chans := by
    have hw : (bit data.toNat 0 && decide (ch < 7) && ch != 3) = true := by simp [hd, hlt, h3]
    simp only [State.ackClr, hw, if_true]
    split <;> rfl
  exact (State.chan_congr hc ch).trans (State.chan_modChan_self s _ hn)

theorem State.clkoutGo_clkout (s : State) (c : ClkoutSet) : (s.clkoutGo c).clock.clkout = s.clock.clkout := by
  unfold State.clkoutGo State.modClock
  dsimp only
  split <;> rfl

/-- Whatever a change of CLKOUT waits for, CLKOUT_CTRL holds what was written (R524). -/
theorem State.clkoutWrite_clkout (s : State) (w : Word) : (s.clkoutWrite w).clock.clkout = clkoutOf w := by
  unfold State.clkoutWrite
  dsimp only
  split
  · exact State.clkoutGo_clkout ..
  · split <;> rfl

end Machine

/-- Settles O7 (R107, R110 to R112, R118, R130, R133, R522, R524). -/
theorem registerCommandsComplete : Obligations.RegisterCommandsComplete := by
  intro s ha
  refine ⟨fun p addr data => ?_, fun addr data a => ?_, fun addr data a => ?_, fun ch ctrl => ?_, fun ch ctrl hlt h3 hb => ?_,
    fun ch data hlt h3 hb hn hd => ?_, fun mask events => ?_, fun mask => ?_, fun data => ?_, fun data => ?_, fun hn => ?_,
    fun hn => ?_, fun p hm hs => ?_⟩
  · cases p <;> simp [exec, execRegisterWrite, ha]
  · simp [exec, execRegisterWrite, ha, State.sameCycle, State.access]
  · simp [exec, execRegisterWrite, ha, State.sameCycle, State.access]
  · simp [exec, execMailboxGo, ha]
  · simp [exec, execMailboxCancel, ha, hlt, h3, hb]
  · have hc := State.chan_ackClr (s := s) hlt h3 (by omega) hd
    exact ⟨s.ackClr ch data, by simp [exec, execAckClr, ha, hb], by rw [hc], by rw [hc], by rw [hc]⟩
  · simp [exec, execDbStatusClear, ha]
  · exact ⟨s.dbMaskWrite mask, by simp [exec, execDbMaskWrite, ha], rfl, rfl⟩
  · simp [exec, execDbTest, ha, State.dbTest]
  · exact ⟨s.clkoutWrite data, by simp [exec, execClkoutChange, ha], s.clkoutWrite_clkout data⟩
  · exact ⟨s.holdTick .msp, by simp [exec, execTickLoRead, ha], by simp [State.holdTick, hn]⟩
  · exact ⟨s.holdTick .ssp, by simp [exec, execTickLoRead, ha], by simp [State.holdTick, hn]⟩
  · cases p <;> simp_all [exec, execTickLoRead, State.holdTick]

/-- Settles O8 (R107, R110, R116). -/
theorem windowReachesChannelsOfTheirOwnersOnly : Obligations.WindowReachesChannelsOfTheirOwnersOnly := by
  intro p addr data s
  refine ⟨fun hlo hhi hr => ?_, fun ho hm hs => ?_, fun ch => ⟨rfl, rfl, rfl, rfl, rfl⟩⟩
  · have hin : 0x1000 ≤ addr / 4 * 4 ∧ addr / 4 * 4 < 0x1800 := by omega
    have hch : (addr / 4 * 4 - 0x1000) / 0x100 = (addr - 0x1000) / 0x100 := by omega
    simp [State.windowWrite, State.windowRead, hin, hch, hr]
  · have hout : ¬(0x1000 ≤ addr / 4 * 4 ∧ addr / 4 * 4 < 0x1800) := by omega
    simp only [State.windowWrite, if_neg hout, hm, hs, or_self, if_false]

namespace Machine

/-! ### TICK_HI and its shadow (R112) -/

section
variable {s : State} (ha : s.awake = true)
include ha

/-- With VDDE18 present a read of TICK_LO by an SPI port gives the low half of the counter. -/
theorem State.windowRead_tickLo {p : Port} (hp : p = .msp ∨ p = .ssp) : s.windowRead p 0x14 = w32 s.now := by
  simp [State.windowRead, ha, hp]

/-- A read of TICK_HI by an SPI port gives what the port's shadow holds, and otherwise the high half of the counter. -/
theorem State.windowRead_tickHi {p : Port} (hp : p = .msp ∨ p = .ssp) {x : Option Word}
    (hx : s.mbx.shadow[if p = .msp then 0 else 1]? = some x) :
    s.windowRead p 0x18 = x.getD (w32 (s.now / 2 ^ 32)) := by
  simp [State.windowRead, ha, hp, State.tickHi, hx]

/-- A held TICK_HI is read however the counter has gone on (R112). -/
theorem State.windowRead_tickHi_of_held {p : Port} (hp : p = .msp ∨ p = .ssp) {w : Word}
    (hx : s.mbx.shadow[if p = .msp then 0 else 1]? = some (some w)) (n : Nat) :
    ({ s with time := { s.time with tick := n } } : State).windowRead p 0x18 = w :=
  State.windowRead_tickHi (s := { s with time := { s.time with tick := n } }) ha hp hx

theorem exec_tickLoRead (p : Port) : exec (.tickLoRead p) s = .next (s.holdTick p) := by
  simp [exec, execTickLoRead, ha]
end

/-- The bytes of a number are as many as are asked for. -/
@[simp] theorem leBytes_length (k n : Nat) : (leBytes k n).length = k := by
  induction k generalizing n with
  | zero => rfl
  | succ k ih => simp [leBytes, ih]

@[simp] theorem beBytes_length (k n : Nat) : (beBytes k n).length = k := by
  simp [beBytes]

/-- A burst read of two words from TICK_LO on returns TICK_LO, and TICK_HI from the shadow that this read has filled (R112). -/
theorem State.readBurst_tick {s : State} (ha : s.awake = true) (hn : s.mbx.shadow.length = 2) :
    (s.readBurst .msp 0x14 2).2 = beBytes 4 (w32 s.now).toNat ++ beBytes 4 (w32 (s.now / 2 ^ 32)).toNat := by
  have hlo : s.windowRead .msp 0x14 = w32 s.now := State.windowRead_tickLo ha (.inl rfl)
  have hhi : (s.holdTick .msp).windowRead .msp 0x18 = w32 (s.now / 2 ^ 32) :=
    State.windowRead_tickHi (s := s.holdTick .msp) ha (.inl rfl) (x := some (w32 (s.now / 2 ^ 32))) (by simp [State.holdTick, hn])
  simp [State.readBurst, State.txRead, State.access, hlo, hhi]

end Machine

/-- Settles O9 (R112). -/
theorem tickHiShadowHoldsForItsTransaction : Obligations.TickHiShadowHoldsForItsTransaction := by
  intro s ha hn _
  have hm : (s.holdTick .msp).mbx.shadow[0]? = some (some (w32 (s.now / 2 ^ 32))) := by simp [State.holdTick, hn]
  have hs : (s.holdTick .ssp).mbx.shadow[1]? = some (some (w32 (s.now / 2 ^ 32))) := by simp [State.holdTick, hn]
  refine ⟨⟨s.holdTick .msp, exec_tickLoRead ha .msp, 
      State.windowRead_tickHi_of_held (s := s.holdTick .msp) ha (.inl rfl) hm, rfl, ?_⟩,
    ⟨s.holdTick .ssp, exec_tickLoRead ha .ssp, 
      State.windowRead_tickHi_of_held (s := s.holdTick .ssp) ha (.inr rfl) hs, rfl, ?_⟩, ?_, ?_, ?_,
    fun h => State.windowRead_tickHi ha (.inl rfl) h, fun h => State.windowRead_tickHi ha (.inr rfl) h⟩
  · simp [State.holdTick]
  · simp [State.holdTick]
  · simp [State.csEnd, hn]
  · simp [State.csEnd, hn]
  · have hb := State.readBurst_tick (s := s.csEnd .msp) ha (by simpa [State.csEnd] using hn)
    refine (congrArg (fun l => (List.replicate 9 0 ++ l).take 17) hb).trans ?_
    exact (List.take_of_length_le (by simp)).trans (List.append_assoc ..).symm

namespace Machine

/-! ## The fabric-peer channel (R137 to R139) -/

/-- Where firmware runs, a payload of DIR 1 under a bound slot is judged by the conditions of R138. -/
theorem execPeerMessage_of_bound {p : PeerPayload} {s : State} {k : PeerSlot} (hr : s.fwRuns = true) (hd : p.dir = 1)
    (hk : tfind s.peers p.slot = some k) :
    execPeerMessage p s =
      if payloadOk p k then
        let t := { s with peers := tset s.peers p.slot { k with counter := p.counter } }
        if 16 ≤ s.mbx.peerIn.length then .next (t.refusePeer p .busy)
        else .next (t.modMbx (fun m => { m with peerIn := m.peerIn ++ [⟨p.slot, p.counter, fill16 p.words⟩] }))
      else .next (s.refusePeer p .authFail) := by
  simp [execPeerMessage, hr, hd, hk]

end Machine

/-- Settles O11 (R137 to R139; log 49). -/
theorem peerMessageIsAcceptedOnce : Obligations.PeerMessageIsAcceptedOnce := by
  intro p s k hr hd
  refine ⟨fun hk => ?_, fun hk ho hl => ?_, fun hk ho hl => ?_, fun hk ho => ?_⟩
  · simp [exec, execPeerMessage, hr, hd, hk]
  · refine (execPeerMessage_of_bound hr hd hk).trans ?_
    rw [if_pos ho]
    exact if_neg (by omega)
  · refine (execPeerMessage_of_bound hr hd hk).trans ?_
    rw [if_pos ho]
    exact if_pos hl
  · refine (execPeerMessage_of_bound hr hd hk).trans ?_
    exact if_neg (by simp [ho])

end Sys2Proof
end

section
/-! SUPPORT. Submitting, dispatching and answering messages: proofs of O2, O3 and O12. -/
namespace Sys2Proof
open Machine
namespace Machine

/-! ## Submitting a message (R119, R120) -/

/-- Where firmware runs the device is awake and not asleep. -/
theorem State.awake_of_fwRuns {s : State} (h : s.fwRuns = true) :
    s.awake = true ∧ s.boot.power ≠ .banked ∧ s.boot.power ≠ .ember := by
  simp only [State.fwRuns, Bool.and_eq_true, Bool.not_eq_true', Bool.or_eq_true, beq_iff_eq] at h
  obtain ⟨⟨⟨⟨hh, _⟩, _⟩, hp⟩, _⟩ := h
  rcases hp with hp | hp <;> simp [State.awake, hh, hp]

/-- A GO wakes nothing outside BANKED, EMBER and an entry (R497, R501). -/
theorem State.goWake_of_up {s : State} (he : s.power.entry = none) (hb : s.boot.power ≠ .banked) (hm : s.boot.power ≠ .ember)
    (ch : Nat) : s.goWake ch = s := by
  simp [State.goWake, he, hb, hm]

@[simp] theorem State.aim_boot (s : State) (ch : Nat) : (s.aim ch).boot = s.boot := by
  unfold State.aim
  split <;> rfl

@[simp] theorem State.aim_power (s : State) (ch : Nat) : (s.aim ch).power = s.power := by
  unfold State.aim
  split <;> rfl

@[simp] theorem State.aim_far (s : State) (ch : Nat) : (s.aim ch).mbx.far = s.mbx.far := by
  unfold State.aim
  split <;> rfl

@[simp] theorem State.aim_peerIn (s : State) (ch : Nat) : (s.aim ch).mbx.peerIn = s.mbx.peerIn := by
  unfold State.aim
  split <;> rfl

/-- An accepted message outside BANKED, EMBER and an entry: its GO, and on channel 4 the end that it goes to. -/
theorem State.submit_of_accepts {s : State} {m : Msg} (op : Nat) (ha : s.awake = true) (hc : s.accepts m.chan = true)
    (he : s.power.entry = none) (hb : s.boot.power ≠ .banked) (hm : s.boot.power ≠ .ember) :
    s.submit op m = (s.modChan m.chan (fun c => c.go (m.word0 op :: m.args))).aim m.chan := by
  simp only [State.submit, ha, hc, Bool.and_self, if_true]
  exact State.goWake_of_up (by simpa using he) (by simpa using hb) (by simpa using hm) _

/-! ## The order of the dispatcher (R122) -/

/-- The order in which the steward's dispatcher looks at the channels other than 4: round robin after channel `k`. -/
def roundRobin (k : Nat) : List Nat :=
  [0, 1, 2, 3, 5, 6].filter (fun c => decide (k < c)) ++ [0, 1, 2, 3, 5, 6].filter (fun c => decide (c ≤ k))

theorem mem_roundRobin {k c : Nat} : c ∈ roundRobin k ↔ c < 7 ∧ c ≠ 4 := by
  simp only [roundRobin, List.mem_append, List.mem_filter, List.mem_cons, List.not_mem_nil, or_false, decide_eq_true_eq]
  omega

/-- The order is that of the distance from the channel after `k`, upwards modulo 7. -/
theorem roundRobin_sorted {k : Nat} (hk : k < 7) :
    (roundRobin k).Pairwise (fun a b => (a + 6 - k) % 7 ≤ (b + 6 - k) % 7) :=
  (by decide : ∀ k < 7, (roundRobin k).Pairwise (fun a b => (a + 6 - k) % 7 ≤ (b + 6 - k) % 7)) k hk

/-- The first element that passes a test comes before every other one that passes it. -/
theorem rel_of_find?_eq_some {α : Type} {r : α → α → Prop} {p : α → Bool} {l : List α} {a b : α} (hr : r a a)
    (hl : l.Pairwise r) (ha : l.find? p = some a) (hb : b ∈ l) (hp : p b = true) : r a b := by
  obtain ⟨-, before, after, rfl, hn⟩ := List.find?_eq_some_iff_append.1 ha
  rcases List.mem_append.1 hb with hb | hb
  · exact absurd hp (by simpa using hn b hb)
  · rcases List.mem_cons.1 hb with rfl | hb
    · exact hr
    · exact List.rel_of_pairwise_cons (List.pairwise_append.1 hl).2.1 hb

/-- The one element that passes a test is the first. -/
theorem find?_eq_some_of_unique {α : Type} {p : α → Bool} {l : List α} {a : α} (ha : a ∈ l) (hp : p a = true)
    (hu : ∀ b ∈ l, p b = true → b = a) : l.find? p = some a := by
  cases h : l.find? p with
  | none => simp [List.find?_eq_none.1 h a ha] at hp
  | some b => rw [hu b (List.mem_of_find?_eq_some h) (List.find?_some h)]

section
variable {s : State}

/-- The steward's end of channel 4 goes first. -/
theorem State.nextChan_of_four (hf : s.farFor s.boot.stewardSouth = none) (h4 : s.isPending 4 = true)
    (hs : s.mbx.fourSouth = s.boot.stewardSouth) : s.nextChan = some 4 := by
  simp [State.nextChan, hf, h4, hs]

/-- With nothing at the steward's end of channel 4 and no passed message that waits, the round robin decides. -/
theorem State.nextChan_of_round (hf : ∀ south, s.farFor south = none)
    (h4 : (s.isPending 4 && s.mbx.fourSouth == s.boot.stewardSouth) = false) :
    s.nextChan = (roundRobin (s.lastChan s.boot.stewardSouth)).find? s.isPending := by
  simp [State.nextChan, State.farWaits, hf, h4, roundRobin]

/-- What the steward's dispatcher selects is its end of channel 4, or the first of the round robin. -/
theorem State.nextChan_eq_some {ch : Nat} (h : s.nextChan = some ch) :
    (ch = 4 ∧ s.isPending 4 = true) ∨
      ((s.isPending 4 && s.mbx.fourSouth == s.boot.stewardSouth) = false ∧
        (roundRobin (s.lastChan s.boot.stewardSouth)).find? s.isPending = some ch) := by
  unfold State.nextChan at h
  split at h
  · cases h
  · split at h
    · next h4 =>
      cases h
      exact .inl ⟨rfl, (Bool.and_eq_true_iff.1 h4).1⟩
    · next h4 =>
      split at h
      · cases h
      · exact .inr ⟨Bool.eq_false_iff.2 h4, h⟩

theorem State.nextChan_pending {ch : Nat} (h : s.nextChan = some ch) : s.isPending ch = true ∧ ch < 7 := by
  rcases State.nextChan_eq_some h with ⟨rfl, hp⟩ | ⟨_, hf⟩
  · exact ⟨hp, by decide⟩
  · exact ⟨List.find?_some hf, (mem_roundRobin.1 (List.mem_of_find?_eq_some hf)).1⟩

/-- A channel other than 4 is selected only with nothing at the steward's end of channel 4, and no pending channel comes before
it after the one that was selected last. -/
theorem State.nextChan_first {ch : Nat} (h : s.nextChan = some ch) (h4 : ch ≠ 4) (hk : s.lastChan s.boot.stewardSouth < 7) :
    (s.isPending 4 = true → s.mbx.fourSouth ≠ s.boot.stewardSouth) ∧ ∀ c, c < 7 → c ≠ 4 → s.isPending c = true →
      (ch + 6 - s.lastChan s.boot.stewardSouth) % 7 ≤ (c + 6 - s.lastChan s.boot.stewardSouth) % 7 := by
  rcases State.nextChan_eq_some h with ⟨hc, _⟩ | ⟨hn, hf⟩
  · exact absurd hc h4
  · refine ⟨fun hp => by simpa [hp] using hn, fun c hc hc4 hp => ?_⟩
    exact rel_of_find?_eq_some (r := fun a b => (a + 6 - s.lastChan s.boot.stewardSouth) % 7 ≤
      (b + 6 - s.lastChan s.boot.stewardSouth) % 7) le_rfl (roundRobin_sorted hk) hf (mem_roundRobin.2 ⟨hc, hc4⟩) hp

/-- A channel whose message is the only one that waits is selected next. -/
theorem State.nextChan_of_only {ch : Nat} (hf : ∀ south, s.farFor south = none) (hlt : ch < 7) (hp : s.isPending ch = true)
    (ho : ∀ c, c < 7 → c ≠ ch → s.isPending c = false) (h4 : ch = 4 → s.mbx.fourSouth = s.boot.stewardSouth) :
    s.nextChan = some ch := by
  by_cases hc : ch = 4
  · subst hc
    exact State.nextChan_of_four (hf _) hp (h4 rfl)
  · rw [State.nextChan_of_round hf (by simp [ho 4 (by decide) (Ne.symm hc)])]
    refine find?_eq_some_of_unique (mem_roundRobin.2 ⟨hlt, hc⟩) hp fun c hm hcp => ?_
    by_contra hne
    simp [ho c (mem_roundRobin.1 hm).1 hne] at hcp

/-- A dispatcher takes a channel that the steward's order gives, where the steward serves it. -/
theorem State.turn_of_next {ch : Nat} (ht : s.boot.tokenParity = true) (hs : s.serverOf ch = s.boot.stewardSouth)
    (hn : s.nextChan = some ch) : s.turn ch = true := by
  simp [State.turn, ht, hs, hn]

end

/-! ## A message on a free channel (R116 to R126, R595) -/

theorem State.fwRuns_congr {s t : State} (hb : t.boot = s.boot) (hp : t.power = s.power) : t.fwRuns = s.fwRuns := by
  simp only [State.fwRuns, State.saved, hb, hp]

@[simp] theorem State.passOn_boot (s : State) (op : Nat) (m : Msg) : (s.passOn op m).boot = s.boot := by
  unfold State.passOn
  split <;> rfl

/-- The checks 1 to 5 of R595 pass a well-formed message of a command that its channel accepts, on a channel other than 3, once
READY is 1, save a steward's write on channel 4. -/
theorem State.check_eq_none {s : State} {cmd : Cmd} {m : Msg} (hr : s.boot.ready = true) (h3 : m.chan ≠ 3)
    (hg : groupOk m.chan cmd.op = true) (hl : m.len ∈ cmd.lens) (hfit : lenFits cmd.op m = true) (h1 : 1 ≤ m.len)
    (h16 : m.len ≤ 16) (hz : m.rsv = 0) (hw : ¬(cmd.steward = true ∧ m.chan = 4)) :
    s.check (some cmd) cmd.op m = none := by
  have hform : ¬(m.len = 0 ∨ 16 < m.len ∨ m.rsv ≠ 0) := by omega
  have hbar : (peerBars m.chan cmd.op || (cmd.steward && s.tokenless m)) = false := by
    by_cases h4 : m.chan = 4
    · simp [peerBars, h4, show cmd.steward = false by simpa [h4] using hw]
    · simp [peerBars, State.tokenless, h3, h4]
  simp [State.check, hform, hg, hl, hfit, hr, hbar]

section
variable {s : State} {op : Nat} {m : Msg}

/-- The state in which a message stands on its channel (R120). -/
def State.sent (s : State) (op : Nat) (m : Msg) : State :=
  (s.modChan m.chan (fun c => c.go (m.word0 op :: m.args))).aim m.chan

theorem State.chan_sent (hn : m.chan < s.mbx.chans.length) :
    (s.sent op m).chan m.chan = (s.chan m.chan).go (m.word0 op :: m.args) :=
  (State.chan_congr (State.aim_chans ..) _).trans (State.chan_modChan_self s _ hn)

/-- The message that stands on its channel is pending there, with no CANCEL. -/
theorem State.sent_waits (hn : m.chan < s.mbx.chans.length) (h3 : m.chan ≠ 3) :
    (s.sent op m).waits op m = true ∧ (s.sent op m).isPending m.chan = true ∧
      ((s.sent op m).chan m.chan).cancel = false := by
  simp [State.waits, State.isPending, h3, State.chan_sent hn, Chan.go]

/-- Every other channel is as it was. -/
theorem State.sent_isPending {c : Nat} (h : c ≠ m.chan) : (s.sent op m).isPending c = s.isPending c := by
  have hc : (s.sent op m).chan c = s.chan c :=
    (State.chan_congr (State.aim_chans ..) _).trans (State.chan_modChan_ne s _ h)
  have hp : (s.sent op m).mbx.peerIn = s.mbx.peerIn := State.aim_peerIn ..
  simp only [State.isPending, hc, hp]

theorem State.sent_farFor (south : Bool) : (s.sent op m).farFor south = s.farFor south := by
  have hf : (s.sent op m).mbx.far = s.mbx.far := State.aim_far ..
  simp only [State.farFor, hf]

@[simp] theorem State.sent_boot : (s.sent op m).boot = s.boot := State.aim_boot ..
@[simp] theorem State.sent_power : (s.sent op m).power = s.power := State.aim_power ..

/-- A message that has been sent to the steward is the steward's to serve: on channel 4 it goes to the holder's end (R116). -/
theorem State.sent_serverOf : (s.sent op m).serverOf m.chan = (s.sent op m).boot.stewardSouth := by
  rw [State.serverOf]
  split
  · next h4 => simp [State.sent, State.aim, h4]
  · rfl
end

end Machine

/-- Settles O2 (R116, R117, R119, R120, R122, R126, R522, R595; log 9). -/
theorem freeChannelMessageIsSelected : Obligations.FreeChannelMessageIsSelected := by
  intro cmd m s hr hready he hn hlt h3 hb h6 ht hf ho hg hl hfit h1 h16 hz hw
  obtain ⟨ha, hbanked, hember⟩ := State.awake_of_fwRuns hr
  have hsub : s.submit cmd.op m = s.sent cmd.op m :=
    State.submit_of_accepts cmd.op ha (State.accepts_of_free hlt h3 h6 hb) he hbanked hember
  obtain ⟨hwait, hpend, hcancel⟩ := State.sent_waits (s := s) (op := cmd.op) (m := m) (by omega) h3
  have hfar : ∀ south, (s.sent cmd.op m).farFor south = none := fun south => (State.sent_farFor south).trans (hf south)
  have honly : ∀ c, c < 7 → c ≠ m.chan → (s.sent cmd.op m).isPending c = false :=
    fun c hc hne => (State.sent_isPending hne).trans (ho c hc hne)
  have hfour : m.chan = 4 → (s.sent cmd.op m).mbx.fourSouth = (s.sent cmd.op m).boot.stewardSouth := fun h4 => by
    simpa [State.serverOf, h4] using State.sent_serverOf (s := s) (op := cmd.op) (m := m)
  have hnext := State.nextChan_of_only hfar hlt hpend honly hfour
  rw [State.selects, hsub]
  refine ⟨rfl, ?_, hwait, State.turn_of_next (by simpa using ht) State.sent_serverOf hnext, fun _ => hcancel, ?_⟩
  · rwa [State.fwRuns_congr State.sent_boot State.sent_power]
  · exact State.check_eq_none (by simpa [State.dispatched, hsub] using hready) h3 hg hl hfit h1 h16 hz hw

namespace Machine

/-! ## The answer to a message (R118, R123, R124, R129, R133) -/

@[simp] theorem State.notice_chans (s : State) (code unit : Nat) : (s.notice code unit).mbx.chans = s.mbx.chans := by
  unfold State.notice
  dsimp only
  split
  · rfl
  · split
    · rfl
    · exact State.recordLater_chans ..

/-- What an answer makes of its channel, other than that of the fabric peers (R118, R123, R124). -/
def Chan.answered (c : Chan) (code : Code) (seq : Nat) (ret : List Word) : Chan :=
  { c with
    busy := false, cancel := false, selected := false, ret := fill16 ret
    ack := ⟨true, c.cancel && code != .cancelled, code.num, seq, ret.length⟩ }

section
variable (s : State) {rt : ReplyTo} (c : Code) (ret : List Word)

/-- An answer on a channel other than that of the peers and that of a configuration image, step by step: the passed message is
done, the channel answered, on channel 1 the packet sent, on channels 0 to 2 the doorbell set. -/
theorem State.ackWrite_of_chan (h3 : rt.chan ≠ 3) (h8 : rt.chan ≠ 8) :
    s.ackWrite rt c ret =
      let t := (s.modMbx (fun m => { m with far := m.far.filter (fun p => p.rt != rt) })).modChan rt.chan
        (fun ch => ch.answered c rt.seq ret)
      let u := if rt.chan = 1 then t.sideSend (t.chan 1).hg (t.chan 1).ack.word (t.chan 1).ret else t
      if rt.chan < 3 then u.doorbell rt.chan else u := by
  simp only [State.ackWrite, if_neg h3, if_neg h8]
  rfl

theorem State.chan_ackWrite (h3 : rt.chan ≠ 3) (h8 : rt.chan ≠ 8) (hn : rt.chan < s.mbx.chans.length) :
    (s.ackWrite rt c ret).chan rt.chan = (s.chan rt.chan).answered c rt.seq ret := by
  have hc : (s.ackWrite rt c ret).mbx.chans = (s.modChan rt.chan (fun ch => ch.answered c rt.seq ret)).mbx.chans := by
    rw [State.ackWrite_of_chan s c ret h3 h8]
    dsimp only
    split <;> split <;> rfl
  exact (State.chan_congr hc _).trans (State.chan_modChan_self s _ hn)

theorem State.chan_ack (h3 : rt.chan ≠ 3) (h8 : rt.chan ≠ 8) (hn : rt.chan < s.mbx.chans.length) :
    (s.ack rt c ret).chan rt.chan = (s.chan rt.chan).answered c rt.seq ret := by
  unfold State.ack
  split
  · rw [State.chan_ackWrite _ c ret h3 h8 (by simpa using hn), State.chan_congr (State.notice_chans ..)]
  · exact State.chan_ackWrite s c ret h3 h8 hn

/-- An answer on channels 0 to 2 leaves the channel's doorbell set (R133). -/
theorem State.ack_bit (h : rt.chan < 3) : (s.ack rt c ret).mbx.dbStatus &&& w32 (2 ^ rt.chan) = w32 (2 ^ rt.chan) := by
  rw [State.ack, State.ackWrite_of_chan _ c ret (by omega) (by omega)]
  dsimp only
  rw [if_pos h]
  exact State.doorbell_bit ..
end

end Machine

/-- Settles O3 (R118, R123 to R125, R129, R133). -/
theorem selectedMessageIsAnswered : Obligations.SelectedMessageIsAnswered := by
  intro cmd m body s d d' ret h
  refine ⟨fun hb => State.mailbox_of_answer h hb, fun c hb => State.mailbox_of_answer h hb,
    fun c hb => State.mailbox_of_answer h hb, fun hb => ?_, fun c hlt h3 hn => ⟨?_, fun h2 => ?_⟩⟩
  · rcases hb with hb | hb <;> exact State.mailbox_of_answer h hb
  · exact d'.chan_ack c ret (rt := m.rt) h3 (Nat.ne_of_lt (Nat.lt_succ_of_lt hlt)) (hn ▸ Nat.lt_succ_of_lt hlt)
  · have hne : w32 (2 ^ m.chan) ≠ 0 := (by decide : ∀ n < 3, w32 (2 ^ n) ≠ 0) m.chan h2
    exact (d'.ack_bit c ret (rt := m.rt) h2).trans_ne hne

namespace Machine

/-! ## MESSAGE_SELECT (R19, R122 to R124) -/

section
variable {s : State} {south : Bool} (cl : Bool) (fl : Flash) (hr : s.fwRuns = true) (ht : s.boot.tokenParity = true)
include hr ht

theorem exec_messageSelect_idle (hf : s.farFor south = none) (hd : s.dispatches south = none) :
    exec (.messageSelect south cl fl) s = .next s := by
  simp [exec, execMessageSelect, hr, ht, hf, hd]

theorem exec_messageSelect_chan {ch : Nat} (hf : s.farFor south = none) (hd : s.dispatches south = some ch) :
    exec (.messageSelect south cl fl) s = .next (s.selectChan ch cl fl) := by
  simp [exec, execMessageSelect, hr, ht, hf, hd]

theorem exec_messageSelect_far {p : Passed} (hf : s.farFor south = some p) :
    exec (.messageSelect south cl fl) s = .next (s.selectFar p fl) := by
  simp [exec, execMessageSelect, hr, ht, hf]
end

/-- A message with CANCEL set is answered unexecuted (R123). -/
theorem State.selectChan_of_cancelled {s : State} {ch : Nat} (cl : Bool) (fl : Flash) (h3 : ch ≠ 3)
    (hc : (s.chan ch).cancel = true) :
    s.selectChan ch cl fl =
      (s.select ch).ack ⟨ch, (s.pendingMsg ch).2.seq, (s.pendingMsg ch).2.slot, (s.pendingMsg ch).2.counter⟩ .cancelled [] := by
  simp [State.selectChan, h3, hc]

/-- Any other message is passed over channel 4, or executed and answered; a CANCEL that lands stands in the channel (R19, R123). -/
theorem State.selectChan_of_uncancelled {s : State} {ch : Nat} (cl : Bool) (fl : Flash)
    (hc : ch ≠ 3 → (s.chan ch).cancel = false) :
    s.selectChan ch cl fl =
      let m := (s.pendingMsg ch).2
      let t := if cl && ch != 3 then (s.select ch).modChan ch (fun c => { c with cancel := true }) else s.select ch
      if t.foreign (s.pendingMsg ch).1 m then t.passOver (s.pendingMsg ch).1 m false
      else t.settle ⟨ch, m.seq, m.slot, m.counter⟩ (t.answer fl (s.pendingMsg ch).1 m) := by
  have hn : (ch != 3 && (s.chan ch).cancel) = false := by
    by_cases h3 : ch = 3
    · simp [h3]
    · simp [hc h3]
  simp [State.selectChan, hn]

/-- Which complex a message is for depends on the holder of the token alone. -/
theorem State.foreign_congr {s t : State} (h : t.boot = s.boot) (op : Nat) (m : Msg) : t.foreign op m = s.foreign op m := by
  simp only [State.foreign, h]

/-- The complex without the token takes its end of channel 4 only. -/
theorem State.dispatches_other {s : State} {ch : Nat} (h : s.dispatches (!s.boot.stewardSouth) = some ch) :
    ch = 4 ∧ s.isPending 4 = true ∧ s.mbx.fourSouth ≠ s.boot.stewardSouth := by
  rw [State.dispatches, if_neg (by simp)] at h
  split at h
  · next h4 =>
    simp only [Bool.and_eq_true, beq_iff_eq] at h4
    cases h
    exact ⟨rfl, h4.1, by simp [h4.2]⟩
  · cases h

end Machine

/-- Settles O12 (R19, R122 to R124, R126; log 9). -/
theorem messageSelectServesTheNextChannel : Obligations.MessageSelectServesTheNextChannel := by
  intro fl cl s ch south hr ht
  refine ⟨State.nextChan_of_four, State.nextChan_pending, State.nextChan_first, if_pos rfl, State.dispatches_other,
    exec_messageSelect_idle cl fl hr ht, fun hf hd h3 hc => ?_, fun hf hd hc => ?_, fun p hf => ?_⟩
  · rw [exec_messageSelect_chan cl fl hr ht hf hd, State.selectChan_of_cancelled cl fl h3 hc]
  · rw [exec_messageSelect_chan cl fl hr ht hf hd, State.selectChan_of_uncancelled cl fl hc]
    dsimp only
    rw [State.foreign_congr (s := s)]
    split <;> simp
  · have hp : p.south = south := by
      have h := List.find?_some hf
      simp only [Bool.and_eq_true, beq_iff_eq] at h
      exact h.2
    rw [exec_messageSelect_far cl fl hr ht hf, State.selectFar, hp]

end Sys2Proof
end

section
/-! SUPPORT. Messages that only read: proof of O13. -/
namespace Sys2Proof
open Machine
namespace Machine

/-! ## The state outside the mailboxes -/

/-- The state with the mailbox channels, their queues and the doorbells blanked: what is left is what a reader must not
change. -/
def State.outsideMail (s : State) : State :=
  { s with mbx := { s.mbx with
      chans := [], peerIn := [], peerOut := [], lastNorth := 0, lastSouth := 0, fourSouth := false, far := [], dbStatus := 0 } }

/-- Two states that agree outside the mailboxes differ in the mailbox fields alone. -/
theorem State.eq_of_outsideMail {s t : State} (h : t.outsideMail = s.outsideMail) :
    t = { s with mbx := { s.mbx with
      chans := t.mbx.chans, peerIn := t.mbx.peerIn, peerOut := t.mbx.peerOut, lastNorth := t.mbx.lastNorth
      lastSouth := t.mbx.lastSouth, fourSouth := t.mbx.fourSouth, far := t.mbx.far, dbStatus := t.mbx.dbStatus } } := by
  change { t.outsideMail with mbx := { t.outsideMail.mbx with
      chans := t.mbx.chans, peerIn := t.mbx.peerIn, peerOut := t.mbx.peerOut, lastNorth := t.mbx.lastNorth
      lastSouth := t.mbx.lastSouth, fourSouth := t.mbx.fourSouth, far := t.mbx.far, dbStatus := t.mbx.dbStatus } } = _
  rw [h]
  rfl

@[simp] theorem State.modChan_outsideMail (s : State) (n : Nat) (f : Chan → Chan) :
    (s.modChan n f).outsideMail = s.outsideMail := rfl

@[simp] theorem State.setLast_outsideMail (s : State) (south : Bool) (ch : Nat) :
    (s.setLast south ch).outsideMail = s.outsideMail := by
  cases south <;> rfl

@[simp] theorem State.aim_outsideMail (s : State) (ch : Nat) : (s.aim ch).outsideMail = s.outsideMail := by
  unfold State.aim
  split <;> rfl

@[simp] theorem State.passOn_outsideMail (s : State) (op : Nat) (m : Msg) : (s.passOn op m).outsideMail = s.outsideMail := by
  unfold State.passOn
  split <;> rfl

@[simp] theorem State.select_outsideMail (s : State) (ch : Nat) : (s.select ch).outsideMail = s.outsideMail := by
  rw [← s.setLast_outsideMail (s.serverOf ch) ch, State.select]
  split <;> rfl

@[simp] theorem State.answerPeer_outsideMail (s : State) (slot counter : Nat) (ack : Word) (ret : List Word) :
    (s.answerPeer slot counter ack ret).outsideMail = s.outsideMail := by
  unfold State.answerPeer
  split <;> rfl

/-- A GO outside BANKED, EMBER and an entry changes the mailboxes alone (R120, R501). -/
theorem State.submit_outsideMail {s : State} (op : Nat) (m : Msg) (he : s.power.entry = none) (hb : s.boot.power ≠ .banked)
    (hm : s.boot.power ≠ .ember) : (s.submit op m).outsideMail = s.outsideMail := by
  cases h : s.awake && s.accepts m.chan with
  | false => simp [State.submit, h]
  | true =>
    obtain ⟨ha, hc⟩ := Bool.and_eq_true_iff.1 h
    rw [State.submit_of_accepts op ha hc he hb hm, State.aim_outsideMail, State.modChan_outsideMail]

/-- An answer that is not INTERNAL changes the mailboxes alone, save on channel 1, whose answer leaves through a lane group, and for
a configuration image (R102, R124, R346). -/
theorem State.ack_outsideMail (s : State) {rt : ReplyTo} {c : Code} (ret : List Word) (hc : c ≠ .internal) (h1 : rt.chan ≠ 1)
    (h8 : rt.chan ≠ 8) : (s.ack rt c ret).outsideMail = s.outsideMail := by
  rw [State.ack, if_neg hc]
  by_cases h3 : rt.chan = 3
  · rw [State.ackWrite, if_neg h8, if_pos h3, State.answerPeer_outsideMail]
    rfl
  · rw [State.ackWrite_of_chan s c ret h3 h8]
    simp only [if_neg h1]
    split <;> rfl

/-! ## Replies that leave the state as it was -/

/-- The reply is OK with the state as it was, or a refusal other than INTERNAL. -/
def Reply.reads (s : State) : Reply → Prop
  | .ok _ t => t = s
  | .err c => c ≠ .internal
  | .part .. | .later _ | .silent _ => False

theorem Reply.reads_ok (ret : List Word) (s : State) : (Reply.ok ret s).reads s := rfl

theorem Reply.reads.unless {s : State} {k : Reply} (h : k.reads s) (cause : Bool) {c : Code} (hc : c ≠ .internal) :
    (Reply.unless cause c k).reads s := by
  cases cause
  · exact h
  · exact hc

theorem State.check_ne_internal {s : State} {known : Option Cmd} {op : Nat} {m : Msg} {c : Code}
    (h : s.check known op m = some c) : c ≠ .internal := by
  rintro rfl
  unfold State.check at h
  repeat' split at h
  all_goals cases h

theorem State.execute_reads {s : State} {known : Option Cmd} {op : Nat} {m : Msg} {body : Msg → State → Reply}
    (h : (body m s).reads s) : (s.execute known op m body).reads s := by
  unfold State.execute
  split
  · next c hc => exact State.check_ne_internal hc
  · exact h

theorem State.settle_outsideMail {s : State} {rt : ReplyTo} {k : Reply} (h : k.reads s) (h1 : rt.chan ≠ 1)
    (h8 : rt.chan ≠ 8) : (s.settle rt k).outsideMail = s.outsideMail := by
  cases k with
  | ok ret t =>
    obtain rfl : t = s := h
    exact State.ack_outsideMail t ret (by decide) h1 h8
  | err c => exact State.ack_outsideMail s [] h h1 h8
  | part | later | silent => exact h.elim

/-- The dispatchers take a message from channels 0 to 6 only. -/
theorem State.turn_lt {s : State} {ch : Nat} (h : s.turn ch = true) : ch < 7 := by
  by_cases h4 : ch = 4
  · omega
  · have hn : s.nextChan = some ch := by
      simpa [State.turn, State.serverOf, h4] using (Bool.and_eq_true_iff.1 h).2
    exact (State.nextChan_pending hn).2

/-- A command whose body only reads changes the mailboxes alone, whether it is answered, cancelled, or left pending. -/
theorem State.mailbox_outsideMail {s : State} {cmd : Cmd} {m : Msg} {body : Msg → State → Reply}
    (hr : ∀ d, (body m d).reads d) (he : s.power.entry = none) (hb : s.boot.power ≠ .banked) (hm : s.boot.power ≠ .ember)
    (h1 : m.chan ≠ 1) : (s.mailbox cmd m body).outsideMail = s.outsideMail := by
  rw [← State.submit_outsideMail cmd.op m he hb hm, State.mailbox]
  dsimp only
  split
  · next ht =>
    have h8 : m.chan ≠ 8 := by
      have hlt := State.turn_lt (Bool.and_eq_true_iff.1 ht).2
      omega
    split
    · rw [State.ack_outsideMail _ [] (by decide) h1 h8, State.select_outsideMail]
    · rw [State.settle_outsideMail (State.execute_reads (hr _)) h1 h8, State.passOn_outsideMail, State.select_outsideMail]
  · rfl

/-! ## The commands that read -/

section
variable (m : Msg) (s : State)

theorem cmdEcho_reads : (cmdEcho m s).reads s := rfl
theorem cmdClockStatus_reads : (cmdClockStatus m s).reads s :=
  Reply.reads.unless (Reply.reads_ok ..) _ (by decide)
theorem cmdBundleStatus_reads : (cmdBundleStatus m s).reads s :=
  .unless (.unless (Reply.reads_ok ..) _ (by decide)) _ (by decide)
theorem cmdLineStatus_reads : (cmdLineStatus m s).reads s :=
  .unless (Reply.reads_ok ..) _ (by decide)
theorem cmdRxStatus_reads : (cmdRxStatus m s).reads s :=
  .unless (.unless (Reply.reads_ok ..) _ (by decide)) _ (by decide)
theorem cmdRxTapsRead_reads : (cmdRxTapsRead m s).reads s :=
  .unless (.unless (Reply.reads_ok ..) _ (by decide)) _ (by decide)
theorem cmdTrunkSignalStatus_reads : (cmdTrunkSignalStatus m s).reads s :=
  .unless (.unless (Reply.reads_ok ..) _ (by decide)) _ (by decide)
theorem cmdTrunkLoadingRead_reads : (cmdTrunkLoadingRead m s).reads s :=
  .unless (.unless (Reply.reads_ok ..) _ (by decide)) _ (by decide)
theorem cmdTrunkStatus_reads : (cmdTrunkStatus m s).reads s :=
  .unless (Reply.reads_ok ..) _ (by decide)
theorem cmdHostStatus_reads : (cmdHostStatus m s).reads s :=
  .unless (Reply.reads_ok ..) _ (by decide)
theorem cmdShaperRead_reads : (cmdShaperRead m s).reads s :=
  .unless (.unless (Reply.reads_ok ..) _ (by decide)) _ (by decide)
theorem cmdGuaranteeStatus_reads : (cmdGuaranteeStatus m s).reads s := by
  refine Reply.reads.unless ?_ _ (by decide)
  split <;> rfl
theorem cmdFaultStatus_reads : (cmdFaultStatus m s).reads s :=
  .unless (Reply.reads_ok ..) _ (by decide)
theorem cmdThermalStatus_reads : (cmdThermalStatus m s).reads s :=
  .unless (Reply.reads_ok ..) _ (by decide)
theorem cmdDinStatus_reads : (cmdDinStatus m s).reads s :=
  .unless (Reply.reads_ok ..) _ (by decide)
theorem cmdCalStatus_reads : (cmdCalStatus m s).reads s :=
  .unless (.unless (Reply.reads_ok ..) _ (by decide)) _ (by decide)
theorem cmdSelftestResult_reads : (cmdSelftestResult m s).reads s :=
  .unless (Reply.reads_ok ..) _ (by decide)
theorem cmdKeepStatus_reads : (cmdKeepStatus m s).reads s :=
  .unless (Reply.reads_ok ..) _ (by decide)
end

end Machine

/-- Settles O13 (R118, R124, R126, R133, R137). -/
theorem readingMessagesChangeOnlyTheMailbox : Obligations.ReadingMessagesChangeOnlyTheMailbox := by
  intro m s he hb hm h1
  have read {body : Msg → State → Reply} (cmd : Cmd) (hr : ∀ m d, (body m d).reads d) :=
    State.eq_of_outsideMail (State.mailbox_outsideMail (s := s) (cmd := cmd) (hr m) he hb hm h1)
  simp only [List.forall_mem_cons]
  exact ⟨⟨_, rfl, read echoCmd cmdEcho_reads⟩, ⟨_, rfl, read clockStatusCmd cmdClockStatus_reads⟩,
    ⟨_, rfl, read bundleStatusCmd cmdBundleStatus_reads⟩, ⟨_, rfl, read lineStatusCmd cmdLineStatus_reads⟩,
    ⟨_, rfl, read rxStatusCmd cmdRxStatus_reads⟩, ⟨_, rfl, read rxTapsReadCmd cmdRxTapsRead_reads⟩,
    ⟨_, rfl, read trunkSignalStatusCmd cmdTrunkSignalStatus_reads⟩,
    ⟨_, rfl, read trunkLoadingReadCmd cmdTrunkLoadingRead_reads⟩, ⟨_, rfl, read trunkStatusCmd cmdTrunkStatus_reads⟩,
    ⟨_, rfl, read hostStatusCmd cmdHostStatus_reads⟩, ⟨_, rfl, read shaperReadCmd cmdShaperRead_reads⟩,
    ⟨_, rfl, read guaranteeStatusCmd cmdGuaranteeStatus_reads⟩, ⟨_, rfl, read faultStatusCmd cmdFaultStatus_reads⟩,
    ⟨_, rfl, read thermalStatusCmd cmdThermalStatus_reads⟩, ⟨_, rfl, read dinStatusCmd cmdDinStatus_reads⟩,
    ⟨_, rfl, read calStatusCmd cmdCalStatus_reads⟩, ⟨_, rfl, read selftestResultCmd cmdSelftestResult_reads⟩,
    ⟨_, rfl, read keepStatusCmd cmdKeepStatus_reads⟩, List.forall_mem_nil _⟩

end Sys2Proof
end

section
/-! SUPPORT. The wire formats of LR10 read back as they were sent: proof of O17. -/
namespace Sys2Proof
open Machine
namespace Machine

/-! ## Fields and bytes (R4, R5) -/

/-- Fields put together stay below the power of two of their widths. -/
theorem pack_lt (l : List (Nat × Nat)) : pack l < 2 ^ (l.map Prod.fst).sum := by
  induction l with
  | nil => exact Nat.one_pos
  | cons e t ih =>
    obtain ⟨w, v⟩ := e
    have hv : v % 2 ^ w < 2 ^ w := Nat.mod_lt _ (Nat.two_pow_pos w)
    calc pack ((w, v) :: t) < 2 ^ w * (pack t + 1) := by rw [pack, Nat.mul_succ]; omega
      _ ≤ 2 ^ w * 2 ^ (t.map Prod.fst).sum := Nat.mul_le_mul_left _ ih
      _ = 2 ^ (((w, v) :: t).map Prod.fst).sum := by rw [← Nat.pow_add]; rfl

/-- The lowest field reads as it was put in. -/
theorem fld_pack_zero (w v : Nat) (t : List (Nat × Nat)) : fld (pack ((w, v) :: t)) 0 w = v % 2 ^ w := by
  simp [fld, pack]

/-- Behind the lowest field the others are read. -/
theorem fld_pack_of_le {w k : Nat} (v m : Nat) (t : List (Nat × Nat)) (h : w ≤ k) :
    fld (pack ((w, v) :: t)) k m = fld (pack t) (k - w) m := by
  obtain ⟨j, rfl⟩ := Nat.exists_eq_add_of_le h
  have hv : v % 2 ^ w < 2 ^ w := Nat.mod_lt _ (Nat.two_pow_pos w)
  rw [Nat.add_sub_cancel_left, fld, fld, Nat.shiftRight_add, pack, Nat.shiftRight_eq_div_pow _ w,
    Nat.add_mul_div_left _ _ (Nat.two_pow_pos w), Nat.div_eq_of_lt hv, Nat.zero_add]

theorem bit_pack_zero (b : Bool) (t : List (Nat × Nat)) : bit (pack ((1, b2n b) :: t)) 0 = b := by
  rw [bit, fld_pack_zero]
  cases b <;> rfl

theorem bit_pack_of_le {w k : Nat} (v : Nat) (t : List (Nat × Nat)) (h : w ≤ k) :
    bit (pack ((w, v) :: t)) k = bit (pack t) (k - w) := by
  rw [bit, fld_pack_of_le v 1 t h, bit]

/-- The bytes of a number read back as the number, cut to their width. -/
theorem ofLe_leBytes (k n : Nat) : ofLe (leBytes k n) = n % 256 ^ k := by
  induction k generalizing n with
  | zero => simp [leBytes, ofLe, Nat.mod_one]
  | succ k ih =>
    rw [leBytes, ofLe, ih, Nat.pow_succ', Nat.mod_mul, Nat.shiftRight_eq_div_pow]
    simp

theorem ofLe_leBytes_of_lt (k : Nat) {n : Nat} (h : n < 256 ^ k) : ofLe (leBytes k n) = n :=
  (ofLe_leBytes k n).trans (Nat.mod_eq_of_lt h)

/-- A field of bytes that begins `k` bytes in. -/
theorem take_drop_append {α : Type} {a b c : List α} {k n : Nat} (ha : a.length = k) (hb : b.length = n) :
    ((a ++ (b ++ c)).drop k).take n = b := by
  rw [List.drop_left' ha, List.take_left' hb]

/-! ## The CRC-16 (R157; log 57) -/

theorem crc16Bit_lt (r : Nat) (b : Bool) : crc16Bit r b < 2 ^ 16 := by
  have hr : 2 * r % 2 ^ 16 < 2 ^ 16 := Nat.mod_lt _ (by decide)
  unfold crc16Bit
  dsimp only
  split
  · exact Nat.xor_lt_two_pow hr (by decide)
  · exact hr

theorem crc16_lt (l : List Byte) : crc16 l < 2 ^ 16 :=
  List.foldlRecOn (motive := (· < 2 ^ 16)) _ crc16Bit (by decide) fun r _ b _ => crc16Bit_lt r b

theorem withCrc16_length (l : List Byte) : (withCrc16 l).length = l.length + 2 := by simp [withCrc16]

/-- A block with its CRC-16 behind it passes the receiver's check. -/
theorem crc16Good_withCrc16 {n : Nat} {l : List Byte} (h : l.length = n) : crc16Good n (withCrc16 l) = true := by
  have hd : ((withCrc16 l).drop n).take 2 = leBytes 2 (crc16 l) := by
    rw [withCrc16, List.drop_left' h, List.take_of_length_le (by simp)]
  rw [crc16Good, hd, withCrc16, List.take_left' h, ofLe_leBytes_of_lt 2 (crc16_lt l), beq_self_eq_true]

/-! ## Superframe markers (R157, R158) -/

theorem SfmFlags.word_lt (f : SfmFlags) : f.word < 2 ^ 32 := pack_lt _

theorem SfmFlags.ofWord_word (f : SfmFlags) (hc : f.coefSet < 16) (hd : f.down < 256) : SfmFlags.ofWord f.word = f := by
  simp [SfmFlags.ofWord, SfmFlags.word, bit_pack_zero, bit_pack_of_le, fld_pack_zero, fld_pack_of_le,
    Nat.mod_eq_of_lt hc, Nat.mod_eq_of_lt hd]

theorem sfmBytes_length (count : Nat) (f : SfmFlags) : (sfmBytes count f).length = 32 := by
  simp [sfmBytes, sfmMarker, withCrc16_length]

theorem sfmRead_sfmBytes {count : Nat} {f : SfmFlags} (hn : count < 2 ^ 32) (hc : f.coefSet < 16) (hd : f.down < 256) :
    sfmRead (sfmBytes count f) = some (count, f) := by
  have hbody : (sfmBytes count f).drop 20 = withCrc16 (leBytes 4 count ++ leBytes 4 f.word ++ [0#8, 0#8]) :=
    List.drop_left' rfl
  rw [sfmRead, hbody, if_pos (crc16Good_withCrc16 (by simp)), withCrc16]
  simp only [List.append_assoc]
  rw [take_drop_append (leBytes_length ..) (leBytes_length ..), List.take_left' (leBytes_length ..),
    ofLe_leBytes_of_lt 4 hn, ofLe_leBytes_of_lt 4 f.word_lt, f.ofWord_word hc hd]

/-! ## OAM blocks and messages (R169, R170) -/

/-- The fields of an OAM block stay within their widths, and its payload fills it (R169). -/
def OamBlock.fits (b : OamBlock) : Prop := b.cls < 16 ∧ b.seq < 256 ∧ b.payload.length = 28

theorem OamBlock.bytes_length {b : OamBlock} (h : b.fits) : b.bytes.length = 32 := by
  obtain ⟨-, -, hp⟩ := h
  simp [OamBlock.bytes, withCrc16_length, hp]

theorem oamRead_bytes {b : OamBlock} (h : b.fits) : oamRead b.bytes = some b := by
  obtain ⟨hc, hs, hp⟩ := h
  have hh : pack [(4, b.cls), (2, 0), (1, b2n b.eom), (1, b2n b.som)] < 2 ^ 8 := pack_lt _
  rw [oamRead, OamBlock.bytes, List.take_left' hp, if_pos (crc16Good_withCrc16 (by simp [hp])), withCrc16]
  simp only [List.append_assoc]
  rw [List.take_left' (leBytes_length ..), take_drop_append (leBytes_length ..) (leBytes_length ..),
    ← List.append_assoc (leBytes 1 _), take_drop_append (by simp) hp, ofLe_leBytes_of_lt 1 hh, ofLe_leBytes_of_lt 1 hs]
  simp [bit_pack_zero, bit_pack_of_le, fld_pack_zero, Nat.mod_eq_of_lt hc]

/-- Blocks that fit are all read as they were sent. -/
theorem mapM_oamRead_bytes {l : List OamBlock} (h : ∀ b ∈ l, b.fits) : (l.map OamBlock.bytes).mapM oamRead = some l := by
  induction l with
  | nil => rfl
  | cons b t ih =>
    rw [List.forall_mem_cons] at h
    simp [oamRead_bytes h.1, ih h.2]

/-- The blocks of a message fit and carry its class. -/
theorem oamBlocks_fits {cls : Nat} (hc : cls < 16) (n : Nat) (first : Bool) (seq : Nat) (l : List Byte) :
    ∀ b ∈ oamBlocks cls n first seq l, b.fits ∧ b.cls = cls := by
  have hs (k : Nat) : k % 256 < 256 := Nat.mod_lt _ (by decide)
  induction n generalizing first seq l with
  | zero => exact List.forall_mem_nil _
  | succ n ih =>
    rw [oamBlocks]
    split
    · exact List.forall_mem_singleton.2 ⟨⟨hc, hs seq, by simp⟩, rfl⟩
    · next hl => exact List.forall_mem_cons.2 ⟨⟨⟨hc, hs seq, by simp; omega⟩, rfl⟩, ih _ _ _⟩

/-- A block whose SEQ and SOM are as expected makes a chain: with EOM alone, without EOM before a chain that goes on from it
(R170). -/
theorem oamChain_cons {prev : Option Nat} {first : Bool} {b : OamBlock} {t : List OamBlock}
    (hp : ∀ p, prev = some p → b.seq = (p + 1) % 256) (hs : b.som = first)
    (ht : (t = [] ∧ b.eom = true) ∨ (b.eom = false ∧ oamChain (some b.seq) b.cls false t = true)) :
    oamChain prev b.cls first (b :: t) = true := by
  unfold oamChain
  rcases ht with ⟨rfl, he⟩ | ⟨he, ht⟩
  · cases prev <;> simp_all
  · cases t with
    | nil => exact absurd ht (by simp [oamChain])
    | cons c t => cases prev <;> simp_all

/-- The blocks of a message that has room in `n + 1` blocks are a chain that goes on from the SEQ before (R170). -/
theorem oamChain_oamBlocks (cls n : Nat) (first : Bool) (seq : Nat) {l : List Byte} (hl : l.length ≤ 28 * (n + 1))
    {prev : Option Nat} (hp : ∀ p, prev = some p → seq % 256 = (p + 1) % 256) :
    oamChain prev cls first (oamBlocks cls (n + 1) first seq l) = true := by
  induction n generalizing first seq l prev with
  | zero =>
    rw [oamBlocks, if_pos hl]
    exact oamChain_cons hp rfl (.inl ⟨rfl, rfl⟩)
  | succ n ih =>
    rw [oamBlocks]
    split
    · exact oamChain_cons hp rfl (.inl ⟨rfl, rfl⟩)
    · exact oamChain_cons hp rfl (.inr ⟨rfl, ih false (seq + 1) (by simp; omega) (by simp)⟩)

/-- The payloads of a message's blocks are the message and padding behind it. -/
theorem oamBlocks_payload (cls n : Nat) (first : Bool) (seq : Nat) {l : List Byte} (hl : l.length ≤ 28 * n) :
    l <+: (oamBlocks cls n first seq l).flatMap OamBlock.payload := by
  induction n generalizing first seq l with
  | zero => simp_all
  | succ n ih =>
    rw [oamBlocks]
    split
    · next h28 =>
      rw [List.flatMap_singleton, List.take_append, List.take_of_length_le h28]
      exact List.prefix_append ..
    · rw [List.flatMap_cons]
      conv => lhs; rw [← List.take_append_drop 28 l]
      exact (List.prefix_append_right_inj _).2 (ih _ _ (by simp; omega))

/-- A message of up to 255 bytes is received as it was sent, from any SEQ on (R170). -/
theorem oamMessage_oamBlocks {cls : Nat} (hc : cls < 4) (seq : Nat) {body : List Byte} (hl : body.length ≤ 255) :
    oamMessage none ((oamBlocks cls 10 true seq (BitVec.ofNat 8 body.length :: body)).map OamBlock.bytes) =
      some (cls, body) := by
  have hlen : (BitVec.ofNat 8 body.length :: body).length ≤ 28 * 10 := by simp; omega
  have hfit := oamBlocks_fits (by omega : cls < 16) 10 true seq (BitVec.ofNat 8 body.length :: body)
  have hchain := oamChain_oamBlocks cls 9 true seq (prev := none) hlen (by simp)
  obtain ⟨pad, hpad⟩ := oamBlocks_payload cls 10 true seq hlen
  rw [oamMessage, mapM_oamRead_bytes fun b hb => (hfit b hb).1]
  generalize oamBlocks cls 10 true seq (BitVec.ofNat 8 body.length :: body) = bs at hfit hchain hpad
  cases bs with
  | nil => exact absurd hchain (by simp [oamChain])
  | cons b t =>
    have hb : b.cls = cls := (hfit b (List.mem_cons_self ..)).2
    have hof : body.length % 256 = body.length := by omega
    simp [hb, hc, hchain, ← hpad, ofLe, hof]

/-! ## InfoFields (R172) -/

theorem Info.bytes_length (i : Info) : i.bytes.length = 18 := by simp [Info.bytes, withCrc16_length]

/-- The fields of an InfoField stay within their widths (R172). -/
def Info.fits (i : Info) : Prop :=
  i.type < 16 ∧ i.version < 16 ∧ i.seed < 16 ∧ i.count < 256 ∧ i.snr < 2 ^ 16 ∧ i.resume < 2 ^ 16 ∧ i.b8 < 256 ∧
    i.field < 2 ^ 48 ∧ i.ntaps < 256

theorem infoRead_bytes {i : Info} (h : i.fits) : infoRead i.bytes = some i := by
  obtain ⟨ht, hv, hs, hc, hsnr, hr, h8, hf, hn⟩ := h
  rw [infoRead, Info.bytes, if_pos (crc16Good_withCrc16 (by simp)), withCrc16]
  have htv : pack [(4, i.type), (4, i.version)] < 2 ^ 8 := pack_lt _
  have hflags : pack [(1, b2n i.role), (1, b2n i.lock), (1, b2n i.ack), (1, b2n i.pamRdy), (1, b2n i.pam4), (1, b2n i.eqDone),
    (1, b2n i.able), (1, 0)] < 2 ^ 8 := pack_lt _
  have hs0 : i.seed % 16 < 256 := by omega
  have hseed : fld (i.seed % 16) 0 4 = i.seed := by simp [fld, Nat.mod_eq_of_lt hs]
  simp only [List.append_assoc, List.drop_append, List.drop_of_length_le, List.take_left', leBytes_length, List.drop_zero,
    Nat.reduceSub, Nat.reduceLeDiff, List.nil_append]
  simp [ofLe_leBytes_of_lt 1 htv, ofLe_leBytes_of_lt 1 hflags, ofLe_leBytes_of_lt 1 hs0, ofLe_leBytes_of_lt 1 hc,
    ofLe_leBytes_of_lt 2 hsnr, ofLe_leBytes_of_lt 2 hr, ofLe_leBytes_of_lt 1 h8, ofLe_leBytes_of_lt 6 hf,
    ofLe_leBytes_of_lt 1 hn, bit_pack_zero, bit_pack_of_le, fld_pack_zero, fld_pack_of_le, hseed, Nat.mod_eq_of_lt ht,
    Nat.mod_eq_of_lt hv]

end Machine

/-- Settles O17 (R157, R158, R169, R170, R172; log 57). -/
theorem wireFormatsReadBack : Obligations.WireFormatsReadBack := by
  refine ⟨fun count f hn hc hd => ⟨sfmBytes_length count f, sfmRead_sfmBytes hn hc hd⟩, fun b hc hs hp => ?_,
    fun cls seq body hc _ hl => oamMessage_oamBlocks hc seq hl,
    fun i ht hv hs hc hsnr hr h8 hf hn => ⟨i.bytes_length, infoRead_bytes ⟨ht, hv, hs, hc, hsnr, hr, h8, hf, hn⟩⟩⟩
  have hb : b.fits := ⟨hc, hs, hp⟩
  exact ⟨OamBlock.bytes_length hb, oamRead_bytes hb⟩

end Sys2Proof
end

section
/-! SUPPORT. What the shared operations of a line channel do to it, and that they leave every other channel as it is. -/
namespace Sys2Proof
open Machine
namespace Machine

/-! ## Changes of one channel -/

theorem tset_tset {α : Type} (t : Table α) (i : Nat) (x y : α) : tset (tset t i x) i y = tset t i y := by
  induction t with
  | nil => simp [tset]
  | cons e t ih =>
    by_cases h1 : i < e.1
    · simp [tset, h1]
    · by_cases h2 : i = e.1
      · simp [tset, h2]
      · simp [tset, h1, h2, ih]

/-- Two changes of one channel are one. -/
theorem State.modLine_modLine (s : State) (ch : Nat) (f g : Line → Line) :
    (s.modLine ch f).modLine ch g = s.modLine ch (fun l => g (f l)) := by
  simp [State.modLine, tmod, tset_tset]

/-- A change counts by what it makes of the channel as it stands. -/
theorem State.modLine_congr {s : State} {ch : Nat} {f g : Line → Line} (h : f (s.line ch) = g (s.line ch)) :
    s.modLine ch f = s.modLine ch g :=
  congrArg (fun l => { s with lines := tset s.lines ch l }) h

@[simp] theorem State.modLine_now (s : State) (ch : Nat) (f : Line → Line) : (s.modLine ch f).now = s.now := rfl

/-- A change of one line channel is as it says, and leaves every other channel and the rest of the state. -/
theorem State.modLine_only (s : State) (ch : Nat) (f : Line → Line) :
    s.modLine ch f = { s with lines := (s.modLine ch f).lines } ∧ (s.modLine ch f).line ch = f (s.line ch) ∧
      ∀ c, c ≠ ch → (s.modLine ch f).line c = s.line c :=
  ⟨rfl, s.line_modLine_self ch f, fun _ => s.line_modLine_ne f⟩

/-! ## Operations that change no channel -/

section
variable (s : State)

/-- The channels are read from the list of lines alone. -/
theorem State.line_congr {s t : State} (h : t.lines = s.lines) (k : Nat) : t.line k = s.line k :=
  congrArg (tget Line.reset · k) h

theorem State.bundle_congr {s t : State} (h : t.bundles = s.bundles) (bg : Nat) : t.bundle bg = s.bundle bg :=
  congrArg (tget Bundle.reset · bg) h

@[simp] theorem State.event_line (type source data k : Nat) : (s.event type source data).line k = s.line k :=
  State.line_congr (State.event_lines ..) k

@[simp] theorem State.runDue_line (cause k : Nat) : (s.runDue cause).line k = s.line k := rfl

@[simp] theorem State.leaveSurvey_lines (ch : Nat) : (s.leaveSurvey ch).lines = s.lines := by
  unfold State.leaveSurvey
  dsimp only
  split <;> rfl

@[simp] theorem State.leaveSurvey_line (ch k : Nat) : (s.leaveSurvey ch).line k = s.line k :=
  State.line_congr (s.leaveSurvey_lines ch) k

/-! ## STATE, mode and loss of the link (R186, R187, R404) -/

/-- A change of STATE may be reported; of the channel it changes STATE only. -/
@[simp] theorem State.lineSt_line_self (ch : Nat) (st : LineState) : (s.lineSt ch st).line ch = { s.line ch with state := st } := by
  unfold State.lineSt
  dsimp only
  split <;> simp

theorem State.lineSt_line_ne {ch k : Nat} (st : LineState) (h : k ≠ ch) : (s.lineSt ch st).line k = s.line k := by
  unfold State.lineSt
  dsimp only
  split <;> simp [State.line_modLine_ne, h]

@[simp] theorem State.lineMode_line_self (ch mode : Nat) (slave : Bool) :
    (s.lineMode ch mode slave).line ch = { s.line ch with mode := mode, slave := slave } := by
  unfold State.lineMode
  dsimp only
  split <;> simp

theorem State.lineMode_line_ne {ch k : Nat} (mode : Nat) (slave : Bool) (h : k ≠ ch) :
    (s.lineMode ch mode slave).line k = s.line k := by
  unfold State.lineMode
  dsimp only
  split <;> simp [State.line_modLine_ne, h]

@[simp] theorem State.lineDown_line_self (ch : Nat) (st : LineState) :
    (s.lineDown ch st).line ch = { (s.line ch).lose (s.dieTemp (ch / 24)) with state := st } := by
  simp [State.lineDown]

theorem State.lineDown_line_ne {ch k : Nat} (st : LineState) (h : k ≠ ch) : (s.lineDown ch st).line k = s.line k := by
  simp [State.lineDown, State.lineSt_line_ne, State.line_modLine_ne, h]

/-! A link that comes up is UP from the present tick on (R173, R186). -/

@[simp] theorem State.lineUp_state (ch : Nat) : ((s.lineUp ch).line ch).state = .up := by simp [State.lineUp]
@[simp] theorem State.lineUp_upTick (ch : Nat) : ((s.lineUp ch).line ch).upTick = s.now := by simp [State.lineUp]
@[simp] theorem State.lineUp_cntTick (ch : Nat) : ((s.lineUp ch).line ch).cntTick = (s.line ch).cntTick := by
  simp [State.lineUp]

theorem State.lineUp_line_ne {ch k : Nat} (h : k ≠ ch) : (s.lineUp ch).line k = s.line k := by
  simp [State.lineUp, State.lineSt_line_ne, State.line_modLine_ne, h]

/-! ## The start of an attempt (R96, R146, R173, R178) -/

theorem State.lineTrain_line_ne {ch k : Nat} (mode : Nat) (slave : Bool) (start : Nat) (resume count : Bool) (h : k ≠ ch) :
    (s.lineTrain ch mode slave start resume count).line k = s.line k := by
  unfold State.lineTrain
  dsimp only
  split <;> simp [State.line_modLine_ne, State.lineDown_line_ne, State.lineMode_line_ne, h]

theorem State.lineStart_line_ne {ch k : Nat} (start : Nat) (resume : Bool) (h : k ≠ ch) :
    (s.lineStart ch start resume).line k = s.line k := by
  unfold State.lineStart
  dsimp only
  split_ifs <;>
    simp [State.line_modLine_ne, State.lineDown_line_ne, State.lineMode_line_ne, State.lineTrain_line_ne, h]

/-- What a channel remembers of its failed attempts (R177): LAST_FAIL and how many are done. -/
def Line.failures (l : Line) : Nat × Nat := (l.lastFail, l.attemptsDone)

@[simp] theorem State.lineTrain_failures (ch mode : Nat) (slave : Bool) (start : Nat) (resume count : Bool) :
    ((s.lineTrain ch mode slave start resume count).line ch).failures = (s.line ch).failures := by
  unfold State.lineTrain
  dsimp only
  split <;> simp [Line.failures, Line.lose]

/-- The start of an attempt keeps the record of the failures before it. -/
@[simp] theorem State.lineStart_failures (ch start : Nat) (resume : Bool) :
    ((s.lineStart ch start resume).line ch).failures = (s.line ch).failures := by
  unfold State.lineStart
  dsimp only
  split_ifs <;> simp [State.lineTrain_failures] <;> simp [Line.failures, Line.lose]

end
end Machine
end Sys2Proof
end

section
/-! SUPPORT. The messages of the line modes: proof of O31. -/
namespace Sys2Proof
open Machine
namespace Machine

/-! ## What the line mode commands answer (R142, R145, R170, R177, R178, R185, R187) -/

section
variable {m : Msg} {d : State}

theorem cmdLineConfig_of_allowed (hb : lineCfgBad m = false) (hc : d.lineCfgConflict (m.get 1 0 7) (lineCfgOf m) = false)
    (hd : d.domOn (domOfRoot (m.get 1 0 7)) = true) (hi : (d.line (m.get 1 0 7)).isolated = false) :
    cmdLineConfig m d = .ok (lohi d.nextEdge) (d.accept (.line (m.get 1 0 7) (lineCfgOf m))) := by
  rw [cmdLineConfig, Reply.unless_of_false _ _ hb, Reply.unless_of_false _ _ hc, Reply.unless_of_false _ _ (by simp [hd, hi])]

theorem cmdLineStatus_of_chan (hs : m.stray 1 0x7F = false) (hc : m.get 1 0 7 ≤ 95) :
    let l := d.line (m.get 1 0 7)
    cmdLineStatus m d = .ok ([l.status0, packW [(16, l.peerHal), (6, l.peerStd)]] ++ lohi l.upTick ++
      [packW [(16, l.peerSnr), (4, l.peerSeed), (4, l.sfm.coefSet)]]) d :=
  Reply.unless_of_false _ _ (by simp [hs, hc])

theorem cmdLineRetrain_of_enabled (hs : m.stray 1 0x17F = false) (hc : m.get 1 0 7 ≤ 95)
    (he : (d.lineCfg (m.get 1 0 7)).enable = true) (hd : d.domOn (domOfRoot (m.get 1 0 7)) = true)
    (hi : (d.line (m.get 1 0 7)).isolated = false) :
    cmdLineRetrain m d = .ok (lohi d.nextEdge) (d.accept (.lineRetrain (m.get 1 0 7) (m.flag 1 8))) := by
  rw [cmdLineRetrain, Reply.unless_of_false _ _ (by simp [hs, hc]),
    Reply.unless_of_false _ _ (by simp [he, hd, hi])]

theorem cmdLineOamSend_of_room (hs : m.stray 1 0xFF7F = false) (hc : m.get 1 0 7 ≤ 95) (h1 : 1 ≤ m.get 1 8 8)
    (h48 : m.get 1 8 8 ≤ 48) (hl : m.len = 2 + ceilDiv (m.get 1 8 8) 4) (hm : (d.line (m.get 1 0 7)).mode = 6)
    (hu : (d.line (m.get 1 0 7)).state = .up) (he : (d.line (m.get 1 0 7)).cfg.userEn = true)
    (hp : bit (d.line (m.get 1 0 7)).peerHal 4 = true) (hr : (d.line (m.get 1 0 7)).oamTx.length < 4) :
    cmdLineOamSend m d = .ok [packW [(3, 3 - (d.line (m.get 1 0 7)).oamTx.length)]]
      (d.modLine (m.get 1 0 7) (fun l => { l with oamTx := l.oamTx ++ [msgBytes m 2 (m.get 1 8 8)] })) := by
  have h0 : m.get 1 8 8 ≠ 0 := by omega
  rw [cmdLineOamSend, Reply.unless_of_false _ _ (by simp [hs, hc, h0, h48, hl]),
    Reply.unless_of_false _ _ (by simp [hm, hu, he, hp]), Reply.unless_of_false _ _ (by simpa using hr)]

theorem cmdLineOamRead_of_chan (hs : m.stray 1 0x7F = false) (hc : m.get 1 0 7 ≤ 95) :
    let l := d.line (m.get 1 0 7)
    cmdLineOamRead m d = .ok (packW [(8, (l.oamRx.headD []).length), (8, l.oamRx.length - 1), (16, l.oamLost)] ::
        bytesToWords 12 (l.oamRx.headD []))
      (d.modLine (m.get 1 0 7) (fun l => { l with oamRx := l.oamRx.tail, oamLost := 0 })) :=
  Reply.unless_of_false _ _ (by simp [hs, hc])
end

end Machine

/-- Settles O31 (R142, R145, R170, R177, R178, R185, R187, R204). -/
theorem lineModeMessagesAreAnswered : Obligations.LineModeMessagesAreAnswered := by
  intro m s d
  refine ⟨fun h hb hc hd hi => ?_, fun h hs hc => ⟨?_, rfl⟩, fun h hs hc he hd hi => ?_,
    fun h hs hc h1 h48 hl hm hu he hp hr => ?_, fun h hs hc => ?_⟩
  · exact congrArg _ (State.mailbox_of_answer h (cmdLineConfig_of_allowed hb hc hd hi))
  · exact congrArg _ (State.mailbox_of_answer h (cmdLineStatus_of_chan hs hc))
  · exact congrArg _ (State.mailbox_of_answer h (cmdLineRetrain_of_enabled hs hc he hd hi))
  · exact ⟨_, congrArg _ (State.mailbox_of_answer h (cmdLineOamSend_of_room hs hc h1 h48 hl hm hu he hp hr)),
      d.modLine_only _ _⟩
  · exact ⟨_, congrArg _ (State.mailbox_of_answer h (cmdLineOamRead_of_chan hs hc)), d.modLine_only _ _⟩

/-- Settles O34 (R173, R177; log 52). -/
theorem stageTimesAreThoseOfTheTable : Obligations.StageTimesAreThoseOfTheTable :=
  ⟨rfl, rfl, rfl, rfl, rfl, rfl⟩

end Sys2Proof
end

section
/-! SUPPORT. Negotiation, training frames, timeouts and standard training: proof of O33. -/
namespace Sys2Proof
open Machine
namespace Machine

/-! ## An attempt that fails (R96, R177, R178) -/

theorem State.lineFail_line (s : State) (ch reason : Nat) :
    ((s.lineFail ch reason).line ch).lastFail = reason ∧
      ((s.lineFail ch reason).line ch).attemptsDone = (s.line ch).attemptsDone + 1 := by
  have h := State.lineStart_failures (s.modLine ch fun l =>
    { l with lastFail := reason, attemptsDone := l.attemptsDone + 1 }) ch (s.now + 1) false
  simpa [Line.failures, State.lineFail] using h

/-- Full training after a resume that failed is recorded as 0x08. -/
theorem State.resumeReject_lastFail (s : State) (ch : Nat) : ((s.resumeReject ch).line ch).lastFail = 0x08 := by
  have h := State.lineStart_failures (s.modLine ch fun l => { l with lastFail := 0x08 }) ch (s.now + 1) false
  exact (congrArg Prod.fst h).trans (by simp [Line.failures])

/-! ## Stage 1 of LR10 training (R173) -/

/-- A good frame with LOCK ends stage 1. -/
theorem State.trainStage_of_lock {s : State} {ch : Nat} (f : TrainingFrame) {i : Info} (h1 : (s.line ch).train.stage = 1)
    (hl : i.lock = true) :
    (s.modLine ch (fun l => l.hear i)).trainStage ch f i = s.modLine ch (fun l => (l.hear i).stageTo 2 s.now) := by
  have hstage : ((s.line ch).hear i).train.stage = 1 := h1
  have hlock : ((s.line ch).hear i).train.lockOwn = true ∧ ((s.line ch).hear i).train.lockPeer = true := ⟨rfl, hl⟩
  simp [State.trainStage, hstage, hlock, State.modLine_modLine]

end Machine

/-- Settles O33 (R143, R149, R150, R172, R173, R177, R178; log 52). -/
theorem lineTrainingEventsComplete : Obligations.LineTrainingEventsComplete := by
  intro ch s hc hp
  refine ⟨s.lineFail_line ch, fun x hn => ⟨fun mode slave hm hs => ?trains, fun hm => ?noMode, fun mode hm hs => ?noRole⟩,
    fun f ht hm h0 hf => ?frame, fun ht hm h7 hr hf hend => ?stageOver, fun ht hm hend => ?standardOver,
    fun hn hend => ?negotiationOver, fun ht hm hr hend => ?resumeOver, fun h1 h5 =>
      ⟨fun eee k ht hf h0 => ?trained, fun ht => ?trainFail, fun hl => ?linked⟩⟩
  case trains => simp [exec, execAnPageRx, hc, hp, hn, hm, hs]
  case noMode => simp [exec, execAnPageRx, hc, hp, hn, hm]
  case noRole =>
    refine ⟨_, by simp only [exec, execAnPageRx, hc, hp, hn, hm, hs]; rfl, ?_⟩
    simp [Line.lose]
  case frame =>
    refine ⟨fun hd => ?delimiter, fun hd hi => ?unread, fun i hd hi => ?read⟩
    case delimiter => simp [exec, execTrainingFrameRx, hc, hp, ht, hm, h0, hf, hd]
    case unread => simp [exec, execTrainingFrameRx, hc, hp, ht, hm, h0, hf, hd, hi]
    case read =>
      have good (hv : i.version = 1) :
          exec (.trainingFrameRx ch f) s = .next ((s.modLine ch (fun l => l.hear i)).trainStage ch f i) := by
        simp [exec, execTrainingFrameRx, hc, hp, ht, hm, h0, hf, hd, hi, hv]
      refine ⟨fun hv => ?_, good, fun hv h1 hl => (good hv).trans (congrArg _ (State.trainStage_of_lock f h1 hl))⟩
      simp [exec, execTrainingFrameRx, hc, hp, ht, hm, h0, hf, hd, hi, hv]
  case stageOver => simp [exec, execLineTrainingTimeout, hc, hp, ht, hm, h7, hr, hf, hend.symm]
  case standardOver => simp [exec, execLineTrainingTimeout, hc, hp, ht, hm, hend]
  case negotiationOver => simp [exec, execLineTrainingTimeout, hc, hp, hn, hend]
  case resumeOver =>
    refine ⟨s.resumeReject ch, ?_, rfl, s.resumeReject_lastFail ch⟩
    simp [exec, execResumeTimeout, hc, hp, ht, hm, hr, hend]
  case trained =>
    have hs : ¬(s.line ch).train.stage = 0 ∨ (s.bundle (ch / 4)).enabled = false := Decidable.not_or_of_imp h0
    refine ⟨_, by simp [exec, execStandardTraining, hc, hp, h1, h5, ht, hf, hs]; rfl, ?_, ?_⟩
    · exact State.lineUp_state ..
    · exact State.lineUp_upTick ..
  case trainFail => simp [exec, execStandardTraining, hc, hp, h1, h5, ht]
  case linked =>
    refine ⟨fun ha he => ?lpiStart, ?lpiEnd, fun he => ?wakeError, fun h2 => ⟨fun cw corr uncorr => ?fec, fun body => ?oam⟩⟩
    case lpiStart => simp [exec, execStandardTraining, hc, hp, h1, h5, hl, ha, he]
    case lpiEnd => simp [exec, execStandardTraining, hc, hp, h1, h5, hl]
    case wakeError => simp [exec, execStandardTraining, hc, hp, h1, h5, hl, he]
    case fec => simp [exec, execStandardTraining, hc, hp, h1, h5, hl, h2]
    case oam => simp [exec, execStandardTraining, hc, hp, h1, h5, hl, h2]

end Sys2Proof
end

section
/-! SUPPORT. Superframes, OAM, precoder, low-power idle, sleep and wake of a linked channel: proof of O35. -/
namespace Sys2Proof
open Machine
namespace Machine

/-! ## A superframe at its channel (R157 to R159, R163, R219) -/

section
variable (l : Line)

/-- The beginning of the partner's data mode changes the training and the bank only (R176, R192). -/
theorem Line.dataBegins_frame : l.dataBegins = { l with train := l.dataBegins.train, bank := l.dataBegins.bank } := by
  unfold Line.dataBegins
  split <;> rfl

/-- A COEF update changes the precoder and what is left to send of it only (R171, R193). -/
theorem Line.coefSeen_frame (sf set : Nat) : l.coefSeen sf set =
    { l with coefRx := (l.coefSeen sf set).coefRx, coefDue := (l.coefSeen sf set).coefDue
             coefLater := (l.coefSeen sf set).coefLater, bank := (l.coefSeen sf set).bank } := by
  unfold Line.coefSeen
  split
  · rfl
  · dsimp only
    split_ifs <;> rfl

/-- A channel that has counted a superframe; `g` is what could be read of its FLAGS. -/
def Line.counted (errs bad corr : Nat) (g : Option SfmFlags) (next : Nat) : Line :=
  l.dataBegins.sfmCount errs bad corr g next

/-- A channel after a superframe whose SFM could not be read. -/
def Line.unread (errs bad corr next : Nat) : Line :=
  { l.counted errs bad corr none next with sfm := { (l.counted errs bad corr none next).sfm with good := 0 } }

/-- A channel after a superframe without uncorrectable codewords whose SFM was read. -/
def Line.readSf (errs corr sf : Nat) (g : SfmFlags) (next : Nat) : Line := (l.counted errs 0 corr (some g) next).flags sf g

variable (errs bad corr sf next : Nat) (g : SfmFlags)

theorem Line.unread_spec : let r := l.unread errs bad corr next
    r.cntTick.fecCw = l.cntTick.fecCw + 9 ∧ r.cntTick.fecUncorr = l.cntTick.fecUncorr + popCount 9 bad ∧ r.sfm.good = 0 ∧
      r.state = l.state := by
  rw [Line.unread, Line.counted, Line.dataBegins_frame]
  exact ⟨rfl, rfl, rfl, rfl⟩

theorem Line.readSf_spec : let r := l.readSf errs corr sf g next
    r.cntTick.fecCw = l.cntTick.fecCw + 9 ∧ r.state = l.state := by
  rw [Line.readSf, Line.flags, Line.coefSeen_frame, Line.counted, Line.dataBegins_frame]
  exact ⟨rfl, rfl⟩

/-- With RX_OK both ways and the own superframes begun the run of good superframes grows (R158, R173). -/
theorem Line.readSf_good (hg : g.rxOk = true) (hlock : (l.sfm.marker errs).lock = true) (hown : l.sfm.okOwn ≤ 1)
    (ht : l.sfTx.isSome = true) : (l.readSf errs corr sf g next).sfm.good = l.sfm.good + 1 := by
  have hown' : l.sfm.okOwn - 1 = 0 := by omega
  have hok : (l.sfm.marker errs).okOwn = l.sfm.okOwn := rfl
  have hrun : (l.sfm.marker errs).good = l.sfm.good := rfl
  have hpop : popCount 9 0 = 0 := rfl
  rw [Line.readSf, Line.flags, Line.coefSeen_frame, Line.counted, Line.dataBegins_frame]
  simp [Line.sfmCount, LineSfm.rxOk, hg, hlock, hok, hrun, hown', hpop, ht]
end

section
variable {ch : Nat} {s : State} (hc : ch < 96) (hp : s.powered ch = true) (hm : (s.line ch).mode = 6)
include hc hp hm

theorem exec_sfmRx_of_unread {b : List Byte} {bad : Nat} (errs corr : Nat) (hl : (s.line ch).linked = true)
    (hr : bit bad 0 = true ∨ sfmRead b = none) :
    exec (.sfmRx ch errs b bad corr) s = .next (s.modLine ch (fun l => l.unread errs bad corr (s.now + 1))) := by
  have hread : (if bit bad 0 then none else sfmRead b) = none := by rcases hr with hr | hr <;> simp [hr]
  have htwo := s.modLine_modLine ch (fun l => l.counted errs bad corr none (s.now + 1))
    (fun l => { l with sfm := { l.sfm with good := 0 } })
  simp only [exec, execSfmRx, hc, hp, hm, hl, hread]
  exact congrArg Host.Outcome.next htwo

/-- The 64th superframe in a row with RX_OK both ways brings the link up (R173). -/
theorem exec_sfmRx_of_good {b : List Byte} {sf : Nat} {g : SfmFlags} (errs corr : Nat) (ht : (s.line ch).state = .training)
    (h5 : (s.line ch).train.stage = 5) (hr : sfmRead b = some (sf, g))
    (hgood : 64 ≤ ((s.line ch).readSf errs corr sf g (s.now + 1)).sfm.good) :
    exec (.sfmRx ch errs b 0 corr) s =
      .next ((s.modLine ch (fun l => l.readSf errs corr sf g (s.now + 1))).lineUp ch) := by
  obtain ⟨-, hst⟩ := (s.line ch).readSf_spec errs corr sf (s.now + 1) g
  have hread : (if bit 0 0 then none else sfmRead b) = some (sf, g) := hr
  simp only [Line.readSf, Line.counted] at hst hgood ⊢
  simp [exec, execSfmRx, hc, hp, hm, ht, h5, hread, State.modLine_modLine, hst, hgood]

end

/-! ## OAM messages (R170, R187) -/

/-- A channel that has taken a message: its last SEQ is kept for the next one (R170). -/
def Line.oamTaken (l : Line) (now cls : Nat) (blocks : List (Bool × List Byte)) (body : List Byte) : Line :=
  Line.oam { l with oamSeq := lastOamSeq (blocks.map Prod.snd) } now cls body

/-- A USER message of a length that its class allows is stored while there is room. -/
theorem Line.oamTaken_of_user {l : Line} {blocks : List (Bool × List Byte)} {body : List Byte} (now : Nat)
    (h1 : 1 ≤ body.length) (h48 : body.length ≤ 48) (hr : l.oamRx.length < 8) :
    l.oamTaken now 3 blocks body =
      { l with oamSeq := lastOamSeq (blocks.map Prod.snd), oamRx := l.oamRx ++ [body] } := by
  have hfit : oamLenOk 3 body.length = true := by simp [oamLenOk, h1, h48]
  unfold Line.oamTaken Line.oam
  simp [hfit, hr]

/-- A message whose blocks all arrived and hold together is taken (R163, R170). -/
theorem exec_oamMessageRx_of_got {ch : Nat} {s : State} {blocks : List (Bool × List Byte)} {cls : Nat} {body : List Byte}
    (hc : ch < 96) (hp : s.powered ch = true) (hm : (s.line ch).mode = 6) (hl : (s.line ch).linked = true)
    (hall : blocks.all Prod.fst = true) (hmsg : oamMessage (s.line ch).oamSeq (blocks.map Prod.snd) = some (cls, body)) :
    exec (.oamMessageRx ch blocks) s = .next (s.modLine ch (fun l => l.oamTaken s.now cls blocks body)) := by
  have htwo := s.modLine_modLine ch (fun l => { l with oamSeq := lastOamSeq (blocks.map Prod.snd) })
    (fun l => l.oam s.now cls body)
  simp only [exec, execOamMessageRx, hc, hp, hm, hl, hall, hmsg]
  exact congrArg Host.Outcome.next htwo

/-! ## Low-power idle (R179, R229, R482) -/

/-- A powered unit of a domain that does not close is on. -/
theorem State.unitOn_of_powered {s : State} {r : Nat} (hp : s.powered r = true) (hd : s.domClosing (domOfRoot r) = false) :
    s.unitOn r = true := by
  rw [State.unitOn, hd]
  exact Bool.and_eq_true_iff.2 ⟨hp, rfl⟩

theorem State.lpiEnter_line (s : State) (ch : Nat) : (s.lpiEnter ch).line ch =
    { s.line ch with
      state := .lpi, lpiTx := .entering 0
      cntTick := { (s.line ch).cntTick with lpiTxEnt := (s.line ch).cntTick.lpiTxEnt + 1 } } := by
  simp [State.lpiEnter]

theorem State.lpiEnter_line_ne (s : State) {ch k : Nat} (h : k ≠ ch) : (s.lpiEnter ch).line k = s.line k := by
  simp [State.lpiEnter, State.lineSt_line_ne, State.line_modLine_ne, h]

end Machine

/-- Settles O35 (R157 to R159, R170, R171, R173, R179, R182, R190, R193, R229, R230; log 57). -/
theorem lineLinkEventsComplete : Obligations.LineLinkEventsComplete := by
  intro ch s hc hp
  refine ⟨fun e b bad c hm hl hr => ?unread, fun e b c sf g hm ht h5 hr hg hlock hown htx hgood => ?linkUp,
    fun blocks body hm hl hall hmsg h1 h48 hroom => ?oam, fun c act hcoef hm hl hsf => ?precoderSwitch,
    fun hm hl hf hn hrun later => ?precoderUpdate, fun hd hu ha hi => ?lpiEntry, fun since hq hm hl hend => ?lpiRefresh,
    fun hl hw ha hs hcause => ?lpiWake, fun hd ha => ?wakeTone, fun hb => ?blw, fun f k => State.line_modLine_ne s f⟩
  case unread =>
    obtain ⟨hframe, hself, hne⟩ := s.modLine_only ch (fun l => l.unread e bad c (s.now + 1))
    obtain ⟨hcw, hun, hg, hst⟩ := (s.line ch).unread_spec e bad c (s.now + 1)
    exact ⟨_, exec_sfmRx_of_unread hc hp hm e c hl hr, hframe, hself ▸ hcw, hself ▸ hun, hself ▸ hg, hself ▸ hst, hne⟩
  case linkUp =>
    obtain ⟨hcw, hst⟩ := (s.line ch).readSf_spec e c sf (s.now + 1) g
    have hrun : 64 ≤ ((s.line ch).readSf e c sf g (s.now + 1)).sfm.good := by
      rw [Line.readSf_good _ _ _ _ _ _ hg hlock hown htx]
      omega
    refine ⟨_, exec_sfmRx_of_good hc hp hm e c ht h5 hr hrun, State.lineUp_state .., State.lineUp_upTick .., ?_,
      fun k hk => ?_⟩
    · rw [State.lineUp_cntTick, State.line_modLine_self, hcw]
    · rw [State.lineUp_line_ne _ hk, State.line_modLine_ne _ _ hk]
  case oam =>
    obtain ⟨hframe, hself, hne⟩ := s.modLine_only ch (fun l => l.oamTaken s.now 3 blocks body)
    rw [Line.oamTaken_of_user _ h1 h48 hroom] at hself
    exact ⟨_, exec_oamMessageRx_of_got hc hp hm hl hall hmsg, hframe, by rw [hself], by rw [hself], hne⟩
  case precoderSwitch =>
    have hx : exec (.precoderSwitch ch act) s = .next (s.modLine ch (fun l => l.coefSwitch act)) := by
      simp [exec, execPrecoderSwitch, hc, hp, hm, hl, hsf]
    exact hx.trans (congrArg _ (State.modLine_congr (by simp [Line.coefSwitch, hcoef])))
  case precoderUpdate => simp [exec, execPrecoderUpdate, hc, hp, hm, hl, hf, hn, hrun]
  case lpiEntry =>
    have hx : exec (.lpiEntry ch) s = .next (s.lpiEnter ch) := by
      simp [exec, execLpiEntry, hc, State.unitOn_of_powered hp hd, hu, ha, hi]
    have hself := s.lpiEnter_line ch
    exact ⟨_, hx, by rw [hself], by rw [hself], by rw [hself], fun k => s.lpiEnter_line_ne⟩
  case lpiRefresh => simp [exec, execLpiRefresh, hc, hp, hm, hl, hq, hend]
  case lpiWake => simp [exec, execLpiWake, hc, hp, hl, hw, ha, hs, and_assoc, hcause]
  case wakeTone =>
    refine ⟨_, ?_, rfl, fun k => s.lineStart_line_ne _ _⟩
    simp [exec, execWakeToneDetect, hc, State.unitOn_of_powered hp hd, ha]
  case blw => simp [exec, execBlwSaturation, hc, hp, hb]

end Sys2Proof
end

section
/-! SUPPORT. Surveys, joins, drops and faults, TDR, baselines, link sleep and wake: proof of O36. -/
namespace Sys2Proof
open Machine
namespace Machine

/-! ## What leaves the bundle groups as they are -/

section
variable (s : State)

@[simp] theorem State.lineSt_bundles (ch : Nat) (st : LineState) : (s.lineSt ch st).bundles = s.bundles := by
  unfold State.lineSt
  dsimp only
  split <;> simp

@[simp] theorem State.lineMode_bundles (ch mode : Nat) (slave : Bool) : (s.lineMode ch mode slave).bundles = s.bundles := by
  unfold State.lineMode
  dsimp only
  split <;> simp

@[simp] theorem State.decideGroup_bundles (bg : Nat) : (s.decideGroup bg).bundles = s.bundles :=
  List.foldlRecOn (motive := fun t : State => t.bundles = s.bundles) _ _ rfl fun _ h _ _ => h

@[simp] theorem State.decideStarts_bundles : s.decideStarts.bundles = s.bundles :=
  List.foldlRecOn (motive := fun t : State => t.bundles = s.bundles) _ _ rfl
    fun t h bg _ => (t.decideGroup_bundles bg).trans h

variable {s} {ch : Nat} (hs : (s.bundle (ch / 4)).survey ≠ 1)
include hs

theorem State.lineDown_bundles (st : LineState) : (s.lineDown ch st).bundles = s.bundles := by
  simp [State.lineDown, State.leaveSurvey, hs]

theorem State.lineTrain_bundles (mode : Nat) (slave : Bool) (start : Nat) (resume count : Bool) :
    (s.lineTrain ch mode slave start resume count).bundles = s.bundles := by
  have hm : ((s.lineMode ch mode slave).bundle (ch / 4)).survey ≠ 1 := by
    rwa [State.bundle_congr (s.lineMode_bundles ch mode slave)]
  unfold State.lineTrain
  dsimp only
  split <;> simp [State.lineDown_bundles hm]

/-- While no survey runs, the start of a channel leaves its group as it is (R205, R207). -/
theorem State.lineStart_bundles (start : Nat) (resume : Bool) : (s.lineStart ch start resume).bundles = s.bundles := by
  have hm (mode : Nat) (slave : Bool) : ((s.lineMode ch mode slave).bundle (ch / 4)).survey ≠ 1 := by
    rwa [State.bundle_congr (s.lineMode_bundles ch mode slave)]
  unfold State.lineStart
  dsimp only
  split_ifs <;> simp [State.lineDown_bundles hs, State.lineDown_bundles (hm _ _), State.lineTrain_bundles hs]
end

/-- The channels of a group belong to it. -/
theorem div_of_mem_groupChans {bg c : Nat} (h : c ∈ groupChans bg) : c / 4 = bg := by
  obtain ⟨p, hp, rfl⟩ := List.mem_map.1 h
  have hp4 : p < 4 := List.mem_range.1 hp
  omega

/-- The channels that a survey has held start without a change of their group (R208). -/
theorem State.releaseHeld_bundles {s : State} {bg : Nat} (hs : (s.bundle bg).survey ≠ 1) (start : Nat) :
    (s.releaseHeld bg start).bundles = s.bundles := by
  refine List.foldlRecOn (motive := fun t : State => t.bundles = s.bundles) _ _ rfl fun t ht c hc => ?_
  have hbg : c / 4 = bg := div_of_mem_groupChans (List.mem_filter.1 hc).1
  have hc4 : (t.bundle (c / 4)).survey ≠ 1 := by rwa [hbg, State.bundle_congr ht]
  exact (State.lineStart_bundles (s := t.modLine c fun l => { l with asJoiner := true }) hc4 start false).trans ht

/-! ## The end of a survey (R205, R207, R208) -/

/-- A group at the end of its survey: the taps of the positions that sent their burst are valid. -/
def Bundle.surveyed (b : Bundle) (now : Nat) (noise : Int) (coupling : List Nat) : Bundle :=
  let done := b.surveyPos.filter (fun p => !b.surveyOut.contains p)
  { b with survey := 2, surveyTick := now, noise := noise, coupling := surveyCoupling done coupling
           valid := (List.range 4).map (fun p => b.valid.getD p false || done.contains p), surveyPos := [], surveyOut := [] }

/-- What follows a survey for the channels leaves the groups as they are (R207, R208). -/
theorem State.afterSurvey_bundles {s : State} {bg : Nat} (hs : (s.bundle bg).survey ≠ 1) (ps : List Nat) :
    let t := ps.foldl (fun t p => t.modLine (4 * bg + p) (fun l => l.afterSurvey t.now)) s
    (t.releaseHeld bg t.now).decideStarts.bundles = s.bundles := by
  intro t
  have ht : t.bundles = s.bundles :=
    List.foldlRecOn (motive := fun t : State => t.bundles = s.bundles) _ _ rfl fun _ h _ _ => h
  have ht1 : (t.bundle bg).survey ≠ 1 := by rwa [State.bundle_congr ht]
  rw [State.decideStarts_bundles, State.releaseHeld_bundles ht1, ht]

theorem exec_surveyComplete {bg : Nat} {s : State} (noise : Int) (coupling : List Nat) (hb : bg < 24) (hl : s.live = true)
    (h1 : (s.bundle bg).survey = 1)
    (hend : (s.bundle bg).surveyStart + surveyTicks (s.bundle bg).surveyPos.length ≤ s.now) :
    ∃ t : State, exec (.surveyComplete bg noise coupling) s = .next t ∧
      t.bundle bg = (s.bundle bg).surveyed s.now noise coupling := by
  refine ⟨_, by simp only [exec, execSurveyComplete, hb, hl, h1, hend]; rfl, ?_⟩
  exact (State.bundle_congr (State.afterSurvey_bundles (by simp) _) bg).trans (State.bundle_modBundle_self ..)

/-- The taps of a position that sent its burst are valid. -/
theorem Bundle.surveyed_valid (b : Bundle) (now : Nat) (noise : Int) (coupling : List Nat) {p : Nat}
    (hp : p ∈ b.surveyPos.filter (fun p => !b.surveyOut.contains p)) (h4 : p < 4) :
    (b.surveyed now noise coupling).valid[p]? = some true := by
  obtain ⟨hpos, hout⟩ := List.mem_filter.1 hp
  have hout' : p ∉ b.surveyOut := by simpa using hout
  simp [Bundle.surveyed, h4, hpos, hout']

/-! ## Drops and faults that wait for the edge (R224 to R227) -/

section
variable {s : State} {ch : Nat}

theorem State.atEdge_edgeq_of_notMem {a : EdgeAct} (h : a ∉ s.edgeq) : (s.atEdge a).edgeq = s.edgeq ++ [a] := by
  simp [State.atEdge, h]

theorem exec_linkDrop {k : Nat} (hc : ch < 96) (hp : s.powered ch = true)
    (hk : (s.line ch).dropHolds s.now s.time.committed k = true)
    (hq : ∀ a ∈ s.edgeq, a ≠ .relink ch ∧ ∀ code, a ≠ .silence ch code) :
    exec (.linkDrop ch k) s = .next ((s.modLine ch (fun l =>
      { l with cntTick := { l.cntTick with linkDrops := l.cntTick.linkDrops + 1 } })).atEdge (.relink ch)) := by
  refine if_pos ?_
  simp only [hc, hp, hk, decide_true, Bool.true_and, Bool.not_eq_true', List.any_eq_false]
  intro a ha
  obtain ⟨hrelink, hsilence⟩ := hq a ha
  cases a with
  | relink c => simpa using hrelink
  | silence c code => simpa using hsilence code
  | trunkDrop => simp
  | hostRetrain => simp

/-- A drop that a fault governs leaves the edge without it, and the rest outside the channel as it is (R225). -/
theorem State.undoDrop_frame (s : State) (ch : Nat) : s.undoDrop ch = { s with
    lines := (s.undoDrop ch).lines
    edgeq := if s.edgeq.contains (.relink ch) then s.edgeq.filter (fun a => a != .relink ch) else s.edgeq } := by
  unfold State.undoDrop
  split <;> rfl

/-- A channel fault is recorded, and waits alone for the next edge to silence the channel (R225, R227, R546). -/
theorem State.lineFault_spec {code : Nat} (hq : .silence ch code ∉ s.edgeq) :
    let t := s.lineFault ch code
    t.edgeq = (if s.edgeq.contains (.relink ch) then s.edgeq.filter (fun a => a != .relink ch) else s.edgeq) ++
        [.silence ch code] ∧
      t.faults.record = s.faults.record.add ⟨code, ch, s.now⟩ 0 ∧ t.mbx = s.mbx := by
  have hu := (s.recordFault code ch).undoDrop_frame ch
  have he : .silence ch code ∉ ((s.recordFault code ch).undoDrop ch).edgeq := by
    rw [hu]
    dsimp only
    split
    · exact fun h => hq (List.mem_filter.1 h).1
    · exact hq
  refine ⟨(State.atEdge_edgeq_of_notMem he).trans (by rw [hu]; rfl), ?_, ?_⟩
  all_goals
    rw [State.lineFault, State.atEdge_frame, hu]
    rfl
end

end Machine

/-- Settles O36 (R182, R205 to R208, R210, R224 to R226, R232, R233, R237, R482, R501). -/
theorem lineBundleAndWatchEventsComplete : Obligations.LineBundleAndWatchEventsComplete := by
  intro ch bg s hc hb
  refine ⟨fun p t hs hl hd he h1 => ?surveyBegins, fun noise coupling hl h1 hend => ?surveyEnds,
    fun t0 hj hp hend => ?softStart, fun k hp hk hq => ?drop, fun code hf hp hq => ?fault,
    fun code hf hp ha hh hd => ?faultInDamped, fun job partner refl hj hl hend => ⟨?tdr, rfl⟩,
    fun hp hl hn hend => ?baseline, fun hp hd hl hs => ?sleep, fun e hb he ha hw hn => ?wakeInBanked,
    fun hr hp ha => ?wakeInRun⟩
  case surveyBegins => simp [exec, execBundleSurvey, hs, hb, hl, hd, he, h1]
  case surveyEnds =>
    obtain ⟨t, hx, ht⟩ := exec_surveyComplete noise coupling hb hl h1 hend
    exact ⟨t, hx, ht ▸ rfl, ht ▸ rfl, ht ▸ rfl, ht ▸ rfl, fun p hp h4 => ht ▸ Bundle.surveyed_valid _ _ _ _ hp h4⟩
  case softStart => simp [exec, execJoinSoftStartEnd, hj, hc, hp, hend]
  case drop =>
    have hr : .relink ch ∉ s.edgeq := fun h => (hq _ h).1 rfl
    refine ⟨_, exec_linkDrop hc hp hk hq, State.atEdge_edgeq_of_notMem hr, ?_, ?_⟩
    all_goals rw [State.line_congr (State.atEdge_lines ..), State.line_modLine_self]
  case fault =>
    refine ⟨s.lineFault ch code, ?_, State.lineFault_spec hq⟩
    simp [exec, execLineChannelFault, hc, hf, hp]
  case faultInDamped => simp [exec, execLineChannelFault, hc, hf, hp, State.dampedFault, ha, hh, hd]
  case tdr => simp [exec, execTdrComplete, hj, hc, hl, hend]
  case baseline => simp [exec, execBaselineCapture, hc, hp, hl, hn, hend]
  case sleep =>
    refine ⟨fun hm he hu => ?handshake, fun hm he hu => ?wakesFirst, fun hm he hu => ?idlesFirst, fun hm => ?silent⟩
    case handshake =>
      refine ⟨_, by simp [exec, execLinkSleep, hc, hp, hd, hl, hs, hm, he]; rfl, ?_⟩
      simp [hu]
    case wakesFirst =>
      refine ⟨_, by simp [exec, execLinkSleep, hc, hp, hd, hl, hs, hm, he]; rfl, ?_⟩
      simp [hu]
    case idlesFirst =>
      refine ⟨_, by simp [exec, execLinkSleep, hc, hp, hd, hl, hs, hm, he, or_assoc, hu]; rfl, ?_⟩
      simp [State.lpiEnter_line]
    case silent =>
      refine ⟨(s.lineDown ch .asleep).modLine ch (fun l => { l with sleep := .silent }), ?_, by simp, by simp⟩
      rcases hm with ⟨hm, he⟩ | ⟨hm, he | ⟨hu, hw, ha⟩⟩
      · simp [exec, execLinkSleep, hc, hp, hd, hl, hs, hm, he]
      · simp [exec, execLinkSleep, hc, hp, hd, hl, hs, hm, he]
      · simp [exec, execLinkSleep, hc, hp, hd, hl, hs, hm, hu, hw, ha]
  case wakeInBanked =>
    refine ⟨s.firedAsleep ⟨0x01, ch⟩, ?_, ?_, ?_⟩
    · simp [exec, execLineWakeDetect, hb, he, ha, hc, hw, State.fireWake]
    all_goals simp [State.firedAsleep, hn, hb]
  case wakeInRun => simp [exec, execLineWakeDetect, hr, hp, ha, hc]

end Sys2Proof
end

section
/-! SUPPORT. The messages of the line receiver, the bundle groups and the line watch: proof of O32. -/
namespace Sys2Proof
open Machine
namespace Machine

/-! ## What the receiver, bundle and watch commands answer (R199, R203 to R205, R219 to R224, R233, R236 to R238) -/

section
variable {m : Msg} {s d : State}

/-- A selected command whose operands are allowed, and whose object is in a state for it, comes to its reply (R595). -/
theorem State.mailbox_of_allowed {cmd : Cmd} (body : Msg → State → Reply) {bad wrong : Bool} {c c' : Code} {r : Reply}
    (h : s.selects cmd m d) (hr : body m d = .unless bad c (.unless wrong c' r)) (hbad : bad = false)
    (hwrong : wrong = false) : s.mailbox cmd m body = d.settle m.rt r :=
  State.mailbox_of_answer h (by rw [hr, Reply.unless_of_false _ _ hbad, Reply.unless_of_false _ _ hwrong])

/-- BUNDLE_CONFIG that enables a group enabled already changes nothing; any other is accepted for the next edge (R203, R204). -/
theorem cmdBundleConfig_of_allowed (hs : m.stray 1 0x1F01F = false) (hg : m.get 1 0 5 ≤ 23)
    (hen : m.flag 1 16 = true → 3 ≤ m.get 1 12 4 ∧ m.get 1 12 4 ≤ 6 ∧
      d.bundleClash (m.get 1 0 5) (m.get 1 12 4) = false ∧
      ((d.bundleCfg (m.get 1 0 5)).1 = true → (d.bundleCfg (m.get 1 0 5)).2 = m.get 1 12 4))
    (hdis : m.flag 1 16 = false → m.get 1 12 4 = 0) (hd : d.domOn (4 + m.get 1 0 5 / 6) = true)
    (hi : (groupChans (m.get 1 0 5)).any (fun c => (d.line c).isolated) = false) :
    cmdBundleConfig m d =
      if m.flag 1 16 = true ∧ (d.bundleCfg (m.get 1 0 5)).1 = true then .ok (lohi d.nextEdge ++ [0]) d
      else .ok (lohi d.nextEdge ++ [w32 (if m.flag 1 16 then d.takenMask (m.get 1 0 5) else 0)])
        (d.accept (.bundle (m.get 1 0 5) (m.flag 1 16) (m.get 1 12 4))) := by
  cases he : m.flag 1 16 with
  | false =>
    have hbad := hdis he
    rw [cmdBundleConfig, Reply.unless_of_false _ _ (by simp [hs, hg, he, hbad]),
      Reply.unless_of_false _ _ (by simp [he]), Reply.unless_of_false _ _ (by simp [hd, hi])]
    simp [he]
  | true =>
    obtain ⟨h3, h6, hclash, hmode⟩ := hen he
    rw [cmdBundleConfig, Reply.unless_of_false _ _ (by simp [hs, hg, he, h3, h6]),
      Reply.unless_of_false _ _ (by simpa [he, hclash] using hmode), Reply.unless_of_false _ _ (by simp [hd, hi])]
    cases hb : (d.bundleCfg (m.get 1 0 5)).1 with
    | false => simp [he]
    | true => simp [he, hmode hb, w32]

/-- LINE_TDR on a channel that is neither linked, asleep, silent, isolated nor measured already is answered later (R233). -/
theorem cmdLineTdr_of_free (hs : m.stray 1 0x7F = false) (hc : m.get 1 0 7 ≤ 95)
    (hl : (d.line (m.get 1 0 7)).linked = false) (ha : (d.line (m.get 1 0 7)).state ≠ .asleep)
    (hq : (d.line (m.get 1 0 7)).quietP = none) (hi : (d.line (m.get 1 0 7)).isolated = false)
    (hd : d.domOn (domOfRoot (m.get 1 0 7)) = true) (ht : (d.line (m.get 1 0 7)).tdr = none) (hw : d.cfgq = [])
    (hv : (d.bundle (m.get 1 0 7 / 4)).survey ≠ 1) :
    cmdLineTdr m d = .later (d.accept (.lineTdr (m.get 1 0 7) ⟨0, false, d.replyTo m, false, false⟩)) := by
  rw [cmdLineTdr, Reply.unless_of_false _ _ (by simp [hs, hc]),
    Reply.unless_of_false _ _ (by simp [hl, ha, hq, hi, hd]), Reply.unless_of_false _ _ (by simp [ht, hw, hv])]
end

end Machine

/-- Settles O32 (R199, R203 to R205, R219, R221 to R224, R233, R236, R238; log 1, log 88). -/
theorem lineReceiverMessagesAreAnswered : Obligations.LineReceiverMessagesAreAnswered := by
  intro m s d
  refine ⟨?bundleConfig, ?bundleStatus, ?rxAdaptConfig, ?rxStatus, ?rxTapsRead, ?lineCounters, ?lineQuality,
    ?lineWatchConfig, ?lineTdr, ?cableHealth⟩
  case bundleConfig =>
    intro h hs hg hen hdis hd hi
    refine congrArg _ ((State.mailbox_of_answer h (cmdBundleConfig_of_allowed hs hg hen hdis hd hi)).trans ?_)
    split <;> rfl
  case bundleStatus =>
    intro h hs hg hd
    exact congrArg _ (State.mailbox_of_allowed cmdBundleStatus h rfl (by simp [hs, hg]) (by simp [hd]))
  case rxAdaptConfig =>
    intro h hs hs3 hc he hf hdf hb hp hd
    exact congrArg _ (State.mailbox_of_allowed cmdRxAdaptConfig h rfl
      (by simp [hs, hs3, hc, he, hf, hdf, hb, hp]) (by simp [hd]))
  case rxStatus =>
    intro h hs hc hd
    exact congrArg _ (State.mailbox_of_allowed cmdRxStatus h rfl (by simp [hs, hc]) (by simp [hd]))
  case rxTapsRead =>
    intro h hs hc hset hi ha hd hb hm
    exact congrArg _ (State.mailbox_of_allowed cmdRxTapsRead h rfl (by simpa [hs, hc, hset, hi] using ha)
      (by simpa [hd] using ⟨hb, hm⟩))
  case lineCounters =>
    intro h hs hc
    have answer : s.mailbox lineCountersCmd m cmdLineCounters = _ :=
      State.mailbox_of_answer h (Reply.unless_of_false _ _ (by simp [hs, hc]))
    refine ⟨_, congrArg _ answer, ?_, ?_⟩
    · exact fun hclr => if_neg (by simp [hclr])
    · exact fun hclr => if_pos hclr
  case lineQuality =>
    intro h hs hc hd
    exact congrArg _ (State.mailbox_of_allowed cmdLineQuality h rfl (by simp [hs, hc]) (by simp [hd]))
  case lineWatchConfig =>
    intro h hs hs2 hs3 hc hn hn' hi hg hg' hr hr' hd
    have hi0 : m.get 2 16 16 ≠ 0 := by omega
    have hg0 : m.get 3 16 8 ≠ 0 := by omega
    exact congrArg _ (State.mailbox_of_allowed cmdLineWatchConfig h rfl
      (by simp [hs, hs2, hs3, hc, hn, hn', hi0, hg0, hg', hr, hr']) (by simp [hd]))
  case lineTdr =>
    intro h hs hc hl ha hq hi hd ht hw hv
    exact congrArg _ (State.mailbox_of_answer h (cmdLineTdr_of_free hs hc hl ha hq hi hd ht hw hv))
  case cableHealth =>
    intro h hs hc hl hd
    exact congrArg _ (State.mailbox_of_allowed cmdCableHealth h rfl (by simp [hs, hc]) (by simp [hl, hd]))

end Sys2Proof
end

section
/-! SUPPORT. The silence of a faulted line channel and the end of its quiet period: proof of O37. -/
namespace Sys2Proof
open Machine
namespace Machine

/-- What a channel holds of its quiet period (R535, R537): the period under way, and how many recoveries are counted. -/
def Line.quieting (l : Line) : Option Quiet × Nat := (l.quietP, l.recoveries)

@[simp] theorem Line.begin_quieting (l : Line) (b : Bundle) (p : Nat) (survey : Bool) :
    (l.begin b p survey).quieting = l.quieting := rfl

section
variable (s : State)

/-! ## What leaves a channel's quiet period as it is -/

/-- A change of one channel that keeps its quiet period keeps that of every channel. -/
theorem State.modLine_quieting {f : Line → Line} (h : ∀ l, (f l).quieting = l.quieting) (ch k : Nat) :
    ((s.modLine ch f).line k).quieting = (s.line k).quieting := by
  by_cases hk : k = ch
  · subst hk
    rw [State.line_modLine_self, h]
  · rw [State.line_modLine_ne _ _ hk]

@[simp] theorem State.lineTrain_quieting (ch mode : Nat) (slave : Bool) (start : Nat) (resume count : Bool) :
    ((s.lineTrain ch mode slave start resume count).line ch).quieting = (s.line ch).quieting := by
  unfold State.lineTrain
  dsimp only
  split <;> simp [Line.quieting, Line.lose]

/-- The start of a channel neither begins a quiet period nor ends one. -/
@[simp] theorem State.lineStart_quieting (ch start : Nat) (resume : Bool) :
    ((s.lineStart ch start resume).line ch).quieting = (s.line ch).quieting := by
  unfold State.lineStart
  dsimp only
  split_ifs <;> simp <;> simp [Line.quieting, Line.lose]

@[simp] theorem State.decideGroup_quieting (bg k : Nat) :
    ((s.decideGroup bg).line k).quieting = (s.line k).quieting :=
  List.foldlRecOn (motive := fun t : State => (t.line k).quieting = (s.line k).quieting) _ _ rfl
    fun t h c _ => (t.modLine_quieting (fun l => l.begin_quieting ..) c k).trans h

@[simp] theorem State.decideStarts_quieting (k : Nat) : (s.decideStarts.line k).quieting = (s.line k).quieting :=
  List.foldlRecOn (motive := fun t : State => (t.line k).quieting = (s.line k).quieting) _ _ rfl
    fun t h bg _ => (t.decideGroup_quieting bg k).trans h

@[simp] theorem State.reportLpi_line (ch k : Nat) (lpi : Bool) : (s.reportLpi ch lpi).line k = s.line k := by
  unfold State.reportLpi
  split <;> simp

/-! ## The quiet period (R227, R535 to R537) -/

/-- The edge that silences a channel starts its quiet period. -/
theorem State.lineSilence_quietP (ch code : Nat) :
    ((s.lineSilence ch code).line ch).quietP = some ⟨s.now, s.faults.quiet.line⟩ := by
  simp [State.lineSilence, Line.lose]

/-- The end of a channel's quiet period leaves it with none under way and one recovery more. -/
theorem State.quietEnd_quieting {ch : Nat} (hc : ch < 96) :
    ((s.quietEnd ch).line ch).quieting = (none, sat16 ((s.line ch).recoveries + 1)) := by
  rw [State.quietEnd, if_pos hc, State.decideStarts_quieting, State.lineStart_quieting, State.line_modLine_self]
  rfl

variable {s}

/-- A channel in a quiet period sends nothing. -/
theorem State.lineSends_of_quietP {ch : Nat} {q : Quiet} (h : (s.line ch).quietP = some q) : s.lineSends ch = false := by
  simp [State.lineSends, h]

/-- The event changes nothing while the quiet period still runs. -/
theorem exec_quietPeriodEnd_of_lt {root : Nat} {q : Quiet} (hq : s.quietOf root = some q) (h : s.now < q.start + q.len) :
    exec (.quietPeriodEnd root) s = .next s := by
  have hd : q.done s.now = false := decide_eq_false (Nat.not_le.2 h)
  simp [exec, execQuietPeriodEnd, hq, hd]

/-- The event ends the quiet period once its length is over. -/
theorem exec_quietPeriodEnd_of_le {root : Nat} {q : Quiet} (hl : s.live = true) (hq : s.quietOf root = some q)
    (h : q.start + q.len ≤ s.now) : exec (.quietPeriodEnd root) s = .next (s.quietEnd root) := by
  have hd : q.done s.now = true := decide_eq_true h
  simp [exec, execQuietPeriodEnd, hq, hl, hd]
end

end Machine

/-- Settles O37 (R227, R535 to R537). -/
theorem lineChannelFaultSilencesUntilItsQuietPeriodEnds :
    Obligations.LineChannelFaultSilencesUntilItsQuietPeriodEnds := by
  intro ch code s hc
  have hquiet := s.lineSilence_quietP ch code
  refine ⟨State.lineSends_of_quietP hquiet, hquiet, fun u hq hlt => exec_quietPeriodEnd_of_lt hq hlt,
    fun u q hl hq hle => ⟨exec_quietPeriodEnd_of_le hl hq hle, ?_, ?_⟩⟩
  · exact congrArg Prod.fst (u.quietEnd_quieting hc)
  · exact congrArg Prod.snd (u.quietEnd_quieting hc)

end Sys2Proof
end

section
/-! SUPPORT. The commands, the PLCA cycle, the receptions, the faults and the wake of a drop segment: proof of O38. -/
namespace Sys2Proof
open Machine
namespace Machine

/-! ## A bit that is set, and a drop that is changed twice -/

theorem bit_eq_testBit (x i : Nat) : bit x i = x.testBit i := by
  rw [bit, fld, pow_one, Nat.testBit_eq_decide_div_mod_eq, Nat.shiftRight_eq_div_pow]
  rfl

@[simp] theorem bit_setBit_true (x i : Nat) : bit (setBit x i true) i = true := by
  cases h : bit x i with
  | true => simp [setBit, h]
  | false =>
    rw [bit_eq_testBit] at h
    simp [setBit, bit_eq_testBit, h, Nat.add_comm x, Nat.testBit_two_pow_add_eq]

/-- Two changes of one drop are one. -/
theorem State.modDrop_modDrop (s : State) (ds : Nat) (f g : Drop → Drop) :
    (s.modDrop ds f).modDrop ds g = s.modDrop ds (fun d => g (f d)) := by
  simp [State.modDrop, tmod, tset_tset]

section
variable {s : State} {ds : Nat}

/-! ## The PLCA cycle (R242 to R244) -/

theorem exec_plcaBeacon (hds : ds < 32) (hon : s.unitOn (dropRoot ds) = true) (hup : (s.drop ds).state = .up)
    (hover : (s.drop ds).cycleOver = true) :
    exec (.plcaBeacon ds) s = .next (s.modDrop ds (fun d => d.beacon (s.waitingTx (dropRoot ds)))) := by
  simp [exec, execPlcaBeacon, hds, hon, hup, hover]

theorem exec_plcaOpportunityTimeout {k : Nat} (hds : ds < 32) (hon : s.unitOn (dropRoot ds) = true)
    (hup : (s.drop ds).state = .up) (hk : (s.drop ds).opp = some k) :
    exec (.plcaOpportunityTimeout ds) s = .next (s.modDrop ds (fun d =>
      { d with opp := d.nextOpp (d.waitingOpp k), taken := false, burstLeft := 0 })) := by
  simp [exec, execPlcaOpportunityTimeout, hds, hon, hup, hk]

/-! ## Reception (R246, R247) -/

/-- The opportunity of an ID that the cycle has not passed takes what comes in it. -/
theorem exec_dropFrameRx_of_open {k id : Nat} (collision : Bool) (arr : Arrival) (f : Frame) (hds : ds < 32)
    (hon : s.unitOn (dropRoot ds) = true) (hup : (s.drop ds).state = .up) (hopp : (s.drop ds).opp = some k) (hk : k ≤ id)
    (hn : id < (s.drop ds).plca.nodeCount) :
    exec (.dropFrameRx ds id collision arr f) s = .next (s.dropReceive ds id collision arr f) := by
  simp [exec, execDropFrameRx, hds, hon, hup, hopp, hk, hn]

/-- The drop after a collision in the opportunity of `id`, its DUP bits aside. -/
def Drop.collideIn (d : Drop) (id : Nat) : Drop :=
  ({ d with opp := some id, taken := true, burstLeft := if id = 0 then d.burstLeft else 0 } : Drop).collide id

/-- The first collision of an ID in a cycle extends its streak. -/
theorem Drop.collideIn_streak {d : Drop} {id : Nat} (hc : bit d.collided id = false) (hid : id < d.streak.length) :
    (d.collideIn id).streak.getD id 0 = d.streak.getD id 0 + 1 := by
  simp only [Drop.collideIn, Drop.collide, hc, Bool.false_eq_true, if_false]
  exact lmod_getD_self 0 _ _ _ hid

theorem State.dropReceive_of_collision (s : State) (ds id : Nat) (arr : Arrival) (f : Frame) :
    s.dropReceive ds id true arr f =
      let u := (s.cutSlice (dropRoot ds)).modDrop ds (fun d => d.collideIn id)
      if id ≠ 0 ∧ !bit (s.drop ds).dup id ∧ 4 ≤ ((s.drop ds).collideIn id).streak.getD id 0 then
        (u.modDrop ds (fun d => { d with dup := setBit d.dup id true })).dropEvent ds id 2
      else u := by
  simp only [State.dropReceive, if_true, State.modDrop_modDrop, State.drop_modDrop_self, State.drop_cutSlice]
  rfl

/-- A collision is counted in its opportunity and nothing arrives; a streak of four leaves the DUP bit set. -/
theorem State.dropReceive_collision_spec (s : State) (ds id : Nat) (arr : Arrival) (f : Frame) :
    let t := s.dropReceive ds id true arr f
    t.arrived = s.arrived ∧ (t.drop ds).cntTick.collisions = (s.drop ds).cntTick.collisions + 1 ∧
      (t.drop ds).opp = some id ∧
      (id ≠ 0 → 4 ≤ ((s.drop ds).collideIn id).streak.getD id 0 → bit (t.drop ds).dup id = true) := by
  have hd (d : Drop) : (d.collideIn id).cntTick.collisions = d.cntTick.collisions + 1 ∧
      (d.collideIn id).opp = some id ∧ (d.collideIn id).dup = d.dup := ⟨rfl, rfl, rfl⟩
  rw [State.dropReceive_of_collision]
  dsimp only
  split_ifs with h
  · simp [hd]
  · refine ⟨by simp, by simp [hd], by simp [hd], fun h0 h4 => ?_⟩
    by_contra hdup
    exact h ⟨h0, by simpa [hd] using hdup, h4⟩

/-! ## Foreign beacons (R248) -/

/-- The drop after a foreign beacon: a second consecutive cycle with one is a conflict. -/
theorem exec_foreignBeaconRx (hds : ds < 32) (hon : s.unitOn (dropRoot ds) = true) (hup : (s.drop ds).state = .up) :
    let d := s.drop ds
    let run := if d.foreignCyc then d.foreignRun else d.foreignRun + 1
    ∃ t : State, exec (.foreignBeaconRx ds) s = .next t ∧ t.drop ds = { d with
      foreignCyc := true, foreignRun := run, cleanRun := 0, conflict := d.conflict || decide (2 ≤ run)
      cntTick := { d.cntTick with foreign := d.cntTick.foreign + 1 } } := by
  intro d run
  refine ⟨_, by simp only [exec, execForeignBeaconRx, hds, hon, hup]; rfl, ?_⟩
  rw [apply_ite (fun t : State => t.drop ds), State.drop_dropEvent, ite_self, State.drop_modDrop_self]

/-! ## Faults and wake (R251, R252) -/

/-- A drop fault is recorded and waits for the edge to silence the drop. -/
theorem State.dropFault_spec {code : Nat} (hq : .silence (dropRoot ds) code ∉ s.edgeq) :
    (s.dropFault ds code).edgeq = s.edgeq ++ [.silence (dropRoot ds) code] ∧
      (s.dropFault ds code).faults.record = s.faults.record.add ⟨code, dropRoot ds, s.now⟩ 0 := by
  refine ⟨State.atEdge_edgeq_of_notMem hq, ?_⟩
  rw [State.dropFault, State.atEdge_faults]
  rfl

/-- An armed detector fires the wake of its drop. -/
theorem exec_dropWakeDetect (hds : ds < 32) (ha : s.dropArmed ds = true) :
    exec (.dropWakeDetect ds) s = .next (s.fireWake ⟨0x02, dropRoot ds⟩ false) := by
  simp [exec, execDropWakeDetect, hds, ha]

theorem State.dropArmed_of_banked (hb : s.boot.power = .banked) (hw : (s.drop ds).cfg.wakeEn = true) :
    s.dropArmed ds = true := by
  simp [State.dropArmed, hb, hw]

/-- The first source that fires in BANKED is the wake source. -/
theorem State.fireWake_fired_of_banked (w : Wake) (privileged : Bool) (hb : s.boot.power = .banked)
    (hn : s.power.fired = none) : (s.fireWake w privileged).power.fired = some w := by
  simp [State.fireWake, State.firedAsleep, hb, hn]
end

end Machine

/-- Settles O38 (R241 to R244, R246 to R252). -/
theorem dropMessagesAndEventsComplete : Obligations.DropMessagesAndEventsComplete := by
  intro m s d ds hds
  refine ⟨fun h hs1 hs2 hn hn' ht hb hd hi => ?config, fun h hs => ?status, fun h hs => ?counters,
    fun hon hup hover => ⟨_, exec_plcaBeacon hds hon hup hover, rfl, ?beacon⟩,
    fun k hon hup hk => exec_plcaOpportunityTimeout hds hon hup hk,
    fun k id arr f hon hup hopp hk hn => ⟨fun hg hf => ?goodFrame, fun hbad => ?badFcs, ?collision⟩,
    fun hon hup => ?foreign, fun hl hc hrun => ?conflictOver, fun code hf hp hq => ?fault,
    fun code hf hp ha hh hd => ?faultInDamped, fun ha => exec_dropWakeDetect hds ha, fun hb hw hn => ?wakeInBanked⟩
  case config =>
    have ht0 : m.get 2 0 8 ≠ 0 := by omega
    have hb0 : m.get 2 8 8 ≠ 0 := by omega
    exact congrArg _ (State.mailbox_of_allowed cmdDropConfig h rfl (by simp [hs1, hs2, Nat.lt_of_succ_le hn, hn', ht0, hb0])
      (by rcases hd with hd | hd <;> simp [hd, hi]))
  case status => exact congrArg _ (State.mailbox_of_answer (body := cmdDropStatus) h (Reply.unless_of_false _ _ hs))
  case counters => exact congrArg _ (State.mailbox_of_answer (body := cmdDropCounters) h (Reply.unless_of_false _ _ hs))
  case beacon =>
    rw [State.drop_modDrop_self]
    exact ⟨rfl, rfl, rfl⟩
  case goodFrame =>
    obtain ⟨hcnt, ho, htaken, harr⟩ := s.dropReceive_spec ds id arr f
    refine ⟨_, exec_dropFrameRx_of_open false arr f hds hon hup hopp hk hn, ?_, ?_, ho, htaken⟩
    · simpa [hg, hf, State.arrive, hon] using harr
    · simp [hcnt, DropCnt.rx, hg, hf]
  case badFcs =>
    obtain ⟨hcnt, ho, -, harr⟩ := s.dropReceive_spec ds id arr f
    refine ⟨_, exec_dropFrameRx_of_open false arr f hds hon hup hopp hk hn, ?_, ?_, ho⟩
    · simpa [hbad] using harr
    · simp [hcnt, DropCnt.rx, hbad]
  case collision =>
    obtain ⟨harr, hcnt, ho, hdup⟩ := s.dropReceive_collision_spec ds id arr f
    refine ⟨_, exec_dropFrameRx_of_open true arr f hds hon hup hopp hk hn, harr, hcnt, ho,
      fun h0 hc _ h3 => hdup h0 ?_⟩
    have hid : id < (s.drop ds).streak.length := by
      by_contra hge
      rw [List.getD_eq_default _ _ (Nat.not_lt.1 hge)] at h3
      exact absurd h3 (by decide)
    rw [Drop.collideIn_streak hc hid, h3]
  case foreign =>
    obtain ⟨t, hx, ht⟩ := exec_foreignBeaconRx hds hon hup
    refine ⟨t, hx, by rw [ht], by rw [ht], ?_⟩
    rw [ht]
    cases (s.drop ds).foreignCyc <;> simp
  case conflictOver => simp [exec, execCoordConflictClear, hds, hl, hc, hrun]
  case fault =>
    refine ⟨s.dropFault ds code, ?_, State.dropFault_spec hq⟩
    simp [exec, execDropChannelFault, hds, hf, hp]
  case faultInDamped => simp [exec, execDropChannelFault, hds, hf, hp, State.dampedFault, ha, hh, hd]
  case wakeInBanked =>
    exact ⟨_, exec_dropWakeDetect hds (State.dropArmed_of_banked hb hw), State.fireWake_fired_of_banked _ false hb hn⟩

end Sys2Proof
end

section
/-! SUPPORT. The trunk commands: proof of O39. -/
namespace Sys2Proof
open Machine
namespace Machine

/-! ## What the trunk commands answer (R291 to R293, R301, R306, R316, R317, R322, R324) -/

section
variable {m : Msg} {d : State}

/-- TRUNK_CONFIG on a powered trunk that is not isolated, its mate enabled where it pairs, is accepted for the next edge. -/
theorem cmdTrunkConfig_of_allowed (hs : m.stray 1 0x003FF803 = false) (hs2 : m.stray 2 0x3FF = false)
    (hsplit : 1 ≤ m.get 1 12 3) (hpair : m.get 1 19 2 ≠ 3) (hfast : m.get 1 15 2 ≤ m.get 1 17 2)
    (hnvp : 500 ≤ m.get 2 0 10) (hnvp' : m.get 2 0 10 ≤ 900)
    (hmate : m.get 1 19 2 ≠ 0 → (d.trunkCfg (trunkMate (m.get 1 0 2))).enable = true)
    (hon : d.trunkOn (m.get 1 0 2) = true) (hi : (d.trunk (m.get 1 0 2)).isolated = false) :
    cmdTrunkConfig m d = .ok (lohi d.nextEdge) (d.accept (.trunk (m.get 1 0 2) ⟨m.flag 1 21, m.get 1 19 2, m.get 1 17 2,
      m.get 1 15 2, m.get 1 12 3, m.flag 1 11, m.get 2 0 10⟩)) := by
  have hsplit0 : m.get 1 12 3 ≠ 0 := Nat.ne_of_gt hsplit
  rw [cmdTrunkConfig, Reply.unless_of_false _ _ (by simp [hs, hs2, hsplit0, hpair, hfast, hnvp, hnvp']),
    Reply.unless_of_false _ _ (by simpa [or_iff_not_imp_left] using hmate), Reply.unless_of_false _ _ (by simp [hon, hi])]

/-- BYPASS_SET_POLICY with an idle keep-store and keep word 457 below its endurance is answered once the word is written. -/
theorem cmdBypassSetPolicy_of_idle (hs : m.stray 1 0x1F = false) (hin : m.get 1 2 3 ≤ 4) (hpol : m.get 1 0 2 ≤ 1)
    (hw : d.keepWear 457 < 100000) (hj : d.keep.job = none) :
    cmdBypassSetPolicy m d = .later (d.keepStart [(457, w32 (m.get 1 0 5))] 0x1212 (m.get 1 0 5) (d.replyTo m)) := by
  rw [cmdBypassSetPolicy, Reply.unless_of_false _ _ (by simp [hs, hin, hpol]),
    Reply.unless_of_false _ _ (by simp [State.keepWorn, State.wornOut, hw]),
    Reply.unless_of_false _ _ (State.keepBusy_of_idle hj)]

/-- TRUNK_KINDLE on a trunk that is not UP, hears nobody and has no kindle pattern, is accepted for the next edge. -/
theorem cmdTrunkKindle_of_unheard (hs : m.stray 1 3 = false) (hup : (d.trunk (m.get 1 0 2)).state ≠ .up)
    (hon : d.trunkOn (m.get 1 0 2) = true) (hi : (d.trunk (m.get 1 0 2)).isolated = false)
    (hheard : (d.trunk (m.get 1 0 2)).heard d.now = false) (hk : (d.trunk (m.get 1 0 2)).kindle = none)
    (hq : .trunkKindle (m.get 1 0 2) ∉ d.cfgq) :
    cmdTrunkKindle m d = .ok [w32 d.nextEdge] (d.accept (.trunkKindle (m.get 1 0 2))) := by
  have hfree : d.cfgq.any (fun e => match e with | .trunkKindle k => k == m.get 1 0 2 | _ => false) = false := by
    rw [List.any_eq_false]
    intro e he
    split
    · next k => exact fun hkeq => hq (beq_iff_eq.1 hkeq ▸ he)
    · exact Bool.false_ne_true
  rw [cmdTrunkKindle, Reply.unless_of_false _ _ hs, Reply.unless_of_false _ _ (by simp [hup, hon, hi]),
    Reply.unless_of_false _ _ (by rw [hheard, hk]; exact hfree)]

/-- TRUNK_REFLECT on a trunk that can send and is not measured already is answered later, when its echoes are there. -/
theorem cmdTrunkReflect_of_free (hs : m.stray 1 3 = false) (hb : (d.trunk (m.get 1 0 2)).state ≠ .bypassed)
    (hq : (d.trunk (m.get 1 0 2)).quietP = none) (hi : (d.trunk (m.get 1 0 2)).isolated = false)
    (hon : d.trunkOn (m.get 1 0 2) = true) (hr : (d.trunk (m.get 1 0 2)).reflect = none) :
    cmdTrunkReflect m d = .later (d.modTrunk (m.get 1 0 2) (fun t =>
      { t with reflect := some (d.nextEdge, d.replyTo m), reflAt := d.reflectAt (m.get 1 0 2) d.nextEdge
               ctl := if t.state == .up && t.cls != 0 then
                 t.ctl ++ [.reflect (d.reflectAt (m.get 1 0 2) d.nextEdge % 2 ^ 32)] else t.ctl })) := by
  rw [cmdTrunkReflect, Reply.unless_of_false _ _ hs, Reply.unless_of_false _ _ (by simp [hb, hq, hi, hon]),
    Reply.unless_of_false _ _ (by simp [hr])]
end

end Machine

/-- Settles O39 (R264, R288, R291 to R294, R301, R304, R306, R309, R316, R317, R322, R324, R589; log 86). -/
theorem trunkMessagesAreAnswered : Obligations.TrunkMessagesAreAnswered := by
  intro m s d
  refine ⟨?signalConfig, ?signalStatus, ?loadingRead, ?signalCounters, ?config, ?status, ?bypassPolicy, ?kindle, ?reflect⟩
  case signalConfig =>
    intro h hs hr ha hb hon hi
    have hb0 : m.get 1 12 3 ≠ 0 := Nat.ne_of_gt hb
    exact congrArg _ (State.mailbox_of_allowed cmdTrunkSignalConfig h rfl (by simp [hs, hr, ha, hb0]) (by simp [hon, hi]))
  case signalStatus =>
    intro h hs hon
    exact congrArg _ (State.mailbox_of_allowed cmdTrunkSignalStatus h rfl hs (by simp [hon]))
  case loadingRead =>
    intro h hs hon
    exact congrArg _ (State.mailbox_of_allowed cmdTrunkLoadingRead h rfl hs (by simp [hon]))
  case signalCounters =>
    intro h hs
    exact congrArg _ (State.mailbox_of_answer (body := cmdTrunkSignalCounters) h (Reply.unless_of_false _ _ hs))
  case config =>
    intro h hs hs2 hsplit hpair hfast hnvp hnvp' hmate hon hi
    exact congrArg _ (State.mailbox_of_answer h
      (cmdTrunkConfig_of_allowed hs hs2 hsplit hpair hfast hnvp hnvp' hmate hon hi))
  case status =>
    intro h hs
    exact congrArg _ (State.mailbox_of_answer (body := cmdTrunkStatus) h (Reply.unless_of_false _ _ hs))
  case bypassPolicy =>
    intro h hs hin hpol hw hj
    exact congrArg _ (State.mailbox_of_answer h (cmdBypassSetPolicy_of_idle hs hin hpol hw hj))
  case kindle =>
    intro h hs hup hon hi hheard hk hq
    exact congrArg _ (State.mailbox_of_answer h (cmdTrunkKindle_of_unheard hs hup hon hi hheard hk hq))
  case reflect =>
    intro h hs hb hq hi hon hr
    have answer : s.mailbox trunkReflectCmd m cmdTrunkReflect = _ :=
      State.mailbox_of_answer h (cmdTrunkReflect_of_free hs hb hq hi hon hr)
    refine ⟨_, congrArg Host.Outcome.next answer, rfl, ?_, ?_, fun hup hcls => ?_⟩
    all_goals rw [State.settle, State.trunk_modTrunk_self]
    simp [hup, hcls]

end Sys2Proof
end

section
/-! SUPPORT. Changes of one trunk, a powered trunk, and what an admission run leaves of the trunks. -/
namespace Sys2Proof
open Machine
namespace Machine

/-! ## Changes of one trunk -/

section
variable (s : State) (tr : Nat)

@[simp] theorem State.modTrunk_now (f : Trunk → Trunk) : (s.modTrunk tr f).now = s.now := rfl

/-- A change counts by what it makes of the trunk as it stands. -/
theorem State.modTrunk_congr {s : State} {tr : Nat} {f g : Trunk → Trunk} (h : f (s.trunk tr) = g (s.trunk tr)) :
    s.modTrunk tr f = s.modTrunk tr g :=
  congrArg (fun t => { s with trunks := tset s.trunks tr t }) h

/-- The trunks are read from their table alone. -/
theorem State.trunk_congr {s t : State} (h : t.trunks = s.trunks) (k : Nat) : t.trunk k = s.trunk k :=
  congrArg (tget Trunk.reset · k) h

/-! ## Events and admission runs (R325, R404 to R406) -/

@[simp] theorem State.trunkEvent_trunk (k : Nat) : (s.trunkEvent tr).trunk k = s.trunk k :=
  State.trunk_congr (State.event_trunks ..) k

@[simp] theorem State.guarSettle_trunks (done : List Nat) (cause i : Nat) :
    (s.guarSettle done cause i).trunks = s.trunks := by
  unfold State.guarSettle
  dsimp only
  split
  · rfl
  · split_ifs <;> simp

@[simp] theorem State.admissionRun_trunks : s.admissionRun.trunks = s.trunks := by
  unfold State.admissionRun
  dsimp only
  split
  · rfl
  · exact List.foldlRecOn (motive := fun t : State => t.trunks = s.trunks) _ _ rfl
      fun t h i _ => (t.guarSettle_trunks _ _ i).trans h

/-- An admission run changes guarantees and their records, and no trunk. -/
@[simp] theorem State.runNow_trunk (cause k : Nat) : (s.runNow cause).trunk k = s.trunk k := by
  refine State.trunk_congr ?_ k
  unfold State.runNow State.runEdge
  split
  · rfl
  · exact State.admissionRun_trunks _
end

/-! ## Power -/

section
variable {s : State} {tr : Nat}

/-- A powered unit belongs to a device whose engines work. -/
theorem State.live_of_powered {r : Nat} (hp : s.powered r = true) : s.live = true := (Bool.and_eq_true_iff.1 hp).1

/-- A unit that is on is powered. -/
theorem State.powered_of_unitOn {r : Nat} (hon : s.unitOn r = true) : s.powered r = true := (Bool.and_eq_true_iff.1 hon).1

/-- A powered trunk's domain is on. -/
theorem State.trunkOn_of_powered (hp : s.powered (128 + tr) = true) : s.trunkOn tr = true := (Bool.and_eq_true_iff.1 hp).2

/-- A powered trunk's receiver searches (R281). -/
theorem State.trunkSearch_of_powered (htr : tr < 4) (hp : s.powered (128 + tr) = true) : s.trunkSearch tr = true := by
  simp [State.trunkSearch, htr, hp]
end

end Machine
end Sys2Proof
end

section
/-! SUPPORT. Probes, preambles, bursts, gaps and activation frames of a trunk: proof of O40. -/
namespace Sys2Proof
open Machine
namespace Machine

/-! ## Probes (R292, R301, R302, R319) -/

/-- A trunk after its random bit has been drawn: where it is 1 the probe goes out, or a change of RANGE takes its place. -/
def Trunk.drawn (t : Trunk) (now : Nat) (bit : Bool) : Trunk :=
  let t := { t with drawTick := some now }
  if !bit then t
  else if t.sig.range = t.rangeNow then
    { (t.spanned now 0 1) with attenNow := t.sig.atten, txTick := some now
                               sigTick := { t.sigTick with burstsTx := t.sigTick.burstsTx + 1 } }
  else t.skipBurst

/-- In SEEK the slot that opens an own frame draws one bit. -/
theorem exec_trunkProbe_of_due {s : State} {tr : Nat} (bit : Bool) (htr : tr < 4) (hon : s.unitOn (128 + tr) = true)
    (hpath : s.inPath = true) (hst : (s.trunk tr).state = .seek) (hk : (s.trunk tr).kindle = none)
    (hrelay : (s.trunk tr).relaySettled s.now = true) (hslot : s.now % 8 = 0) (hdraw : (s.trunk tr).drawTick ≠ some s.now) :
    exec (.trunkProbe tr bit) s = .next (s.modTrunk tr (fun t => t.drawn s.now bit)) :=
  if_pos (by simp [htr, hon, hpath, hst, hk, hrelay, hslot, hdraw])

/-- A probe that is sent. -/
theorem Trunk.drawn_of_sent {t : Trunk} (now : Nat) (hr : t.sig.range = t.rangeNow) : let u := t.drawn now true
    u.drawTick = some now ∧ u.txTick = some now ∧ u.sigTick.burstsTx = t.sigTick.burstsTx + 1 := by
  simp [Trunk.drawn, Trunk.spanned, hr]

/-! ## Preambles (R262, R281 to R284) -/

/-- The class taken is the link's own where it is declared (R283). -/
theorem takenClass_of_mem {own : Nat} {l : List Nat} (h : own ∈ l) : takenClass own l = some own := by
  simp [takenClass, h]

/-- Otherwise it is that of the lowest sweep rate (R283). -/
theorem takenClass_of_notMem {own : Nat} {l : List Nat} (h : own ∉ l) (hl : l ≠ []) :
    takenClass own l = some (l.foldl Nat.max 0) := by
  cases l with
  | nil => exact absurd rfl hl
  | cons c t => simp [takenClass, h]

@[simp] theorem Trunk.freeze_state (t : Trunk) (now : Nat) (p : Preamble) : (t.freeze now p).state = t.state := by
  unfold Trunk.freeze; split <;> rfl

@[simp] theorem Trunk.freeze_cls (t : Trunk) (now : Nat) (p : Preamble) : (t.freeze now p).cls = t.cls := by
  unfold Trunk.freeze; split <;> rfl

section
variable {s : State} {tr : Nat}

/-- Whether a trunk takes bursts depends on its STATE alone, of what the trunk holds. -/
theorem State.trunkTakesBursts_modTrunk {f : Trunk → Trunk} (h : (f (s.trunk tr)).state = (s.trunk tr).state) :
    (s.modTrunk tr f).trunkTakesBursts tr = s.trunkTakesBursts tr := by
  simp only [State.trunkTakesBursts, State.trunk_modTrunk_self, h]
  rfl

/-- A blanked receiver takes no preamble (R262). -/
theorem exec_preambleDetect_of_blanked {p : Preamble} (hb : (s.trunk tr).blankedAt s.now p.delay = true) :
    exec (.preambleDetect tr p) s = .next s := by
  simp [exec, execPreambleDetect, hb]

/-- The gain of a trunk frozen by a preamble (R284). -/
def State.frozenBy (s : State) (tr : Nat) (p : Preamble) : State := s.modTrunk tr (fun t => t.freeze s.now p)

/-- A preamble declared on a trunk: its gain is frozen, and the trunk has heard it (R281, R284, R322). -/
def State.declared (s : State) (tr : Nat) (p : Preamble) : State :=
  (s.frozenBy tr p).modTrunk tr (fun t => { t with preTick := some s.now })

/-- A state `u` after a preamble that is not taken: a gain that it froze counts its clipped symbols alone (R284). -/
def State.untaken (s : State) (tr : Nat) (u : State) : State :=
  if (s.trunk tr).frozen s.now = true then u else u.modTrunk tr (fun t => t.clipAlone tr s.now)

section
variable {p : Preamble} (hsearch : s.trunkSearch tr = true) (hne : p.classes ≠ []) (hc : ∀ c ∈ p.classes, c < 4)
  (hb : (s.trunk tr).blankedAt s.now p.delay = false)
include hsearch hne hc hb

/-- A preamble whose offset lies beyond 25 kHz is rejected. -/
theorem exec_preambleDetect_of_rejected (hofs : p.offset < -25000 ∨ 25000 < p.offset) :
    exec (.preambleDetect tr p) s = .next (s.untaken tr
      ((s.frozenBy tr p).trunkCount tr (fun c => { c with ofsReject := c.ofsReject + 1 }))) := by
  have hall : p.classes.all (fun c => decide (c < 4)) = true := by simpa using hc
  simp [exec, execPreambleDetect, hsearch, hne, hall, hb, hofs, State.untaken, State.frozenBy]

variable (hlow : -25000 ≤ p.offset) (hhigh : p.offset ≤ 25000)
include hlow hhigh

/-- A preamble declared within a burst, or while no burst is taken, counts as foreign. -/
theorem exec_preambleDetect_of_busy
    (hbusy : (p.inBurst || (s.trunk tr).receiving s.now || !s.trunkTakesBursts tr) = true) :
    exec (.preambleDetect tr p) s = .next (s.untaken tr ((s.declared tr p).trunkForeign tr p.classes)) := by
  have hall : p.classes.all (fun c => decide (c < 4)) = true := by simpa using hc
  simp [exec, execPreambleDetect, hsearch, hne, hall, hb, Int.not_lt.2 hlow, Int.not_lt.2 hhigh, hbusy,
    State.untaken, State.declared, State.frozenBy, State.trunkTakesBursts_modTrunk]

/-- Any other is taken in the class that is due for it. -/
theorem exec_preambleDetect_of_taken {c : Nat}
    (hbusy : (p.inBurst || (s.trunk tr).receiving s.now || !s.trunkTakesBursts tr) = false)
    (hclass : takenClass (s.trunk tr).cls p.classes = some c) :
    exec (.preambleDetect tr p) s = .next ((s.declared tr p).trunkTake tr c p) := by
  have hall : p.classes.all (fun c => decide (c < 4)) = true := by simpa using hc
  simp [exec, execPreambleDetect, hsearch, hne, hall, hb, Int.not_lt.2 hlow, Int.not_lt.2 hhigh, hbusy,
    hclass, State.declared, State.frozenBy, State.trunkTakesBursts_modTrunk]
end
end

/-! ## Half-preambles and missed bursts (R285, R286) -/

section
variable (t : Trunk)

/-- Slots of the partner that pass change the copies of the unique symbol under way only (R272). -/
theorem Trunk.passSlots_frame (d : Nat) (got : Bool) : t.passSlots d got =
    { t with rxPos := (t.passSlots d got).rxPos, copies := (t.passSlots d got).copies
             combine := (t.passSlots d got).combine } := by
  unfold Trunk.passSlots
  dsimp only
  split_ifs <;> rfl

/-- A trunk whose receiver held no burst, after a half-preamble: no slot of its burst is demodulated. -/
def Trunk.afterHalf (tr now : Nat) : Trunk :=
  let u := if t.expects now then t.passSlots (t.peerSlots - 1) false else t
  let v := u.halfFreeze tr now
  { (if u.frozen now then v else v.clipAlone tr now) with taken := false, missFrames := 0, halfTick := some now }

/-- It counts no half-preamble itself, and keeps a gain that ran at the edge up to edge t + 2. -/
theorem Trunk.afterHalf_spec (tr now : Nat) : (t.afterHalf tr now).sigTick.half = t.sigTick.half ∧
    (t.frozen now = false → (t.afterHalf tr now).agcUntil = some (now + 2)) := by
  obtain ⟨u, hu, hcnt, huntil⟩ : ∃ u, u = (if t.expects now then t.passSlots (t.peerSlots - 1) false else t) ∧
      u.sigTick = t.sigTick ∧ u.agcUntil = t.agcUntil := by
    refine ⟨_, rfl, ?_⟩
    split
    · rw [Trunk.passSlots_frame]; exact ⟨rfl, rfl⟩
    · exact ⟨rfl, rfl⟩
  have hfrozen : u.frozen now = t.frozen now := by simp only [Trunk.frozen, huntil]
  rw [Trunk.afterHalf, ← hu, ← hcnt, ← hfrozen]
  cases h : u.frozen now <;> simp [h, Trunk.halfFreeze, Trunk.clipAlone]
end

section
variable {s : State} {tr : Nat} (hsearch : s.trunkSearch tr = true)
include hsearch

/-- Beside a burst that has been taken a half-preamble is counted only. -/
theorem exec_halfPreamble_of_holds (hb : (s.trunk tr).blankedTick s.now = false) (hh : (s.trunk tr).holds s.now = true) :
    exec (.halfPreamble tr) s = .next (s.trunkCount tr (fun c => { c with half := c.half + 1 })) :=
  (if_pos (by simp [hsearch, hb])).trans (if_pos hh)

/-- Otherwise it is counted and its burst is given up. -/
theorem exec_halfPreamble_of_idle (hb : (s.trunk tr).blankedTick s.now = false) (hh : (s.trunk tr).holds s.now = false) :
    exec (.halfPreamble tr) s = .next ((s.trunkCount tr (fun c => { c with half := c.half + 1 })).modTrunk tr
      (fun t => t.afterHalf tr s.now)) :=
  (if_pos (by simp [hsearch, hb])).trans (if_neg (ne_true_of_eq_false hh))
end

/-! ## The codewords of a burst (R270, R277) -/

section
variable (t : Trunk) (b : Burst)

/-- The codewords of a burst as they are decoded: none is good under a loading set that is not known (R277). -/
def Trunk.decoded : List Tlu := if t.setKnown b.set then b.tlus else b.tlus.map (fun x => { x with good := false })

/-- The good TLUs of a burst. -/
def Trunk.goodOf : List Tlu := if t.setKnown b.set then b.tlus.filter (fun x => x.good) else []

theorem Trunk.decoded_good : (t.decoded b).filter (fun x => x.good) = t.goodOf b := by
  unfold Trunk.decoded Trunk.goodOf
  split <;> simp

@[simp] theorem Trunk.decoded_length : (t.decoded b).length = b.tlus.length := by
  unfold Trunk.decoded
  split <;> simp

/-- The codewords that are not good are the rest. -/
theorem Trunk.decoded_bad_length :
    ((t.decoded b).filter (fun x => !x.good)).length = b.tlus.length - (t.goodOf b).length := by
  have hsplit := List.length_eq_length_filter_add (l := t.decoded b) (fun x => x.good)
  rw [t.decoded_good, t.decoded_length] at hsplit
  omega

/-- A trunk after a burst: that of the preamble taken, or one that ends a unique symbol received earlier (R272). -/
def Trunk.burstOver (now : Nat) : Trunk :=
  (if t.taken then t.burstRx now b else { t with combine := false }).unitRx (t.decoded b)

theorem Trunk.burstOver_spec (now : Nat) : let u := t.burstOver b now
    u.taken = false ∧
      (t.taken = true → u.freqOfs = some b.freq ∧ u.rxSet = if t.setKnown b.set then b.set else t.rxSet) ∧
      (t.taken = false → u.combine = false ∧ u.rxSet = t.rxSet) ∧
      u.sigTick.cwRx = t.sigTick.cwRx + b.tlus.length ∧
      u.sigTick.cwFail = t.sigTick.cwFail + (b.tlus.length - (t.goodOf b).length) := by
  rw [← Trunk.decoded_bad_length, ← t.decoded_length b]
  cases h : t.taken <;> simp [Trunk.burstOver, h, Trunk.unitRx, Trunk.burstRx]
end

section
variable {s : State} {tr : Nat}

theorem exec_trunkBurstRx (b : Burst) (hsearch : s.trunkSearch tr = true) (ht : s.trunkTakesBursts tr = true)
    (hb : (s.trunk tr).taken = true ∨ (s.trunk tr).combine = true) :
    exec (.trunkBurstRx tr b) s = .next ((((s.trunk tr).goodOf b).foldl (fun s x => s.trunkTlu tr b.rt x)
      (s.modTrunk tr (fun t => t.burstOver b s.now))).trunkAdvance tr) := by
  have hover : s.modTrunk tr (fun t => t.burstOver b s.now) = s.modTrunk tr (fun t =>
      (if t.taken then t.burstRx s.now b else { t with combine := false }).unitRx ((s.trunk tr).decoded b)) :=
    State.modTrunk_congr rfl
  rw [hover, ← Trunk.decoded_good]
  exact if_pos (by simpa [hsearch, ht] using hb)

/-! ## Bursts of this end (R292, R296) -/

/-- A burst of this end goes out in its slot, unless it is one of a single slot that a change of RANGE takes up. -/
theorem exec_trunkBurstTx (htr : tr < 4) (hon : s.unitOn (128 + tr) = true) (hpath : s.inPath = true)
    (hst : (s.trunk tr).state = .up ∨ (s.trunk tr).state = .training) (hslot : (s.trunk tr).slotDue s.now = true)
    (htick : (s.trunk tr).txTick ≠ some s.now) :
    exec (.trunkBurstTx tr) s =
      if (s.trunk tr).slots ≤ 1 ∧ (s.trunk tr).sig.range ≠ (s.trunk tr).rangeNow then
        .next (s.modTrunk tr (fun t => { t.skipBurst with txTick := some s.now }))
      else .next ((((s.modTrunk tr (fun t => t.beginBurst s.now)).fillBurst tr (s.trunk tr).dataSlots).modTrunk tr (fun t =>
        { t with abandonFrames := if t.abandonNow then t.abandonFrames + 1 else 0
                 startTx := t.startTx || (t.stage == 4 && decide (t.peerSlots ≤ 1)) })).trunkAdvance tr) :=
  if_pos (by simpa [htr, hon, hpath, hslot, htick] using hst)

/-! ## Activation frames (R298, R306) -/

/-- At its activation frame an announcement comes into force, and is no longer there. -/
theorem exec_frameActivation {a : FrameAnn} (ha : (s.trunk tr).ann = some a) (hdue : s.frameDue tr a = true) :
    ∃ t : State, exec (.frameActivation tr) s = .next t ∧ (t.trunk tr).split = a.split ∧ (t.trunk tr).cls = a.cls ∧
      (t.trunk tr).aligned = a.aligned ∧ (t.trunk tr).long = a.long ∧ (t.trunk tr).ann = none := by
  refine ⟨_, by simp only [exec, execFrameActivation, ha, hdue]; rfl, ?_⟩
  simp only [apply_ite (fun t : State => t.trunk tr), State.runNow_trunk, State.trunkEvent_trunk, ite_self,
    State.trunk_modTrunk_self, and_self]
end

end Machine

/-- Settles O40 (R270, R272, R277, R281 to R286, R292, R298, R301, R302, R306, R309, R313, R319; log 86). -/
theorem trunkSignalEventsComplete : Obligations.TrunkSignalEventsComplete := by
  intro tr s htr hon hpath
  have hp := State.powered_of_unitOn hon
  have hsearch := State.trunkSearch_of_powered htr hp
  refine ⟨fun hst hk hrelay hslot hdraw => ?probe, fun bit hdraw => ?drawnAlready, fun e he hend => ?relaySettled,
    fun p hne hc => ⟨exec_preambleDetect_of_blanked, fun hb => ?preamble⟩, fun hb => ?half,
    fun hst hexp => ?missed, fun b ht hgot => ?burstRx,
    fun hst hslot htick => ⟨fun hsend => ⟨?burstTx, rfl, rfl⟩, fun h1 hr => ?burstHeld⟩,
    fun since k hsince hgap hend => ?gapOver,
    fun a ha hframe => exec_frameActivation ha ?frameDue⟩
  case probe =>
    have hprobe (bit : Bool) := exec_trunkProbe_of_due bit htr hon hpath hst hk hrelay hslot hdraw
    refine ⟨hprobe false, fun hr => ⟨_, hprobe true, rfl, ?_⟩, fun hr => (hprobe true).trans ?_⟩
    · rw [State.trunk_modTrunk_self]
      exact Trunk.drawn_of_sent s.now hr
    · exact congrArg _ (State.modTrunk_congr (if_neg hr))
  case drawnAlready => simp [exec, execTrunkProbe, hdraw]
  case relaySettled =>
    simp [exec, execRelaySettleEnd, htr, State.live_of_powered hp, he, Trunk.relaySettled, hend]
  case preamble =>
    intro f f' busy alone
    refine ⟨exec_preambleDetect_of_rejected hsearch hne hc hb, fun hlow hhigh hbusy => ⟨fun hown => ?_, fun hown => ?_⟩,
      exec_preambleDetect_of_busy hsearch hne hc hb⟩
    · exact exec_preambleDetect_of_taken hsearch hne hc hb hlow hhigh hbusy (takenClass_of_mem hown)
    · exact exec_preambleDetect_of_taken hsearch hne hc hb hlow hhigh hbusy (takenClass_of_notMem hown hne)
  case half =>
    cases hh : (s.trunk tr).holds s.now with
    | true =>
      obtain ⟨htaken, hfrozen⟩ := Bool.and_eq_true_iff.1 hh
      refine ⟨_, exec_halfPreamble_of_holds hsearch hb hh, rfl, ?_⟩
      simp [State.trunkCount, htaken, hfrozen]
    | false =>
      refine ⟨_, exec_halfPreamble_of_idle hsearch hb hh, rfl, ?_⟩
      rw [State.trunk_modTrunk_self, State.trunkCount, State.trunk_modTrunk_self]
      obtain ⟨hcount, hkeep⟩ := Trunk.afterHalf_spec
        { s.trunk tr with sigTick := { (s.trunk tr).sigTick with half := (s.trunk tr).sigTick.half + 1 } } tr s.now
      exact ⟨hcount, fun h => absurd h Bool.false_ne_true, fun _ => ⟨rfl, rfl, rfl⟩, hkeep⟩
  case missed =>
    refine ⟨_, if_pos (by simpa [hsearch, hpath, hexp] using hst), rfl, ?_⟩
    simp
  case burstRx =>
    intro good
    refine ⟨_, exec_trunkBurstRx b hsearch ht hgot, rfl, ?_⟩
    rw [State.trunk_modTrunk_self]
    exact (s.trunk tr).burstOver_spec b s.now
  case burstTx =>
    rw [exec_trunkBurstTx htr hon hpath hst hslot htick, if_neg]
    rintro ⟨h1, hr⟩
    rcases hsend with h2 | h2
    · omega
    · exact hr h2
  case burstHeld => rw [exec_trunkBurstTx htr hon hpath hst hslot htick, if_pos ⟨h1, hr⟩]; rfl
  case gapOver =>
    refine ⟨_, by simp only [exec, execTluGapTimeout, hsince, hgap, hsearch, hend]; rfl, rfl, ?_⟩
    simp
  case frameDue => rw [State.frameDue, hsearch, hpath, decide_eq_true hframe]; rfl

end Sys2Proof
end

section
/-! SUPPORT. Timeouts, drops and faults of a trunk, its loading, class and sounding, the kindle pattern and the reflectometry:
proof of O41. -/
namespace Sys2Proof
open Machine
namespace Machine

section
variable {s : State} {tr : Nat}

/-! ## Drops and faults that wait for the edge (R314, R315) -/

/-- What is left for the next edge stands there once, and nothing else changes. -/
theorem State.atEdge_spec (s : State) (a : EdgeAct) : s.atEdge a = { s with edgeq := (s.atEdge a).edgeq } ∧
    (s.atEdge a).edgeq = if s.edgeq.contains a then s.edgeq else s.edgeq ++ [a] :=
  ⟨s.atEdge_frame a, by unfold State.atEdge; split <;> rfl⟩

/-- A link in UP that has missed 40 frames or abandoned in 10 has a cause to be dropped (R314). -/
theorem Trunk.dropCause_isSome {t : Trunk} (hup : t.state = .up) (h : 40 ≤ t.missFrames ∨ 10 ≤ t.abandonFrames) :
    t.dropCause.isSome = true := by
  by_cases h40 : 40 ≤ t.missFrames
  · simp [Trunk.dropCause, hup, h40]
  · simp [Trunk.dropCause, hup, h40, h.resolve_left h40]

/-- A trunk fault is recorded and waits for the edge to silence the trunk (R315, R546). -/
theorem State.trunkFault_spec {code : Nat} (hq : .silence (128 + tr) code ∉ s.edgeq) :
    (s.trunkFault tr code).edgeq = s.edgeq ++ [.silence (128 + tr) code] ∧
      (s.trunkFault tr code).faults.record = s.faults.record.add ⟨code, 128 + tr, s.now⟩ 0 := by
  refine ⟨State.atEdge_edgeq_of_notMem hq, ?_⟩
  rw [State.trunkFault, State.atEdge_faults]
  rfl

/-! ## Loading (R274, R275) -/

/-- A trunk after a computation of its loading: a loading that differs from the one in use is sent to the partner. -/
def Trunk.loaded (t : Trunk) (now : Nat) (load : List Nat) : Trunk :=
  let t := { t with rxLoad := load, loadDue := now + 400 }
  if load = t.useLoad then t else t.sendLoad load

theorem exec_loadingCompute (snr : List Int) (htr : tr < 4) (hp : s.powered (128 + tr) = true)
    (hup : (s.trunk tr).state = .up) (hcls : (s.trunk tr).cls = 0) (hdue : (s.trunk tr).loadDue ≤ s.now) :
    ∃ t : State, exec (.loadingCompute tr snr) s = .next t ∧ t = { s with trunks := t.trunks } ∧
      t.trunk tr = (s.trunk tr).loaded s.now (nextLoad (s.trunk tr).sig snr (s.trunk tr).useLoad) := by
  simp only [exec, execLoadingCompute, State.trunkSearch_of_powered htr hp, hup, hcls, hdue, beq_self_eq_true,
    decide_true, Bool.and_self, if_true]
  by_cases hsame : nextLoad (s.trunk tr).sig snr (s.trunk tr).useLoad = (s.trunk tr).useLoad
  · exact ⟨_, if_pos hsame, rfl, by simp [Trunk.loaded, hsame]⟩
  · exact ⟨_, if_neg hsame, rfl, by simp [Trunk.loaded, hsame]⟩

/-! ## Reflectometry (R324) -/

/-- Enough echoes in time are answered with the reflections that are reported. -/
theorem exec_reflectComplete_of_echoes {start echoes : Nat} {reply : Option ReplyTo} (refl : List Reflection) (htr : tr < 4)
    (hp : s.powered (128 + tr) = true) (hr : (s.trunk tr).reflect = some (start, reply)) (hlt : start < s.now)
    (h64 : 64 ≤ echoes) (hle : s.now ≤ start + 800) :
    exec (.reflectComplete tr echoes refl) s = .next ((s.modTrunk tr (fun t => { t with reflect := none })).ackLater reply .ok
      (reflectWords (reflectReport refl))) := by
  simp [exec, execReflectComplete, hr, htr, State.live_of_powered hp, State.trunkOn_of_powered hp, hlt, h64, hle]

/-- Too few echoes, or echoes that come too late, are answered with TIMEOUT once the 800 ticks have passed. -/
theorem exec_reflectComplete_of_timeout {start echoes : Nat} {reply : Option ReplyTo} (refl : List Reflection) (htr : tr < 4)
    (hp : s.powered (128 + tr) = true) (hr : (s.trunk tr).reflect = some (start, reply))
    (hfew : echoes < 64 ∨ start + 800 < s.now) (hge : start + 800 ≤ s.now) :
    exec (.reflectComplete tr echoes refl) s =
      .next ((s.modTrunk tr (fun t => { t with reflect := none })).ackLater reply .timeout []) := by
  have hnot : (decide (64 ≤ echoes) && s.trunkOn tr && decide (start < s.now) && decide (s.now ≤ start + 800)) = false := by
    rcases hfew with h | h
    · simp [Nat.not_le.2 h]
    · simp [Nat.not_le.2 h]
  simp [exec, execReflectComplete, hr, htr, State.live_of_powered hp, hnot, hge]
end

end Machine

/-- Settles O41 (R274, R275, R301, R304, R306, R311, R314, R315, R321, R322, R324, R533, R543). -/
theorem trunkLinkEventsComplete : Obligations.TrunkLinkEventsComplete := by
  intro tr s htr hp
  have hsearch := State.trunkSearch_of_powered htr hp
  refine ⟨fun hst hend => ?stageOver, ⟨rfl, rfl, rfl, rfl, rfl⟩, fun hup hlost => ⟨_, ?drop, s.atEdge_spec _⟩,
    fun code hf hq => ⟨s.trunkFault tr code, ?fault, State.trunkFault_spec hq⟩, fun snr hup hcls hdue => ?loading,
    fun hup hdue => ?evaluation, fun hup hdue => ?sound, fun due left hk hdue hon => ⟨fun hh => ?heard, fun hh => ?unheard⟩,
    fun start reply echoes refl hr hlt => ⟨fun h64 hle => exec_reflectComplete_of_echoes refl htr hp hr hlt h64 hle,
      fun hfew hge => exec_reflectComplete_of_timeout refl htr hp hr hfew hge⟩,
    fun code hf u hu ha hh hd => ?faultInDamped⟩
  case stageOver => exact if_pos (by simpa [hsearch, hend] using hst)
  case drop => simp [exec, execTrunkLinkDrop, hsearch, Trunk.dropCause_isSome hup hlost]
  case fault => simp [exec, execTrunkChannelFault, htr, hf, hp]
  case loading =>
    obtain ⟨t, hx, hframe, ht⟩ := exec_loadingCompute snr htr hp hup hcls hdue
    refine ⟨t, hx, hframe, ?_⟩
    rw [ht, Trunk.loaded]
    dsimp only
    split
    · next hsame => exact ⟨rfl, rfl, fun _ => rfl, fun hne => absurd hsame hne⟩
    · next hne => exact ⟨rfl, rfl, fun hsame => absurd hsame hne, fun _ => ⟨rfl, rfl, rfl⟩⟩
  case evaluation => exact if_pos (by simp [hsearch, hup, hdue])
  case sound => exact if_pos (by simp [hsearch, hup, hdue])
  case heard => simp [exec, execKindlePatternSend, hk, htr, hon, hdue, hh]
  case unheard =>
    refine ⟨_, by simp only [exec, execKindlePatternSend, hk, htr, hon, hdue, hh]; rfl, rfl, ?_⟩
    rw [State.trunk_modTrunk_self]
  case faultInDamped => simp [exec, execTrunkChannelFault, htr, hf, hu, State.dampedFault, ha, hh, hd]

end Sys2Proof
end

section
/-! SUPPORT. The kindle detector of a trunk, each of its rows as one condition: proof of O42. -/
namespace Sys2Proof
open Machine
namespace Machine

/-! ## The conditions on the detector (R323) -/

/-- A detector may start a correlation: it is at rest, or has rested for 2 ms. -/
def State.kindleReady (s : State) : Kindle → Bool
  | .rest => true
  | .correlating _ => false
  | .resting since => s.twoMs since

/-- A detector has correlated for 2 ms. -/
def State.kindleSpent (s : State) : Kindle → Bool
  | .correlating since => s.twoMs since
  | .rest | .resting _ => false

def Kindle.correlates : Kindle → Bool
  | .correlating _ => true
  | .rest | .resting _ => false

section
variable {s : State} {d : Kindle} (h : ∀ since, d ≠ .correlating since)
include h

theorem Kindle.correlates_of_ne : d.correlates = false := by
  cases d with
  | correlating since => exact absurd rfl (h since)
  | rest => rfl
  | resting => rfl

theorem State.kindleSpent_of_ne : s.kindleSpent d = false := by
  cases d with
  | correlating since => exact absurd rfl (h since)
  | rest => rfl
  | resting => rfl
end

/-! ## The rows of the detector (R323, R497, R501) -/

section
variable {s : State} {tr : Nat} (htr : tr < 4)
include htr

theorem exec_kindleEnergy (dbm : Int) : exec (.kindleEnergy tr dbm) s =
    if s.kindleArmed tr = true ∧ -80 < dbm ∧ s.kindleReady (s.trunk tr).detector = true then
      .next (s.modTrunk tr (fun t => { t with detector := .correlating s.now }))
    else .next s := by
  have guard : (decide (tr < 4) && s.kindleArmed tr && decide (-80 < dbm) && s.kindleReady (s.trunk tr).detector) = true ↔
      s.kindleArmed tr = true ∧ -80 < dbm ∧ s.kindleReady (s.trunk tr).detector = true := by simp [htr, and_assoc]
  exact if_congr guard rfl rfl

theorem exec_kindleDetect (matched : Nat) (dbm : Int) : exec (.kindleDetect tr matched dbm) s =
    if s.kindleArmed tr = true ∧ 14 ≤ matched ∧ -65 ≤ dbm ∧ (s.trunk tr).detector.correlates = true then
      .next ((s.modTrunk tr (fun t => { t with detector := .resting s.now })).fireWake ⟨0x04, 128 + tr⟩ true)
    else .next s := by
  simp only [exec, execKindleDetect]
  cases (s.trunk tr).detector with
  | correlating since => exact if_congr (by simp [htr, Kindle.correlates, and_assoc]) rfl rfl
  | rest => simp [Kindle.correlates]
  | resting since => simp [Kindle.correlates]

theorem exec_kindleCorrelateTimeout : exec (.kindleCorrelateTimeout tr) s =
    if s.kindleArmed tr = true ∧ s.kindleSpent (s.trunk tr).detector = true then
      .next (s.modTrunk tr (fun t => { t with detector := .resting s.now }))
    else .next s := by
  simp only [exec, execKindleCorrelateTimeout]
  cases (s.trunk tr).detector with
  | correlating since => exact if_congr (by simp [htr, State.kindleSpent]) rfl rfl
  | rest => simp [State.kindleSpent]
  | resting since => simp [State.kindleSpent]
end

end Machine

/-- Settles O42 (R323, R497, R501; log 63). -/
theorem kindleDetectorWakes : Obligations.KindleDetectorWakes := by
  intro tr s htr
  have energy := exec_kindleEnergy htr (s := s)
  have pattern := exec_kindleDetect htr (s := s)
  have timeout := exec_kindleCorrelateTimeout htr (s := s)
  refine ⟨fun dbm ha hd he => ?atRest, fun dbm since ha hd hend he => ?rested, fun dbm he => ?weakEnergy,
    fun dbm since hd hend => ?stillResting, fun dbm since hd => ?correlating,
    fun matched dbm since ha hd hm hp => ?wake, fun matched dbm hfew => ?noPattern,
    fun since ha hd hend => ?timedOut, fun since hd hend => ?goesOn,
    fun hd matched dbm => ⟨?patternAlone, ?timeoutAlone⟩, fun matched dbm ha => ?unarmed⟩
  case atRest => exact (energy dbm).trans (if_pos ⟨ha, he, by rw [hd]; rfl⟩)
  case rested => exact (energy dbm).trans (if_pos ⟨ha, he, by rw [hd]; exact hend⟩)
  case weakEnergy => exact (energy dbm).trans (if_neg fun ⟨_, hgt, _⟩ => Int.not_lt.2 he hgt)
  case stillResting => exact (energy dbm).trans (if_neg (by simp [hd, State.kindleReady, hend]))
  case correlating => exact (energy dbm).trans (if_neg (by simp [hd, State.kindleReady]))
  case wake => exact (pattern matched dbm).trans (if_pos ⟨ha, hm, hp, by rw [hd]; rfl⟩)
  case noPattern => exact (pattern matched dbm).trans (if_neg (by omega))
  case timedOut => exact timeout.trans (if_pos ⟨ha, by rw [hd]; exact hend⟩)
  case goesOn => exact timeout.trans (if_neg (by simp [hd, State.kindleSpent, hend]))
  case patternAlone => exact (pattern matched dbm).trans (if_neg (by simp [Kindle.correlates_of_ne hd]))
  case timeoutAlone => exact timeout.trans (if_neg (by simp [State.kindleSpent_of_ne hd]))
  case unarmed =>
    have hnot {p : Prop} : ¬ (s.kindleArmed tr = true ∧ p) := by simp [ha]
    exact ⟨(energy dbm).trans (if_neg hnot), (pattern matched dbm).trans (if_neg hnot), timeout.trans (if_neg hnot)⟩

end Sys2Proof
end

section
/-! SUPPORT. Changes of one host lane group, its NAKs and sideband packets, and where it stands in the order of the packets:
proof of O45. -/
namespace Sys2Proof
open Machine
namespace Machine

/-! ## Changes of one lane group -/

section
variable (s : State) (g : Nat)

/-- A change counts by what it makes of the group as it stands. -/
theorem State.modHost_congr {s : State} {g : Nat} {f f' : LaneGroup → LaneGroup} (h : f (s.host g) = f' (s.host g)) :
    s.modHost g f = s.modHost g f' :=
  congrArg (fun x => { s with hosts := tset s.hosts g x }) h

/-- The groups are read from their table alone. -/
theorem State.host_congr {s t : State} (h : t.hosts = s.hosts) (k : Nat) : t.host k = s.host k :=
  congrArg (tget LaneGroup.reset · k) h

@[simp] theorem State.host_hostCount_self (f : HostCnt → HostCnt) :
    (s.hostCount g f).host g = { s.host g with cntTick := f (s.host g).cntTick } := State.host_modHost_self ..
@[simp] theorem State.hostCount_arrived (f : HostCnt → HostCnt) : (s.hostCount g f).arrived = s.arrived := rfl

/-! ## NAKs (R340) -/

/-- A NAK is owed and counted from when it is sent, and its header turns the class of the grants (R340, R343). -/
theorem State.host_sendNak : (s.sendNak g).host g =
    { (s.host g).turned with
      nakOwed := true, nakSentAt := some s.now
      cntTick := { (s.host g).cntTick with nakSent := (s.host g).cntTick.nakSent + 1 } } := by
  rw [State.sendNak, State.host_hostCount_self, State.host_modHost_self]
  rfl

/-- A rejection changes its group only. -/
theorem State.reject_frame : s.reject g = { s with hosts := (s.reject g).hosts } := by
  unfold State.reject
  split <;> rfl

/-- A rejection leaves a NAK owed, and changes nothing of its group but what sending that NAK does. -/
theorem State.host_reject : let t := (s.reject g).host g
    t = { s.host g with
      crTurn := t.crTurn, nakOwed := true, nakSentAt := t.nakSentAt
      cntTick := { (s.host g).cntTick with nakSent := t.cntTick.nakSent } } := by
  unfold State.reject
  split
  · next owed => rw [← owed]
  · rw [State.host_sendNak]; rfl

/-! ## Sideband packets that wait (R346) -/

/-- Sideband packets that are sent change the transmit side of their group only. -/
theorem LaneGroup.flushSide_frame (x : LaneGroup) (k : Nat) : x.flushSide k =
    { x with
      sideWait := (x.flushSide k).sideWait, unacked := (x.flushSide k).unacked, txSeq := (x.flushSide k).txSeq
      usedOut := (x.flushSide k).usedOut, crTurn := (x.flushSide k).crTurn
      idle := (x.flushSide k).idle, still := (x.flushSide k).still } := by
  induction k generalizing x with
  | zero => rfl
  | succ k ih =>
    unfold LaneGroup.flushSide
    split
    · rfl
    · split
      · rw [ih]; rfl
      · rfl

@[simp] theorem State.host_flushSide_self : (s.flushSide g).host g = (s.host g).flushSide (s.host g).sideWait.length :=
  State.host_modHost_self ..
end

/-! ## The order of the packets received (R340) -/

/-- Where the receive side of a group stands: the SEQ that it expects, and whether it owes a NAK. -/
def LaneGroup.order (x : LaneGroup) : Nat × Bool := (x.rxExpect, x.nakOwed)

section
variable (s : State) (g : Nat) (p : LanePacket)

@[simp] theorem LaneGroup.flushSide_order (x : LaneGroup) (k : Nat) : (x.flushSide k).order = x.order := by
  rw [LaneGroup.flushSide_frame]
  rfl

@[simp] theorem State.sideSend_order (ack : Word) (ret : List Word) :
    ((s.sideSend g ack ret).host g).order = (s.host g).order := by
  rw [State.sideSend, State.host_flushSide_self, LaneGroup.flushSide_order, State.host_modHost_self]
  rfl

/-- A sideband message is submitted, answered or cancelled; the order of the packets is as it was. -/
@[simp] theorem State.sideband_order (ctrl : Word) (words : List Word) :
    ((s.sideband g ctrl words).host g).order = (s.host g).order := by
  unfold State.sideband State.sideGo
  dsimp only
  split_ifs
  · rfl
  · rfl
  · exact s.sideSend_order ..
  · rfl
  · rfl

/-- A change of one group that leaves its place in the order. -/
theorem State.modHost_order {f : LaneGroup → LaneGroup} (h : ∀ x, (f x).order = x.order) :
    ((s.modHost g f).host g).order = (s.host g).order := by
  rw [State.host_modHost_self, h]

@[simp] theorem State.hostCount_order (f : HostCnt → HostCnt) : ((s.hostCount g f).host g).order = (s.host g).order :=
  s.modHost_order g fun _ => rfl

theorem State.arriveHost_order (port sc credits : Nat) (f : Frame) :
    ((s.arriveHost port f sc credits).host g).order = (s.host g).order := by
  unfold State.arriveHost
  split <;> rfl

/-- What becomes of an accepted frame, delivered or not, leaves the order of the packets. -/
theorem State.laneFrame_order : ((s.laneFrame g p).host g).order = (s.host g).order := by
  unfold State.laneFrame
  dsimp only
  generalize ht : (s.modHost g fun x => x.takeCredit (p.sc % 8) p.len).hostCount g _ = t
  have credited : (t.host g).order = (s.host g).order := by
    rw [← ht, State.hostCount_order]
    exact s.modHost_order g fun _ => rfl
  split
  · exact (t.hostCount_order g _).trans credited
  · split
    · split
      · exact (t.arriveHost_order g ..).trans credited
      · exact Eq.trans (t.modHost_order g fun _ => rfl) credited
    · exact credited

/-- What becomes of an accepted sideband packet leaves the order of the packets. -/
theorem State.laneSide_order : ((s.laneSide g p).host g).order = (s.host g).order := by
  unfold State.laneSide
  dsimp only
  generalize ht : (s.modHost g fun x => x.takeCredit 7 p.len) = t
  have credited : (t.host g).order = (s.host g).order := ht ▸ s.modHost_order g fun _ => rfl
  have due : ((t.modHost g fun x => x.creditDue 7 p.len).host g).order = (s.host g).order :=
    Eq.trans (t.modHost_order g fun _ => rfl) credited
  split
  · exact (t.hostCount_order g _).trans credited
  · split
    · exact due
    · exact (State.sideband_order ..).trans due

variable {s g p}

/-- The expected packet is followed by the next SEQ, and no NAK is owed any more. -/
theorem State.laneSequenced_order (h : p.seq = (s.host g).rxExpect) :
    ((s.laneSequenced g p).host g).order = (((s.host g).rxExpect + 1) % 4096, false) := by
  simp only [State.laneSequenced, if_pos h]
  split
  · rw [State.laneFrame_order, State.host_modHost_self]; rfl
  · rw [State.laneSide_order, State.host_modHost_self]; rfl
end

end Machine

/-- Settles O45 (R340, R343, R345). -/
theorem lanePacketsAreTakenInOrderOnce : Obligations.LanePacketsAreTakenInOrderOnce := by
  intro g p s _
  refine ⟨fun hne => ?outOfOrder, fun h => congrArg Prod.fst (State.laneSequenced_order h), fun hover => ?beyond⟩
  case outOfOrder =>
    have rejected : s.laneSequenced g p = s.reject g := if_neg hne
    simp only [rejected]
    rw [State.host_reject, State.reject_frame]
    exact ⟨rfl, rfl, rfl, rfl, rfl⟩
  case beyond =>
    have hbeyond : (s.host g).beyond (p.sc % 8) p.len = true := by simpa [LaneGroup.beyond] using hover
    simp [State.laneFrame, hbeyond, State.creditViolation, LaneGroup.takeCredit]

end Sys2Proof
end

section
/-! SUPPORT. The host lane commands, the training of a lane group and its way into UP: proof of O43. -/
namespace Sys2Proof
open Machine
namespace Machine

/-! ## A training block, by the stage that it comes in (R332 to R335) -/

section
variable (x : LaneGroup) (g : Nat) (b : LaneBlocks)

/-- A request that is carried out changes the coefficients and their status, and the lane that is answered (R333). -/
theorem LaneGroup.tune_frame : x.tune b =
    { x with
      coefPre := (x.tune b).coefPre, coefPost := (x.tune b).coefPost, stPre := (x.tune b).stPre
      stPost := (x.tune b).stPost, stLane := (x.tune b).stLane } := by
  unfold LaneGroup.tune
  dsimp only
  split <;> rfl

/-- The own request goes on, and nothing else (R333). -/
theorem LaneGroup.request_frame : x.request g b =
    { x with req := (x.request g b).req, reqNum := (x.request g b).reqNum } := by
  unfold LaneGroup.request
  dsimp only
  split_ifs <;> rfl

/-- A group after a good block in TUNE: the partner's request carried out, and CHECK begun once both ends are ready (R333, R334). -/
def LaneGroup.tuneTaken (now : Nat) : LaneGroup :=
  let y := { (x.tune b).request g b with rxReady := x.rxReady || b.tuned }
  if y.rxReady && b.rxReady then { y with stage := .check, stageStart := now, coefValid := true, checkGood := 0 } else y

theorem LaneGroup.tuneTaken_spec (now : Nat) (hx : x.stage = .tune) :
    let y := x.tuneTaken g b now
    let ready := (x.rxReady || b.tuned) && b.rxReady
    y.coefPre = (x.tune b).coefPre ∧ y.coefPost = (x.tune b).coefPost ∧
      y.stage = (if ready then .check else .tune) ∧ y.coefValid = (x.coefValid || ready) := by
  unfold LaneGroup.tuneTaken
  rw [LaneGroup.request_frame, LaneGroup.tune_frame]
  dsimp only
  split
  · next hr => exact ⟨rfl, rfl, rfl, by rw [hr, Bool.or_true]⟩
  · next hr => exact ⟨rfl, rfl, hx, by rw [Bool.eq_false_of_not_eq_true hr, Bool.or_false]⟩
end

section
variable {s : State} {g : Nat}

theorem State.hostOn_of_powered (hg : g < 4) (hp : s.powered (132 + g) = true) : s.hostOn g = true := by
  simp [State.hostOn, hg, hp]

section
variable (hon : s.hostOn g = true) (ht : (s.host g).state = .training)
include hon ht

theorem exec_hostTrainingBlock_of_clock (b : LaneBlocks) (hs : (s.host g).stage = .clock) :
    exec (.hostTrainingBlock g b) s =
      .next (s.modHost g (fun x => { x with stage := .align, stageStart := s.now, rxEidle := false })) := by
  simp only [exec, execHostTrainingBlock, hon, ht, hs, if_true]

theorem exec_hostTrainingBlock_of_align (b : LaneBlocks) (hs : (s.host g).stage = .align) :
    exec (.hostTrainingBlock g b) s = .next (if b.crcOk then s.hostAlign g b else s) := by
  simp only [exec, execHostTrainingBlock, hon, ht, hs, if_true]

theorem exec_hostTrainingBlock_of_bad_tune {b : LaneBlocks} (hs : (s.host g).stage = .tune) (hc : b.crcOk = false) :
    exec (.hostTrainingBlock g b) s = .next s := by
  simp [exec, execHostTrainingBlock, hon, ht, hs, hc]

theorem exec_hostTrainingBlock_of_good_tune {b : LaneBlocks} (hs : (s.host g).stage = .tune) (hc : b.crcOk = true) :
    ∃ t : State, exec (.hostTrainingBlock g b) s = .next t ∧ t = { s with hosts := t.hosts } ∧
      t.host g = (s.host g).tuneTaken g b s.now := by
  simp only [exec, execHostTrainingBlock, hon, ht, hs, hc, if_true, State.host_modHost_self, LaneGroup.tuneTaken]
  split
  · exact ⟨_, rfl, rfl, by rw [State.host_modHost_self, State.host_modHost_self]; rfl⟩
  · exact ⟨_, rfl, rfl, by rw [State.host_modHost_self]⟩

theorem exec_lanePacketRx_of_check (p : LanePacket) (hs : (s.host g).stage = .check) :
    exec (.lanePacketRx g p) s = .next (s.laneCheck g p) := by
  simp [exec, execLanePacketRx, hon, ht, hs]
end

/-! ## The end of ALIGN (R335) -/

/-- Lanes in order or reversed, with at most 32 UI between them, end ALIGN; a retrain goes on with CHECK. -/
theorem State.hostAlign_spec {b : LaneBlocks} {rev : Bool} (hm : laneMap b.lanes = some rev) (hs : skewSpan b.skew ≤ 32) :
    let t := s.hostAlign g b
    t = { s with hosts := t.hosts } ∧ (t.host g).reversed = rev ∧
      (t.host g).stage = (if (s.host g).retrain then .check else .tune) ∧ (t.host g).stageStart = s.now := by
  rw [State.hostAlign, hm]
  dsimp only
  rw [if_neg (Nat.not_lt.2 hs), State.host_modHost_self]
  exact ⟨rfl, rfl, rfl, rfl⟩

/-! ## CHECK and UP (R334, R350) -/

@[simp] theorem State.host_event (type source data k : Nat) : (s.event type source data).host k = s.host k :=
  State.host_congr (State.event_hosts ..) k
@[simp] theorem State.modCellar_host (k : Nat) (f : CellarSt → CellarSt) : (s.modCellar f).host k = s.host k := rfl

@[simp] theorem State.host_hostSt_self (st : HostState) : (s.hostSt g st).host g = { s.host g with state := st } := by
  unfold State.hostSt
  dsimp only
  split
  · exact State.host_modHost_self ..
  · rw [State.host_event, State.host_modHost_self]

@[simp] theorem LaneGroup.flushSide_state (x : LaneGroup) (k : Nat) : (x.flushSide k).state = x.state := by
  rw [LaneGroup.flushSide_frame]
@[simp] theorem LaneGroup.flushSide_upTick (x : LaneGroup) (k : Nat) : (x.flushSide k).upTick = x.upTick := by
  rw [LaneGroup.flushSide_frame]

/-- The entry into UP sets STATE and the tick of the entry. -/
theorem State.hostUp_spec : ((s.hostUp g).host g).state = .up ∧ ((s.hostUp g).host g).upTick = s.now := by
  unfold State.hostUp
  simp only [State.host_flushSide_self, LaneGroup.flushSide_state, LaneGroup.flushSide_upTick, State.host_hostSt_self,
    true_and]
  split
  · rw [State.modCellar_host, State.host_modHost_self]
  · rw [State.host_modHost_self]

/-- A good packet in CHECK counts, and the 256th in a row brings the group UP. -/
theorem State.laneCheck_of_good {p : LanePacket} (hh : p.hcrcOk = true) (hc : p.crcOk = true) :
    let t := s.laneCheck g p
    ((s.host g).checkGood < 255 → (t.host g).checkGood = (s.host g).checkGood + 1 ∧ (t.host g).state = (s.host g).state) ∧
      (255 ≤ (s.host g).checkGood → (t.host g).state = .up ∧ (t.host g).upTick = s.now) := by
  simp only [State.laneCheck, hh, hc, Bool.and_self, if_true, State.host_modHost_self]
  constructor
  · intro hfew
    rw [if_neg (by omega), State.host_modHost_self]
    exact ⟨rfl, rfl⟩
  · intro hall
    rw [if_pos (by omega)]
    exact State.hostUp_spec
end

end Machine

/-- Settles O43 (R332 to R335, R350 to R353; log 15, log 64). -/
theorem hostMessagesAndTrainingComplete : Obligations.HostMessagesAndTrainingComplete := by
  intro m s d g hg
  refine ⟨?config, ?status, ?counters, ?prbs, fun hp ht => ?training⟩
  case config =>
    intro h hs hidle cred hcred hside hd
    have hidle0 : m.get 1 16 10 ≠ 0 := Nat.ne_of_gt hidle
    have hbad : (m.stray 1 0x03FF1D03 || m.get 1 16 10 == 0 || decide (256 < cred.foldl (· + ·) 0) ||
        (m.flag 1 10 && cred.getD 7 0 == 0)) = false := by
      simpa [hs, hidle0, hcred] using hside
    exact congrArg _ (State.mailbox_of_allowed cmdHostConfig h rfl hbad (by simp [hd]))
  case status =>
    intro h hs
    exact congrArg _ (State.mailbox_of_answer (body := cmdHostStatus) h (Reply.unless_of_false _ _ hs))
  case counters =>
    intro h hs
    exact congrArg _ (State.mailbox_of_answer (body := cmdHostCounters) h (Reply.unless_of_false _ _ hs))
  case prbs =>
    intro h hs hpat he hv hd
    have hbad : (m.stray 1 0x1F03 || (m.get 1 8 2 != 0 && !m.flag 1 10 && !m.flag 1 11)) = false := by
      rcases hpat with hpat | hpat | hpat <;> simp [hs, hpat]
    exact congrArg _ (State.mailbox_of_allowed cmdHostPrbs h rfl hbad (by simp [he, hv, hd]))
  case training =>
    have hon := State.hostOn_of_powered hg hp
    refine ⟨fun b hs => exec_hostTrainingBlock_of_clock hon ht b hs, fun b hs => ?align, fun b hs => ?tune,
      fun hend => ?timeout, ⟨rfl, rfl, rfl, rfl⟩, fun p hs => ?check⟩
    case align =>
      have taken := exec_hostTrainingBlock_of_align hon ht b hs
      refine ⟨fun hc => ?_, fun hc hm => ?_, fun hc hm hwide => ?_, fun rev hc hm hnear => ?_⟩
      · rw [taken, hc]; rfl
      · rw [taken, if_pos hc, State.hostAlign, hm]
      · obtain ⟨rev, hrev⟩ := Option.isSome_iff_exists.1 hm
        rw [taken, if_pos hc, State.hostAlign, hrev]
        exact congrArg _ (if_pos hwide)
      · exact ⟨_, by rw [taken, if_pos hc], State.hostAlign_spec hm hnear⟩
    case tune =>
      refine ⟨fun hc => exec_hostTrainingBlock_of_bad_tune hon ht hs hc, fun hc => ?_⟩
      obtain ⟨t, hx, hframe, hgroup⟩ := exec_hostTrainingBlock_of_good_tune hon ht hs hc
      refine ⟨t, hx, hframe, ?_⟩
      rw [hgroup]
      exact LaneGroup.tuneTaken_spec _ g b s.now hs
    case timeout => exact if_pos (by simp [hon, ht, hend])
    case check =>
      have taken := exec_lanePacketRx_of_check hon ht p hs
      refine ⟨fun hh hc => ⟨_, taken, ?_⟩, fun hbad => taken.trans (congrArg _ (if_neg ?_))⟩
      · rw [← ht]
        exact State.laneCheck_of_good hh hc
      · rcases hbad with hbad | hbad <;> simp [hbad]

end Sys2Proof
end

section
/-! SUPPORT. Lane packets, resends, retrains, electrical idle, sideband, spool acknowledgements and faults of a group in UP: proof
of O44. -/
namespace Sys2Proof
open Machine
namespace Machine

section
variable {s : State} {g : Nat}

/-! ## A lane packet in UP (R338 to R340) -/

/-- A bad header outside a hunt starts one, and is rejected. -/
theorem State.laneUp_of_lost {p : LanePacket} (hh : p.hcrcOk = false) (hn : (s.host g).hunting = false) :
    s.laneUp g p = ((s.modHost g (fun x => { x with hunting := true, huntOne := false })).hostCount g (fun c =>
      { c with hcrcErr := c.hcrcErr + 1, hunts := c.hunts + 1 })).reject g := by
  simp [State.laneUp, hh, hn]

/-- The first good header of a hunt is only remembered. -/
theorem State.laneUp_of_first {p : LanePacket} (hh : p.hcrcOk = true) (hn : (s.host g).hunting = true)
    (h1 : (s.host g).huntOne = false) : s.laneUp g p = s.modHost g (fun x => { x with huntOne := true }) := by
  simp [State.laneUp, hh, hn, h1]

/-- A packet whose CRC fails outside a hunt is counted, and rejected where it is a sequenced one. -/
theorem State.laneUp_of_bad {p : LanePacket} (hh : p.hcrcOk = true) (hc : p.crcOk = false)
    (hn : (s.host g).hunting = false) : s.laneUp g p =
      let t := (s.modHost g (fun x => { x with hunting := false, huntOne := false })).hostCount g (fun c =>
        { c with crcErr := c.crcErr + 1 })
      if p.type = 1 ∨ p.type = 2 then t.reject g else t := by
  simp [State.laneUp, hh, hc, hn]

/-! ## Resends (R341) -/

/-- A resend turns the class of the grants and fills the headers anew; everything else of the group stays. -/
theorem LaneGroup.sendAgain_frame (x : LaneGroup) : x.sendAgain =
    { x with crTurn := x.sendAgain.crTurn, unacked := x.sendAgain.unacked } := by
  have turned := List.foldlRecOn (motive := fun a : LaneGroup × List LaneTx => a.1 = { x with crTurn := a.1.crTurn })
    x.unacked (fun a u => (a.1.turned, a.2 ++ [u.again a.1])) (b := (x, [])) rfl
    (fun a ha u _ => by dsimp only [LaneGroup.turned]; rw [ha])
  unfold LaneGroup.sendAgain
  dsimp only at turned ⊢
  rw [turned]

theorem State.laneResend_spec (hu : (s.host g).unacked ≠ []) : let t := s.laneResend g
    t = { s with hosts := t.hosts } ∧ (t.host g).resends = (s.host g).resends + 1 ∧
      (t.host g).cntTick.txResends = (s.host g).cntTick.txResends + 1 := by
  have waiting : (s.host g).unacked.isEmpty = false := by simp [hu]
  simp only [State.laneResend, waiting, Bool.false_eq_true, if_false]
  rw [State.host_hostCount_self, State.host_modHost_self, LaneGroup.sendAgain_frame]
  exact ⟨rfl, rfl, rfl⟩

/-! ## Retrains (R342) -/

/-- A cause to retrain is kept and waits for the edge; that of a failed fast exit is counted. -/
theorem exec_hostRetrain {cause : Nat} (hon : s.hostOn g = true) (hc : (s.host g).retrainCause cause = true)
    (hq : .hostRetrain g ∉ s.edgeq) : ∃ t : State, exec (.hostRetrain g cause) s = .next t ∧
      t.edgeq = s.edgeq ++ [.hostRetrain g] ∧ t.host g = { s.host g with
        lastFail := cause
        cntTick := { (s.host g).cntTick with
          fastFail := (s.host g).cntTick.fastFail + (if cause = 6 then 1 else 0) } } := by
  have row : exec (.hostRetrain g cause) s = _ := if_pos (by simp [hon, hc, hq])
  refine ⟨_, row, (State.atEdge_edgeq_of_notMem ?_).trans ?_, (State.host_congr (State.atEdge_hosts ..) g).trans ?_⟩
  · split <;> exact hq
  · split <;> rfl
  · rw [State.host_modHost_self]
    split
    · rw [State.host_hostCount_self]
    · rfl

/-! ## Electrical idle (R337) -/

@[simp] theorem State.cutSlice_host (u k : Nat) : (s.cutSlice u).host k = s.host k :=
  State.host_congr (by rw [State.cutSlice_frame]) k

theorem exec_electricalIdleExit (hon : s.hostOn g = true) (hup : (s.host g).state = .up) (hi : (s.host g).txEidle = true)
    (hw : s.hostWants g = true) : ∃ t : State, exec (.electricalIdleExit g) s = .next (t.flushSide g) ∧
      t.host g = { s.host g with
        txEidle := false, idle := 0, owes := false
        cntTick := { (s.host g).cntTick with fastExits := (s.host g).cntTick.fastExits + 1 } } := by
  refine ⟨_, if_pos (by simp [hon, hup, hi, hw]), ?_⟩
  rw [State.host_hostCount_self, State.host_modHost_self, State.cutSlice_host]

/-! ## Sideband messages, spool acknowledgements, faults (R346 to R349) -/

/-- A GO on an accepting channel 1 is submitted there, and its group kept for the answer. -/
theorem State.sideband_of_go {words : List Word} (ha : s.accepts 1 = true) (hs : (s.host g).cfg.sideEn = true) :
    s.sideband g 1#32 words = s.modChan 1 (fun c => { c.go words with hg := g }) := by
  have go : bit 1 0 = true := by decide
  have cancel : bit 1 1 = false := by decide
  simp [State.sideband, State.sideGo, hs, ha, go, cancel]

section
variable {k : Nat} (hahead : (k + 2 ^ 32 - (s.host g).spoolAcked) % 2 ^ 32 < 2 ^ 31)
include hahead

theorem State.spoolAck_of_sent (hsent : ((s.host g).spoolSent + 2 ^ 32 - k) % 2 ^ 32 < 2 ^ 31) :
    s.spoolAck g k = s.modHost g (fun x => { x with spoolAcked := k, ackNext := some k }) := by
  simp only [State.spoolAck, hahead, hsent, decide_true, Bool.not_true, Bool.false_eq_true, if_false]

theorem State.spoolAck_of_unsent (hover : 2 ^ 31 ≤ ((s.host g).spoolSent + 2 ^ 32 - k) % 2 ^ 32) :
    s.spoolAck g k = s.hostCount g (fun c => { c with spoolBad := c.spoolBad + 1 }) := by
  simp only [State.spoolAck, hahead, Nat.not_lt.2 hover, decide_true, decide_false, Bool.not_true, Bool.not_false,
    Bool.false_eq_true, if_false, if_true]
end

/-- A fault of a group is recorded and waits for the edge to silence it (R349, R546). -/
theorem State.hostFault_spec {code : Nat} (hq : .silence (132 + g) code ∉ s.edgeq) :
    (s.hostFault g code).edgeq = s.edgeq ++ [.silence (132 + g) code] ∧
      (s.hostFault g code).faults.record = s.faults.record.add ⟨code, 132 + g, s.now⟩ 0 := by
  refine ⟨State.atEdge_edgeq_of_notMem hq, ?_⟩
  rw [State.hostFault, State.atEdge_faults]
  rfl
end

end Machine

/-- Settles O44 (R336 to R349, R482, R543, R546; log 15). -/
theorem hostLinkEventsComplete : Obligations.HostLinkEventsComplete := by
  intro g s hg hp hup
  have hon := State.hostOn_of_powered hg hp
  refine ⟨fun p => ?packet, fun p hh hn => ?lost, fun p hh hn h1 => State.laneUp_of_first hh hn h1,
    fun p hh hc hn => ?badCrc, fun p h => Prod.mk.inj (State.laneSequenced_order h), fun hn => ?nakRepeat, fun hu => ?resend,
    fun cause hc hq => ?retrain, fun hdue hi hu hn => ?idleEntry, fun hi hw => ?idleExit, fun ctrl words => ?sideband,
    fun words ha hs hlen => ?go, fun n => ⟨?spool, fun hahead => ⟨State.spoolAck_of_sent hahead, fun hover => ?unsent⟩⟩,
    fun code hf hq => ⟨_, ?fault, State.hostFault_spec hq⟩, fun code hf u hu ha hh hd => ?faultInDamped⟩
  case packet => exact if_pos (by simp [hon, hup])
  case lost =>
    rw [State.laneUp_of_lost hh hn, State.host_reject, State.host_hostCount_self, State.host_modHost_self]
    exact ⟨rfl, rfl, rfl, rfl⟩
  case badCrc =>
    rw [State.laneUp_of_bad hh hc hn]
    dsimp only
    split
    · rw [State.host_reject, State.host_hostCount_self, State.host_modHost_self]
      exact ⟨rfl, fun _ => rfl⟩
    · next other =>
      rw [State.host_hostCount_self, State.host_modHost_self]
      exact ⟨rfl, fun h => absurd h other⟩
  case nakRepeat =>
    refine ⟨s.sendNak g, if_pos (by simp [hon, hup, hn]), rfl, ?_⟩
    rw [State.host_sendNak]
    exact ⟨rfl, rfl⟩
  case resend => exact ⟨s.laneResend g, if_pos (by simp [hon, hup]), State.laneResend_spec hu⟩
  case retrain =>
    obtain ⟨t, row, hedge, hgroup⟩ := exec_hostRetrain hon hc hq
    refine ⟨t, row, hedge, ?_⟩
    rw [hgroup]
    exact ⟨rfl, hup, rfl⟩
  case idleEntry =>
    have due : s.eidleDue g = true := by simpa [State.eidleDue] using hdue
    exact (if_pos (by simp [hon, hup, due, hi, hu, hn])).trans (congrArg _ (State.modHost_congr rfl))
  case idleExit =>
    obtain ⟨t, row, hgroup⟩ := exec_electricalIdleExit hon hup hi hw
    refine ⟨t, row, ?_⟩
    rw [hgroup]
    exact ⟨rfl, rfl⟩
  case sideband => exact if_pos (by simp [hon, hup])
  case go =>
    rw [State.sideband_of_go ha hs, State.chan_modChan_self _ _ (by omega)]
    exact ⟨rfl, rfl⟩
  case spool => exact if_pos (by simp [hon, hup])
  case unsent =>
    rw [State.spoolAck_of_unsent hahead hover, State.host_hostCount_self]
    exact ⟨rfl, rfl⟩
  case fault => simp [exec, execHostLaneFault, hg, hf, hon]
  case faultInDamped => simp [exec, execHostLaneFault, hg, hf, State.hostOn, hu, State.dampedFault, ha, hh, hd]

end Sys2Proof
end

section
/-! SUPPORT. What one word write of the keep-store puts, and what its commands leave alone; proof of O28. -/
namespace Sys2Proof
namespace Machine

/-! ## What the commands of the keep-store leave alone (R589 to R591) -/

theorem State.ackLater_frame (s : State) (rt : Option ReplyTo) (c : Code) (ret : List Word) :
    s.ackLater rt c ret = { s with mbx := (s.ackLater rt c ret).mbx, faults := (s.ackLater rt c ret).faults,
                                   boot := (s.ackLater rt c ret).boot, hosts := (s.ackLater rt c ret).hosts } := by
  unfold State.ackLater
  split
  · rfl
  · exact State.ack_frame ..

/-- The end of a keep-store command changes no word: it is answered, and a policy or an identity is accepted. -/
theorem State.keepDone_frame (s : State) (j : KeepJob) :
    s.keepDone j = { s with mbx := (s.keepDone j).mbx, faults := (s.keepDone j).faults, boot := (s.keepDone j).boot,
                            hosts := (s.keepDone j).hosts, cfgq := (s.keepDone j).cfgq,
                              keep := { s.keep with job := none } } := by
  unfold State.keepDone
  dsimp only
  split_ifs <;> rw [State.ackLater_frame] <;> rfl

theorem State.blowSeal_frame (s : State) : s.blowSeal = { s with fuses := s.blowSeal.fuses } := by
  unfold State.blowSeal
  split <;> rfl

theorem State.blowState_frame (s : State) (n : Nat) :
    s.blowState n = { s with fuses := (s.blowState n).fuses, life := (s.blowState n).life } := by
  unfold State.blowState
  split <;> rfl

/-- What is blown before a log word changes the fuses and the life-cycle state only. -/
theorem State.keepFuses_frame {s t : State} {j : KeepJob} (h : s.keepFuses j = some t) :
    t = { s with fuses := t.fuses, life := t.life } := by
  unfold State.keepFuses at h
  split at h
  · cases h; rfl
  · dsimp only at h
    split_ifs at h <;> cases h
    · rfl
    · rw [State.blowSeal_frame]
    · exact State.blowState_frame s _
    · rfl

/-- A command that goes on to its next word, or ends, writes none itself. -/
theorem State.keepNext_frame (s : State) (j : KeepJob) :
    s.keepNext j = { s with
      fuses := (s.keepNext j).fuses, life := (s.keepNext j).life, mbx := (s.keepNext j).mbx, faults := (s.keepNext j).faults,
      boot := (s.keepNext j).boot, hosts := (s.keepNext j).hosts, cfgq := (s.keepNext j).cfgq,
      keep := { s.keep with job := (s.keepNext j).keep.job } } := by
  unfold State.keepNext
  split
  · rw [State.keepDone_frame]
  · split
    · next t ht => rw [State.keepFuses_frame ht]; rfl
    · rw [State.ackLater_frame]; rfl

/-- The keep-store after one word write: the word and its cache are put, and its wear is counted. -/
theorem State.keepPut_keep (s : State) (w : Nat) (v : Word) :
    (s.keepPut w v).keep = { s.keep with
      words := if v = 0 then tdel s.keep.words w else tset s.keep.words w v
      cache := if v = 0 then tdel s.keep.cache w else tset s.keep.cache w v
      wear := tset s.keep.wear w (satTo (2 ^ 17 - 1) (s.keepWear w + 1)) } := by
  unfold State.keepPut
  dsimp only
  split
  · rw [State.event_frame]; rfl
  · rfl

@[simp] theorem State.keepWord_keepPut_self (s : State) (w : Nat) (v : Word) : (s.keepPut w v).keepWord w = v := by
  rw [State.keepWord, State.keepPut_keep]
  exact Memory.get_put_self ..

theorem State.keepWord_keepPut_ne (s : State) {w x : Nat} (v : Word) (h : x ≠ w) :
    (s.keepPut w v).keepWord x = s.keepWord x := by
  rw [State.keepWord, State.keepPut_keep]
  exact Memory.get_put_ne _ v h

@[simp] theorem State.keepWear_keepPut_self (s : State) (w : Nat) (v : Word) :
    (s.keepPut w v).keepWear w = min 131071 (s.keepWear w + 1) := by
  rw [State.keepWear, State.keepPut_keep]
  exact (tget_tset_self ..).trans (satTo_eq_min ..)

theorem State.keepWear_keepPut_ne (s : State) {w x : Nat} (v : Word) (h : x ≠ w) :
    (s.keepPut w v).keepWear x = s.keepWear x := by
  rw [State.keepWear, State.keepPut_keep]
  exact tget_tset_ne _ _ _ h

end Machine

/-- Settles O28 (R586, R589 to R591): the word, its cache and its wear by what one put does to the tables, the rest by the
frame of the command that goes on. -/
theorem keepWordCompletes : Obligations.KeepWordCompletes := by
  intro s j w v rest
  refine ⟨fun hj => ?_, fun hj hw => ⟨(s.keepPut w v).keepNext { j with words := rest }, ?_, rfl, by simp,
    fun x hx => s.keepWord_keepPut_ne v hx, by simp, fun x hx => s.keepWear_keepPut_ne v hx, fun x hx => ?_, ?_⟩⟩
  · show Host.Outcome.next s.keepStep = _
    rw [Machine.State.keepStep, hj]
  · show Host.Outcome.next s.keepStep = _
    rw [Machine.State.keepStep, hj]
    dsimp only
    rw [hw]
  · rw [Machine.State.keepPut_keep]
    exact Machine.Memory.get_put_ne _ v hx
  · rw [Machine.State.keepNext_frame, Machine.State.keepPut_frame]
    exact ⟨rfl, rfl, rfl, rfl⟩

end Sys2Proof
end
section
/-! SUPPORT. The keep-store stays in its canonical form in every step: first the operations that leave it alone, then those
that write words, then the dispatcher, the replay and the edge, and last one lemma per command; proofs of O29 and O30. -/
namespace Sys2Proof
namespace Machine

/-! ## Operations that leave the keep-store alone -/

@[simp] theorem State.keep_ite (c : Prop) [Decidable c] (s t : State) :
  (if c then s else t).keep = if c then s.keep else t.keep :=
  apply_ite ..
@[simp] theorem State.foldl_keep {α : Type} {f : State → α → State} (h : ∀ s a,
  (f s a).keep = s.keep) (l : List α) (s : State) :
    (l.foldl f s).keep = s.keep := by
  induction l generalizing s with
  | nil => rfl
  | cons a l ih => rw [List.foldl_cons, ih, h]
@[simp] theorem State.foldr_keep {α : Type} {f : α → State → State} (h : ∀ s a,
  (f a s).keep = s.keep) (l : List α) (s : State) :
    (l.foldr f s).keep = s.keep := by
  induction l with
  | nil => rfl
  | cons a l ih => rw [List.foldr_cons, h, ih]
section
variable (s : State)

@[simp] theorem State.flushDeferred_keep : s.flushDeferred.keep = s.keep := rfl
@[simp] theorem State.dampedFault_keep (code r) : (s.dampedFault code r).keep = s.keep := by simp [State.dampedFault]
@[simp] theorem State.flushSide_keep (g) : (s.flushSide g).keep = s.keep := rfl
@[simp] theorem State.firedInRun_keep (w) : (s.firedInRun w).keep = s.keep := by simp [State.firedInRun]
@[simp] theorem State.firedInEntry_keep (e w privileged) : (s.firedInEntry e w privileged).keep = s.keep := by
  simp [State.firedInEntry]
@[simp] theorem State.pwrenHigh_keep : s.pwrenHigh.keep = s.keep := rfl
@[simp] theorem State.firedAsleep_keep (w) : (s.firedAsleep w).keep = s.keep := by simp [State.firedAsleep]
@[simp] theorem State.fireWake_keep (w privileged) : (s.fireWake w privileged).keep = s.keep := by
  unfold State.fireWake
  (repeat' split) <;> simp
@[simp] theorem State.goWake_keep (ch) : (s.goWake ch).keep = s.keep := by simp [State.goWake]
@[simp] theorem State.ackWrite_keep (rt c ret) : (s.ackWrite rt c ret).keep = s.keep := by simp [State.ackWrite]
@[simp] theorem State.ackLater_keep (rt c ret) : (s.ackLater rt c ret).keep = s.keep := by
  unfold State.ackLater
  split <;> simp
@[simp] theorem State.setLast_keep (south ch) : (s.setLast south ch).keep = s.keep := rfl
@[simp] theorem State.aim_keep (ch) : (s.aim ch).keep = s.keep := by simp [State.aim]
@[simp] theorem State.submit_keep (op m) : (s.submit op m).keep = s.keep := by simp [State.submit]
@[simp] theorem State.passOver_keep (op m selected) : (s.passOver op m selected).keep = s.keep := rfl
@[simp] theorem State.passOn_keep (op m) : (s.passOn op m).keep = s.keep := by simp [State.passOn]
@[simp] theorem State.spoolAdvance_keep : s.spoolAdvance.keep = s.keep := rfl
@[simp] theorem State.freeIf_keep (id) : (s.freeIf id).keep = s.keep := by unfold State.freeIf; split <;> simp
@[simp] theorem State.unref_keep (id) : (s.unref id).keep = s.keep := by unfold State.unref; split <;> simp
@[simp] theorem State.ref_keep (id) : (s.ref id).keep = s.keep := by unfold State.ref; split <;> simp
@[simp] theorem State.keepFrame_keep (st) : (s.keepFrame st).keep = s.keep := rfl
@[simp] theorem State.modSpool_keep (g f) : (s.modSpool g f).keep = s.keep := rfl
@[simp] theorem State.overwriteOldest_keep : s.overwriteOldest.keep = s.keep := by
  unfold State.overwriteOldest
  split
  · rfl
  · exact State.foldl_keep (fun s g => s.modSpool_keep g _) _ _
@[simp] theorem State.spoolRoom_keep (need k) : (s.spoolRoom need k).1.keep = s.keep := by
  induction k generalizing s with
  | zero => rfl
  | succ k ih =>
    unfold State.spoolRoom
    (repeat' split) <;> simp [ih]
@[simp] theorem State.spoolPut_keep (st groups) : (s.spoolPut st groups).keep = s.keep :=
  State.foldl_keep (fun s g => s.modSpool_keep g _) _ _
@[simp] theorem State.spoolPass_keep (g n) : (s.spoolPass g n).keep = s.keep := rfl
@[simp] theorem State.watermarks_keep : s.watermarks.keep = s.keep := by
  refine (State.modCellar_keep ..).trans ?_
  simp only [State.keep_ite, State.event_keep, ite_self]
@[simp] theorem State.applySpool_keep (size overwrite hours rq) : (s.applySpool size overwrite hours rq).keep = s.keep := rfl
@[simp] theorem State.modRoot_keep (r f) : (s.modRoot r f).keep = s.keep := rfl
@[simp] theorem State.modQueue_keep (q f) : (s.modQueue q f).keep = s.keep := rfl
@[simp] theorem State.modNode_keep (n f) : (s.modNode n f).keep = s.keep := rfl
@[simp] theorem State.setV_keep (p level v) : (s.setV p level v).keep = s.keep := rfl
@[simp] theorem State.wakeTags_keep : s.wakeTags.keep = s.keep := rfl
@[simp] theorem State.dropTags_keep : s.dropTags.keep = s.keep := rfl
@[simp] theorem State.chargeKid_keep (len k) : (s.chargeKid len k).keep = s.keep := by simp [State.chargeKid]
@[simp] theorem State.settleKid_keep (root k) : (s.settleKid root k).keep = s.keep := by simp [State.settleKid]
@[simp] theorem State.countTx_keep (root len) : (s.countTx root len).keep = s.keep := by simp [State.countTx]
@[simp] theorem State.newKey_keep (root) : (s.newKey root).keep = s.keep := rfl
@[simp] theorem State.depart_keep (root) : (s.depart root).keep = s.keep := by unfold State.depart; split <;> simp
@[simp] theorem State.dropSending_keep (root) : (s.dropSending root).keep = s.keep := by simp [State.dropSending]
@[simp] theorem State.enqueue_keep (q d) : (s.enqueue q d).keep = s.keep := by simp [State.enqueue]
@[simp] theorem State.discardFrame_keep (id) : (s.discardFrame id).keep = s.keep := by simp [State.discardFrame]
@[simp] theorem State.flushQueue_keep (q) : (s.flushQueue q).keep = s.keep := by simp [State.flushQueue]
@[simp] theorem State.commitFlushes_keep : s.commitFlushes.keep = s.keep := by simp [State.commitFlushes]
@[simp] theorem State.commitEnqueues_keep : s.commitEnqueues.keep = s.keep :=
  State.foldl_keep (fun s (e : Nat × Desc) => s.modQueue_keep e.1 _) _ _
@[simp] theorem State.commitRefill_keep : s.commitRefill.keep = s.keep := rfl
@[simp] theorem State.bridgeCount_keep (f) : (s.bridgeCount f).keep = s.keep := rfl
@[simp] theorem State.placeQueue_keep (q c) : (s.placeQueue q c).keep = s.keep := by simp [State.placeQueue]
@[simp] theorem State.placeNode_keep (n p) (level weight) : (s.placeNode n p level weight).keep = s.keep := by
  simp [State.placeNode]
@[simp] theorem State.applySched_keep (x) : (s.applySched x).keep = s.keep := by unfold State.applySched; split <;> simp
@[simp] theorem State.schedEdge_keep : s.schedEdge.keep = s.keep := by simp [State.schedEdge]
@[simp] theorem State.schedProj_keep : s.schedProj.keep = s.keep := by simp [State.schedProj]
@[simp] theorem State.guarSettle_keep (done) (cause i) : (s.guarSettle done cause i).keep = s.keep := by
  unfold State.guarSettle
  split <;> simp
@[simp] theorem State.guarsEdge_keep : s.guarsEdge.keep = s.keep := rfl
@[simp] theorem State.admissionRun_keep : s.admissionRun.keep = s.keep := by simp [State.admissionRun]
@[simp] theorem State.runsEdge_keep : s.runsEdge.keep = s.keep := rfl
@[simp] theorem State.guarProj_keep : s.guarProj.keep = s.keep := by simp [State.guarProj]
@[simp] theorem State.acceptRun_keep (c due cause) : (s.acceptRun c due cause).keep = s.keep := by simp [State.acceptRun]
@[simp] theorem State.learnOne_keep (l) : (s.learnOne l).keep = s.keep := by unfold State.learnOne; split <;> simp
@[simp] theorem State.commitLearns_keep : s.commitLearns.keep = s.keep := by simp [State.commitLearns]
@[simp] theorem State.commitAging_keep : s.commitAging.keep = s.keep := rfl
@[simp] theorem State.lineSt_keep (ch st) : (s.lineSt ch st).keep = s.keep := by simp [State.lineSt]
@[simp] theorem State.reportLpi_keep (ch lpi) : (s.reportLpi ch lpi).keep = s.keep := by simp [State.reportLpi]
@[simp] theorem State.lineMode_keep (ch mode slave) : (s.lineMode ch mode slave).keep = s.keep := by simp [State.lineMode]
@[simp] theorem State.tapsInvalid_keep (ch) : (s.tapsInvalid ch).keep = s.keep := rfl
@[simp] theorem State.leaveSurvey_keep (ch) : (s.leaveSurvey ch).keep = s.keep := by simp [State.leaveSurvey]
@[simp] theorem State.lineDown_keep (ch st) : (s.lineDown ch st).keep = s.keep := by simp [State.lineDown]
@[simp] theorem State.lineTrain_keep (ch mode slave start) (resume count) :
    (s.lineTrain ch mode slave start resume count).keep = s.keep := by
  simp [State.lineTrain]
@[simp] theorem State.decideGroup_keep (bg) : (s.decideGroup bg).keep = s.keep :=
  State.foldl_keep (fun s c => s.modLine_keep c _) _ _
@[simp] theorem State.decideStarts_keep : s.decideStarts.keep = s.keep := State.foldl_keep State.decideGroup_keep _ _
@[simp] theorem State.lineStart_keep (ch start resume) : (s.lineStart ch start resume).keep = s.keep := by
  simp [State.lineStart]
@[simp] theorem State.lineFail_keep (ch reason) : (s.lineFail ch reason).keep = s.keep := by simp [State.lineFail]
@[simp] theorem State.lineUp_keep (ch) : (s.lineUp ch).keep = s.keep := by simp [State.lineUp]
@[simp] theorem State.lineRelink_keep (ch) : (s.lineRelink ch).keep = s.keep := by simp [State.lineRelink]
@[simp] theorem State.wakePartner_keep (ch) : (s.wakePartner ch).keep = s.keep := by simp [State.wakePartner]
@[simp] theorem State.endTdr_keep (ch) : (s.endTdr ch).keep = s.keep := by unfold State.endTdr; split <;> simp
@[simp] theorem State.lineDieOff_keep (d keep) : (s.lineDieOff d keep).keep = s.keep := by
  refine State.foldl_keep (fun s ch => ?_) _ _
  split <;> simp
@[simp] theorem State.lineBack_keep (ch start) : (s.lineBack ch start).keep = s.keep := by simp [State.lineBack]
@[simp] theorem State.lineDieOn_keep (d start) : (s.lineDieOn d start).keep = s.keep := by
  refine (State.decideStarts_keep _).trans (State.foldl_keep (fun s ch => ?_) _ _)
  split <;> simp
@[simp] theorem State.lineDieHeld_keep (d woken) : (s.lineDieHeld d woken).keep = s.keep := by
  refine (State.decideStarts_keep _).trans (State.foldl_keep (fun s ch => ?_) _ _)
  (repeat' split) <;> simp
@[simp] theorem State.applyLine_keep (ch c) : (s.applyLine ch c).keep = s.keep := by simp [State.applyLine]
@[simp] theorem State.applyRetrain_keep (ch full) : (s.applyRetrain ch full).keep = s.keep := by simp [State.applyRetrain]
@[simp] theorem State.releaseHeld_keep (bg start) : (s.releaseHeld bg start).keep = s.keep := by simp [State.releaseHeld]
@[simp] theorem State.applyBundle_keep (bg enable mode) : (s.applyBundle bg enable mode).keep = s.keep := by
  unfold State.applyBundle
  split
  · simp
  · rw [State.releaseHeld_keep, State.foldl_keep (fun s c => s.modLine_keep c _), State.modBundle_keep]
@[simp] theorem State.applyTdr_keep (ch reply) : (s.applyTdr ch reply).keep = s.keep := by simp [State.applyTdr]
@[simp] theorem State.undoDrop_keep (ch) : (s.undoDrop ch).keep = s.keep := by simp [State.undoDrop]
@[simp] theorem State.lineFault_keep (ch code) : (s.lineFault ch code).keep = s.keep := by simp [State.lineFault]
@[simp] theorem State.lineSilence_keep (ch code) : (s.lineSilence ch code).keep = s.keep := by simp [State.lineSilence]
@[simp] theorem State.trunkEvent_keep (tr) : (s.trunkEvent tr).keep = s.keep := by simp [State.trunkEvent]
@[simp] theorem State.trunkSt_keep (tr st) : (s.trunkSt tr st).keep = s.keep := by simp [State.trunkSt]
@[simp] theorem State.handOver_keep (tr) : (s.handOver tr).keep = s.keep := by simp [State.handOver]
@[simp] theorem State.trunkDown_keep (tr st) : (s.trunkDown tr st).keep = s.keep := by simp [State.trunkDown]
@[simp] theorem State.trunkStart_keep (tr start) : (s.trunkStart tr start).keep = s.keep := by simp [State.trunkStart]
@[simp] theorem State.trunkFail_keep (tr reason) : (s.trunkFail tr reason).keep = s.keep := by simp [State.trunkFail]
@[simp] theorem State.trunkLost_keep (tr reason) : (s.trunkLost tr reason).keep = s.keep := by simp [State.trunkLost]
@[simp] theorem State.trunkEnterPath_keep (start tr) : (s.trunkEnterPath start tr).keep = s.keep := by
  simp [State.trunkEnterPath]
@[simp] theorem State.trunkRelease_keep (tr) : (s.trunkRelease tr).keep = s.keep := by simp [State.trunkRelease]
@[simp] theorem State.updateBypass_keep (start) : (s.updateBypass start).keep = s.keep := by simp [State.updateBypass]
@[simp] theorem State.applyTrunkSig_keep (tr c) : (s.applyTrunkSig tr c).keep = s.keep := rfl
@[simp] theorem State.applyTrunk_keep (tr c) : (s.applyTrunk tr c).keep = s.keep := by simp [State.applyTrunk]
@[simp] theorem State.applyKindle_keep (tr) : (s.applyKindle tr).keep = s.keep := rfl
@[simp] theorem State.trunkDomain_keep (trs on start) : (s.trunkDomain trs on start).keep = s.keep := by
  simp [State.trunkDomain]
@[simp] theorem State.trunkFault_keep (tr code) : (s.trunkFault tr code).keep = s.keep := by simp [State.trunkFault]
@[simp] theorem State.trunkSilence_keep (tr) : (s.trunkSilence tr).keep = s.keep := by simp [State.trunkSilence]
@[simp] theorem State.trunkCount_keep (tr f) : (s.trunkCount tr f).keep = s.keep := rfl
@[simp] theorem State.modCalUnit_keep (u f) : (s.modCalUnit u f).keep = s.keep := rfl
@[simp] theorem State.modSkimUnit_keep (u f) : (s.modSkimUnit u f).keep = s.keep := rfl
@[simp] theorem State.calFresh_keep (u) : (s.calFresh u).keep = s.keep := by simp [State.calFresh]
@[simp] theorem State.calibrate_keep (u) : (s.calibrate u).keep = s.keep := by simp [State.calibrate]
@[simp] theorem State.calibrateAll_keep (l) : (s.calibrateAll l).keep = s.keep := by simp [State.calibrateAll]
@[simp] theorem State.cutSlice_keep (u) : (s.cutSlice u).keep = s.keep := by simp [State.cutSlice]
@[simp] theorem State.skimDiscard_keep : s.skimDiscard.keep = s.keep := rfl
@[simp] theorem State.skimDomain_keep (d on) : (s.skimDomain d on).keep = s.keep := rfl
@[simp] theorem State.arrive_keep (port f) : (s.arrive port f).keep = s.keep := by simp [State.arrive]
@[simp] theorem State.arriveHost_keep (port f) (sc credits) : (s.arriveHost port f sc credits).keep = s.keep := by
  simp [State.arriveHost]
@[simp] theorem State.dropEvent_keep (ds id cause) : (s.dropEvent ds id cause).keep = s.keep := by simp [State.dropEvent]
@[simp] theorem State.dropSt_keep (ds st) : (s.dropSt ds st).keep = s.keep := by simp [State.dropSt]
@[simp] theorem State.dropUp_keep (ds t) : (s.dropUp ds t).keep = s.keep := by simp [State.dropUp]
@[simp] theorem State.dropDown_keep (ds st) : (s.dropDown ds st).keep = s.keep := by simp [State.dropDown]
@[simp] theorem State.dropStart_keep (ds t) : (s.dropStart ds t).keep = s.keep := by simp [State.dropStart]
@[simp] theorem State.applyDrop_keep (ds c) : (s.applyDrop ds c).keep = s.keep := by simp [State.applyDrop]
@[simp] theorem State.dropReceive_keep (ds id collision arr f) : (s.dropReceive ds id collision arr f).keep = s.keep := by
  simp [State.dropReceive]
@[simp] theorem State.dropFault_keep (ds code) : (s.dropFault ds code).keep = s.keep := by simp [State.dropFault]
@[simp] theorem State.dropSilence_keep (ds) : (s.dropSilence ds).keep = s.keep := by simp [State.dropSilence]
@[simp] theorem State.trunkHandshake_keep (tr follower) : (s.trunkHandshake tr follower).keep = s.keep := by
  simp [State.trunkHandshake]
@[simp] theorem State.trunkChoose_keep (tr) : (s.trunkChoose tr).keep = s.keep := by
  unfold State.trunkChoose
  dsimp only
  (repeat' split) <;> simp
@[simp] theorem State.trunkFirstLoad_keep (tr) : (s.trunkFirstLoad tr).keep = s.keep := by
  unfold State.trunkFirstLoad
  dsimp only
  split <;> simp
@[simp] theorem State.trunkUp_keep (tr) : (s.trunkUp tr).keep = s.keep := by simp [State.trunkUp]
@[simp] theorem State.trunkAdvance_keep (tr) : (s.trunkAdvance tr).keep = s.keep := by simp [State.trunkAdvance]
@[simp] theorem State.trunkForeign_keep (tr cs) : (s.trunkForeign tr cs).keep = s.keep := rfl
@[simp] theorem State.trunkTake_keep (tr cls p) : (s.trunkTake tr cls p).keep = s.keep := by simp [State.trunkTake]
@[simp] theorem State.trunkIdent_keep (tr rt) (serial tick turn follower) :
    (s.trunkIdent tr rt serial tick turn follower).keep = s.keep := by
  simp [State.trunkIdent]
@[simp] theorem State.trunkRecord_keep (tr rt x) : (s.trunkRecord tr rt x).keep = s.keep := by
  unfold State.trunkRecord
  split <;> simp
@[simp] theorem State.trunkArrival_keep (tr fcsOk f) : (s.trunkArrival tr fcsOk f).keep = s.keep := by
  simp [State.trunkArrival]
@[simp] theorem State.trunkDrain_keep (tr n) : (s.trunkDrain tr n).keep = s.keep := by
  induction n generalizing s with
  | zero => rfl
  | succ n ih =>
    unfold State.trunkDrain
    dsimp only
    split
    · rfl
    · simp [ih]
@[simp] theorem State.trunkTlu_keep (tr rt x) : (s.trunkTlu tr rt x).keep = s.keep := by simp [State.trunkTlu]
@[simp] theorem State.trunkDropNow_keep (tr) : (s.trunkDropNow tr).keep = s.keep := by
  unfold State.trunkDropNow
  split <;> simp
@[simp] theorem State.runEdge_keep : s.runEdge.keep = s.keep := by simp [State.runEdge]
@[simp] theorem State.runNow_keep (cause) : (s.runNow cause).keep = s.keep := by simp [State.runNow]
@[simp] theorem State.fabCount_keep (f) : (s.fabCount f).keep = s.keep := rfl
@[simp] theorem State.badType_keep : s.badType.keep = s.keep := rfl
@[simp] theorem State.fabRecord_keep (source cause level) : (s.fabRecord source cause level).keep = s.keep := by
  simp [State.fabRecord]
@[simp] theorem State.abort_keep (c) (refuser code) : (s.abort c refuser code).keep = s.keep := by
  unfold State.abort
  split <;> simp
@[simp] theorem State.topoNew_keep (before) : (s.topoNew before).keep = s.keep := by
  unfold State.topoNew
  dsimp only
  split
  · rfl
  · split <;> simp
@[simp] theorem State.adjNew_keep (f) : (s.adjNew f).keep = s.keep := State.topoNew_keep ..
@[simp] theorem State.adjEnd_keep (root) : (s.adjEnd root).keep = s.keep := by simp [State.adjEnd]
@[simp] theorem State.adjSweep_keep : s.adjSweep.keep = s.keep := by simp [State.adjSweep]
@[simp] theorem State.toTop_keep (b) : (s.toTop b).keep = s.keep := by unfold State.toTop; dsimp only; split <;> simp
@[simp] theorem State.fabConfigure_keep (epoch c) : (s.fabConfigure epoch c).keep = s.keep := by
  unfold State.fabConfigure
  dsimp only
  split_ifs <;> simp
@[simp] theorem State.fabAdopt_keep (epoch c cause) : (s.fabAdopt epoch c cause).keep = s.keep := by simp [State.fabAdopt]
@[simp] theorem State.askCatchup_keep : s.askCatchup.keep = s.keep := by
  unfold State.askCatchup
  (repeat' split) <;> simp
@[simp] theorem State.digestEvent_keep (source lv member leader) :
    (s.digestEvent source lv member leader).keep = s.keep := by
  simp [State.digestEvent]
@[simp] theorem State.compareAt_keep (who lv) : (s.compareAt who lv).keep = s.keep := by simp [State.compareAt]
@[simp] theorem State.compareDigests_keep (who) : (s.compareDigests who).keep = s.keep :=
  State.foldl_keep (fun s lv => s.compareAt_keep who lv) _ _
@[simp] theorem State.installKeys_keep : s.installKeys.keep = s.keep := by simp [State.installKeys]
@[simp] theorem State.electKeys_keep (lv) : (s.electKeys lv).keep = s.keep := by simp [State.electKeys]
@[simp] theorem State.rejoin_keep : s.rejoin.keep = s.keep := by simp [State.rejoin]
@[simp] theorem State.fabStart_keep : s.fabStart.keep = s.keep := by simp [State.fabStart]
@[simp] theorem State.applyLink_keep (root) (fabric macsec boundary) :
    (s.applyLink root fabric macsec boundary).keep = s.keep := by
  simp [State.applyLink]
@[simp] theorem State.countCtl_keep : s.countCtl.keep = s.keep := by
  refine State.foldl_keep (fun s c => ?_) _ _
  split <;> simp
@[simp] theorem State.hostSt_keep (g st) : (s.hostSt g st).keep = s.keep := by simp [State.hostSt]
@[simp] theorem State.hostDown_keep (g st) : (s.hostDown g st).keep = s.keep := by simp [State.hostDown]
@[simp] theorem State.hostStart_keep (g start) : (s.hostStart g start).keep = s.keep := by simp [State.hostStart]
@[simp] theorem State.hostFail_keep (g reason) : (s.hostFail g reason).keep = s.keep := by simp [State.hostFail]
@[simp] theorem State.hostUp_keep (g) : (s.hostUp g).keep = s.keep := by simp [State.hostUp]
@[simp] theorem State.hostRetrainNow_keep (g) : (s.hostRetrainNow g).keep = s.keep := by simp [State.hostRetrainNow]
@[simp] theorem State.hostFault_keep (g code) : (s.hostFault g code).keep = s.keep := by simp [State.hostFault]
@[simp] theorem State.hostSilence_keep (g) : (s.hostSilence g).keep = s.keep := by simp [State.hostSilence]
@[simp] theorem State.hostDomain_keep (gs on start) : (s.hostDomain gs on start).keep = s.keep := by simp [State.hostDomain]
@[simp] theorem State.applyHost_keep (g c retune) : (s.applyHost g c retune).keep = s.keep := by simp [State.applyHost]
@[simp] theorem State.applyPrbs_keep (g p) : (s.applyPrbs g p).keep = s.keep := by simp [State.applyPrbs]
@[simp] theorem State.sideGo_keep (g words) : (s.sideGo g words).keep = s.keep := by simp [State.sideGo]
@[simp] theorem State.sideband_keep (g ctrl words) : (s.sideband g ctrl words).keep = s.keep := by simp [State.sideband]
@[simp] theorem State.laneAcked_keep (g seq) : (s.laneAcked g seq).keep = s.keep := by simp [State.laneAcked]
@[simp] theorem State.hostCount_keep (g f) : (s.hostCount g f).keep = s.keep := rfl
@[simp] theorem State.takeHead_keep (root q d f) : (s.takeHead root q d f).keep = s.keep := rfl
@[simp] theorem State.selectHead_keep (root path q d st) : (s.selectHead root path q d st).keep = s.keep := by
  simp [State.selectHead]
@[simp] theorem State.laneSend_keep (g x sc) : (s.laneSend g x sc).keep = s.keep := by simp [State.laneSend]
@[simp] theorem State.stopLoops_keep : s.stopLoops.keep = s.keep := rfl
@[simp] theorem State.finishOne_keep (r) : (s.finishOne r).keep = s.keep := by
  unfold State.finishOne
  dsimp only
  (repeat' split) <;> simp
@[simp] theorem State.finishRoot_keep (r) : (s.finishRoot r).keep = s.keep := by simp [State.finishRoot]
@[simp] theorem State.domainOff_keep (d keep) : (s.domainOff d keep).keep = s.keep := by simp [State.domainOff]
@[simp] theorem State.domainTrain_keep (d start) : (s.domainTrain d start).keep = s.keep := by simp [State.domainTrain]
@[simp] theorem State.domainOn_keep (d) : (s.domainOn d).keep = s.keep := by simp [State.domainOn]
@[simp] theorem State.heldOn_keep (d w) : (s.heldOn d w).keep = s.keep := by
  refine (State.lineDieHeld_keep ..).trans (State.foldl_keep (fun s ds => ?_) _ _)
  split <;> simp
@[simp] theorem State.wakeRecord_keep (cause source latched) : (s.wakeRecord cause source latched).keep = s.keep := by
  simp [State.wakeRecord]
@[simp] theorem State.traceBoth_keep (type state tick sleep) : (s.traceBoth type state tick sleep).keep = s.keep :=
  State.modPower_keep ..
@[simp] theorem State.setEntry_keep (e) : (s.setEntry e).keep = s.keep := rfl
@[simp] theorem State.holdDie_keep (d) : (s.holdDie d).keep = s.keep := by
  simp [State.holdDie]
@[simp] theorem State.stepA3_keep (e d) : (s.stepA3 e d).keep = s.keep := by
  simp [State.stepA3]
@[simp] theorem State.stepA4_keep (e) : (s.stepA4 e).keep = s.keep := by
  unfold State.stepA4
  split
  · exact State.traceBoth_keep ..
  · exact (State.modCellar_keep ..).trans ((State.skimDiscard_keep _).trans ((State.record_keep ..).trans
    (State.traceBoth_keep ..)))
@[simp] theorem State.stopClocks_keep : s.stopClocks.keep = s.keep := rfl
@[simp] theorem State.suspend_keep : s.suspend.keep = s.keep := rfl
@[simp] theorem State.reachEmber_keep : s.reachEmber.keep = s.keep := rfl
@[simp] theorem State.reach_keep (e) : (s.reach e).keep = s.keep := by unfold State.reach; dsimp only; split <;> simp
@[simp] theorem State.undoSleep_keep (ch) : (s.undoSleep ch).keep = s.keep := by simp [State.undoSleep]
@[simp] theorem State.abandonEntry_keep (e w) : (s.abandonEntry e w).keep = s.keep := by simp [State.abandonEntry]
@[simp] theorem State.entryStep_keep (e) : (s.entryStep e).keep = s.keep := by
  unfold State.entryStep
  dsimp only
  split
  · simp
  · split <;> simp
@[simp] theorem State.closeDue_keep (j) : (s.closeDue j).keep = s.keep := by simp [State.closeDue]
@[simp] theorem State.loseHeld_keep : s.loseHeld.keep = s.keep := by simp [State.loseHeld]
@[simp] theorem State.loseTables_keep : s.loseTables.keep = s.keep := by simp [State.loseTables]
@[simp] theorem State.loseCounters_keep : s.loseCounters.keep = s.keep := by simp [State.loseCounters]
@[simp] theorem State.loseCellar_keep : s.loseCellar.keep = s.keep := by simp [State.loseCellar]
@[simp] theorem State.loseBanks_keep (hub) : (s.loseBanks hub).keep = s.keep := by simp [State.loseBanks]
@[simp] theorem State.modInput_keep (i f) : (s.modInput i f).keep = s.keep := rfl
@[simp] theorem State.dinAgree_keep (i v start) : (s.dinAgree i v start).keep = s.keep := by simp [State.dinAgree]
@[simp] theorem State.dinFault_keep (i) : (s.dinFault i).keep = s.keep := by simp [State.dinFault]
@[simp] theorem State.dinTake_keep (old i) : (s.dinTake old i).keep = s.keep := by simp [State.dinTake]
@[simp] theorem State.applyDin_keep (c) : (s.applyDin c).keep = s.keep := by simp [State.applyDin]
@[simp] theorem State.enterDamped_keep : s.enterDamped.keep = s.keep := rfl
@[simp] theorem State.releaseAll_keep : s.releaseAll.keep = s.keep := rfl
@[simp] theorem State.modThermal_keep (f) : (s.modThermal f).keep = s.keep := rfl
@[simp] theorem State.modSensor_keep (k f) : (s.modSensor k f).keep = s.keep := rfl
@[simp] theorem State.clearPending_keep : s.clearPending.keep = s.keep := by simp [State.clearPending]
@[simp] theorem State.dampEdge_keep : s.dampEdge.keep = s.keep := by simp [State.dampEdge]
@[simp] theorem State.thermalRestart_keep : s.thermalRestart.keep = s.keep := rfl
@[simp] theorem State.applyThermal_keep (warn damp) : (s.applyThermal warn damp).keep = s.keep := rfl
@[simp] theorem State.channelFault_keep (code unit) : (s.channelFault code unit).keep = s.keep := by
  simp [State.channelFault]
@[simp] theorem State.refMeasured_keep (code ok bad good) : (s.refMeasured code ok bad good).1.keep = s.keep := by
  unfold State.refMeasured
  split
  · simp
  · split <;> simp
@[simp] theorem State.calEdgeUnit_keep (u) : (s.calEdgeUnit u).keep = s.keep := by unfold State.calEdgeUnit; split <;> simp
@[simp] theorem State.calEdge_keep : s.calEdge.keep = s.keep := by simp [State.calEdge]
@[simp] theorem State.replayBegin_keep (g) : (s.replayBegin g).keep = s.keep := rfl
@[simp] theorem State.replayTaken_keep (g) : (s.replayTaken g).keep = s.keep := rfl
@[simp] theorem State.spoolRemove_keep (id) : (s.spoolRemove id).keep = s.keep := rfl
@[simp] theorem State.commitStart_keep (lead cfg reply) : (s.commitStart lead cfg reply).keep = s.keep := by
  simp [State.commitStart]
@[simp] theorem State.prepareAsk_keep (lead cfg reply) : (s.prepareAsk lead cfg reply).keep = s.keep := by
  simp [State.prepareAsk]
@[simp] theorem State.prepareTake_keep (root epoch digest act cfg) :
    (s.prepareTake root epoch digest act cfg).keep = s.keep := by
  simp [State.prepareTake]
@[simp] theorem State.prepareRefuse_keep (o epoch c) : (s.prepareRefuse o epoch c).keep = s.keep := by
  simp [State.prepareRefuse]
@[simp] theorem State.requestTake_keep (o) (epoch lead cfg) : (s.requestTake o epoch lead cfg).keep = s.keep := by
  simp [State.requestTake]
@[simp] theorem State.helloGo_keep (root) : (s.helloGo root).keep = s.keep := by simp [State.helloGo]
@[simp] theorem State.helloTake_keep (root h) : (s.helloTake root h).keep = s.keep := by
  unfold State.helloTake
  split <;> simp
@[simp] theorem State.topoTake_keep (root r) : (s.topoTake root r).keep = s.keep := by
  simp only [State.topoTake, State.keep_ite, State.askCatchup_keep, State.compareDigests_keep, State.modFabric_keep,
    State.topoNew_keep, State.fabFlood_keep, ite_self]
@[simp] theorem State.electLevel_keep (lv) : (s.electLevel lv).keep = s.keep := by simp [State.electLevel]
@[simp] theorem State.memberEvents_keep (old new) : (s.memberEvents old new).keep = s.keep := by
  refine (State.foldl_keep (fun s y => s.fabRecord_keep ..) _ _).trans (State.foldl_keep (fun s x => ?_) _ _)
  (repeat' split) <;> simp
@[simp] theorem State.ownEvents_keep (path excl leads) : (s.ownEvents path excl leads).keep = s.keep := by
  simp [State.ownEvents]
@[simp] theorem State.syncGo_keep (origin corr rate) : (s.syncGo origin corr rate).keep = s.keep := by simp [State.syncGo]
@[simp] theorem State.timeOffset_keep (offset need) : (s.timeOffset offset need).keep = s.keep := rfl
@[simp] theorem State.mkaTake_keep (root k) : (s.mkaTake root k).keep = s.keep := by unfold State.mkaTake; split <;> simp
@[simp] theorem State.commitGates_keep (edge) : (s.commitGates edge).keep = s.keep := by simp [State.commitGates]
@[simp] theorem State.lineArrival_keep (ch arr f) : (s.lineArrival ch arr f).keep = s.keep := by simp [State.lineArrival]
@[simp] theorem State.dropArrival_keep (ds arr f) : (s.dropArrival ds arr f).keep = s.keep := by
  unfold State.dropArrival
  split <;> simp
@[simp] theorem State.hostArrival_keep (g arr f) : (s.hostArrival g arr f).keep = s.keep := by simp [State.hostArrival]
@[simp] theorem State.fdbFound_keep (l) : (s.fdbFound l).keep = s.keep := by simp [State.fdbFound]
@[simp] theorem State.replicate_keep (stream l) : (s.replicate stream l).1.keep = s.keep := by
  unfold State.replicate
  dsimp only
  (repeat' split) <;> simp
@[simp] theorem State.enqueueAll_keep (id f tick spooled l) : (s.enqueueAll id f tick spooled l).keep = s.keep := by
  refine State.foldl_keep (fun s d => ?_) _ _
  split <;> simp
@[simp] theorem State.storePlain_keep (f c l) : (s.storePlain f c l).keep = s.keep := by simp [State.storePlain]
/-- What room for a frame is made of leaves the keep-store. -/
theorem State.keep_of_room {t : State} {need k : Nat} {b : Bool} (h : s.spoolRoom need k = (t, b)) : t.keep = s.keep := by
  have := s.spoolRoom_keep need k
  rwa [h] at this
@[simp] theorem State.handFrame_keep (f c l) : (s.handFrame f c l).keep = s.keep := by
  unfold State.handFrame
  extract_lets s₁ l₁ big s₂ l₂ s₃ groups
  have hs : s₃.keep = s.keep := (State.bridgeCount_keep ..).trans ((State.fabCount_keep ..).trans (State.fabCount_keep ..))
  clear_value groups s₃
  rw [← hs]
  split
  · exact State.storePlain_keep ..
  · split
    · next t h => exact (State.enqueueAll_keep ..).trans ((State.spoolPut_keep ..).trans (State.keep_of_room _ h))
    · next t h =>
      rw [State.storePlain_keep, State.foldl_keep (fun s g => s.modSpool_keep g _), State.keep_of_room _ h]
@[simp] theorem State.learn_keep (port vid sa path) : (s.learn port vid sa path).keep = s.keep := by simp [State.learn]
@[simp] theorem State.policeFrame_keep (i f dei) : (s.policeFrame i f dei).2.2.keep = s.keep := by
  unfold State.policeFrame
  dsimp only
  split <;> simp
@[simp] theorem State.filtered_keep : s.filtered.keep = s.keep := rfl
@[simp] theorem State.routeless_keep : s.routeless.keep = s.keep := rfl
@[simp] theorem State.hit_keep (st) : (s.hit st).keep = s.keep := by simp [State.hit]
/-- What a stream with a policer hands on leaves the keep-store. -/
theorem State.keep_of_policed {t : State} {i : Nat} {f : Frame} {dei go mark : Bool} (h : s.policeFrame i f dei = (go, mark,
  t)) :
    t.keep = s.keep := by
  have := s.policeFrame_keep i f dei
  rwa [h] at this
@[simp] theorem State.queueless_keep : s.queueless.keep = s.keep := rfl
@[simp] theorem State.bridgeTo_keep (f c st fabric more) : (s.bridgeTo f c st fabric more).keep = s.keep := by
  unfold State.bridgeTo
  dsimp only
  split
  · split
    · split <;> simp
    · simp
  · simp
@[simp] theorem State.classifyPlain_keep (a) : (s.classifyPlain a).keep = s.keep := by
  unfold State.classifyPlain
  split
  · rfl
  · dsimp only
    split
    · split
      · split
        · split
          · next t h => simpa using State.keep_of_policed _ h
          · next t h => simpa using State.keep_of_policed _ h
        · simp
      · simp
    · simp
@[simp] theorem State.classifyControl_keep (a h c) : (s.classifyControl a h c).keep = s.keep := by
  unfold State.classifyControl
  split <;> simp
@[simp] theorem State.recover_keep (h) : (s.recover h).2.keep = s.keep := by
  unfold State.recover
  dsimp only
  (repeat' split) <;> simp
@[simp] theorem State.decapsulate_keep (a h v c more) : (s.decapsulate a h v c more).keep = s.keep := by
  unfold State.decapsulate
  split
  · dsimp only
    split <;> simp
  · simp
/-- What sequence recovery hands on leaves the keep-store. -/
theorem State.keep_of_recovered {t : State} {h : FabHeader} {b : Bool} (hr : s.recover h = (b, t)) : t.keep = s.keep := by
  have := s.recover_keep h
  rwa [hr] at this
@[simp] theorem State.classifyData_keep (a h c) : (s.classifyData a h c).keep = s.keep := by
  unfold State.classifyData
  cases s.vlanOf a.port a.frame <;> dsimp only
  all_goals
    split
    · simp
    · split
      · split
        · next t ht => simpa using State.keep_of_recovered _ ht
        · next t ht => simpa using State.keep_of_recovered _ ht
      · split <;> simp
@[simp] theorem State.classifyFabric_keep (a) : (s.classifyFabric a).keep = s.keep := by
  unfold State.classifyFabric
  dsimp only
  (repeat' split) <;> simp
@[simp] theorem State.creditBack_keep (a) : (s.creditBack a).keep = s.keep := by unfold State.creditBack; split <;> simp
@[simp] theorem State.classifyOne_keep : s.classifyOne.keep = s.keep := by unfold State.classifyOne; split <;> simp
@[simp] theorem State.classifyAll_keep : s.classifyAll.keep = s.keep := by simp [State.classifyAll]
@[simp] theorem State.applyPlan_keep (p q ref) : (s.applyPlan p q ref).keep = s.keep := rfl
@[simp] theorem State.ppsLow_keep : s.ppsLow.keep = s.keep := by simp [State.ppsLow]
@[simp] theorem State.applyGate_keep (en) : (s.applyGate en).keep = s.keep := by simp [State.applyGate]
@[simp] theorem State.applyPps_keep (c) : (s.applyPps c).keep = s.keep := by simp [State.applyPps]
@[simp] theorem State.steerBy_keep (offset) : (s.steerBy offset).keep = s.keep := rfl
@[simp] theorem State.clkoutGo_keep (c) : (s.clkoutGo c).keep = s.keep := rfl
@[simp] theorem State.clkoutWrite_keep (w) : (s.clkoutWrite w).keep = s.keep := by simp [State.clkoutWrite]
@[simp] theorem State.clkoutResume_keep : s.clkoutResume.keep = s.keep := rfl
@[simp] theorem State.clkoutBack_keep (t : State) : (s.clkoutBack t).keep = t.keep := by simp [State.clkoutBack]
@[simp] theorem State.watch_keep (code present) : (s.watch code present).keep = s.keep := by simp [State.watch]
@[simp] theorem State.crystal_keep (running xb count) : (s.crystal running xb count).keep = s.keep := by simp [State.crystal]
@[simp] theorem State.applySelftest_keep (groups skipped) : (s.applySelftest groups skipped).keep = s.keep := by
  simp [State.applySelftest]
@[simp] theorem State.isolate_keep (u) : (s.isolate u).keep = s.keep := by simp [State.isolate]
@[simp] theorem State.rejoinUnit_keep (u) : (s.rejoinUnit u).keep = s.keep := by simp [State.rejoinUnit]
@[simp] theorem State.testEnd_keep (u check) : (s.testEnd u check).keep = s.keep := by simp [State.testEnd]
@[simp] theorem State.testFault_keep (u) : (s.testFault u).keep = s.keep := by simp [State.testFault]
@[simp] theorem State.skimEnd_keep (u result check) : (s.skimEnd u result check).keep = s.keep := by simp [State.skimEnd]
@[simp] theorem State.skimEdgeUnit_keep (u) : (s.skimEdgeUnit u).keep = s.keep := by
  unfold State.skimEdgeUnit
  dsimp only
  split <;> simp
@[simp] theorem State.skimEdge_keep : s.skimEdge.keep = s.keep := by simp [State.skimEdge]
@[simp] theorem State.applySkim_keep (period enable count) : (s.applySkim period enable count).keep = s.keep := by
  simp [State.applySkim]
@[simp] theorem State.readFuses_keep : s.readFuses.keep = s.keep := rfl
@[simp] theorem State.blowState_keep (target) : (s.blowState target).keep = s.keep := by simp [State.blowState]
@[simp] theorem State.blowSeal_keep : s.blowSeal.keep = s.keep := by simp [State.blowSeal]
@[simp] theorem State.romClock_keep (ck r) : (s.romClock ck r).keep = s.keep := rfl
@[simp] theorem State.badWords_keep : s.badWords.keep = s.keep := by
  simp only [State.badWords, State.keep_ite, State.notice_keep, ite_self, State.foldl_keep, implies_true]
@[simp] theorem State.loadTrims_keep : s.loadTrims.keep = s.keep :=
  (State.modCal_keep ..).trans (State.foldl_keep (fun s k => s.modSensor_keep k _) _ _)
@[simp] theorem State.lockAll_keep : s.lockAll.keep = s.keep := rfl
@[simp] theorem State.emberStart_keep : s.emberStart.keep = s.keep := by
  unfold State.emberStart
  split
  · exact (State.wakeRecord_keep ..).trans ((State.doorbell_keep ..).trans ((State.traceBoth_keep ..).trans
    (State.modPower_keep ..)))
  · rfl
@[simp] theorem State.fwStart_keep (b fallback h) : (s.fwStart b fallback h).keep = s.keep := by simp [State.fwStart]
@[simp] theorem State.msgWrite_keep (ch k data) : (s.msgWrite ch k data).keep = s.keep := by simp [State.msgWrite]
@[simp] theorem State.goWrite_keep (ch ctrl) : (s.goWrite ch ctrl).keep = s.keep := by simp [State.goWrite]
@[simp] theorem State.cancelWrite_keep (ch ctrl) : (s.cancelWrite ch ctrl).keep = s.keep := by simp [State.cancelWrite]
@[simp] theorem State.ackClr_keep (ch data) : (s.ackClr ch data).keep = s.keep := by simp [State.ackClr]
@[simp] theorem State.dbClear_keep (mask events) : (s.dbClear mask events).keep = s.keep := rfl
@[simp] theorem State.dbMaskWrite_keep (mask) : (s.dbMaskWrite mask).keep = s.keep := rfl
@[simp] theorem State.dbTest_keep (data) : (s.dbTest data).keep = s.keep := by simp [State.dbTest]
@[simp] theorem State.chanWrite_keep (ch off data) : (s.chanWrite ch off data).keep = s.keep := by
  unfold State.chanWrite
  split_ifs <;> simp
@[simp] theorem State.windowWrite_keep (p addr data) : (s.windowWrite p addr data).keep = s.keep := by
  unfold State.windowWrite
  split_ifs <;> simp
@[simp] theorem State.csEnd_keep (p) : (s.csEnd p).keep = s.keep := by unfold State.csEnd; split <;> simp
@[simp] theorem State.holdTick_keep (p) : (s.holdTick p).keep = s.keep := by unfold State.holdTick; split <;> simp
@[simp] theorem State.access_keep (p x) : (s.access p x).keep = s.keep := by
  unfold State.access
  (repeat' split) <;> simp
@[simp] theorem State.sameCycle_keep (msp ssp) : (s.sameCycle msp ssp).keep = s.keep := by simp [State.sameCycle]
@[simp] theorem State.refusePeer_keep (p c) : (s.refusePeer p c).keep = s.keep := by simp [State.refusePeer]
@[simp] theorem State.hostAlign_keep (g b) : (s.hostAlign g b).keep = s.keep := by unfold State.hostAlign; split <;> simp
@[simp] theorem State.hostFastExit_keep (g b) : (s.hostFastExit g b).keep = s.keep := by simp [State.hostFastExit]
@[simp] theorem State.sendNak_keep (g) : (s.sendNak g).keep = s.keep := rfl
@[simp] theorem State.reject_keep (g) : (s.reject g).keep = s.keep := by simp [State.reject]
@[simp] theorem State.spoolAck_keep (g n) : (s.spoolAck g n).keep = s.keep := by simp [State.spoolAck]
@[simp] theorem State.laneResend_keep (g) : (s.laneResend g).keep = s.keep := by simp [State.laneResend]
@[simp] theorem State.laneFields_keep (g p) : (s.laneFields g p).keep = s.keep := by simp [State.laneFields]
@[simp] theorem State.creditViolation_keep (g) : (s.creditViolation g).keep = s.keep := rfl
@[simp] theorem State.laneFrame_keep (g p) : (s.laneFrame g p).keep = s.keep := by unfold State.laneFrame; split <;> simp
@[simp] theorem State.laneSide_keep (g p) : (s.laneSide g p).keep = s.keep := by unfold State.laneSide; split <;> simp
@[simp] theorem State.laneSequenced_keep (g p) : (s.laneSequenced g p).keep = s.keep := by simp [State.laneSequenced]
@[simp] theorem State.laneUp_keep (g p) : (s.laneUp g p).keep = s.keep := by simp [State.laneUp]
@[simp] theorem State.laneCheck_keep (g p) : (s.laneCheck g p).keep = s.keep := by simp [State.laneCheck]
@[simp] theorem State.txOutcome_keep (ch allowed) : (s.txOutcome ch allowed).keep = s.keep := by
  unfold State.txOutcome
  dsimp only
  split <;> simp only [State.keep_ite, State.modLine_keep, State.lineDown_keep, State.lineStart_keep, ite_self]
  all_goals split <;> simp
@[simp] theorem State.resumeReject_keep (ch) : (s.resumeReject ch).keep = s.keep := by simp [State.resumeReject]
@[simp] theorem State.stageInfo_keep (ch i) : (s.stageInfo ch i).keep = s.keep := by simp [State.stageInfo]
@[simp] theorem State.stageEqualise_keep (ch f i) : (s.stageEqualise ch f i).keep = s.keep := by simp [State.stageEqualise]
@[simp] theorem State.stagePrecode_keep (ch i) : (s.stagePrecode ch i).keep = s.keep := by simp [State.stagePrecode]
@[simp] theorem State.stageResume_keep (ch i) : (s.stageResume ch i).keep = s.keep := by simp [State.stageResume]
@[simp] theorem State.trainStage_keep (ch f i) : (s.trainStage ch f i).keep = s.keep := by
  unfold State.trainStage
  dsimp only
  split <;> simp
@[simp] theorem State.lpiEnter_keep (ch) : (s.lpiEnter ch).keep = s.keep := by simp [State.lpiEnter]
@[simp] theorem State.quietEnd_keep (root) : (s.quietEnd root).keep = s.keep := by simp [State.quietEnd]
@[simp] theorem State.trunkAnnounce_keep (tr) : (s.trunkAnnounce tr).keep = s.keep := by simp [State.trunkAnnounce]
@[simp] theorem State.sendUnit_keep (tr n) : (s.sendUnit tr n).keep = s.keep := by simp [State.sendUnit]
@[simp] theorem State.sendUnits_keep (tr n k) : (s.sendUnits tr n k).keep = s.keep := by
  induction k generalizing s with
  | zero => rfl
  | succ k ih => simp [State.sendUnits, ih]
@[simp] theorem State.fillBurst_keep (tr d) : (s.fillBurst tr d).keep = s.keep := by simp [State.fillBurst]
@[simp] theorem State.firstHello_keep : s.firstHello.keep = s.keep := by simp [State.firstHello]
@[simp] theorem State.restart_keep (sleep) : (s.restart sleep).keep = s.keep := rfl
@[simp] theorem State.resumeRecords_keep (w) : (s.resumeRecords w).keep = s.keep :=
  (State.record_keep ..).trans ((State.doorbell_keep ..).trans ((State.wakeRecord_keep ..).trans
    ((State.flushDeferred_keep _).trans (State.traceBoth_keep ..))))
@[simp] theorem State.freshAttempts_keep : s.freshAttempts.keep = s.keep := rfl
@[simp] theorem State.reopen_keep (e w) : (s.reopen e w).keep = s.keep := by simp [State.reopen]
@[simp] theorem State.applyBypass_keep : s.applyBypass.keep = s.keep := by simp [State.applyBypass]
@[simp] theorem State.applyCfg_keep (x) : (s.applyCfg x).keep = s.keep := by unfold State.applyCfg; split <;> simp
@[simp] theorem State.commitConfig_keep : s.commitConfig.keep = s.keep := rfl
@[simp] theorem State.configEdge_keep : s.configEdge.keep = s.keep := by simp [State.configEdge]
@[simp] theorem State.configKept_keep : s.configKept.keep = s.keep := by simp [State.configKept]
@[simp] theorem State.shift_keep (d) : (s.shift d).keep = s.keep := rfl
@[simp] theorem State.commitCounters_keep : s.commitCounters.keep = s.keep := rfl
@[simp] theorem State.commitCredits_keep : s.commitCredits.keep = s.keep := rfl
@[simp] theorem State.commit_keep : s.commit.keep = s.keep := by simp [State.commit]
@[simp] theorem State.silence_keep (root code) : (s.silence root code).keep = s.keep := by simp [State.silence]
@[simp] theorem State.edgeAct_keep (x) : (s.edgeAct x).keep = s.keep := by unfold State.edgeAct; split <;> simp
@[simp] theorem State.advance_keep : s.advance.keep = s.keep := by unfold State.advance; dsimp only; split <;> simp
@[simp] theorem State.edgeLines_keep : s.edgeLines.keep = s.keep := rfl
@[simp] theorem State.edgeTx_keep (ch) : (s.edgeTx ch).keep = s.keep := by
  unfold State.edgeTx
  split <;> simp
@[simp] theorem State.edgeViews_keep (ended) : (s.edgeViews ended).keep = s.keep := rfl
@[simp] theorem State.edgeJoin_keep (ch) : (s.edgeJoin ch).keep = s.keep := by unfold State.edgeJoin; split <;> simp
@[simp] theorem State.edgeSpool_keep (g) : (s.edgeSpool g).keep = s.keep := by unfold State.edgeSpool; split <;> simp
@[simp] theorem State.edgeSteward_keep : s.edgeSteward.keep = s.keep := by unfold State.edgeSteward; split <;> simp
@[simp] theorem State.edgeReady_keep : s.edgeReady.keep = s.keep := by simp [State.edgeReady]

end

/-! ## The canonical form as a property of the keep-store alone (R586) -/

/-- The store and the hearth's cache are in canonical form, and a command under way writes words of the store only. -/
def KeepSt.wf (k : KeepSt) : Prop :=
  Memory.wf k.words 512 = true ∧ Memory.wf k.cache 512 = true ∧ ∀ j, k.job = some j → ∀ e ∈ j.words, e.1 < 512

theorem State.keepWf_iff (s : State) : s.keepWf ↔ s.keep.wf := Iff.rfl

/-- What holds before every element of a list and is kept by each holds after all of them. -/
theorem State.foldl_keepWf {α : Type} {f : State → α → State} (hf : ∀ s a,
  s.keep.wf → (f s a).keep.wf) (l : List α) {s : State}
    (h : s.keep.wf) : (l.foldl f s).keep.wf := by
  induction l generalizing s with
  | nil => exact h
  | cons a l ih => exact ih (hf s a h)

section
variable {s : State} (h : s.keep.wf)
include h

/-! ## Writing words (R589 to R591) -/

/-- A word of the store that completes keeps both memories canonical; the command under way is not touched. -/
theorem State.keepPut_keepWf {w : Nat} (v : Word) (hw : w < 512) : (s.keepPut w v).keep.wf := by
  obtain ⟨hm, hc, hj⟩ := h
  obtain ⟨hm', hc'⟩ := s.keepPut_wf v hw hm hc
  refine ⟨hm', hc', ?_⟩
  have hjob : (s.keepPut w v).keep.job = s.keep.job := by
    unfold State.keepPut
    dsimp only
    split <;> simp
  rwa [hjob]

/-- A command that is given up, or has ended, leaves nothing that would be written. -/
theorem KeepSt.wf_withoutJob : KeepSt.wf { s.keep with job := none } := ⟨h.1, h.2.1, fun _ hj => nomatch hj⟩

theorem KeepSt.wf_withJob {j : KeepJob} (hj : ∀ e ∈ j.words, e.1 < 512) : KeepSt.wf { s.keep with job := some j } :=
  ⟨h.1, h.2.1, fun k hk => by cases hk; exact hj⟩

@[simp] theorem State.keepCutShort_keepWf : s.keepCutShort.keep.wf := (s.keepCutShort_wf h).1

@[simp] theorem State.keepDone_keepWf (j) : (s.keepDone j).keep.wf := by
  have hw := KeepSt.wf_withoutJob h
  unfold State.keepDone
  dsimp only
  split_ifs <;> simpa using hw

omit h in
/-- The fuses that an advance blows leave the keep-store. -/
theorem State.keepFuses_keep {t : State} {j : KeepJob} (ht : s.keepFuses j = some t) : t.keep = s.keep := by
  rw [State.keepFuses_frame ht]

theorem State.keepNext_keepWf {j : KeepJob} (hj : ∀ e ∈ j.words, e.1 < 512) : (s.keepNext j).keep.wf := by
  unfold State.keepNext
  split
  · exact State.keepDone_keepWf h j
  · split
    · next t ht =>
      have hk := State.keepFuses_keep ht
      exact KeepSt.wf_withJob (hk ▸ h) hj
    · simpa using KeepSt.wf_withoutJob h

@[simp] theorem State.keepStep_keepWf : s.keepStep.keep.wf := by
  unfold State.keepStep
  split
  · exact h
  · next j hs =>
    split
    · exact State.keepDone_keepWf h j
    · next w v rest hl =>
      have hj := h.2.2 j hs
      rw [hl] at hj
      exact State.keepNext_keepWf (State.keepPut_keepWf h v (hj _ List.mem_cons_self))
        (fun e he => hj e (List.mem_cons_of_mem _ he))

theorem State.keepStart_keepWf {ws : List (Nat × Word)} (hw : ∀ e ∈ ws,
  e.1 < 512) (op extra : Nat) (reply : Option ReplyTo) :
    (s.keepStart ws op extra reply).keep.wf := s.keepStart_wf ws op extra reply h hw

/-! ## FATAL faults and resets (R82, R542, R589) -/

@[simp] theorem State.kill_keepWf : s.kill.keep.wf := by
  unfold State.kill
  exact State.keepCutShort_keepWf (by simpa using h)
@[simp] theorem State.fatal_keepWf (code unit detail) : (s.fatal code unit detail).keep.wf := by
  have hr : (s.recordFault code unit detail).keep.wf := h
  unfold State.fatal
  dsimp only
  split_ifs
  · exact hr
  · exact State.kill_keepWf hr
  · simpa using State.kill_keepWf hr
@[simp] theorem State.collectorCheck_keepWf : s.collectorCheck.keep.wf := by
  unfold State.collectorCheck
  split <;> simp [h]
@[simp] theorem State.tokenCheck_keepWf : s.tokenCheck.keep.wf := by
  unfold State.tokenCheck
  split <;> simp [h]
@[simp] theorem State.collectorParity_keepWf (unit) : (s.collectorParity unit).keep.wf := State.collectorCheck_keepWf h
@[simp] theorem State.collectorDup_keepWf : s.collectorDup.keep.wf := by
  unfold State.collectorDup
  split
  · exact State.collectorCheck_keepWf h
  · exact h
@[simp] theorem State.tokenBad_keepWf (unit) : (s.tokenBad unit).keep.wf := State.tokenCheck_keepWf h
@[simp] theorem State.retire_keepWf (page) : (s.retire page).keep.wf := by
  unfold State.retire
  split_ifs <;> simp [h]
@[simp] theorem State.uncorrectable_keepWf (site) : (s.uncorrectable site).keep.wf := by
  unfold State.uncorrectable
  split
  · cases site <;> simp [h]
  · exact h
@[simp] theorem State.unlock_keepWf (loop) : (s.unlock loop).keep.wf := State.fatal_keepWf (by simpa using h) _ _ _
@[simp] theorem State.unlockAll_keepWf : s.unlockAll.keep.wf :=
  State.foldl_keepWf (fun _ l hs => State.unlock_keepWf hs l) _ h
@[simp] theorem State.fio_keepWf (running) : (s.fio running).keep.wf := by
  have hm : (s.modClock (fun c => { c with runFio := running })).keep.wf := h
  unfold State.fio
  dsimp only
  split_ifs
  · simpa using hm
  · exact State.unlockAll_keepWf hm
  · simpa using hm
@[simp] theorem State.stewardNmi_keepWf (lost) : (s.stewardNmi lost).keep.wf := by
  unfold State.stewardNmi
  split <;> simp [h]
@[simp] theorem State.romNmi_keepWf : s.romNmi.keep.wf := by
  unfold State.romNmi
  split_ifs
  · exact h
  · exact h
  · exact State.fatal_keepWf (by simpa using h) _ _ _

/-- After a reset the cache holds the store again and no command is under way (R82, R590). -/
@[simp] theorem State.resetTo_keepWf (cause rail) : (s.resetTo cause rail).keep.wf := by
  obtain ⟨hm, -, -⟩ := State.keepCutShort_keepWf h
  exact ⟨hm, hm, fun _ hj => nomatch hj⟩
@[simp] theorem State.keepTorn_keepWf : s.keepTorn.keep.wf := by
  unfold State.keepTorn
  split
  · exact h
  · split
    · exact h
    · split
      · exact State.keepCutShort_keepWf h
      · exact KeepSt.wf_withoutJob h
@[simp] theorem State.bootFail_keepWf (code) : (s.bootFail code).keep.wf := State.fatal_keepWf (by simpa using h) _ _ _
@[simp] theorem State.romStart_keepWf (ck) : (s.romStart ck).keep.wf := by
  unfold State.romStart
  split <;> simp [h]
@[simp] theorem State.romBoot_keepWf (fl) : (s.romBoot fl).keep.wf := by
  unfold State.romBoot
  split
  · simp [h]
  · split <;> simp [h]

end

/-! ## Replies, and the bodies of the mailbox commands -/

/-- The state that a reply carries, where it carries one, has a canonical keep-store. -/
def Reply.keepWf : Reply → Prop
  | .ok _ s | .part _ _ s | .later s | .silent s => s.keep.wf
  | .err _ => True

/-- The body of a row keeps the canonical form, whatever the message. -/
def Row.keepWf (r : Row) : Prop := ∀ m s, s.keep.wf → (r.2 m s).keepWf

@[simp] theorem Reply.keepWf_ok (ret : List Word) (s : State) : (Reply.ok ret s).keepWf ↔ s.keep.wf := Iff.rfl
@[simp] theorem Reply.keepWf_part (c : Code) (ret : List Word) (s : State) : (Reply.part c ret s).keepWf ↔ s.keep.wf :=
  Iff.rfl
@[simp] theorem Reply.keepWf_later (s : State) : (Reply.later s).keepWf ↔ s.keep.wf := Iff.rfl
@[simp] theorem Reply.keepWf_silent (s : State) : (Reply.silent s).keepWf ↔ s.keep.wf := Iff.rfl
@[simp] theorem Reply.keepWf_err (c : Code) : (Reply.err c).keepWf := trivial
@[simp] theorem Reply.keepWf_unless (cause : Bool) (c : Code) (k : Reply) :
    (Reply.unless cause c k).keepWf ↔ (cause = false → k.keepWf) := by
  cases cause <;> simp [Reply.unless]
@[simp] theorem Reply.keepWf_ite (p : Prop) [Decidable p] (k l : Reply) :
    (if p then k else l).keepWf ↔ if p then k.keepWf else l.keepWf := by
  split <;> rfl
/-! ### The words that commands write lie in the store (R593) -/

theorem mem_commitUnits_lt {m : Msg} {u : Nat} (hu : u ∈ commitUnits m) : u < 136 := by
  simp only [commitUnits, List.mem_append, List.mem_map, List.mem_filter, List.mem_range] at hu
  omega
theorem mem_advanceWords_lt {s : State} {target : Nat} {blow : Bool} {e : Nat × Word} (ht : target ≤ 4)
  (he : e ∈ s.advanceWords target blow) :
    e.1 < 512 := by
  simp only [State.advanceWords, List.mem_append] at he
  rcases he with (he | he) | he
  · split at he
    · simp only [List.mem_cons, List.mem_map, List.mem_range] at he
      rcases he with rfl | ⟨i, hi, rfl⟩
      · decide
      · dsimp only; omega
    · cases he
  · split at he
    · cases he
    · rw [List.mem_singleton.1 he]
      dsimp only; omega
  · split at he
    · rw [List.mem_singleton.1 he]
      exact (by decide : 461 < 512)
    · cases he

section
variable {s : State} (h : s.keep.wf)
include h

theorem cmdGuaranteeStatus_keepWf (m) : (cmdGuaranteeStatus m s).keepWf := by
  simp only [cmdGuaranteeStatus, Reply.keepWf_unless]
  intro _
  split <;> simp [h]
theorem cmdGuaranteeSet_keepWf (m) : (cmdGuaranteeSet m s).keepWf := by
  have hadd : (cmdGuarAdd m s).keepWf := by
    simp only [cmdGuarAdd, Reply.keepWf_unless]
    intro _
    split <;> simp [h]
  simp [cmdGuaranteeSet, cmdGuarDel, hadd, h]
theorem cmdFdbEntry_keepWf (m) : (cmdFdbEntry m s).keepWf := by
  simp only [cmdFdbEntry, Reply.keepWf_unless]
  intro _ _ _
  split <;> simp [h]
theorem cmdStreamSet_keepWf (m) : (cmdStreamSet m s).keepWf := by
  simp only [cmdStreamSet, Reply.keepWf_unless]
  intro _ _
  (repeat' split) <;> simp [h]
theorem cmdFrerStatus_keepWf (m) : (cmdFrerStatus m s).keepWf := by
  simp only [cmdFrerStatus, Reply.keepWf_unless]
  intro _
  split <;> simp [h]
theorem State.stage_keepWf (c) : (s.stage c).keepWf := h

/-! ### The commands that write words of the store (R593) -/

theorem cmdKeepWrite_keepWf (m) : (cmdKeepWrite m s).keepWf := by
  simp only [cmdKeepWrite, Reply.keepWf_unless]
  intro hbad _ _
  refine State.keepStart_keepWf h (fun e he => ?_) _ _ _
  obtain ⟨k, hk, rfl⟩ := List.mem_map.1 he
  simp at hbad hk
  dsimp only
  omega
theorem cmdBypassSetPolicy_keepWf (m) : (cmdBypassSetPolicy m s).keepWf := by
  simp only [cmdBypassSetPolicy, Reply.keepWf_unless]
  intro _ _ _
  exact State.keepStart_keepWf h (by simp) _ _ _
theorem cmdFabricSetIdentity_keepWf (m) : (cmdFabricSetIdentity m s).keepWf := by
  simp only [cmdFabricSetIdentity, Reply.keepWf_unless]
  intro _ _ _ _
  refine State.keepStart_keepWf h ?_ _ _ _
  simp only [identityWords, List.mem_append, List.mem_cons, List.mem_map, List.mem_range]
  rintro e ((rfl | ⟨i, hi, rfl⟩) | rfl | he)
  · exact (by decide : 448 < 512)
  · dsimp only; omega
  · exact (by decide : 448 < 512)
  · cases he
theorem cmdCalCommit_keepWf (m) : (cmdCalCommit m s).keepWf := by
  simp only [cmdCalCommit, Reply.keepWf_unless]
  intro _ _ _ _ _
  refine State.keepStart_keepWf ?_ (fun e he => ?_) _ _ _
  · rw [State.keep_ite, State.foldl_keep (fun s k => s.modSensor_keep k _), ite_self]
    exact h
  · simp only [State.commitWords, List.mem_append] at he
    rcases he with (he | he) | he
    · obtain ⟨u, hu, rfl⟩ := List.mem_map.1 he
      have := mem_commitUnits_lt hu
      dsimp only
      omega
    · split at he
      · obtain ⟨k, hk, rfl⟩ := List.mem_map.1 he
        have := List.mem_range.1 hk
        dsimp only
        omega
      · cases he
    · split at he
      · rw [List.mem_singleton.1 he]
        exact (by decide : 402 < 512)
      · cases he
theorem cmdLifecycleAdvance_keepWf (m) : (cmdLifecycleAdvance m s).keepWf := by
  simp only [cmdLifecycleAdvance, Reply.keepWf_unless]
  intro hbad _ _ _ _
  have ht : m.get 1 0 3 ≤ 4 := by
    simp at hbad
    omega
  rw [Reply.keepWf_ite]
  split
  · simpa using h
  · exact State.keepNext_keepWf (by simpa using h) (fun e he => mem_advanceWords_lt ht he)

end

theorem generalRows_keepWf : ∀ r ∈ generalRows, r.keepWf := by
  simp +contextual [generalRows, Row.keepWf, cmdEcho, cmdEventRead, cmdStewardMove, cmdDeviceReset, cmdPeerKeySet]
theorem bootRows_keepWf : ∀ r ∈ bootRows, r.keepWf := by
  simp +contextual [bootRows, Row.keepWf, cmdRollbackAdvance]
theorem powerRows_keepWf : ∀ r ∈ powerRows, r.keepWf := by
  simp +contextual [powerRows, Row.keepWf, cmdPowerDomainSet, cmdPowerEnter, cmdWakeConfig, cmdPowerStatus]
theorem clockRows_keepWf : ∀ r ∈ clockRows, r.keepWf := by
  simp +contextual [clockRows, Row.keepWf, cmdClockPlan, cmdClockStatus, cmdClockGate, cmdPpsConfig]
theorem lineRows_keepWf : ∀ r ∈ lineRows, r.keepWf := by
  simp +contextual [lineRows, Row.keepWf, cmdLineConfig, cmdLineStatus, cmdLineRetrain, cmdLineOamSend, cmdLineOamRead,
    cmdBundleConfig, cmdBundleStatus, cmdRxAdaptConfig, cmdRxStatus, cmdRxTapsRead, cmdLineCounters, cmdLineQuality,
    cmdLineWatchConfig, cmdLineTdr, cmdCableHealth]
theorem dropRows_keepWf : ∀ r ∈ dropRows, r.keepWf := by
  simp +contextual [dropRows, Row.keepWf, cmdDropConfig, cmdDropStatus, cmdDropCounters]
theorem trunkRows_keepWf : ∀ r ∈ trunkRows, r.keepWf := by
  simp +contextual [trunkRows, Row.keepWf, cmdTrunkSignalConfig, cmdTrunkSignalStatus, cmdTrunkLoadingRead,
    cmdTrunkSignalCounters,
    cmdTrunkConfig, cmdTrunkStatus, cmdBypassSetPolicy_keepWf, cmdTrunkKindle, cmdTrunkReflect]
theorem hostRows_keepWf : ∀ r ∈ hostRows, r.keepWf := by
  simp +contextual [hostRows, Row.keepWf, cmdHostConfig, cmdHostStatus, cmdHostCounters, cmdHostPrbs]
theorem forwardRows_keepWf : ∀ r ∈ forwardRows, r.keepWf := by
  simp +contextual [forwardRows, Row.keepWf, cmdPortBridgeConfig, cmdVlanSet, cmdFdbConfig, cmdFdbEntry_keepWf, cmdFdbStatus,
    cmdStreamSet_keepWf, cmdNodeSet, cmdNodeDel, cmdNodeAdd, cmdQueueSet, cmdQueueDel, cmdQueueAdd, cmdQueueFlush,
    cmdQueueStats]
theorem rateRows_keepWf : ∀ r ∈ rateRows, r.keepWf := by
  simp +contextual [rateRows, Row.keepWf, cmdRootSet, cmdShaperSet, cmdShaperRead, cmdPolicerSet, cmdPolicerStats,
    cmdGateListWrite, cmdGateListCommit, cmdGuaranteeSet_keepWf, cmdGuaranteeStatus_keepWf]
theorem cellarRows_keepWf : ∀ r ∈ cellarRows, r.keepWf := by
  simp +contextual [cellarRows, Row.keepWf, cmdSpoolConfig, cmdSpoolStatus, cmdSpoolReplay, cmdCellarStatus]
theorem fabricRows_keepWf : ∀ r ∈ fabricRows, r.keepWf := by
  simp +contextual [fabricRows, Row.keepWf, cmdFabricSetIdentity_keepWf, cmdFabricLinkSet, cmdFabricStatus, cmdFabricStage,
    State.stage_keepWf, cmdFabricPrepare, cmdFrerStatus_keepWf]
theorem faultRows_keepWf : ∀ r ∈ faultRows, r.keepWf := by
  simp +contextual [faultRows, Row.keepWf, cmdFaultStatus, cmdFaultClear, cmdFaultConfig, cmdThermalSet, cmdThermalStatus,
    cmdDinConfig, cmdDinStatus, cmdFaultInject]
theorem testRows_keepWf : ∀ r ∈ testRows, r.keepWf := by
  simp +contextual [testRows, Row.keepWf, cmdCalConfig, cmdCalStatus, cmdCalCommit_keepWf, cmdSelftestRun, cmdSelftestResult,
    cmdSkimConfig, cmdSkimStatus]
theorem keepRows_keepWf : ∀ r ∈ keepRows, r.keepWf := by
  simp +contextual [keepRows, Row.keepWf, cmdKeepWrite_keepWf, cmdKeepStatus, cmdTokenLoad, cmdLifecycleAdvance_keepWf]
theorem rows_keepWf : ∀ r ∈ rows, r.keepWf := by
  simp only [rows, List.forall_mem_append]
  exact ⟨⟨⟨⟨⟨⟨⟨⟨⟨⟨⟨⟨⟨⟨generalRows_keepWf, bootRows_keepWf⟩, powerRows_keepWf⟩, clockRows_keepWf⟩, lineRows_keepWf⟩,
    dropRows_keepWf⟩,
    trunkRows_keepWf⟩, hostRows_keepWf⟩, forwardRows_keepWf⟩, rateRows_keepWf⟩, cellarRows_keepWf⟩, fabricRows_keepWf⟩,
      faultRows_keepWf⟩,
    testRows_keepWf⟩, keepRows_keepWf⟩

/-! ## The dispatcher (R119, R122 to R126) -/

section
variable {s : State} (h : s.keep.wf)
include h

omit h in
theorem State.execute_keepWf {known : Option Cmd} {op : Nat} {m : Msg} {body : Msg → State → Reply}
    (hb : (body m s).keepWf) : (s.execute known op m body).keepWf := by
  unfold State.execute
  split
  · trivial
  · exact hb

theorem State.settle_keepWf (rt : ReplyTo) {r : Reply} (hr : r.keepWf) : (s.settle rt r).keep.wf := by
  cases r with
  | err c => simpa [State.settle] using h
  | ok ret t => simpa [State.settle] using hr
  | part c ret t => simpa [State.settle] using hr
  | later t => exact hr
  | silent t => exact hr

theorem State.mailbox_keepWf (cmd : Cmd) (m : Msg) {body : Msg → State → Reply}
    (hb : ∀ d, d.keep.wf → (body m d).keepWf) : (s.mailbox cmd m body).keep.wf := by
  unfold State.mailbox
  dsimp only
  split
  · split
    · simpa using h
    · exact State.settle_keepWf (by simpa using h) _ (State.execute_keepWf (hb _ (by simpa using h)))
  · simpa using h

/-! ## Replay of a configuration image (R102, R103) -/

theorem State.answerImage_keepWf (ws : List Word) : (s.answerImage ws).keepWf := by
  unfold State.answerImage
  dsimp only
  split
  · exact State.execute_keepWf (by simp)
  · split
    · next c body hr => exact State.execute_keepWf (rows_keepWf _ (List.mem_of_find?_eq_some hr) _ _ h)
    · exact State.execute_keepWf h

theorem State.replayOn_keepWf (done : Nat) (reply : Option ReplyTo) (msgs : List (List Word)) :
    (s.replayOn done reply msgs).s.keep.wf := by
  induction msgs generalizing s done with
  | nil => exact h
  | cons ws rest ih =>
    have hk := State.answerImage_keepWf h ws
    unfold State.replayOn
    split
    · next hr => rw [hr] at hk; exact ih hk ..
    · next hr => rw [hr] at hk; exact hk
    · exact h
    · next hr => rw [hr] at hk; exact hk
    · next hr => rw [hr] at hk; exact hk

theorem State.replay_keepWf (area : Nat) (reply : Option ReplyTo) (msgs : List (List Word)) :
    (s.replay area reply msgs).s.keep.wf := State.replayOn_keepWf (by simpa using h) ..

theorem State.replayNext_keepWf : s.replayNext.keep.wf := by
  unfold State.replayNext
  split
  · exact h
  · split
    · exact h
    · next c hc =>
      have hr : ∀ r : Replay,
        r.s.keep.wf → (if r.waits then r.s else r.s.ackLater ‹ReplayRun›.reply r.words.1 r.words.2).keep.wf :=
        fun r hr => by split <;> simpa using hr
      refine hr _ ?_
      split
      · exact State.replayOn_keepWf h ..
      · exact h

theorem State.resumeReplay_keepWf (hub : Nat) : (s.resumeReplay hub).keep.wf := by
  unfold State.resumeReplay
  split
  · exact h
  · split
    · exact h
    · split
      · exact State.replay_keepWf h ..
      · split
        · refine State.foldl_keepWf (fun t ws ht => ?_) _ h
          have hk := State.answerImage_keepWf ht ws
          split
          · next hr => rw [hr] at hk; exact hk
          all_goals exact ht
        · exact h

/-! ## Messages selected from a mailbox or from the bridge (R119, R120) -/

theorem cmdConfigLoad_keepWf (fl : Flash) (m : Msg) : (cmdConfigLoad fl m s).keepWf := by
  unfold cmdConfigLoad
  dsimp only
  simp only [Reply.keepWf_unless]
  intro _ _ _ _
  split
  · trivial
  · next i _ =>
    have hr := State.replay_keepWf (s := s.modBoot (fun b => { b with images := b.images.set (m.get 1 0 1) (some i) }))
      (by simpa using h) (m.get 1 0 1) (s.replyTo m) i.msgs
    split
    · exact h
    · split
      · exact hr
      · split <;> exact hr

theorem State.answer_keepWf (fl : Flash) (op : Nat) (m : Msg) : (s.answer fl op m).keepWf := by
  unfold State.answer
  split
  · exact State.execute_keepWf (cmdConfigLoad_keepWf h ..)
  · split
    · next c body hr => exact State.execute_keepWf (rows_keepWf _ (List.mem_of_find?_eq_some hr) _ _ h)
    · exact State.execute_keepWf h

theorem State.selectChan_keepWf (ch : Nat) (cancelLands : Bool) (fl : Flash) : (s.selectChan ch cancelLands fl).keep.wf := by
  have hs : ∀ t : State, t.keep.wf → ∀ op m rt,
      (if t.foreign op m then t.passOver op m false else t.settle rt (t.answer fl op m)).keep.wf := fun t ht op m rt => by
    split
    · simpa using ht
    · exact State.settle_keepWf ht _ (State.answer_keepWf ht ..)
  unfold State.selectChan
  dsimp only
  split
  · simpa using h
  · exact hs _ (by split <;> simpa using h) _ _ _

theorem State.selectFar_keepWf (p : Passed) (fl : Flash) : (s.selectFar p fl).keep.wf :=
  State.settle_keepWf (by simpa using h) _ (State.answer_keepWf (by simpa using h) ..)

/-! ## Control messages of the fabric, and the edge (R23, R442) -/

theorem State.ctlTake_keepWf (root : Nat) {go : State → State} (hg : (go s).keep.wf) : (s.ctlTake root go).keep.wf := by
  unfold State.ctlTake
  split
  · split
    · simpa using h
    · exact hg
  · exact h

theorem State.open_keepWf : s.open.keep.wf := by
  unfold State.open
  extract_lets ended lines hosts config gates advanced replayed sched counted faults steward acts acted spooled sent joined
    swept ran
  have hc : hosts.keep = s.keep := (State.edgeLines_keep _).trans (State.dropTags_keep _)
  have hg : advanced.keep = s.keep :=
    (State.advance_keep _).trans ((State.commitGates_keep _ _).trans ((State.configEdge_keep _).trans hc))
  have hr : replayed.keep.wf := State.replayNext_keepWf (hg ▸ h)
  clear_value replayed
  have ha : acted.keep = replayed.keep := by
    simp [acted, steward, faults, counted, sched]
  clear_value acted
  have hj : joined.keep = acted.keep := by
    simp [joined, sent, spooled]
  clear_value joined
  have hs : swept.keep = joined.keep :=
    (State.adjSweep_keep _).trans ((State.skimEdge_keep _).trans (State.calEdge_keep _))
  clear_value swept
  have hn : ran.keep = swept.keep := (State.runEdge_keep _).trans (State.runsEdge_keep _)
  clear_value ran
  have he : (ran.watermarks.wakeTags.edgeViews ended).edgeReady.keep = ran.keep :=
    (State.edgeReady_keep _).trans ((State.edgeViews_keep _ _).trans ((State.wakeTags_keep _).trans
      (State.watermarks_keep _)))
  rwa [he, hn, hs, hj, ha]

theorem State.edge_keepWf : s.edge.keep.wf := by
  unfold State.edge
  dsimp only
  split_ifs
  · exact State.resetTo_keepWf (by simpa using h) _ _
  · simpa using h
  · simpa using h
  · exact State.tokenCheck_keepWf (State.open_keepWf (by simpa using h))

end

/-! ## The outcome of a step -/

/-- Where a step answers a next state, that state's keep-store is canonical. -/
def Res.keepWf : Res → Prop
  | .next t => t.keep.wf
  | .fault _ | .refused _ => True

@[simp] theorem Res.keepWf_next (t : State) : Res.keepWf (.next t) ↔ t.keep.wf := Iff.rfl
@[simp] theorem Res.keepWf_fault (f : Fault) : Res.keepWf (.fault f) := trivial
@[simp] theorem Res.keepWf_ite (p : Prop) [Decidable p] (q r : Res) :
    Res.keepWf (if p then q else r) ↔ if p then Res.keepWf q else Res.keepWf r := by
  split <;> rfl

/-! ### The commands that come from the hardware, one by one -/

section
variable {s : State} (h : s.keep.wf)
include h

theorem execLinkDrop_keepWf (ch criterion) : (execLinkDrop ch criterion s).keepWf := by simp [execLinkDrop, h]
theorem execLineChannelFault_keepWf (ch code) : (execLineChannelFault ch code s).keepWf := by simp [execLineChannelFault, h]
theorem execTdrComplete_keepWf (ch partner refl) : (execTdrComplete ch partner refl s).keepWf := by
  unfold execTdrComplete
  split <;> simp [h]
theorem execBaselineCapture_keepWf (ch) : (execBaselineCapture ch s).keepWf := by simp [execBaselineCapture, h]
theorem execPlcaBeacon_keepWf (ds) : (execPlcaBeacon ds s).keepWf := by simp [execPlcaBeacon, h]
theorem execPlcaOpportunityTimeout_keepWf (ds) : (execPlcaOpportunityTimeout ds s).keepWf := by
  unfold execPlcaOpportunityTimeout
  split <;> simp [h]
theorem execDropFrameRx_keepWf (ds id collision arr f) : (execDropFrameRx ds id collision arr f s).keepWf := by
  simp [execDropFrameRx, h]
theorem execForeignBeaconRx_keepWf (ds) : (execForeignBeaconRx ds s).keepWf := by simp [execForeignBeaconRx, h]
theorem execCoordConflictClear_keepWf (ds) : (execCoordConflictClear ds s).keepWf := by simp [execCoordConflictClear, h]
theorem execDropChannelFault_keepWf (ds code) : (execDropChannelFault ds code s).keepWf := by simp [execDropChannelFault, h]
theorem execDropWakeDetect_keepWf (ds) : (execDropWakeDetect ds s).keepWf := by simp [execDropWakeDetect, h]
theorem execPreambleDetect_keepWf (tr p) : (execPreambleDetect tr p s).keepWf := by
  unfold execPreambleDetect
  dsimp only
  (repeat' split) <;> simp [h]
theorem execHalfPreamble_keepWf (tr) : (execHalfPreamble tr s).keepWf := by simp [execHalfPreamble, h]
theorem execMissedBurst_keepWf (tr) : (execMissedBurst tr s).keepWf := by simp [execMissedBurst, h]
theorem execTrunkBurstRx_keepWf (tr b) : (execTrunkBurstRx tr b s).keepWf := by simp [execTrunkBurstRx, h]
theorem execTluGapTimeout_keepWf (tr) : (execTluGapTimeout tr s).keepWf := by
  unfold execTluGapTimeout
  dsimp only
  (repeat' split) <;> simp [h]
theorem execTrunkTrainingTimeout_keepWf (tr) : (execTrunkTrainingTimeout tr s).keepWf := by
  simp [execTrunkTrainingTimeout, h]
theorem execTrunkLinkDrop_keepWf (tr) : (execTrunkLinkDrop tr s).keepWf := by simp [execTrunkLinkDrop, h]
theorem execLoadingCompute_keepWf (tr snr) : (execLoadingCompute tr snr s).keepWf := by simp [execLoadingCompute, h]
theorem execClassEvaluation_keepWf (tr) : (execClassEvaluation tr s).keepWf := by simp [execClassEvaluation, h]
theorem execSoundRequest_keepWf (tr) : (execSoundRequest tr s).keepWf := by simp [execSoundRequest, h]
theorem execFrameActivation_keepWf (tr) : (execFrameActivation tr s).keepWf := by
  unfold execFrameActivation
  dsimp only
  (repeat' split) <;> simp [h]
theorem execSchedulerSelect_keepWf (root) : (execSchedulerSelect root s).keepWf := by
  unfold execSchedulerSelect
  dsimp only
  (repeat' split) <;> simp [h]
theorem execFrameDeparture_keepWf (root corrected) : (execFrameDeparture root corrected s).keepWf := by
  unfold execFrameDeparture
  dsimp only
  (repeat' split) <;> simp [h]
theorem execDinSample_keepWf (a b) : (execDinSample a b s).keepWf := by simp [execDinSample, h]
theorem execDinChange_keepWf (i) : (execDinChange i s).keepWf := by simp [execDinChange, h]
theorem execDinDiscrepancy_keepWf (i) : (execDinDiscrepancy i s).keepWf := by simp [execDinDiscrepancy, h]
theorem execDinDiscrepancyClear_keepWf (i) : (execDinDiscrepancyClear i s).keepWf := by simp [execDinDiscrepancyClear, h]
theorem execDinHearthSample_keepWf (a b) : (execDinHearthSample a b s).keepWf := by simp [execDinHearthSample, h]
theorem execThermalWarnConfirm_keepWf (sensor) : (execThermalWarnConfirm sensor s).keepWf := by
  simp [execThermalWarnConfirm, h]
theorem execThermalWarnClear_keepWf (sensor) : (execThermalWarnClear sensor s).keepWf := by simp [execThermalWarnClear, h]
theorem execThermalDamp_keepWf (sensor) : (execThermalDamp sensor s).keepWf := by
  unfold execThermalDamp
  dsimp only
  split
  · exact State.fatal_keepWf (by simpa using h) _ _ _
  · exact h
theorem execSensorLost_keepWf (sensor) : (execSensorLost sensor s).keepWf := by simp [execSensorLost, h]
theorem execSensorRecover_keepWf (sensor) : (execSensorRecover sensor s).keepWf := by simp [execSensorRecover, h]
theorem execFatalFault_keepWf (code unit detail) : (execFatalFault code unit detail s).keepWf := by simp [execFatalFault, h]
theorem execTickOverrun_keepWf (engine die finish) : (execTickOverrun engine die finish s).keepWf := by
  simp [execTickOverrun, h]
theorem execReferenceSlice_keepWf (vref rset) : (execReferenceSlice vref rset s).keepWf := by simp [execReferenceSlice, h]
theorem execCalSlice_keepWf (unit aborted trims temp) : (execCalSlice unit aborted trims temp s).keepWf := by
  simp [execCalSlice, h]
theorem execCalStale_keepWf (unit) : (execCalStale unit s).keepWf := by simp [execCalStale, h]
theorem execSpoolReplayStart_keepWf (g) : (execSpoolReplayStart g s).keepWf := by
  unfold execSpoolReplayStart
  split <;> simp [h]
theorem execReplayPlace_keepWf (g) : (execReplayPlace g s).keepWf := by
  unfold execReplayPlace
  dsimp only
  (repeat' split) <;> simp [h]
theorem execCellarUe_keepWf (site) : (execCellarUe site s).keepWf := by
  unfold execCellarUe
  split <;> simp [h]
theorem execPatrolScrub_keepWf (pages corrected bad) : (execPatrolScrub pages corrected bad s).keepWf := by
  unfold execPatrolScrub
  dsimp only
  split
  · split
    · simpa using h
    · rw [Res.keepWf_next]
      split
      · simpa using h
      · exact State.uncorrectable_keepWf (by simpa using h) _
  · exact h
theorem execPrepareRx_keepWf (epoch digest act origin cfg) : (execPrepareRx epoch digest act origin cfg s).keepWf := by
  refine State.ctlTake_keepWf h _ ?_
  (repeat' split) <;> simpa using h
theorem execPrepAckRx_keepWf (path code) : (execPrepAckRx path code s).keepWf := by
  unfold execPrepAckRx
  split <;> simp [h]
theorem execPrepareDeadline_keepWf : (execPrepareDeadline s).keepWf := by
  unfold execPrepareDeadline
  split <;> simp [h]
theorem execCommitRx_keepWf (c) : (execCommitRx c s).keepWf := by
  refine State.ctlTake_keepWf h _ ?_
  dsimp only
  (repeat' split) <;> simpa using h
theorem execAbortRx_keepWf (a) : (execAbortRx a s).keepWf := by
  refine State.ctlTake_keepWf h _ ?_
  dsimp only
  (repeat' split) <;> simpa using h
theorem execFabricConfigActivate_keepWf : (execFabricConfigActivate s).keepWf := by
  unfold execFabricConfigActivate
  split <;> simp [h]
theorem execFrerRecoveryReset_keepWf (handle) : (execFrerRecoveryReset handle s).keepWf := by
  unfold execFrerRecoveryReset
  split <;> simp [h]
theorem execHelloSend_keepWf (root) : (execHelloSend root s).keepWf := by simp [execHelloSend, h]
theorem execHelloRx_keepWf (root m) : (execHelloRx root m s).keepWf := by
  unfold execHelloRx
  (repeat' split) <;> simpa using h
theorem execAdjacencyExpiry_keepWf (root) : (execAdjacencyExpiry root s).keepWf := by
  unfold execAdjacencyExpiry
  split <;> simp [h]
theorem execTopoSend_keepWf : (execTopoSend s).keepWf := by simp [execTopoSend, h]
theorem execTopoRx_keepWf (root r) : (execTopoRx root r s).keepWf := by simp [execTopoRx, h]
theorem execLeaderElection_keepWf : (execLeaderElection s).keepWf := by simp [execLeaderElection, h]
theorem execRouteSend_keepWf : (execRouteSend s).keepWf := by
  unfold execRouteSend
  split <;> simp [h]
theorem execRouteRx_keepWf (r) : (execRouteRx r s).keepWf := by
  refine State.ctlTake_keepWf h _ ?_
  (repeat' split) <;> simpa using h
theorem execKeyRx_keepWf (k wrapped) : (execKeyRx k wrapped s).keepWf := by
  refine State.ctlTake_keepWf h _ ?_
  (repeat' split) <;> simpa using h
theorem execFabricCommitTick_keepWf : (execFabricCommitTick s).keepWf := by
  unfold execFabricCommitTick
  split <;> simp [h]
theorem execCatchupReqRx_keepWf (root) : (execCatchupReqRx root s).keepWf := by simp [execCatchupReqRx, h]
theorem execCatchupRx_keepWf (epoch digest cfg) : (execCatchupRx epoch digest cfg s).keepWf := by simp [execCatchupRx, h]
theorem execCatchupApply_keepWf : (execCatchupApply s).keepWf := by
  unfold execCatchupApply
  split <;> simp [h]
theorem execSyncSend_keepWf : (execSyncSend s).keepWf := by
  unfold execSyncSend
  (repeat' split) <;> simp [h]
theorem execSyncRx_keepWf (y) : (execSyncRx y s).keepWf := by simp [execSyncRx, h]
theorem execPeerDelayExchange_keepWf (root d) : (execPeerDelayExchange root d s).keepWf := by simp [execPeerDelayExchange, h]
theorem execMkaFrameRx_keepWf (root ckn icvOk k) : (execMkaFrameRx root ckn icvOk k s).keepWf := by simp [execMkaFrameRx, h]
theorem execFrameArrival_keepWf (port arr f) : (execFrameArrival port arr f s).keepWf := by simp [execFrameArrival, h]
theorem execFrameClassify_keepWf : (execFrameClassify s).keepWf := by simp [execFrameClassify, h]
theorem execRefSwitchComplete_keepWf : (execRefSwitchComplete s).keepWf := by
  unfold execRefSwitchComplete
  (repeat' split) <;> simp [h]
theorem execPpsPulse_keepWf : (execPpsPulse s).keepWf := by simp [execPpsPulse, h]
theorem execPpsPulseEnd_keepWf : (execPpsPulseEnd s).keepWf := by
  unfold execPpsPulseEnd
  split <;> simp [h]
theorem execPpsInCapture_keepWf (cycle offset) : (execPpsInCapture cycle offset s).keepWf := by
  unfold execPpsInCapture
  dsimp only
  (repeat' split) <;> simp [h]
theorem execSteeringStop_keepWf : (execSteeringStop s).keepWf := by simp [execSteeringStop, h]
theorem execPllLock_keepWf (loop) : (execPllLock loop s).keepWf := by simp [execPllLock, h]
theorem execPllUnlock_keepWf (loop) : (execPllUnlock loop s).keepWf := by simp [execPllUnlock, h]
theorem execClockStopDetect_keepWf (src running xbCount) : (execClockStopDetect src running xbCount s).keepWf := by
  unfold execClockStopDetect
  (repeat' split) <;> simp [h]
theorem execRefDeviation_keepWf (ppm) : (execRefDeviation ppm s).keepWf := by simp [execRefDeviation, h]
theorem execForcedFailover_keepWf : (execForcedFailover s).keepWf := by
  unfold execForcedFailover
  dsimp only
  split
  · rw [Res.keepWf_next]
    split
    · simpa using h
    · exact State.unlockAll_keepWf (by simpa using h)
  · exact h
theorem execNmiHandler_keepWf : (execNmiHandler s).keepWf := by
  unfold execNmiHandler
  split
  · exact h
  · next l _ =>
    have ht : (s.modClock (fun c => { c with nmi := none })).keep.wf := by simpa using h
    dsimp only
    rw [Res.keepWf_next]
    split
    · exact State.stewardNmi_keepWf ht l
    · split
      · exact State.romNmi_keepWf ht
      · exact h
theorem execClkoutChange_keepWf (data) : (execClkoutChange data s).keepWf := by simp [execClkoutChange, h]
theorem execClkoutChangeEnd_keepWf : (execClkoutChangeEnd s).keepWf := by
  unfold execClkoutChangeEnd
  (repeat' split) <;> simp [h]
theorem execSelftestGroupStart_keepWf : (execSelftestGroupStart s).keepWf := by
  unfold execSelftestGroupStart
  split <;> simp [h]
theorem execSelftestUnitEnd_keepWf (unit check) : (execSelftestUnitEnd unit check s).keepWf := by
  simp [execSelftestUnitEnd, h]
theorem execSkimSlice_keepWf (unit aborted check) : (execSkimSlice unit aborted check s).keepWf := by simp [execSkimSlice, h]
theorem execSkimOverdue_keepWf (unit) : (execSkimOverdue unit s).keepWf := by simp [execSkimOverdue, h]
theorem execKeepWordComplete_keepWf : (execKeepWordComplete s).keepWf := by simp [execKeepWordComplete, h]
theorem execFuseInstruction_keepWf (hash) : (execFuseInstruction hash s).keepWf := by simp [execFuseInstruction, h]
theorem execDomainPowered_keepWf (dom) : (execDomainPowered dom s).keepWf := by
  unfold execDomainPowered
  split <;> simp [h]
theorem execPowerEntryStep_keepWf : (execPowerEntryStep s).keepWf := by
  unfold execPowerEntryStep
  dsimp only
  (repeat' split) <;> simp [h]
theorem execEmberRailFail_keepWf : (execEmberRailFail s).keepWf := by simp [execEmberRailFail, h]
theorem execSioTimerWake_keepWf : (execSioTimerWake s).keepWf := by simp [execSioTimerWake, h]
theorem execHostLaneWakeDetect_keepWf (g) : (execHostLaneWakeDetect g s).keepWf := by simp [execHostLaneWakeDetect, h]
theorem execPowerOnReset_keepWf : (execPowerOnReset s).keepWf := by simp [execPowerOnReset, h]
theorem execVdde18Collapse_keepWf : (execVdde18Collapse s).keepWf := by simp [execVdde18Collapse, h]
theorem execPinReset_keepWf : (execPinReset s).keepWf := by simp [execPinReset, h]
theorem execRailReset_keepWf (rails) : (execRailReset rails s).keepWf := by
  unfold execRailReset
  (repeat' split) <;> simp [h]
theorem execHearthBrownout_keepWf : (execHearthBrownout s).keepWf := by simp [execHearthBrownout, h]
theorem execEmberWake_keepWf (sleep) : (execEmberWake sleep s).keepWf := by
  unfold execEmberWake
  split
  · exact State.resetTo_keepWf (by simpa using h) _ _
  · exact h
theorem execResetRelease_keepWf : (execResetRelease s).keepWf := by simp [execResetRelease, h]
theorem execBootRom_keepWf (ck fl) : (execBootRom ck fl s).keepWf := by
  unfold execBootRom
  (repeat' split) <;> simp [h]
theorem execMailboxGo_keepWf (ch ctrl) : (execMailboxGo ch ctrl s).keepWf := by simp [execMailboxGo, h]
theorem execMailboxCancel_keepWf (ch ctrl) : (execMailboxCancel ch ctrl s).keepWf := by simp [execMailboxCancel, h]
theorem execAckClr_keepWf (ch data) : (execAckClr ch data s).keepWf := by simp [execAckClr, h]
theorem execDbStatusClear_keepWf (mask events) : (execDbStatusClear mask events s).keepWf := by simp [execDbStatusClear, h]
theorem execDbMaskWrite_keepWf (mask) : (execDbMaskWrite mask s).keepWf := by simp [execDbMaskWrite, h]
theorem execDbTest_keepWf (data) : (execDbTest data s).keepWf := by simp [execDbTest, h]
theorem execRegisterWrite_keepWf (p addr w) : (execRegisterWrite p addr w s).keepWf := by
  unfold execRegisterWrite
  (repeat' split) <;> simp [h]
theorem execTickLoRead_keepWf (p) : (execTickLoRead p s).keepWf := by simp [execTickLoRead, h]
theorem execPeerMessage_keepWf (p) : (execPeerMessage p s).keepWf := by
  unfold execPeerMessage
  (repeat' split) <;> simp [h]
theorem execHostTrainingBlock_keepWf (g b) : (execHostTrainingBlock g b s).keepWf := by
  unfold execHostTrainingBlock
  dsimp only
  (repeat' split) <;> simp [h]
theorem execHostTrainingTimeout_keepWf (g) : (execHostTrainingTimeout g s).keepWf := by simp [execHostTrainingTimeout, h]
theorem execLanePacketRx_keepWf (g p) : (execLanePacketRx g p s).keepWf := by simp [execLanePacketRx, h]
theorem execNakRepeat_keepWf (g) : (execNakRepeat g s).keepWf := by simp [execNakRepeat, h]
theorem execLaneResend_keepWf (g) : (execLaneResend g s).keepWf := by simp [execLaneResend, h]
theorem execHostRetrain_keepWf (g cause) : (execHostRetrain g cause s).keepWf := by simp [execHostRetrain, h]
theorem execElectricalIdleEntry_keepWf (g) : (execElectricalIdleEntry g s).keepWf := by simp [execElectricalIdleEntry, h]
theorem execElectricalIdleExit_keepWf (g) : (execElectricalIdleExit g s).keepWf := by simp [execElectricalIdleExit, h]
theorem execSidebandPacket_keepWf (g ctrl words) : (execSidebandPacket g ctrl words s).keepWf := by
  simp [execSidebandPacket, h]
theorem execSpoolAck_keepWf (g n) : (execSpoolAck g n s).keepWf := by simp [execSpoolAck, h]
theorem execHostLaneFault_keepWf (g code) : (execHostLaneFault g code s).keepWf := by simp [execHostLaneFault, h]
theorem execAnPageRx_keepWf (ch x) : (execAnPageRx ch x s).keepWf := by
  unfold execAnPageRx
  dsimp only
  (repeat' split) <;> simp [h]
theorem execTrainingFrameRx_keepWf (ch f) : (execTrainingFrameRx ch f s).keepWf := by
  unfold execTrainingFrameRx
  (repeat' split) <;> simp [h]
theorem execLineTrainingTimeout_keepWf (ch) : (execLineTrainingTimeout ch s).keepWf := by simp [execLineTrainingTimeout, h]
theorem execResumeTimeout_keepWf (ch) : (execResumeTimeout ch s).keepWf := by simp [execResumeTimeout, h]
theorem execSfmRx_keepWf (ch markErr bytes bad corr) : (execSfmRx ch markErr bytes bad corr s).keepWf := by
  unfold execSfmRx
  dsimp only
  (repeat' split) <;> simp [h]
theorem execPrecoderSwitch_keepWf (ch sf) : (execPrecoderSwitch ch sf s).keepWf := by simp [execPrecoderSwitch, h]
theorem execPrecoderUpdate_keepWf (ch later) : (execPrecoderUpdate ch later s).keepWf := by simp [execPrecoderUpdate, h]
theorem execLpiEntry_keepWf (ch) : (execLpiEntry ch s).keepWf := by simp [execLpiEntry, h]
theorem execLpiRefresh_keepWf (ch) : (execLpiRefresh ch s).keepWf := by
  unfold execLpiRefresh
  dsimp only
  (repeat' split) <;> simp [h]
theorem execLpiWake_keepWf (ch) : (execLpiWake ch s).keepWf := by simp [execLpiWake, h]
theorem execLinkSleep_keepWf (ch) : (execLinkSleep ch s).keepWf := by simp [execLinkSleep, h]
theorem execWakeToneDetect_keepWf (ch) : (execWakeToneDetect ch s).keepWf := by simp [execWakeToneDetect, h]
theorem execLineWakeDetect_keepWf (ch) : (execLineWakeDetect ch s).keepWf := by
  unfold execLineWakeDetect
  (repeat' split) <;> simp [h]
theorem execStandardTraining_keepWf (ch e) : (execStandardTraining ch e s).keepWf := by
  unfold execStandardTraining
  split <;> simp [h]
theorem execBundleSurvey_keepWf (bg) : (execBundleSurvey bg s).keepWf := by
  unfold execBundleSurvey
  split <;> simp [h]
theorem execSurveyComplete_keepWf (bg noise coupling) : (execSurveyComplete bg noise coupling s).keepWf := by
  unfold execSurveyComplete
  dsimp only
  split
  · exact h
  · rw [Res.keepWf_next, State.decideStarts_keep, State.releaseHeld_keep, State.foldl_keep (fun s p => s.modLine_keep _ _),
      State.modBundle_keep]
    exact h
theorem execJoinSoftStartEnd_keepWf (ch) : (execJoinSoftStartEnd ch s).keepWf := by
  unfold execJoinSoftStartEnd
  split <;> simp [h]
theorem execBlwSaturation_keepWf (ch) : (execBlwSaturation ch s).keepWf := by simp [execBlwSaturation, h]
theorem execQuietPeriodEnd_keepWf (root) : (execQuietPeriodEnd root s).keepWf := by
  unfold execQuietPeriodEnd
  split <;> simp [h]
theorem execKindlePatternSend_keepWf (tr) : (execKindlePatternSend tr s).keepWf := by
  unfold execKindlePatternSend
  split <;> simp [h]
theorem execReflectComplete_keepWf (tr echoes refl) : (execReflectComplete tr echoes refl s).keepWf := by
  unfold execReflectComplete
  split <;> simp [h]
theorem execTrunkChannelFault_keepWf (tr code) : (execTrunkChannelFault tr code s).keepWf := by
  simp [execTrunkChannelFault, h]
theorem execKindleEnergy_keepWf (tr dbm) : (execKindleEnergy tr dbm s).keepWf := by simp [execKindleEnergy, h]
theorem execKindleDetect_keepWf (tr matched dbm) : (execKindleDetect tr matched dbm s).keepWf := by
  unfold execKindleDetect
  split <;> simp [h]
theorem execKindleCorrelateTimeout_keepWf (tr) : (execKindleCorrelateTimeout tr s).keepWf := by
  unfold execKindleCorrelateTimeout
  split <;> simp [h]
theorem execTrunkProbe_keepWf (tr bit) : (execTrunkProbe tr bit s).keepWf := by simp [execTrunkProbe, h]
theorem execRelaySettleEnd_keepWf (tr) : (execRelaySettleEnd tr s).keepWf := by simp [execRelaySettleEnd, h]
theorem execTrunkBurstTx_keepWf (tr) : (execTrunkBurstTx tr s).keepWf := by simp [execTrunkBurstTx, h]
theorem execMessageSelect_keepWf (south cancelLands fl) : (execMessageSelect south cancelLands fl s).keepWf := by
  unfold execMessageSelect
  split
  · exact h
  · split
    · exact State.tokenCheck_keepWf h
    · split
      · exact State.selectFar_keepWf h ..
      · exact State.selectChan_keepWf h ..
      · exact h
theorem execCellarPhase_keepWf (trained fl) : (execCellarPhase trained fl s).keepWf := by
  unfold execCellarPhase
  dsimp only
  split
  · split
    · exact h
    · exact State.fatal_keepWf (by simpa using h) _ _ _
  · exact h
theorem execConfigReplay_keepWf : (execConfigReplay s).keepWf := by
  unfold execConfigReplay
  dsimp only
  split
  · split
    · exact State.replay_keepWf (by simpa using h) ..
    · exact State.replay_keepWf (by simpa using h) ..
    · exact h
  · exact h
theorem execTrainingPhase_keepWf : (execTrainingPhase s).keepWf := by simp [execTrainingPhase, h]
theorem execReadinessPhase_keepWf : (execReadinessPhase s).keepWf := by simp [execReadinessPhase, h]
theorem execBankedResume_keepWf (sleep) : (execBankedResume sleep s).keepWf := by
  unfold execBankedResume
  split
  · rw [Res.keepWf_next, State.reopen_keep]
    exact State.resumeReplay_keepWf (by simpa using h) _
  all_goals exact h
theorem execTickCommit_keepWf : (execTickCommit s).keepWf := by simp [execTickCommit, h]
theorem execTickEdge_keepWf : (execTickEdge s).keepWf := by
  unfold execTickEdge
  split
  · exact h
  · split
    · exact State.edge_keepWf h
    · trivial
theorem execTemperatureReading_keepWf (readings) : (execTemperatureReading readings s).keepWf := by
  unfold execTemperatureReading
  (repeat' split) <;> simp [h]
theorem execOamMessageRx_keepWf (ch blocks) : (execOamMessageRx ch blocks s).keepWf := by
  unfold execOamMessageRx
  dsimp only
  (repeat' split) <;> simp [h]

end

/-! ### Every command (R589 to R591) -/

section
variable {s : State} (h : s.keep.wf)
include h

theorem Row.mailbox_keepWf {r : Row} (hr : r.keepWf) (m : Msg) : Res.keepWf (.next (s.mailbox r.1 m r.2)) :=
  State.mailbox_keepWf h r.1 m (hr m)

theorem execConfigLoad_keepWf (m fl) : (execConfigLoad m fl s).keepWf :=
  State.mailbox_keepWf h _ m (fun _ hd => cmdConfigLoad_keepWf hd fl m)

/-- No command takes the keep-store out of its canonical form. -/
theorem exec_keepWf (c : Instr) : Res.keepWf (exec c s) := by
  cases c with
  | powerOnReset => exact execPowerOnReset_keepWf h
  | vdde18Collapse => exact execVdde18Collapse_keepWf h
  | pinReset => exact execPinReset_keepWf h
  | railReset rails => exact execRailReset_keepWf h rails
  | hearthBrownout => exact execHearthBrownout_keepWf h
  | resetRelease => exact execResetRelease_keepWf h
  | bootRom ck fl => exact execBootRom_keepWf h ck fl
  | cellarPhase trained fl => exact execCellarPhase_keepWf h trained fl
  | configReplay => exact execConfigReplay_keepWf h
  | trainingPhase => exact execTrainingPhase_keepWf h
  | readinessPhase => exact execReadinessPhase_keepWf h
  | tickEdge => exact execTickEdge_keepWf h
  | tickCommit => exact execTickCommit_keepWf h
  | tickOverrun engine die finish => exact execTickOverrun_keepWf h engine die finish
  | registerWrite p addr w => exact execRegisterWrite_keepWf h p addr w
  | tickLoRead p => exact execTickLoRead_keepWf h p
  | mailboxGo ch ctrl => exact execMailboxGo_keepWf h ch ctrl
  | mailboxCancel ch ctrl => exact execMailboxCancel_keepWf h ch ctrl
  | ackClr ch data => exact execAckClr_keepWf h ch data
  | dbStatusClear mask events => exact execDbStatusClear_keepWf h mask events
  | dbMaskWrite mask => exact execDbMaskWrite_keepWf h mask
  | dbTest data => exact execDbTest_keepWf h data
  | clkoutChange data => exact execClkoutChange_keepWf h data
  | clkoutChangeEnd => exact execClkoutChangeEnd_keepWf h
  | messageSelect south cancelLands fl => exact execMessageSelect_keepWf h south cancelLands fl
  | peerMessage p => exact execPeerMessage_keepWf h p
  | echo m => exact Row.mailbox_keepWf h (generalRows_keepWf (echoCmd, cmdEcho) (by simp [generalRows])) m
  | eventRead m => exact Row.mailbox_keepWf h (generalRows_keepWf (eventReadCmd, cmdEventRead) (by simp [generalRows])) m
  | stewardMove m => exact Row.mailbox_keepWf h (generalRows_keepWf (stewardMoveCmd,
    cmdStewardMove) (by simp [generalRows])) m
  | deviceReset m => exact Row.mailbox_keepWf h (generalRows_keepWf (deviceResetCmd,
    cmdDeviceReset) (by simp [generalRows])) m
  | peerKeySet m => exact Row.mailbox_keepWf h (generalRows_keepWf (peerKeySetCmd, cmdPeerKeySet) (by simp [generalRows])) m
  | configLoad m fl => exact execConfigLoad_keepWf h m fl
  | rollbackAdvance m => exact Row.mailbox_keepWf h (bootRows_keepWf (rollbackAdvanceCmd,
    cmdRollbackAdvance) (by simp [bootRows])) m
  | powerDomainSet m => exact Row.mailbox_keepWf h (powerRows_keepWf (powerDomainSetCmd,
    cmdPowerDomainSet) (by simp [powerRows])) m
  | domainPowered dom => exact execDomainPowered_keepWf h dom
  | powerEnter m => exact Row.mailbox_keepWf h (powerRows_keepWf (powerEnterCmd, cmdPowerEnter) (by simp [powerRows])) m
  | powerEntryStep => exact execPowerEntryStep_keepWf h
  | wakeConfig m => exact Row.mailbox_keepWf h (powerRows_keepWf (wakeConfigCmd, cmdWakeConfig) (by simp [powerRows])) m
  | powerStatus m => exact Row.mailbox_keepWf h (powerRows_keepWf (powerStatusCmd, cmdPowerStatus) (by simp [powerRows])) m
  | bankedResume sleep => exact execBankedResume_keepWf h sleep
  | emberWake sleep => exact execEmberWake_keepWf h sleep
  | emberRailFail => exact execEmberRailFail_keepWf h
  | sioTimerWake => exact execSioTimerWake_keepWf h
  | hostLaneWakeDetect g => exact execHostLaneWakeDetect_keepWf h g
  | clockPlan m => exact Row.mailbox_keepWf h (clockRows_keepWf (clockPlanCmd, cmdClockPlan) (by simp [clockRows])) m
  | refSwitchComplete => exact execRefSwitchComplete_keepWf h
  | clockStatus m => exact Row.mailbox_keepWf h (clockRows_keepWf (clockStatusCmd, cmdClockStatus) (by simp [clockRows])) m
  | clockGate m => exact Row.mailbox_keepWf h (clockRows_keepWf (clockGateCmd, cmdClockGate) (by simp [clockRows])) m
  | ppsConfig m => exact Row.mailbox_keepWf h (clockRows_keepWf (ppsConfigCmd, cmdPpsConfig) (by simp [clockRows])) m
  | pllLock loop => exact execPllLock_keepWf h loop
  | pllUnlock loop => exact execPllUnlock_keepWf h loop
  | clockStopDetect src running xbCount => exact execClockStopDetect_keepWf h src running xbCount
  | refDeviation ppm => exact execRefDeviation_keepWf h ppm
  | forcedFailover => exact execForcedFailover_keepWf h
  | nmiHandler => exact execNmiHandler_keepWf h
  | ppsPulse => exact execPpsPulse_keepWf h
  | ppsPulseEnd => exact execPpsPulseEnd_keepWf h
  | ppsInCapture cycle offset => exact execPpsInCapture_keepWf h cycle offset
  | lineConfig m => exact Row.mailbox_keepWf h (lineRows_keepWf (lineConfigCmd, cmdLineConfig) (by simp [lineRows])) m
  | lineStatus m => exact Row.mailbox_keepWf h (lineRows_keepWf (lineStatusCmd, cmdLineStatus) (by simp [lineRows])) m
  | lineRetrain m => exact Row.mailbox_keepWf h (lineRows_keepWf (lineRetrainCmd, cmdLineRetrain) (by simp [lineRows])) m
  | lineOamSend m => exact Row.mailbox_keepWf h (lineRows_keepWf (lineOamSendCmd, cmdLineOamSend) (by simp [lineRows])) m
  | lineOamRead m => exact Row.mailbox_keepWf h (lineRows_keepWf (lineOamReadCmd, cmdLineOamRead) (by simp [lineRows])) m
  | bundleConfig m => exact Row.mailbox_keepWf h (lineRows_keepWf (bundleConfigCmd, cmdBundleConfig) (by simp [lineRows])) m
  | bundleStatus m => exact Row.mailbox_keepWf h (lineRows_keepWf (bundleStatusCmd, cmdBundleStatus) (by simp [lineRows])) m
  | rxAdaptConfig m => exact Row.mailbox_keepWf h (lineRows_keepWf (rxAdaptConfigCmd,
    cmdRxAdaptConfig) (by simp [lineRows])) m
  | rxStatus m => exact Row.mailbox_keepWf h (lineRows_keepWf (rxStatusCmd, cmdRxStatus) (by simp [lineRows])) m
  | rxTapsRead m => exact Row.mailbox_keepWf h (lineRows_keepWf (rxTapsReadCmd, cmdRxTapsRead) (by simp [lineRows])) m
  | lineCounters m => exact Row.mailbox_keepWf h (lineRows_keepWf (lineCountersCmd, cmdLineCounters) (by simp [lineRows])) m
  | lineQuality m => exact Row.mailbox_keepWf h (lineRows_keepWf (lineQualityCmd, cmdLineQuality) (by simp [lineRows])) m
  | lineWatchConfig m => exact Row.mailbox_keepWf h (lineRows_keepWf (lineWatchConfigCmd,
    cmdLineWatchConfig) (by simp [lineRows])) m
  | lineTdr m => exact Row.mailbox_keepWf h (lineRows_keepWf (lineTdrCmd, cmdLineTdr) (by simp [lineRows])) m
  | tdrComplete ch partner refl => exact execTdrComplete_keepWf h ch partner refl
  | cableHealth m => exact Row.mailbox_keepWf h (lineRows_keepWf (cableHealthCmd, cmdCableHealth) (by simp [lineRows])) m
  | baselineCapture ch => exact execBaselineCapture_keepWf h ch
  | anPageRx ch x => exact execAnPageRx_keepWf h ch x
  | trainingFrameRx ch f => exact execTrainingFrameRx_keepWf h ch f
  | lineTrainingTimeout ch => exact execLineTrainingTimeout_keepWf h ch
  | bundleSurvey bg => exact execBundleSurvey_keepWf h bg
  | surveyComplete bg noise coupling => exact execSurveyComplete_keepWf h bg noise coupling
  | joinSoftStartEnd ch => exact execJoinSoftStartEnd_keepWf h ch
  | sfmRx ch markErr bytes bad corr => exact execSfmRx_keepWf h ch markErr bytes bad corr
  | oamMessageRx ch blocks => exact execOamMessageRx_keepWf h ch blocks
  | precoderSwitch ch sf => exact execPrecoderSwitch_keepWf h ch sf
  | precoderUpdate ch later => exact execPrecoderUpdate_keepWf h ch later
  | resumeTimeout ch => exact execResumeTimeout_keepWf h ch
  | blwSaturation ch => exact execBlwSaturation_keepWf h ch
  | lpiEntry ch => exact execLpiEntry_keepWf h ch
  | lpiRefresh ch => exact execLpiRefresh_keepWf h ch
  | lpiWake ch => exact execLpiWake_keepWf h ch
  | linkSleep ch => exact execLinkSleep_keepWf h ch
  | wakeToneDetect ch => exact execWakeToneDetect_keepWf h ch
  | lineWakeDetect ch => exact execLineWakeDetect_keepWf h ch
  | linkDrop ch criterion => exact execLinkDrop_keepWf h ch criterion
  | lineChannelFault ch code => exact execLineChannelFault_keepWf h ch code
  | quietPeriodEnd root => exact execQuietPeriodEnd_keepWf h root
  | dropConfig m => exact Row.mailbox_keepWf h (dropRows_keepWf (dropConfigCmd, cmdDropConfig) (by simp [dropRows])) m
  | dropStatus m => exact Row.mailbox_keepWf h (dropRows_keepWf (dropStatusCmd, cmdDropStatus) (by simp [dropRows])) m
  | dropCounters m => exact Row.mailbox_keepWf h (dropRows_keepWf (dropCountersCmd, cmdDropCounters) (by simp [dropRows])) m
  | plcaBeacon ds => exact execPlcaBeacon_keepWf h ds
  | plcaOpportunityTimeout ds => exact execPlcaOpportunityTimeout_keepWf h ds
  | dropFrameRx ds id collision arr f => exact execDropFrameRx_keepWf h ds id collision arr f
  | foreignBeaconRx ds => exact execForeignBeaconRx_keepWf h ds
  | coordConflictClear ds => exact execCoordConflictClear_keepWf h ds
  | dropChannelFault ds code => exact execDropChannelFault_keepWf h ds code
  | dropWakeDetect ds => exact execDropWakeDetect_keepWf h ds
  | trunkSignalConfig m => exact Row.mailbox_keepWf h (trunkRows_keepWf (trunkSignalConfigCmd,
    cmdTrunkSignalConfig) (by simp [trunkRows])) m
  | trunkSignalStatus m => exact Row.mailbox_keepWf h (trunkRows_keepWf (trunkSignalStatusCmd,
    cmdTrunkSignalStatus) (by simp [trunkRows])) m
  | trunkLoadingRead m => exact Row.mailbox_keepWf h (trunkRows_keepWf (trunkLoadingReadCmd,
    cmdTrunkLoadingRead) (by simp [trunkRows])) m
  | trunkSignalCounters m => exact Row.mailbox_keepWf h (trunkRows_keepWf (trunkSignalCountersCmd,
    cmdTrunkSignalCounters) (by simp [trunkRows])) m
  | trunkConfig m => exact Row.mailbox_keepWf h (trunkRows_keepWf (trunkConfigCmd, cmdTrunkConfig) (by simp [trunkRows])) m
  | trunkStatus m => exact Row.mailbox_keepWf h (trunkRows_keepWf (trunkStatusCmd, cmdTrunkStatus) (by simp [trunkRows])) m
  | bypassSetPolicy m => exact Row.mailbox_keepWf h (trunkRows_keepWf (bypassSetPolicyCmd,
    cmdBypassSetPolicy) (by simp [trunkRows])) m
  | trunkKindle m => exact Row.mailbox_keepWf h (trunkRows_keepWf (trunkKindleCmd, cmdTrunkKindle) (by simp [trunkRows])) m
  | kindlePatternSend tr => exact execKindlePatternSend_keepWf h tr
  | trunkReflect m => exact Row.mailbox_keepWf h (trunkRows_keepWf (trunkReflectCmd,
    cmdTrunkReflect) (by simp [trunkRows])) m
  | reflectComplete tr echoes refl => exact execReflectComplete_keepWf h tr echoes refl
  | trunkProbe tr bit => exact execTrunkProbe_keepWf h tr bit
  | relaySettleEnd tr => exact execRelaySettleEnd_keepWf h tr
  | preambleDetect tr p => exact execPreambleDetect_keepWf h tr p
  | halfPreamble tr => exact execHalfPreamble_keepWf h tr
  | missedBurst tr => exact execMissedBurst_keepWf h tr
  | trunkBurstRx tr b => exact execTrunkBurstRx_keepWf h tr b
  | trunkBurstTx tr => exact execTrunkBurstTx_keepWf h tr
  | loadingCompute tr snr => exact execLoadingCompute_keepWf h tr snr
  | classEvaluation tr => exact execClassEvaluation_keepWf h tr
  | soundRequest tr => exact execSoundRequest_keepWf h tr
  | tluGapTimeout tr => exact execTluGapTimeout_keepWf h tr
  | frameActivation tr => exact execFrameActivation_keepWf h tr
  | trunkTrainingTimeout tr => exact execTrunkTrainingTimeout_keepWf h tr
  | trunkLinkDrop tr => exact execTrunkLinkDrop_keepWf h tr
  | trunkChannelFault tr code => exact execTrunkChannelFault_keepWf h tr code
  | kindleEnergy tr dbm => exact execKindleEnergy_keepWf h tr dbm
  | kindleDetect tr matched dbm => exact execKindleDetect_keepWf h tr matched dbm
  | kindleCorrelateTimeout tr => exact execKindleCorrelateTimeout_keepWf h tr
  | hostConfig m => exact Row.mailbox_keepWf h (hostRows_keepWf (hostConfigCmd, cmdHostConfig) (by simp [hostRows])) m
  | hostStatus m => exact Row.mailbox_keepWf h (hostRows_keepWf (hostStatusCmd, cmdHostStatus) (by simp [hostRows])) m
  | hostCounters m => exact Row.mailbox_keepWf h (hostRows_keepWf (hostCountersCmd, cmdHostCounters) (by simp [hostRows])) m
  | hostPrbs m => exact Row.mailbox_keepWf h (hostRows_keepWf (hostPrbsCmd, cmdHostPrbs) (by simp [hostRows])) m
  | hostTrainingBlock g b => exact execHostTrainingBlock_keepWf h g b
  | hostTrainingTimeout g => exact execHostTrainingTimeout_keepWf h g
  | lanePacketRx g p => exact execLanePacketRx_keepWf h g p
  | nakRepeat g => exact execNakRepeat_keepWf h g
  | laneResend g => exact execLaneResend_keepWf h g
  | hostRetrain g cause => exact execHostRetrain_keepWf h g cause
  | electricalIdleEntry g => exact execElectricalIdleEntry_keepWf h g
  | electricalIdleExit g => exact execElectricalIdleExit_keepWf h g
  | sidebandPacket g ctrl words => exact execSidebandPacket_keepWf h g ctrl words
  | spoolAck g n => exact execSpoolAck_keepWf h g n
  | hostLaneFault g code => exact execHostLaneFault_keepWf h g code
  | frameArrival port arr f => exact execFrameArrival_keepWf h port arr f
  | frameClassify => exact execFrameClassify_keepWf h
  | frerRecoveryReset handle => exact execFrerRecoveryReset_keepWf h handle
  | schedulerSelect root => exact execSchedulerSelect_keepWf h root
  | frameDeparture root corrected => exact execFrameDeparture_keepWf h root corrected
  | portBridgeConfig m => exact Row.mailbox_keepWf h (forwardRows_keepWf (portBridgeConfigCmd,
    cmdPortBridgeConfig) (by simp [forwardRows])) m
  | vlanSet m => exact Row.mailbox_keepWf h (forwardRows_keepWf (vlanSetCmd, cmdVlanSet) (by simp [forwardRows])) m
  | fdbConfig m => exact Row.mailbox_keepWf h (forwardRows_keepWf (fdbConfigCmd, cmdFdbConfig) (by simp [forwardRows])) m
  | fdbEntry m => exact Row.mailbox_keepWf h (forwardRows_keepWf (fdbEntryCmd, cmdFdbEntry) (by simp [forwardRows])) m
  | fdbStatus m => exact Row.mailbox_keepWf h (forwardRows_keepWf (fdbStatusCmd, cmdFdbStatus) (by simp [forwardRows])) m
  | streamSet m => exact Row.mailbox_keepWf h (forwardRows_keepWf (streamSetCmd, cmdStreamSet) (by simp [forwardRows])) m
  | nodeSet m => exact Row.mailbox_keepWf h (forwardRows_keepWf (nodeSetCmd, cmdNodeSet) (by simp [forwardRows])) m
  | queueSet m => exact Row.mailbox_keepWf h (forwardRows_keepWf (queueSetCmd, cmdQueueSet) (by simp [forwardRows])) m
  | queueFlush m => exact Row.mailbox_keepWf h (forwardRows_keepWf (queueFlushCmd, cmdQueueFlush) (by simp [forwardRows])) m
  | queueStats m => exact Row.mailbox_keepWf h (forwardRows_keepWf (queueStatsCmd, cmdQueueStats) (by simp [forwardRows])) m
  | rootSet m => exact Row.mailbox_keepWf h (rateRows_keepWf (rootSetCmd, cmdRootSet) (by simp [rateRows])) m
  | shaperSet m => exact Row.mailbox_keepWf h (rateRows_keepWf (shaperSetCmd, cmdShaperSet) (by simp [rateRows])) m
  | shaperRead m => exact Row.mailbox_keepWf h (rateRows_keepWf (shaperReadCmd, cmdShaperRead) (by simp [rateRows])) m
  | policerSet m => exact Row.mailbox_keepWf h (rateRows_keepWf (policerSetCmd, cmdPolicerSet) (by simp [rateRows])) m
  | policerStats m => exact Row.mailbox_keepWf h (rateRows_keepWf (policerStatsCmd, cmdPolicerStats) (by simp [rateRows])) m
  | gateListWrite m => exact Row.mailbox_keepWf h (rateRows_keepWf (gateListWriteCmd,
    cmdGateListWrite) (by simp [rateRows])) m
  | gateListCommit m => exact Row.mailbox_keepWf h (rateRows_keepWf (gateListCommitCmd,
    cmdGateListCommit) (by simp [rateRows])) m
  | guaranteeSet m => exact Row.mailbox_keepWf h (rateRows_keepWf (guaranteeSetCmd, cmdGuaranteeSet) (by simp [rateRows])) m
  | guaranteeStatus m => exact Row.mailbox_keepWf h (rateRows_keepWf (guaranteeStatusCmd,
    cmdGuaranteeStatus) (by simp [rateRows])) m
  | spoolConfig m => exact Row.mailbox_keepWf h (cellarRows_keepWf (spoolConfigCmd, cmdSpoolConfig) (by simp [cellarRows])) m
  | spoolStatus m => exact Row.mailbox_keepWf h (cellarRows_keepWf (spoolStatusCmd, cmdSpoolStatus) (by simp [cellarRows])) m
  | spoolReplay m => exact Row.mailbox_keepWf h (cellarRows_keepWf (spoolReplayCmd, cmdSpoolReplay) (by simp [cellarRows])) m
  | spoolReplayStart g => exact execSpoolReplayStart_keepWf h g
  | replayPlace g => exact execReplayPlace_keepWf h g
  | cellarStatus m => exact Row.mailbox_keepWf h (cellarRows_keepWf (cellarStatusCmd,
    cmdCellarStatus) (by simp [cellarRows])) m
  | cellarUe site => exact execCellarUe_keepWf h site
  | patrolScrub pages corrected bad => exact execPatrolScrub_keepWf h pages corrected bad
  | fabricSetIdentity m => exact Row.mailbox_keepWf h (fabricRows_keepWf (fabricSetIdentityCmd,
    cmdFabricSetIdentity) (by simp [fabricRows])) m
  | fabricLinkSet m => exact Row.mailbox_keepWf h (fabricRows_keepWf (fabricLinkSetCmd,
    cmdFabricLinkSet) (by simp [fabricRows])) m
  | fabricStatus m => exact Row.mailbox_keepWf h (fabricRows_keepWf (fabricStatusCmd,
    cmdFabricStatus) (by simp [fabricRows])) m
  | fabricStage m => exact Row.mailbox_keepWf h (fabricRows_keepWf (fabricStageCmd, cmdFabricStage) (by simp [fabricRows])) m
  | fabricPrepare m => exact Row.mailbox_keepWf h (fabricRows_keepWf (fabricPrepareCmd,
    cmdFabricPrepare) (by simp [fabricRows])) m
  | frerStatus m => exact Row.mailbox_keepWf h (fabricRows_keepWf (frerStatusCmd, cmdFrerStatus) (by simp [fabricRows])) m
  | helloSend root => exact execHelloSend_keepWf h root
  | helloRx root m => exact execHelloRx_keepWf h root m
  | adjacencyExpiry root => exact execAdjacencyExpiry_keepWf h root
  | topoSend => exact execTopoSend_keepWf h
  | topoRx root r => exact execTopoRx_keepWf h root r
  | leaderElection => exact execLeaderElection_keepWf h
  | routeSend => exact execRouteSend_keepWf h
  | routeRx r => exact execRouteRx_keepWf h r
  | keyRx k wrapped => exact execKeyRx_keepWf h k wrapped
  | fabricCommitTick => exact execFabricCommitTick_keepWf h
  | syncSend => exact execSyncSend_keepWf h
  | syncRx y => exact execSyncRx_keepWf h y
  | prepareRx epoch digest act origin cfg => exact execPrepareRx_keepWf h epoch digest act origin cfg
  | prepAckRx path code => exact execPrepAckRx_keepWf h path code
  | prepareDeadline => exact execPrepareDeadline_keepWf h
  | commitRx c => exact execCommitRx_keepWf h c
  | abortRx a => exact execAbortRx_keepWf h a
  | fabricConfigActivate => exact execFabricConfigActivate_keepWf h
  | catchupReqRx root => exact execCatchupReqRx_keepWf h root
  | catchupRx epoch digest cfg => exact execCatchupRx_keepWf h epoch digest cfg
  | catchupApply => exact execCatchupApply_keepWf h
  | mkaFrameRx root ckn icvOk k => exact execMkaFrameRx_keepWf h root ckn icvOk k
  | fatalFault code unit detail => exact execFatalFault_keepWf h code unit detail
  | faultStatus m => exact Row.mailbox_keepWf h (faultRows_keepWf (faultStatusCmd, cmdFaultStatus) (by simp [faultRows])) m
  | faultClear m => exact Row.mailbox_keepWf h (faultRows_keepWf (faultClearCmd, cmdFaultClear) (by simp [faultRows])) m
  | faultConfig m => exact Row.mailbox_keepWf h (faultRows_keepWf (faultConfigCmd, cmdFaultConfig) (by simp [faultRows])) m
  | faultInject m => exact Row.mailbox_keepWf h (faultRows_keepWf (faultInjectCmd, cmdFaultInject) (by simp [faultRows])) m
  | thermalSet m => exact Row.mailbox_keepWf h (faultRows_keepWf (thermalSetCmd, cmdThermalSet) (by simp [faultRows])) m
  | thermalStatus m => exact Row.mailbox_keepWf h (faultRows_keepWf (thermalStatusCmd,
    cmdThermalStatus) (by simp [faultRows])) m
  | temperatureReading readings => exact execTemperatureReading_keepWf h readings
  | thermalWarnConfirm sensor => exact execThermalWarnConfirm_keepWf h sensor
  | thermalWarnClear sensor => exact execThermalWarnClear_keepWf h sensor
  | thermalDamp sensor => exact execThermalDamp_keepWf h sensor
  | sensorLost sensor => exact execSensorLost_keepWf h sensor
  | sensorRecover sensor => exact execSensorRecover_keepWf h sensor
  | dinConfig m => exact Row.mailbox_keepWf h (faultRows_keepWf (dinConfigCmd, cmdDinConfig) (by simp [faultRows])) m
  | dinStatus m => exact Row.mailbox_keepWf h (faultRows_keepWf (dinStatusCmd, cmdDinStatus) (by simp [faultRows])) m
  | dinSample a b => exact execDinSample_keepWf h a b
  | dinChange k => exact execDinChange_keepWf h k
  | dinDiscrepancy k => exact execDinDiscrepancy_keepWf h k
  | dinDiscrepancyClear k => exact execDinDiscrepancyClear_keepWf h k
  | dinHearthSample a b => exact execDinHearthSample_keepWf h a b
  | referenceSlice vref rset => exact execReferenceSlice_keepWf h vref rset
  | calSlice unit aborted trims temp => exact execCalSlice_keepWf h unit aborted trims temp
  | calStale unit => exact execCalStale_keepWf h unit
  | calConfig m => exact Row.mailbox_keepWf h (testRows_keepWf (calConfigCmd, cmdCalConfig) (by simp [testRows])) m
  | calStatus m => exact Row.mailbox_keepWf h (testRows_keepWf (calStatusCmd, cmdCalStatus) (by simp [testRows])) m
  | calCommit m => exact Row.mailbox_keepWf h (testRows_keepWf (calCommitCmd, cmdCalCommit) (by simp [testRows])) m
  | selftestRun m => exact Row.mailbox_keepWf h (testRows_keepWf (selftestRunCmd, cmdSelftestRun) (by simp [testRows])) m
  | selftestGroupStart => exact execSelftestGroupStart_keepWf h
  | selftestUnitEnd unit check => exact execSelftestUnitEnd_keepWf h unit check
  | selftestResult m => exact Row.mailbox_keepWf h (testRows_keepWf (selftestResultCmd,
    cmdSelftestResult) (by simp [testRows])) m
  | skimConfig m => exact Row.mailbox_keepWf h (testRows_keepWf (skimConfigCmd, cmdSkimConfig) (by simp [testRows])) m
  | skimStatus m => exact Row.mailbox_keepWf h (testRows_keepWf (skimStatusCmd, cmdSkimStatus) (by simp [testRows])) m
  | skimSlice unit aborted check => exact execSkimSlice_keepWf h unit aborted check
  | skimOverdue unit => exact execSkimOverdue_keepWf h unit
  | keepWrite m => exact Row.mailbox_keepWf h (keepRows_keepWf (keepWriteCmd, cmdKeepWrite) (by simp [keepRows])) m
  | keepWordComplete => exact execKeepWordComplete_keepWf h
  | keepStatus m => exact Row.mailbox_keepWf h (keepRows_keepWf (keepStatusCmd, cmdKeepStatus) (by simp [keepRows])) m
  | lifecycleTokenLoad m => exact Row.mailbox_keepWf h (keepRows_keepWf (lifecycleTokenLoadCmd,
    cmdTokenLoad) (by simp [keepRows])) m
  | lifecycleAdvance m => exact Row.mailbox_keepWf h (keepRows_keepWf (lifecycleAdvanceCmd,
    cmdLifecycleAdvance) (by simp [keepRows])) m
  | fuseInstruction hash => exact execFuseInstruction_keepWf h hash
  | standardTraining ch e => exact execStandardTraining_keepWf h ch e
  | peerDelayExchange root d => exact execPeerDelayExchange_keepWf h root d
  | steeringStop => exact execSteeringStop_keepWf h

theorem step_keepWf : Res.keepWf (step s) := by
  unfold step
  split
  · exact h
  · next c rest _ => exact exec_keepWf (s := { s with pending := rest }) h c

end

end Machine

/-- Settles O29 (R586, R589, R590): every command keeps the canonical form, and a step runs one command. -/
theorem keepStoreStaysCanonical : Obligations.KeepStoreStaysCanonical := by
  intro s t h hs
  have hw := Machine.step_keepWf ((Machine.State.keepWf_iff s).1 h)
  rw [hs] at hw
  exact hw

/-- Settles O30 (R586): after reset no word is listed and no command is under way. -/
theorem resetKeepStoreIsCanonical : Obligations.ResetKeepStoreIsCanonical :=
  ⟨rfl, rfl, fun _ h => nomatch h⟩

end Sys2Proof
end

section
/-! SUPPORT. Refill, charge and colours of the buckets and policers; proof of O16. -/
namespace Sys2Proof
namespace Machine

/-! ## Refill (R384) -/

theorem refill_le (rate size : Nat) (tok : Int) (rem : Nat) : (refill rate size tok rem).1 ≤ ((size * 64 : Nat) : Int) :=
  Int.min_le_right ..

theorem refill_rem_lt (rate size : Nat) (tok : Int) (rem : Nat) : (refill rate size tok rem).2 < 5 :=
  Nat.mod_lt _ (by decide)

/-- A refill that fills no bucket adds a fifth of the rate, what the division leaves included. -/
theorem refill_exact {rate size : Nat} {tok : Int} {rem : Nat}
    (h : tok + (((rate + rem) / 5 : Nat) : Int) ≤ ((size * 64 : Nat) : Int)) :
    5 * (refill rate size tok rem).1 + ((refill rate size tok rem).2 : Int) = 5 * tok + (rate : Int) + (rem : Int) := by
  simp only [refill, Int.min_eq_left h]
  omega

theorem le_refill {rate size : Nat} {tok : Int} {rem : Nat} (h : tok ≤ ((size * 64 : Nat) : Int)) :
    tok ≤ (refill rate size tok rem).1 :=
  Int.le_min.2 ⟨by omega, h⟩

/-- `n` refills of an empty bucket. -/
def refills (rate size n : Nat) : Int × Nat := (List.range n).foldl (fun x _ => refill rate size x.1 x.2) (0, 0)

theorem refills_succ (rate size n : Nat) :
    refills rate size (n + 1) = refill rate size (refills rate size n).1 (refills rate size n).2 := by
  simp [refills, List.range_succ]

/-- As long as they do not fill the bucket, they bring `n` times a fifth of the rate. -/
theorem refills_exact (rate size n : Nat) (h : rate * n ≤ size * 64 * 5) :
    5 * (refills rate size n).1 + ((refills rate size n).2 : Int) = (rate * n : Nat) := by
  induction n with
  | zero => simp [refills]
  | succ n ih =>
    rw [Nat.mul_succ] at h ⊢
    have hn := ih (by omega)
    rw [refills_succ, refill_exact (by omega)]
    omega

/-! ## Policing (R395) -/

/-- A policer after a frame of `len` bytes in a colour: the colour's buckets are charged and its counters take the frame. -/
inductive Policer.Charged (p : Policer) (len : Nat) (pre : Bool) : Colour × Policer → Prop
  | green (hc : 64 * (len : Int) ≤ p.tokC) (hp : p.mode1 = false → 64 * (len : Int) ≤ p.tokP)
      (ha : (p.aware && pre) = false) :
      Charged p len pre (.green, { p with
        tokC := p.tokC - 64 * (len : Int), tokP := if p.mode1 then p.tokP else p.tokP - 64 * (len : Int)
        tkGf := p.tkGf + 1, tkGb := p.tkGb + len })
  | yellow (hp : 64 * (len : Int) ≤ p.tokP) :
      Charged p len pre (.yellow, { p with tokP := p.tokP - 64 * (len : Int), tkYf := p.tkYf + 1, tkYb := p.tkYb + len })
  | red : Charged p len pre (.red, { p with tkRf := p.tkRf + 1, tkRb := p.tkRb + len })

theorem Policer.police_charged (p : Policer) (len : Nat) (pre : Bool) : p.Charged len pre (p.police len pre) := by
  have hb : ((len * 64 : Nat) : Int) = 64 * (len : Int) := by omega
  unfold Policer.police
  dsimp only
  rw [hb]
  split
  · next hm =>
    split
    · next h =>
      simp only [Bool.and_eq_true, Bool.not_eq_true', decide_eq_true_eq] at h
      simpa [hm] using Policer.Charged.green (pre := pre) h.2 (by simp [hm]) h.1
    · split
      · next h => exact .yellow h
      · exact .red
  · next hm =>
    split
    · exact .red
    · next hp =>
      split
      · exact .yellow (by omega)
      · next h =>
        simp only [Bool.or_eq_true, decide_eq_true_eq, not_or, Bool.not_eq_true] at h
        simpa [hm] using Policer.Charged.green (pre := pre) (by omega) (fun _ => by omega) h.1
end Machine

/-- Settles O16 (R384, R388, R394 to R396): the refills by the division with remainder, the policer by its three colours. -/
theorem bucketsAndPolicersKeepTheirBounds : Obligations.BucketsAndPolicersKeepTheirBounds := by
  refine ⟨fun rate size tok rem _ => ⟨Machine.refill_le .., Machine.refill_rem_lt .., Machine.refill_exact,
      Machine.le_refill⟩,
    Machine.refills_exact, fun p len pre hC hP => ?_⟩
  have h := p.police_charged len pre
  generalize p.police len pre = r at h
  dsimp only
  cases h with
  | green hc hp ha =>
    have ha' : p.aware = true → pre = false := by simpa using ha
    cases hm : p.mode1 with
    | false =>
      have hP' := hp hm
      simp +contextual [ha']
      omega
    | true =>
      simp +contextual [ha']
      omega
  | yellow hp => simp; omega
  | red => simp; omega
end Sys2Proof
end

section
/-! SUPPORT. The power state through the work that an entry of BANKED or EMBER leaves; proof of O24. -/
namespace Sys2Proof
namespace Machine

/-! ## The power state through the work on lines and drops that an abandoned entry leaves (R497) -/

/-- The power state of the device, and the tables of its domains and entries. -/
def State.powers (s : State) : PowerSt × Power := (s.power, s.boot.power)

@[simp] theorem State.powers_ite (c : Prop) [Decidable c] (s t : State) :
    (if c then s else t).powers = if c then s.powers else t.powers := apply_ite ..
theorem State.foldl_powers {α : Type} {f : State → α → State} (h : ∀ s a, (f s a).powers = s.powers) (l : List α)
    (s : State) : (l.foldl f s).powers = s.powers := by
  induction l generalizing s with
  | nil => rfl
  | cons a l ih => rw [List.foldl_cons, ih, h]

section
variable (s : State)

@[simp] theorem State.modLine_powers (ch f) : (s.modLine ch f).powers = s.powers := rfl
@[simp] theorem State.modDrop_powers (ds f) : (s.modDrop ds f).powers = s.powers := rfl
@[simp] theorem State.modBundle_powers (bg f) : (s.modBundle bg f).powers = s.powers := rfl
@[simp] theorem State.runDue_powers (cause) : (s.runDue cause).powers = s.powers := rfl
@[simp] theorem State.doorbell_powers (b) : (s.doorbell b).powers = s.powers := rfl
@[simp] theorem State.record_powers (type source data) : (s.record type source data).powers = s.powers := by
  rw [State.record_frame]; rfl
@[simp] theorem State.event_powers (type source data) : (s.event type source data).powers = s.powers := by
  rw [State.event_frame]; rfl
@[simp] theorem State.lineMode_powers (ch mode) (slave) : (s.lineMode ch mode slave).powers = s.powers := by
  simp [State.lineMode]
@[simp] theorem State.lineSt_powers (ch) (st) : (s.lineSt ch st).powers = s.powers := by simp [State.lineSt]
@[simp] theorem State.leaveSurvey_powers (ch) : (s.leaveSurvey ch).powers = s.powers := by simp [State.leaveSurvey]
@[simp] theorem State.lineDown_powers (ch) (st) : (s.lineDown ch st).powers = s.powers := by simp [State.lineDown]
@[simp] theorem State.lineTrain_powers (ch mode slave start resume count) :
    (s.lineTrain ch mode slave start resume count).powers = s.powers := by
  simp [State.lineTrain]
@[simp] theorem State.lineStart_powers (ch start resume) : (s.lineStart ch start resume).powers = s.powers := by
  simp [State.lineStart]
@[simp] theorem State.wakePartner_powers (ch) : (s.wakePartner ch).powers = s.powers := by simp [State.wakePartner]
@[simp] theorem State.undoSleep_powers (ch) : (s.undoSleep ch).powers = s.powers := by simp [State.undoSleep]
@[simp] theorem State.decideGroup_powers (bg) : (s.decideGroup bg).powers = s.powers :=
  State.foldl_powers (fun s c => s.modLine_powers c _) _ _
@[simp] theorem State.decideStarts_powers : s.decideStarts.powers = s.powers :=
  State.foldl_powers State.decideGroup_powers _ _
@[simp] theorem State.lineDieHeld_powers (d) (woken) : (s.lineDieHeld d woken).powers = s.powers := by
  refine (State.decideStarts_powers _).trans (State.foldl_powers (fun s ch => ?_) _ _)
  (repeat' split) <;> simp
@[simp] theorem State.dropEvent_powers (ds id cause) : (s.dropEvent ds id cause).powers = s.powers := by
  simp [State.dropEvent]
@[simp] theorem State.dropSt_powers (ds) (st) : (s.dropSt ds st).powers = s.powers := by simp [State.dropSt]
@[simp] theorem State.dropUp_powers (ds t) : (s.dropUp ds t).powers = s.powers := by simp [State.dropUp]
@[simp] theorem State.dropDown_powers (ds) (st) : (s.dropDown ds st).powers = s.powers := by simp [State.dropDown]
@[simp] theorem State.dropStart_powers (ds t) : (s.dropStart ds t).powers = s.powers := by simp [State.dropStart]
@[simp] theorem State.heldOn_powers (d w) : (s.heldOn d w).powers = s.powers := by
  refine (State.lineDieHeld_powers ..).trans (State.foldl_powers (fun s ds => ?_) _ _)
  split <;> simp
@[simp] theorem State.wakeRecord_powers (cause source latched) :
    (s.wakeRecord cause source latched).powers = s.powers := by
  simp [State.wakeRecord]

end

/-! ## The ends of an entry (R495 to R499) -/

theorem Entry.due_of_steps {e : Entry} {n d : Nat} (h : e.steps = n) (hd : [1, 4, 5, 6, 8].getD n 8 = d) :
    e.due = e.start + d := by
  rw [Entry.due, h, hd]

/-- An entry that goes on stands for its next step. -/
theorem State.entryStep_steps {s : State} {e : Entry} (hg : e.givesUp = none) (hs : e.steps < 4) :
    (s.entryStep e).power.entry.map Entry.steps = some (e.steps + 1) := by
  have h4 : e.steps = 0 ∨ e.steps = 1 ∨ e.steps = 2 ∨ e.steps = 3 := by omega
  rw [State.entryStep, hg]
  rcases h4 with h | h | h | h <;> simp only [h] <;> rfl

@[simp] theorem State.stopClocks_frame (s : State) : s.stopClocks = { s with clock := s.stopClocks.clock } := rfl
@[simp] theorem State.suspend_frame (s : State) :
    s.suspend = { s with thermal := s.suspend.thermal, din := s.suspend.din } := rfl

/-- On the way into EMBER the state and the mailboxes stay (R499). -/
theorem State.reachEmber_frame (s : State) : s.reachEmber = { s with
    power := { s.power with tail := traceTail s.power.trace, trace := [], on := 1 }
    pins := s.reachEmber.pins, clock := s.reachEmber.clock, cellar := s.reachEmber.cellar } := rfl

theorem State.reach_rest (s : State) (e : Entry) :
    (s.reach e).power.entry = none ∧ (s.reach e).boot.power = (if e.ember then .ember else .banked) ∧
      (s.reach e).boot.ready = false ∧ (s.reach e).time = s.time ∧
      (s.reach e).mbx.dbStatus = s.mbx.dbStatus ||| w32 (2 ^ 20) := by
  unfold State.reach
  extract_lets st ended asleep t
  have ht : t.power.entry = none ∧ t.boot.power = st ∧ t.boot.ready = false ∧ t.time = s.time ∧
      t.mbx.dbStatus = s.mbx.dbStatus ||| w32 (2 ^ 20) := by
    simp only [t]
    split
    · rw [State.reachEmber_frame]; exact ⟨rfl, rfl, rfl, rfl, rfl⟩
    · exact ⟨rfl, rfl, rfl, rfl, rfl⟩
  clear_value t
  obtain ⟨hn, hp, hr, hs, hd⟩ := ht
  cases e.latched with
  | none => exact ⟨hn, hp, hr, hs, hd⟩
  | some w =>
    dsimp only
    split <;> simp [State.pwrenHigh, *, st]

/-- No entry is under way, the last one was given up, and the device is in power state `p`. -/
def State.gaveUp (s : State) (p : Power) : Prop :=
  s.powers.1.entry = none ∧ s.powers.1.aborted = true ∧ s.powers.2 = p

theorem State.gaveUp_of_powers {s t : State} {p : Power} (h : t.gaveUp p) (e : s.powers = t.powers) : s.gaveUp p := by
  unfold State.gaveUp
  rwa [e]

theorem State.abandonEntry_gaveUp (s : State) (e : Entry) (w : Wake) : (s.abandonEntry e w).gaveUp s.boot.power := by
  unfold State.abandonEntry
  extract_lets first given told
  have hg : told.gaveUp s.boot.power := State.gaveUp_of_powers (t := given) ⟨rfl, rfl, rfl⟩ (by simp [told])
  clear_value told
  split
  · exact State.gaveUp_of_powers hg ((State.decideStarts_powers _).trans (State.foldl_powers State.undoSleep_powers _ _))
  · refine List.foldlRecOn (motive := fun t : State => t.gaveUp s.boot.power) e.domains _ hg (fun t ht d _ => ?_)
    split
    · exact State.gaveUp_of_powers ht (State.heldOn_powers ..)
    · exact ht

end Machine

/-- Settles O24 (R495 to R499): each step stands for the next, the last one reaches the state, and one that a wake of an
earlier tick meets gives the entry up. -/
theorem entryStepsFollowTheirTicks : Obligations.EntryStepsFollowTheirTicks := by
  intro e s
  refine ⟨fun h => Machine.Entry.due_of_steps h rfl, fun h => Machine.Entry.due_of_steps h rfl,
    fun h => Machine.Entry.due_of_steps h rfl, fun h => Machine.Entry.due_of_steps h rfl,
    fun h => Machine.Entry.due_of_steps h rfl, Machine.State.entryStep_steps, fun hg hs => ?_, fun w hg => ?_⟩
  · have he : s.entryStep e = s.reach e := by simp only [Machine.State.entryStep, hg, hs]
    obtain ⟨hn, hp, hr, ht, hd⟩ := s.reach_rest e
    rw [he]
    refine ⟨hn, hp, hr, ht, ?_⟩
    rw [hd]
    exact (s.doorbell_bit 20).trans_ne (by decide)
  · have he : s.entryStep e = s.abandonEntry e w := by rw [Machine.State.entryStep, hg]
    rw [he]
    exact s.abandonEntry_gaveUp e w
end Sys2Proof
end

section
/-! SUPPORT. The bridge and tree settings; proof of O48. -/
namespace Sys2Proof
open Machine
namespace Machine

/-- A check that something holds where it is asked for passes. -/
theorem and_not_eq_false {a b : Bool} (h : a = true → b = true) : (a && !b) = false := by
  cases a with
  | false => rfl
  | true => rw [h rfl]; rfl

end Machine

/-- Settles O48 (R355, R356, R359, R362, R364, R370, R377, R378, R381; LEARNED, STATIC, OCC_BYTES and OCC_FRAMES
as they stand: log 70). -/
theorem forwardingSettingsAreAccepted : Obligations.ForwardingSettingsAreAccepted := by
  intro m s d
  refine ⟨fun h h1 h2 hp hv hv' => ?_, fun h h1 hv hv' ha => ?_, fun h h1 hl hu => ?_, fun h hb hv hv' => ?_,
    fun h h1 => ?_, fun h hb hv hv' => ?_, fun h hb => ?_, fun h hb => ?_, fun h h1 hq => ?_, fun h h1 => ?_⟩
  · refine congrArg _ ((State.mailbox_selects h).trans ?_)
    rw [cmdPortBridgeConfig, Reply.unless_of_false _ _ (by simp [h1, h2, hv, hv', hp])]
    rfl
  · refine congrArg _ ((State.mailbox_selects h).trans ?_)
    rw [cmdVlanSet, Reply.unless_of_false _ _ (by rcases ha with ha | ha <;> simp [h1, hv, hv', ha])]
    rfl
  · refine congrArg _ ((State.mailbox_selects h).trans ?_)
    rw [cmdFdbConfig, Reply.unless_of_false _ _ (by simp [h1, hu]; omega)]
    rfl
  · refine ⟨fun h0 hn => ?_, fun h1 hn hc hs hm hf => ?_, fun h2 hn hc => ?_⟩
    all_goals refine congrArg _ ((State.mailbox_selects h).trans ?_)
    · rw [cmdFdbEntry, Reply.unless_of_false _ _ (by simp [h0, hn]), Reply.unless_of_false _ _ (by simp [h0]),
        Reply.unless_of_false _ _ (by simp [h0, hb, hv, hv']), h0]
      rfl
    · have hroom : ((fdbFind d.commitLearns.schedProj.bridge.fdb (m.get 1 0 16 * 2 ^ 32 + m.word 2)
          (m.get 1 16 12)).isNone &&
          decide (fdbSize ≤ d.commitLearns.schedProj.bridge.fdb.length)) = false :=
        Bool.and_eq_false_iff.2 (hf.imp (fun hn => by simpa [Option.isSome_iff_ne_none] using hn)
          (fun hl => decide_eq_false (Nat.not_le.2 hl)))
      rw [cmdFdbEntry, Reply.unless_of_false _ _ (by simp [h1, hn]), Reply.unless_of_false _ _ (by simp [hc]),
        Reply.unless_of_false _ _ (by simp [h1, hb, hv, hv', hs, hm]), h1]
      dsimp only
      rw [Reply.unless_of_false _ _ hroom]
      rfl
    · rw [cmdFdbEntry, Reply.unless_of_false _ _ (by simp [h2, hn]), Reply.unless_of_false _ _ (by simp [h2, hc]),
        Reply.unless_of_false _ _ (by simp [h2, hb, hv, hv']), h2]
      rfl
  · refine congrArg _ ((State.mailbox_selects h).trans ?_)
    rw [cmdFdbStatus, Reply.unless_of_false _ _ h1]
    rfl
  · refine ⟨fun hd h3 h4 hq hp => ?_, fun x hd hx hg => ?_⟩
    have hqueue := Machine.and_not_eq_false hq
    have hpol := Machine.and_not_eq_false hp
    refine ⟨fun x hx hg => ?_, fun n hx hn => ?_⟩
    all_goals refine congrArg _ ((State.mailbox_selects h).trans ?_)
    · rw [cmdStreamSet, hx, Reply.unless_of_false _ _ (by simp [hb, hv, hv', h3, h4]),
        Reply.unless_of_false _ _ (by simp only [hg, hd, hqueue, hpol, Bool.or_self, Bool.and_false]), hd]
      rfl
    · rw [cmdStreamSet, hx, Reply.unless_of_false _ _ (by simp [hb, hv, hv', h3, h4]),
        Reply.unless_of_false _ _ (by simp only [hd, hqueue, hpol, Bool.or_self, Bool.and_false]), hd, hn]
      rfl
    · rw [cmdStreamSet, hx, Reply.unless_of_false _ _ (by simp [hb, hv, hv', hd]),
        Reply.unless_of_false _ _ (by simp [hg, hd]), hd]
      rfl
  · refine ⟨fun hd hp h3 hw hpo hab hdo hbusy hl => ?_, fun hd hk hc => ?_⟩
    all_goals refine congrArg _ ((State.mailbox_selects h).trans ?_)
    · rw [cmdNodeSet, hd, if_neg (by simp), cmdNodeAdd, Reply.unless_of_false _ _ (by simp [hb, hp, h3, hw]),
        Reply.unless_of_false _ _ (by simp only [hpo, hdo]; rcases hab with ha | ha <;> simp [ha]),
        Reply.unless_of_false _ _ ?_, Reply.unless_of_false _ _ (by exact decide_eq_false (Nat.not_lt.2 hl))]
      · rfl
      · refine Bool.eq_false_iff.2 (fun ht => ?_)
        simp only [Bool.and_eq_true, Bool.or_eq_true, bne_iff_ne] at ht
        exact absurd (hbusy ht.1.1 ht.1.2) (by simp [ht.2])
    · rw [cmdNodeSet, if_pos hd, cmdNodeDel, Reply.unless_of_false _ _ hb, Reply.unless_of_false _ _ hk,
        Reply.unless_of_false _ _ (by simp [hc])]
      rfl
  · refine ⟨fun hd hp h3 h4 hw hm hpo hdo hbusy hl => ?_, fun hd hs hc he => ?_⟩
    all_goals refine congrArg _ ((State.mailbox_selects h).trans ?_)
    · rw [cmdQueueSet, hd, if_neg (by simp), cmdQueueAdd, Reply.unless_of_false _ _ (by simp [hb, hp, h3, h4, hw, hm]),
        Reply.unless_of_false _ _ (by simp [hpo, hdo]), Reply.unless_of_false _ _ ?_,
        Reply.unless_of_false _ _ (by exact decide_eq_false (Nat.not_lt.2 hl))]
      · rfl
      · refine Bool.eq_false_iff.2 (fun ht => ?_)
        simp only [Bool.and_eq_true, Bool.or_eq_true, bne_iff_ne] at ht
        simp [hbusy ht.1.1 ht.1.2] at ht
    · rw [cmdQueueSet, if_pos hd, cmdQueueDel, Reply.unless_of_false _ _ hb, Reply.unless_of_false _ _ ?_,
        Reply.unless_of_false _ _ (by simp [hc]), Reply.unless_of_false _ _ (by simp [he])]
      · rfl
      · simpa [List.any_eq_false] using hs
  · refine congrArg _ ((State.mailbox_selects h).trans ?_)
    rw [cmdQueueFlush, Reply.unless_of_false _ _ h1, Reply.unless_of_false _ _ (by simp [hq])]
    rfl
  · refine congrArg _ ((State.mailbox_selects h).trans ?_)
    rw [cmdQueueStats, Reply.unless_of_false _ _ h1]
    rfl
end Sys2Proof
end

section
/-! SUPPORT. The settings of rates, policers, gates and guarantees; proof of O50. -/
namespace Sys2Proof
open Machine
namespace Machine

/-- An entry of a gate list of 0 ticks is what the check looks for. -/
theorem gateEntries_any_zero {m : Msg} {n : Nat} (h : ∀ k, k < n → m.get (k + 2) 0 16 ≠ 0) :
    (gateEntries m n).any (fun e => e.ticks == 0) = false := by
  simpa [gateEntries, List.any_map] using h

end Machine

/-- Settles O50 (R382, R385, R386, R388, R393, R396, R397, R399, R402, R407; the greater of BASE and the next edge as ACT
where ENABLE is 0: log 69; the tokens of POLICER_STATS as they stand: log 70). -/
theorem rateSettingsAreAccepted : Obligations.RateSettingsAreAccepted := by
  intro m s d
  refine ⟨fun h h1 h2 h3 hr hw => ?_, fun h h1 hi hen => ?_, fun h h1 hi hc => ?_, fun h h1 hen => ?_, fun h h1 => ?_,
    fun h h1 hr hn hn' hs hl he => ?_, fun h h1 hr hn => ?_, fun h hd h1 h2 h3 h5 hw2 hw3 st hst => ?_,
    fun h hd h1 hs => ?_, fun h h1 => ⟨fun g st hg hst => ?_, fun hn => ?_⟩⟩
  · intro c hl hk
    refine congrArg _ ((State.mailbox_selects h).trans ?_)
    rw [cmdRootSet, Reply.unless_of_false _ _ (by simp [h1, h2, h3, hr, hw]),
      Reply.unless_of_false _ _ (by exact decide_eq_false (Nat.not_lt.2 hl)), Reply.unless_of_false _ _ (by simp [hk, c])]
    rfl
  · intro c hc hk
    refine congrArg _ ((State.mailbox_selects h).trans ?_)
    rw [cmdShaperSet, Reply.unless_of_false _ _ ?_, Reply.unless_of_false _ _ (by simp [hc]),
      Reply.unless_of_false _ _ (by simp [hk, c])]
    · rfl
    · cases he : m.flag 1 29 with
      | false => simp [h1, hi]
      | true =>
        obtain ⟨h2, h3, h4, h5, hw2, hw4, hw5, hle⟩ := hen he
        have hw3 : m.word 3 ≠ 0 := by omega
        simp [h1, hi, h2, h3, h4, h5, hw2, hw3, hw4, hw5, hle]
  · intro sh
    refine congrArg _ ((State.mailbox_selects h).trans ?_)
    rw [cmdShaperRead, Reply.unless_of_false _ _ (by simp [h1, hi]), Reply.unless_of_false _ _ (by simp [hc])]
    rfl
  · intro c hs hk
    refine congrArg _ ((State.mailbox_selects h).trans ?_)
    rw [cmdPolicerSet, Reply.unless_of_false _ _ ?_, Reply.unless_of_false _ _ ?_]
    · rfl
    · cases he : m.flag 1 31 with
      | false =>
        have hs' := hs.resolve_left (by simp [he])
        simpa [c, he] using And.intro (fun a b => hs' (a, b)) hk
      | true => simpa [c, he] using hk
    · cases he : m.flag 1 31 with
      | false => simp [h1]
      | true =>
        obtain ⟨h2, h3, h4, h5, hw2, hw3, hw4, hw5, hle⟩ := hen he
        rcases hle with hle | hle <;> simp [h1, h2, h3, h4, h5, hw2, hw3, hw4, hw5, hle]
  · intro p
    refine congrArg _ ((State.mailbox_selects h).trans ?_)
    rw [cmdPolicerStats, Reply.unless_of_false _ _ h1]
    rfl
  · refine congrArg _ ((State.mailbox_selects h).trans ?_)
    rw [cmdGateListWrite, Reply.unless_of_false _ _ ?_]
    · rfl
    · have hz := gateEntries_any_zero fun k hk => (he k hk).1
      have hst : (List.range (m.get 1 16 8)).any (fun k => m.stray (k + 2) 0xFF00FFFF) = false := by
        simpa using fun k hk => (he k hk).2
      have hn0 : m.get 1 16 8 ≠ 0 := by omega
      simp [h1, hr, hn0, hn', hs, hl, hz, hst]
  · intro l cycle act c hk
    refine congrArg _ ((State.mailbox_selects h).trans ?_)
    rw [cmdGateListCommit, Reply.unless_of_false _ _ ?_, Reply.unless_of_false _ _ ?_]
    · rfl
    · exact congrArg (!·) hk
    · cases he : m.flag 1 8 with
      | false => simp [h1, hr]
      | true =>
        have hn0 : m.get 1 16 9 ≠ 0 := by have := hn he; omega
        simp [h1, hr, hn0, (hn he).2]
  · intro c hin hroom
    refine congrArg _ ((State.mailbox_selects h).trans ?_)
    have hin' : (!((d.guarProj.applySched c).admitted.map Prod.fst).contains (m.get 1 0 18)) = false := by
      simpa using hin
    have hfull : ((tfind d.guarProj.sched.guars (m.get 1 0 18)).isNone &&
        decide (65536 ≤ d.guarProj.sched.guars.length)) = false :=
      Bool.and_eq_false_iff.2 (hroom.imp (fun hn => by simpa [Option.isSome_iff_ne_none] using hn)
        (fun hl => decide_eq_false (Nat.not_le.2 hl)))
    rw [cmdGuaranteeSet, hd, if_neg (by simp), cmdGuarAdd, Reply.unless_of_false _ _ (by simp [h1, h2, h3, h5, hw2, hw3]),
      hst]
    dsimp only
    rw [Reply.unless_of_false _ _ hin', Reply.unless_of_false _ _ hfull]
    rfl
  · refine congrArg _ ((State.mailbox_selects h).trans ?_)
    rw [cmdGuaranteeSet, if_pos hd, cmdGuarDel, Reply.unless_of_false _ _ h1,
      Reply.unless_of_false _ _ (by simpa [Option.isSome_iff_ne_none] using hs)]
    rfl
  · refine congrArg _ ((State.mailbox_selects h).trans ?_)
    rw [cmdGuaranteeStatus, Reply.unless_of_false _ _ h1, hg, hst]
    rfl
  · refine congrArg _ ((State.mailbox_selects h).trans ?_)
    rw [cmdGuaranteeStatus, Reply.unless_of_false _ _ h1]
    rcases hn with hn | hn
    · rw [hn]; rfl
    · rw [hn]; cases tfind d.sched.guars (m.get 1 0 18) <;> rfl
end Sys2Proof
end

section
/-! SUPPORT. The spool commands, the replay and the scrub; proof of O51. -/
namespace Sys2Proof
open Machine
namespace Machine

theorem execCellarUe_next {s : State} {site : UeSite} (hl : s.live = true) (ht : s.cellar.trained = true) :
    exec (.cellarUe site) s = .next (s.uncorrectable site) := by
  simp [exec, execCellarUe, hl, ht]

/-- A retired page stays retired; the 65,537th is FATAL (R421). -/
theorem State.retire_cases (s : State) (page : Nat) :
    s.retire page = if s.cellar.retired.contains page then s
      else if s.cellar.retired.length < 65536 then s.modCellar (fun c => { c with retired := c.retired ++ [page] })
      else s.fatal 0x3801 0xFF := rfl

/-- What the scrub does to the cellar, with the pages of its pass that are left (R427 to R430). -/
theorem CellarSt.scrub_cases (c : CellarSt) (pages corrected now : Nat) :
    let p := c.scrubPass now
    let n := c.scrubNext pages now
    (n = 0 → c.scrub pages corrected now = p) ∧
    (n ≠ 0 → c.scrub pages corrected now =
      { p with tkCe := p.tkCe + Nat.min corrected (8 * n), scrubPos := p.scrubPos + n
               scrubTick := if p.scrubPos + n = allPages then now else p.scrubTick }) :=
  ⟨fun h => if_pos h, fun h => if_neg h⟩

/-- A replay finds no page of its queue busy unless a queue is named for another lane group (R434). -/
theorem spoolConfig_queues_ok {m : Msg} {p : State}
    (h : ∀ g, g < 4 → (replayQOf m g).1 = true → p.queueRoot (replayQOf m g).2 = some (132 + g)) :
    (List.range 4).any (fun g => (replayQOf m g).1 && p.queueRoot (replayQOf m g).2 != some (132 + g)) = false := by
  simpa [List.any_eq_false] using h

end Machine

/-- Settles O51 (R416, R419 to R421, R427 to R430, R434). -/
theorem cellarCommandsComplete : Obligations.CellarCommandsComplete := by
  refine ⟨fun m s d => ⟨fun h h1 hz hh hq hs hu => ?_, fun h h1 => ?_, fun h h1 hz hup hr => ?_, fun h h1 => ?_⟩,
    fun g s hl hg => ⟨fun e he hn => ?_, fun id q rest st hr ht hq hst => ⟨fun hroom => ?_, fun hfull => ?_⟩⟩,
    fun s hl ht => ⟨fun id page h => ?_, fun page h => ?_, fun id page h => ?_, State.retire_cases,
      fun pages corrected => ?_⟩⟩
  · refine congrArg _ ((State.mailbox_selects h).trans ?_)
    have hst : (List.range 4).any (fun g => m.stray (g + 2) 0x800FFFFF) = false := by
      simpa [List.any_eq_false] using fun g hg => (hq g hg).1
    have hsize : (m.get 1 0 4 != d.schedProj.cellar.size && !d.cellar.spool.isEmpty) = false := by
      rcases hs with hs | hs <;> simp [hs]
    rw [cmdSpoolConfig, Reply.unless_of_false _ _ (by simp [h1, hz, hh, hst]),
      Reply.unless_of_false _ _ (by rw [hsize, spoolConfig_queues_ok fun g hg => (hq g hg).2]; rfl),
      Reply.unless_of_false _ _ (by exact decide_eq_false (Nat.not_lt.2 hu))]
    rfl
  · refine congrArg _ ((State.mailbox_selects h).trans ?_)
    rw [cmdSpoolStatus, Reply.unless_of_false _ _ h1]
    rfl
  · refine congrArg _ ((State.mailbox_selects h).trans ?_)
    rw [cmdSpoolReplay, Reply.unless_of_false _ _ h1, Reply.unless_of_false _ _ (by simp [hz, hup]),
      Reply.unless_of_false _ _ hr]
    rfl
  · refine congrArg _ ((State.mailbox_selects h).trans ?_)
    rw [cmdCellarStatus, Reply.unless_of_false _ _ h1]
    rfl
  · simp [exec, execSpoolReplayStart, he, hl, hg, hn]
  · simp [exec, execReplayPlace, hl, hg, hr, ht, hq, hst, hroom]
  · simp [exec, execReplayPlace, hl, hg, hr, ht, hq, hst, Nat.not_le.2 hfull]
  · rw [execCellarUe_next hl ht, State.uncorrectable, if_pos h]
  · rw [execCellarUe_next hl ht, State.uncorrectable, if_pos h]
  · rw [execCellarUe_next hl ht, State.uncorrectable, if_pos h]
  · obtain ⟨h0, hne⟩ := s.cellar.scrub_cases pages corrected s.now
    refine ⟨s.modCellar (fun c => c.scrub pages corrected s.now), ?_, rfl, h0, hne, fun site hn => ?_⟩
    · simp [exec, execPatrolScrub, hl, ht]
    · have hn' : s.cellar.scrubNext pages s.now ≠ 0 := hn
      simp [exec, execPatrolScrub, hl, ht, hn']
end Sys2Proof
end

section
/-! SUPPORT. The fabric commands; proof of O52. -/
namespace Sys2Proof
open Machine
namespace Machine

/-! ## Channels (R120, R122) -/

/-- The dispatcher takes its next message from one of the channels 0 to 6. -/
theorem State.nextChan_lt {s : State} {c : Nat} (h : s.nextChan = some c) : c < 7 := by
  unfold State.nextChan at h
  split_ifs at h
  · cases h; decide
  · have hm := List.mem_of_find?_eq_some h
    simp only [List.mem_append, List.mem_filter, List.mem_cons, List.not_mem_nil, or_false] at hm
    omega

/-- A message that is selected at once stands on one of the channels 0 to 6: the channel of configuration images is none. -/
theorem State.selects_chan_lt {cmd : Cmd} {m : Msg} {s d : State} (h : s.selects cmd m d) : m.chan < 7 := by
  obtain ⟨-, -, -, ht, -⟩ := h
  by_cases h4 : m.chan = 4
  · omega
  · have hs : (s.submit cmd.op m).serverOf m.chan = (s.submit cmd.op m).boot.stewardSouth := if_neg h4
    simp only [State.turn, hs, beq_self_eq_true, if_true, Bool.and_eq_true, beq_iff_eq] at ht
    exact State.nextChan_lt ht.2

/-! ## FABRIC_PREPARE (R463, R466, R469, R470) -/

/-- A configuration that fits is committed at once by a device alone, and flooded by the top leader of several. -/
theorem State.commitStart_of_fits {s : State} {lead : Nat} {cfg : FabConfig} {reply : Option ReplyTo}
    (h : s.fabFits cfg = true) :
    let e := s.graph.radius s.devices s.serial
    let act := s.now + Nat.max 400 (Nat.max lead (3 * e + 40))
    let alone := decide (s.devices.length ≤ 1)
    let epoch := ((if alone then s.fabric.epoch else (s.graph.values s.devices).1) + 1) % 2 ^ 32
    let hold := fun (p : Prepare) => s.modFabric (fun f => { f with prep := some p })
    s.commitStart lead cfg reply =
      if alone then
        (hold ⟨true, epoch, cfgDigest cfg, act, e, cfg, [], true, reply⟩).ackLater reply .ok
          (w32 epoch :: lohi act ++ [0])
      else (hold ⟨true, epoch, cfgDigest cfg, act, e, cfg, [], false, reply⟩).fabFlood none
          (.prepare epoch (cfgDigest cfg) act cfg) := by
  by_cases hn : s.devices.length ≤ 1
  · simp only [State.commitStart, h, hn, Nat.not_lt.2 hn, if_true, if_false, decide_true]
    rfl
  · simp only [State.commitStart, h, hn, Nat.not_le.1 hn, if_true, if_false, decide_false, Bool.false_eq_true]

/-- One that does not fit is answered BUDGET. -/
theorem State.commitStart_of_not_fits {s : State} {lead : Nat} {cfg : FabConfig} {reply : Option ReplyTo}
    (h : s.fabFits cfg = false) :
    let act := s.now + Nat.max 400 (Nat.max lead (3 * s.graph.radius s.devices s.serial + 40))
    let alone := decide (s.devices.length ≤ 1)
    let epoch := ((if alone then s.fabric.epoch else (s.graph.values s.devices).1) + 1) % 2 ^ 32
    s.commitStart lead cfg reply = s.ackLater reply .budget
      (w32 epoch :: lohi act ++ [packW [(8, 0), (8, Code.budget.num), (16, s.fabric.path)]]) := by
  by_cases hn : s.devices.length ≤ 1
  · simp only [State.commitStart, h, hn, Nat.not_lt.2 hn, if_true, if_false, decide_true, Bool.false_eq_true]
    rfl
  · simp only [State.commitStart, h, hn, Nat.not_le.1 hn, if_true, if_false, decide_false, Bool.false_eq_true]
    rfl

/-- An entry that is changed starts from what it holds, whatever stands for one that is not listed. -/
theorem tget_tget {α : Type} (d : α) (t : Table α) (i : Nat) : tget (tget d t i) t i = tget d t i := by
  cases h : tfind t i with
  | none => exact tget_of_tfind_none _ h
  | some x => rw [tget_of_tfind _ h, tget_of_tfind _ h]

/-- The mark of FRER_STATUS stands in what the entry's recovery holds. -/
theorem State.recovery_mark (s : State) (h : Nat) :
    s.modFabric (fun f => { f with recov := tmod (s.recovery h) f.recov h (fun r => { r with clr := 1 }) }) =
      s.modFabric (fun f => { f with recov := tset f.recov h { s.recovery h with clr := 1 } }) := by
  simp only [State.modFabric, tmod, State.recovery, tget_tget]

end Machine

/-- Settles O52 (R435, R436, R463, R466, R469, R470, R472, R593, R596; the wait of a member: log 21). -/
theorem fabricMessagesAreAnswered : Obligations.FabricMessagesAreAnswered := by
  intro m s d
  refine ⟨fun h hc hw hk hj => ⟨?_, by simp [identityWords]⟩, fun h hc h1 => ?_, fun h h1 => ?_, fun h h1 => ?_,
    fun h h1 hlead hp hs => ?_, fun h h1 hz => ?_⟩
  · refine congrArg _ ((State.mailbox_selects h).trans ?_)
    rw [cmdFabricSetIdentity, Reply.unless_of_false _ _ (by simp [hc]), Reply.unless_of_false _ _ (by simp [hw]),
      Reply.unless_of_false _ _ hk, Reply.unless_of_false _ _ (State.keepBusy_of_idle hj)]
    rfl
  · intro r hr hf hm hn
    refine congrArg _ ((State.mailbox_selects h).trans ?_)
    have hroot : (m.stray 1 0x1B0FF || (!decide (r < 96) && !(decide (128 ≤ r) && decide (r < 132))) ||
        (!m.flag 1 16 && !decide (r < 96))) = false := by
      rcases hr with hr | ⟨hr, hr', hfab⟩
      · simp [h1, hr]
      · simp [h1, hr, hr', hfab]
    have hconf : ((m.flag 1 16 && decide (r < 96) && d.foreignMode r) ||
        (m.flag 1 15 && d.keepIdentity.2 == 0)) = false := by
      refine Bool.eq_false_iff.2 (fun ht => ?_)
      simp only [Bool.or_eq_true, Bool.and_eq_true, decide_eq_true_eq, beq_iff_eq] at ht
      rcases ht with ⟨⟨ha, hb⟩, hc'⟩ | ⟨ha, hb⟩
      · simp [hf ha hb] at hc'
      · exact hm ha hb
    have hroom : (m.flag 1 16 && decide (r < 96) && !(d.schedProj.fabLink r).designated &&
        decide (16 ≤ d.designatedCount)) = false := by
      refine Bool.eq_false_iff.2 (fun ht => ?_)
      simp only [Bool.and_eq_true, decide_eq_true_eq, Bool.not_eq_true'] at ht
      exact absurd (hn ht.1.1.1 ht.1.1.2 ht.1.2) (Nat.not_lt.2 ht.2)
    rw [cmdFabricLinkSet, Reply.unless_of_false _ _ (by simp [hc]), Reply.unless_of_false _ _ hroot,
      Reply.unless_of_false _ _ hconf, Reply.unless_of_false _ _ hroom]
    rfl
  · refine congrArg _ ((State.mailbox_selects h).trans ?_)
    rw [cmdFabricStatus, Reply.unless_of_false _ _ h1]
    rfl
  · intro c put
    have hx : ∀ r, cmdFabricStage m d = d.stage r → exec (.fabricStage m) s = .next (put r) := fun r hr =>
      congrArg _ ((State.mailbox_selects h).trans (by rw [hr]; rfl))
    refine ⟨fun ho hk hkh h3 h4 => hx _ ?_, fun ho hk hh h3 h4 hp hf => hx _ ?_,
      fun hk hh hroom => ⟨fun ho hb => hx _ ?_, fun ho h3 h4 => hx _ ?_⟩⟩
    · rw [cmdFabricStage, Reply.unless_of_false _ _ ?_, Reply.unless_of_false _ _ (by simp [ho]), if_pos ho]
      rcases (by omega : m.get 1 28 2 = 0 ∨ m.get 1 28 2 = 1) with hk0 | hk1
      · simp [h1, ho, hk0, hkh.1 hk0, h3, h4]
      · have hh : m.get 1 0 14 ≠ 0 := fun hz => by simp [hkh.2 hz] at hk1
        simp [h1, ho, hk1, hh, h3, h4]
    · rw [cmdFabricStage, Reply.unless_of_false _ _ ?_, Reply.unless_of_false _ _ (by simp [hk]), if_neg (by simp [ho]),
        if_pos hk]
      have hpol : (List.range 8).any (fun k => fld (m.word 2) (3 * k) 3 == 0) = false := by
        simpa [List.any_eq_false] using hf
      have hp' : decide (2 ^ 24 ≤ m.word 2) = false := decide_eq_false (Nat.not_le.2 hp)
      rw [hpol, hp']
      simp [h1, ho, hk, hh, h3, h4]
    all_goals
      have hfull : ((cfgEntry c (m.get 1 0 14)).isNone && decide (16383 ≤ c.entries.length)) = false :=
        Bool.and_eq_false_iff.2 (hroom.imp (fun hn => by simpa [Option.isSome_iff_ne_none] using hn)
          (fun hl => decide_eq_false (Nat.not_le.2 hl)))
    · rw [cmdFabricStage, Reply.unless_of_false _ _ (by simp [h1, ho, hk, hh, hb]),
        Reply.unless_of_false _ _ (by rw [hfull, Bool.and_false]), if_neg (by simp [ho]), if_neg (by simp [hk]), if_pos ho]
    · rw [cmdFabricStage, Reply.unless_of_false _ _ (by simp [h1, ho, hk, hh, h3, h4]),
        Reply.unless_of_false _ _ (by rw [hfull, Bool.and_false]), if_neg (by simp [ho]), if_neg (by simp [hk]),
        if_neg (by simp [ho])]
  · have h8 : m.chan ≠ 8 := by have := State.selects_chan_lt h; omega
    have hl : (m.stray 1 0xFFFF || (decide (1 ≤ m.get 1 0 16) && decide (m.get 1 0 16 ≤ 399))) = false := by
      rcases hlead with hl | hl
      · simp [h1, hl]
      · simp [h1]; omega
    have hx : exec (.fabricPrepare m) s = .next (if d.isTop then d.commitStart (m.get 1 0 16) d.fabric.staged (some m.rt)
        else d.prepareAsk (m.get 1 0 16) d.fabric.staged (some m.rt)) := by
      refine congrArg _ ((State.mailbox_selects h).trans ?_)
      rw [cmdFabricPrepare, Reply.unless_of_false _ _ hl, if_neg h8, Reply.unless_of_false _ _ (by simp [hp]),
        Reply.unless_of_false _ _ (by simpa using hs)]
      rfl
    refine ⟨fun ht hf => ?_, fun ht hf => ?_, fun ht => ?_⟩
    · rw [hx, if_pos ht, State.commitStart_of_fits hf]
      rfl
    · rw [hx, if_pos ht, State.commitStart_of_not_fits hf]
      rfl
    · rw [hx, ht]
      rfl
  · refine ⟨fun e he => ?_, fun he => ?_⟩
    all_goals
      refine congrArg _ ((State.mailbox_selects h).trans ?_)
      rw [cmdFrerStatus, Reply.unless_of_false _ _ (by simp [h1, hz]), he]
    · dsimp only [State.settle]
      rw [State.recovery_mark]
    · rfl
end Sys2Proof
end

section
/-! SUPPORT. What a fabric record and an answer leave alone; proof of O53. -/
namespace Sys2Proof
open Machine
namespace Machine

/-! ## What sending leaves of the fabric's state (R438, R442) -/

/-- The fabric's state without what a frame that is sent changes: outbox, frame numbers and keys of the links, counters. -/
def FabricSt.unsent (f : FabricSt) : FabricSt := { f with links := [], outbox := [], cntTick := f.cnt }

section
variable {f g : FabricSt} (h : f.unsent = g.unsent)
include h

theorem FabricSt.paths_of_unsent : f.paths = g.paths := by injection h
theorem FabricSt.routeRecs_of_unsent : f.routeRecs = g.routeRecs := by injection h
theorem FabricSt.keySeen_of_unsent : f.keySeen = g.keySeen := by injection h
theorem FabricSt.keys_of_unsent : f.keys = g.keys := by injection h
theorem FabricSt.pendRoute_of_unsent : f.pendRoute = g.pendRoute := by injection h

end

@[simp] theorem State.secureTx_unsent (s : State) (root : Nat) : (s.secureTx root).fabric.unsent = s.fabric.unsent := by
  unfold State.secureTx
  split
  · dsimp only
    split <;> rfl
  · rfl

@[simp] theorem State.fabSend_unsent (s : State) (root dst : Nat) (b : FabBody) :
    (s.fabSend root dst b).fabric.unsent = s.fabric.unsent := by
  unfold State.fabSend
  split
  · rfl
  · split
    · rfl
    · exact s.secureTx_unsent root

@[simp] theorem State.fabFlood_unsent (s : State) (except : Option Nat) (b : FabBody) :
    (s.fabFlood except b).fabric.unsent = s.fabric.unsent := by
  unfold State.fabFlood
  generalize s.fabric.adjs.filter (fun a => some a.root != except) = l
  induction l generalizing s with
  | nil => rfl
  | cons a t ih => rw [List.foldl_cons, ih, State.fabSend_unsent]

@[simp] theorem State.askCatchup_unsent (s : State) : s.askCatchup.fabric.unsent = s.fabric.unsent := by
  unfold State.askCatchup
  split
  · split <;> simp
  · rfl

@[simp] theorem State.ackLater_fabric (s : State) (rt : Option ReplyTo) (c : Code) (ret : List Word) :
    (s.ackLater rt c ret).fabric = s.fabric := by
  rw [State.ackLater_frame]

/-- A commit that is given up is forgotten, and that is all that it changes. -/
theorem State.abort_unsent (s : State) (c : Code) (refuser code : Nat) :
    (s.abort c refuser code).fabric.unsent = { s.fabric with prep := none }.unsent := by
  unfold State.abort
  split
  · next h => rw [← h]
  · dsimp only
    split <;> simp [State.modFabric]

/-! ## What the T_c leaves of the fabric's state (R474 to R477) -/

@[simp] theorem State.fabRecord_fabric (s : State) (source cause level : Nat) :
    (s.fabRecord source cause level).fabric = s.fabric := by
  rw [State.fabRecord, State.record_frame]

theorem State.foldl_fabric {α : Type} {f : State → α → State} (h : ∀ s a, (f s a).fabric = s.fabric) (l : List α)
    (s : State) : (l.foldl f s).fabric = s.fabric := by
  induction l generalizing s with
  | nil => rfl
  | cons a l ih => rw [List.foldl_cons, ih, h]

@[simp] theorem State.ownEvents_fabric (s : State) (path excl leads : Nat) :
    (s.ownEvents path excl leads).fabric = s.fabric := by
  unfold State.ownEvents
  refine (State.foldl_fabric (fun s lv => ?_) _ _).trans ?_
  · split <;> simp
  · split
    · simp
    · split <;> simp

@[simp] theorem State.memberEvents_fabric (s : State) (old new : List (Nat × Nat × Nat)) :
    (s.memberEvents old new).fabric = s.fabric := by
  unfold State.memberEvents
  refine (State.foldl_fabric (fun s y => State.fabRecord_fabric ..) _ _).trans (State.foldl_fabric (fun s x => ?_) _ _)
  split
  · simp
  · split <;> simp

@[simp] theorem State.installKeys_fabric (s : State) : s.installKeys.fabric = s.fabric := by
  unfold State.installKeys
  split <;> rfl

theorem State.guarSettle_fabric (done : List Nat) (cause : Nat) (s : State) (i : Nat) :
    (s.guarSettle done cause i).fabric = s.fabric := by
  unfold State.guarSettle
  split
  · rfl
  · dsimp only
    split_ifs <;> simp

@[simp] theorem State.runNow_fabric (s : State) (cause : Nat) : (s.runNow cause).fabric = s.fabric := by
  unfold State.runNow State.runEdge
  split
  · rfl
  · unfold State.admissionRun
    split
    · rfl
    · exact State.foldl_fabric (fun s i => State.guarSettle_fabric _ _ s i) _ _

/-- Path, routes, tree and state in force since the last T_c, and the route that waits for the next. -/
def FabricSt.inForce (f : FabricSt) : Nat × List Route × List Nat × Option RouteRec × Nat × FabState :=
  (f.path, f.routes, f.tree, f.pendRoute, f.tc, f.state)

theorem FabricSt.inForce_of_unsent {f g : FabricSt} (h : f.unsent = g.unsent) : f.inForce = g.inForce :=
  show f.unsent.inForce = g.unsent.inForce from congrArg _ h

/-- At the T_c the route that waits takes effect, and what is recorded and sent then leaves it (R475). -/
theorem State.commitTick_inForce {s : State} {r : RouteRec} (h : s.fabric.pendRoute = some r) (hf : s.fabOn = true)
    (ht : r.tc ≤ s.now) :
    ∃ t : State, exec .fabricCommitTick s = .next t ∧
      t.fabric.inForce = (r.path, r.routes, r.tree, none, r.tc, if s.devices.length ≤ 1 then .alone else .running) := by
  simp only [exec, execFabricCommitTick, h, hf, ht, decide_true, Bool.and_self, if_true]
  refine ⟨_, rfl, (FabricSt.inForce_of_unsent (State.askCatchup_unsent _)).trans ?_⟩
  rw [State.runNow_fabric, State.memberEvents_fabric, State.ownEvents_fabric, State.doorbell_fabric, State.modFabric,
    State.installKeys_fabric]
  rfl

/-! ## Records of the topology (R450, R452) -/

/-- When the own record was last sent, and its number. -/
def FabricSt.ownTopo (f : FabricSt) : Bool × Nat × Nat := (f.topoDue, f.topoSent, f.ownSeq)

theorem FabricSt.ownTopo_of_unsent {f g : FabricSt} (h : f.unsent = g.unsent) : f.ownTopo = g.ownTopo :=
  show f.unsent.ownTopo = g.unsent.ownTopo from congrArg _ h

theorem State.topoNew_ownTopo (s : State) (before : List (List (Nat × List TopoLink))) :
    (s.topoNew before).fabric.ownTopo = s.fabric.ownTopo := by
  unfold State.topoNew
  dsimp only
  split
  · rfl
  · split
    · split
      · exact (FabricSt.ownTopo_of_unsent (State.abort_unsent ..)).trans rfl
      · rfl
    · rfl

/-- An adjacency that is put in the place of a link's last one is the one that is found there. -/
theorem find_adj_put (l : List Adj) {root : Nat} {x : Adj} (h : x.root = root) :
    (l.filter (fun a => a.root != root) ++ [x]).find? (fun a => a.root == root) = some x := by
  have hn : (l.filter (fun a => a.root != root)).find? (fun a => a.root == root) = none := by
    simp [List.find?_eq_none]
  rw [List.find?_append, hn]
  simp [h]

theorem State.live_of_fabOn {s : State} (h : s.fabOn = true) : s.live = true := by
  simp only [State.fabOn, Bool.and_eq_true] at h
  exact h.1.1

/-- The own record goes out, and its number rises unless the own adjacencies have changed (R450). -/
theorem State.topoSend_ownTopo {s : State} (hf : s.fabOn = true)
    (hd : s.fabric.topoDue = true ∨ s.fabric.topoSent + 4000 ≤ s.now) :
    ∃ t : State, exec .topoSend s = .next t ∧
      t.fabric.ownTopo = (false, s.now, if s.fabric.topoDue then s.fabric.ownSeq else (s.fabric.ownSeq + 1) % 2 ^ 32) := by
  have hd' : (s.fabric.topoDue || decide (s.fabric.topoSent + 4000 ≤ s.now)) = true := by simpa using hd
  simp only [exec, execTopoSend, hf, hd', Bool.and_self, if_true]
  refine ⟨_, rfl, (FabricSt.ownTopo_of_unsent (State.fabFlood_unsent ..)).trans ((State.topoNew_ownTopo ..).trans ?_)⟩
  split <;> rfl

end Machine

/-- Settles O53 (R448 to R450, R452, R454, R473 to R475; what makes a ROUTE record known and a KEY pass once: log 65). -/
theorem fabricMessagesOfTheLinksComplete : Obligations.FabricMessagesOfTheLinksComplete := by
  intro s hf
  have hl := State.live_of_fabOn hf
  refine ⟨fun root ho hd => ?_, fun root h ho => ⟨fun hid => ?_, fun hid hm => ?_, fun hid hm => ?_,
      fun a hid hm ha hs hp hb => ?_⟩,
    fun root a ha hx => ?_, fun hd => ?_, fun root r ha hs hn => ?_, ?_, fun te he hr => ?_,
    fun r ha => ⟨fun hx => ?_, fun hx ht => ⟨fun hk => ?_, fun hk => ?_⟩⟩,
    fun k wrapped ha hx => ⟨fun hs hk h1 h4 => ?_, fun hs hk => ?_, fun hs hk => ?_⟩, fun r hp ht => ?_⟩
  · refine ⟨s.helloGo root, by simp [exec, execHelloSend, hf, ho, hd], ?_, ?_, ?_⟩
    · rw [State.helloGo, State.fabSend_frame]; rfl
    · exact State.fabSend_outbox s root 0 1 (.hello (s.hello root)) rfl (by simp [FabBody.hops])
    · exact tfind_tset_self ..
  · simp [exec, execHelloRx, hf, ho, hid]
  · simp [exec, execHelloRx, hf, ho, hid, hm]
  · simp [exec, execHelloRx, hf, ho, hid, hm]
  · have hadj : (s.modFabric (fun f => { f with hellos := tset f.hellos root h })).adj root = some a := ha
    simp only [exec, execHelloRx, hf, ho, hid, hm, Bool.and_self, if_true, ne_eq, not_true_eq_false, if_false,
      State.helloTake, hadj, hs, hp, hb, and_self]
    refine ⟨_, rfl, rfl, ?_⟩
    exact find_adj_put s.fabric.adjs rfl
  · simp [exec, execAdjacencyExpiry, ha, hl, hx]
  · obtain ⟨t, ht, ho⟩ := State.topoSend_ownTopo hf hd
    simp only [FabricSt.ownTopo, Prod.mk.injEq] at ho
    exact ⟨t, ht, ho⟩
  · simp [exec, execTopoRx, hf, ha, hs, hn]
  · simp [exec, execLeaderElection, hf]
  · simp only [exec, execRouteSend, he, hf, hr, Bool.not_false, Bool.and_self, if_true]
    rfl
  · exact congrArg _ (State.ctlTake_excluded _ hf ha hx)
  · exact congrArg _ ((State.ctlTake_adj _ hf ha hx).trans (by simp [ht, hk]))
  · simp only [exec, execRouteRx]
    rw [State.ctlTake_adj _ hf ha hx, if_neg (by simp [ht, hk])]
    refine ⟨_, rfl, (State.fabFlood_frame ..).trans rfl, ?_, ?_, ?_⟩
    · rw [FabricSt.paths_of_unsent (State.fabFlood_unsent ..)]
      exact tfind_tset_self ..
    · rw [FabricSt.routeRecs_of_unsent (State.fabFlood_unsent ..)]
      exact tfind_tset_self ..
    · exact FabricSt.pendRoute_of_unsent (State.fabFlood_unsent ..)
  · simp only [exec, execKeyRx]
    rw [State.ctlTake_adj _ hf ha hx, if_neg (by simp [hs])]
    exact congrArg Host.Outcome.next (if_pos (by simp [hk, h1, h4]))
  · simp only [exec, execKeyRx]
    rw [State.ctlTake_adj _ hf ha hx, if_pos hs, if_pos hk]
  · simp only [exec, execKeyRx]
    rw [State.ctlTake_adj _ hf ha hx, if_pos hs, if_neg (by simpa using hk)]
    refine ⟨_, rfl, (State.fabFlood_frame ..).trans rfl, ?_, ?_⟩
    · rw [FabricSt.keySeen_of_unsent (State.fabFlood_unsent ..)]
      simp [State.modFabric]
    · exact (FabricSt.keys_of_unsent (State.fabFlood_unsent ..)).trans rfl
  · obtain ⟨t, hx, hi⟩ := State.commitTick_inForce hp hf ht
    simp only [FabricSt.inForce, Prod.mk.injEq] at hi
    exact ⟨t, hx, hi⟩
end Sys2Proof
end

section
/-! SUPPORT. Commits of the fabric, its time and its keys; proof of O54. -/
namespace Sys2Proof
open Machine
namespace Machine

/-! ## Configurations (R463, R466, R468, R469) -/

/-- What of the fabric's state a configuration is: the one in force, and those that wait. -/
def FabricSt.configs (f : FabricSt) : FabConfig × Nat × Nat × Option Prepare × Option (Nat × FabConfig × Nat) :=
  (f.cfg, f.epoch, f.digest, f.prep, f.catchup)

/-- A configuration that is adopted is in force. -/
theorem State.fabAdopt_configs (s : State) (epoch : Nat) (c : FabConfig) (cause : Nat) :
    (s.fabAdopt epoch c cause).fabric.configs = (c, epoch, cfgDigest c, s.fabric.prep, s.fabric.catchup) := by
  unfold State.fabAdopt
  rw [State.fabRecord_fabric, State.doorbell_fabric]
  unfold State.fabConfigure
  extract_lets old same held kept
  have hk : kept.fabric.configs = (c, epoch, cfgDigest c, s.fabric.prep, s.fabric.catchup) := by
    simp only [kept]
    split <;> rfl
  split
  · exact hk
  · rwa [State.runNow_fabric]

/-! ## Sync and Follow_Up (R457 to R460) -/

/-- On each of its ports a master sends Sync and Follow_Up, and that is all that changes. -/
theorem State.syncGo_eq (s : State) (origin corr rate : Int) :
    s.syncGo origin corr rate = s.modFabric (fun f => { f with
      outbox := f.outbox ++ s.masterPorts.flatMap (fun r => [⟨r, none, .sync⟩,
        ⟨r, none, .followUp origin corr rate⟩]) }) := by
  unfold State.syncGo
  generalize s.masterPorts = l
  induction l generalizing s with
  | nil => simp [State.modFabric]
  | cons r l ih =>
    rw [List.foldl_cons, ih, List.flatMap_cons]
    simp [State.fabSend, FabBody.type, State.modFabric]

/-- Beyond 1 us the device's time is stepped at the next edge (R460). -/
theorem FabricSt.steered_far {f : FabricSt} {now : Nat} {offset : Int} (h : 1000 < offset ∨ offset < -1000) :
    f.steered now offset = { f with step := some (stepEdge now offset), owed := 0 } := if_pos h

/-- Within it the offset is owed in core cycles (R459). -/
theorem FabricSt.steered_near {f : FabricSt} {now : Nat} {offset : Int} (h1 : -1000 ≤ offset) (h2 : offset ≤ 1000) :
    f.steered now offset = { f with owed := offset * 5 / 4 } := if_neg (by omega)

/-! ## A link that is changed (R458, R467) -/

theorem State.fabLink_put (s : State) (root : Nat) (f : FabLink → FabLink) :
    (s.modFabric (fun x => { x with links := tmod (s.fabLink root) x.links root f })).fabLink root = f (s.fabLink root) := by
  simp only [State.fabLink, State.modFabric, tmod, tget_tset_self, tget_tget]

/-- The partner's SCI is noted with its frame. -/
def State.mkaHeard (s : State) (root : Nat) (k : MkaIn) : State :=
  s.modFabric (fun f => { f with links := tmod (s.fabLink root) f.links root (fun l => { l with partner := some k.sci }) })

theorem State.mkaHeard_fabLink (s : State) (root : Nat) (k : MkaIn) :
    (s.mkaHeard root k).fabLink root = { s.fabLink root with partner := some k.sci } := State.fabLink_put ..

theorem State.mkaHeard_keyServer (s : State) (root : Nat) (k : MkaIn) :
    (s.mkaHeard root k).keyServer root = decide (s.sciNum root < k.sci) := by
  rw [State.keyServer, State.mkaHeard_fabLink]
  rfl

theorem State.newKey_fabLink (s : State) (root : Nat) :
    (s.newKey root).fabLink root = { s.fabLink root with sak := some (Config.newSak root s.now), pn := 1 } := by
  simp only [State.fabLink, State.newKey, State.modFabric, tget_tmod_self]

/-- The key server distributes a key where it has none; another end takes the one that is distributed (R467; log 68). -/
theorem State.mkaTake_cases (s : State) (root : Nat) (k : MkaIn) :
    (s.sciNum root < k.sci → (s.fabLink root).sak = none → s.mkaTake root k = (s.mkaHeard root k).newKey root) ∧
    (s.sciNum root < k.sci → (s.fabLink root).sak ≠ none → s.mkaTake root k = s.mkaHeard root k) ∧
    (¬s.sciNum root < k.sci → k.sak = none → s.mkaTake root k = s.mkaHeard root k) ∧
    (∀ x, ¬s.sciNum root < k.sci → k.sak = some x → s.mkaTake root k = (s.mkaHeard root k).modFabric (fun f =>
      { f with links := tmod ((s.mkaHeard root k).fabLink root) f.links root
                   (fun l => { l with sak := some x, pn := 1 }) })) := by
  have hsak : ((s.mkaHeard root k).fabLink root).sak = (s.fabLink root).sak := by rw [State.mkaHeard_fabLink]
  have hx : s.mkaTake root k = if (s.mkaHeard root k).keyServer root then
      (if ((s.mkaHeard root k).fabLink root).sak.isNone then (s.mkaHeard root k).newKey root else s.mkaHeard root k)
    else match k.sak with
      | some x => (s.mkaHeard root k).modFabric (fun f =>
        { f with links := tmod ((s.mkaHeard root k).fabLink root) f.links root
                   (fun l => { l with sak := some x, pn := 1 }) })
      | none => s.mkaHeard root k := rfl
  rw [hx, State.mkaHeard_keyServer, hsak]
  refine ⟨fun hs hn => ?_, fun hs hn => ?_, fun hs hn => ?_, fun x hs hn => ?_⟩
  · rw [if_pos (decide_eq_true hs), hn]; rfl
  · rw [if_pos (decide_eq_true hs), if_neg (by simpa using hn)]
  · rw [if_neg (by simpa using hs), hn]
  · rw [if_neg (by simpa using hs), hn]

end Machine

/-- Settles O54 (R457 to R460, R466, R467, R473; the request that is turned away: log 21; the key server: log 68). -/
theorem fabricCommitsAndTimeComplete : Obligations.FabricCommitsAndTimeComplete := by
  intro s hf
  have hl := State.live_of_fabOn hf
  refine ⟨fun epoch digest act o cfg hp ha hx => ⟨fun hd ht hh => ?_, fun hd ht => ?_⟩,
    fun p path code hp hlead hc => ?_, fun p hp hlead hc hd => ?_, fun p hp hlead hact hr hd => ?_,
    fun p root code refuser hp hlead hc ha hx => ?_, fun p hp hact hd => ⟨fun hc => ?_, fun hc => ?_⟩,
    fun root ha hd => ?_, fun epoch digest cfg hd hg => ?_, fun epoch edge cfg hc he hfit => ?_,
    fun ht hn => ?_, fun x ht hx hd => ?_, fun y ht hu => ?_, fun y ht hu => ?_, fun root x hr hu => ?_,
    fun root k ckn hu hm hk hckn => ⟨?_, ?_⟩⟩
  · simp only [exec, execPrepareRx]
    rw [State.ctlTake_adj _ hf ha hx, if_neg hp, if_pos hd, if_neg (by simp [ht, hh])]
  · have hgo : exec (.prepareRx epoch digest act o cfg) s = .next (s.requestTake o epoch act cfg) := by
      simp only [exec, execPrepareRx]
      rw [State.ctlTake_adj _ hf ha hx, if_neg hp, if_neg (by rw [hd]; exact hp), if_pos ⟨hd, ht⟩]
    refine ⟨fun hn hi hfit => ?_, fun hn hi hfit => ?_, fun hn => ?_⟩
    · rw [hgo]; simp [State.requestTake, hn, hi, hfit]
    · rw [hgo]; simp [State.requestTake, hn, hi, hfit]
    · rw [hgo]; simp [State.requestTake, Option.isSome_iff_ne_none, hn]
  · intro l
    refine ⟨fun hz => ?_, fun hz hall => ?_, fun hz hall => ?_⟩
    all_goals simp only [exec, execPrepAckRx, hp, hf, hlead, hc, Bool.not_false, Bool.and_self, if_true]
    · rw [if_pos (show code ≠ Code.ok.num from hz)]
    · rw [if_neg (not_not_intro (show code = Code.ok.num from hz)), if_neg (by rw [hall]; exact Bool.false_ne_true)]
    · rw [if_neg (not_not_intro (show code = Code.ok.num from hz)), if_pos hall]
  · simp [exec, execPrepareDeadline, hp, hf, hlead, hc, hd]
  · simp [exec, execPrepareDeadline, hp, hf, hlead, hact, hr, hd]
  · refine ⟨fun hact => ?_, ?_⟩
    · simp only [exec, execCommitRx]
      rw [State.ctlTake_adj _ hf ha hx, hp]
      simp [hlead, hc, hact]
    · simp only [exec, execAbortRx]
      rw [State.ctlTake_adj _ hf ha hx, hp]
      simp [hlead, hc]
  · refine ⟨_, by simp [exec, execFabricConfigActivate, hp, hl, hact, hd, hc]; rfl, ?_⟩
    have hcfg := State.fabAdopt_configs (s.modFabric (fun f => { f with prep := none })) p.epoch p.cfg 8
    simp only [FabricSt.configs, Prod.mk.injEq] at hcfg
    obtain ⟨h1, h2, h3, h4, -⟩ := hcfg
    exact ⟨h1, h2, h3, h4⟩
  · simp [exec, execFabricConfigActivate, hp, hl, hact, hd, hc]
  · simp [exec, execCatchupReqRx, hf, ha, hd]
  · simp [exec, execCatchupRx, hf, hd, hg]
  · have hx : exec .catchupApply s =
        .next ((s.modFabric (fun f => { f with catchup := none })).fabAdopt epoch cfg 9) := by
      simp only [exec, execCatchupApply, hc, hl, he, decide_true, Bool.and_self, if_true]
      exact congrArg _ (if_pos hfit)
    refine ⟨_, hx, ?_⟩
    have hcfg := State.fabAdopt_configs (s.modFabric (fun f => { f with catchup := none })) epoch cfg 9
    simp only [FabricSt.configs, Prod.mk.injEq] at hcfg
    obtain ⟨h1, h2, -, -, h5⟩ := hcfg
    exact ⟨h1, h2, h5⟩
  · simp only [exec, execSyncSend, hf, ht, hn, if_true]
    refine ⟨_, rfl, ?_, rfl, ?_⟩
    · rw [State.syncGo_eq]; rfl
    · rw [State.syncGo_eq]; rfl
  · simp only [exec, execSyncSend, hf, ht, hx, hd, if_true, Bool.false_eq_true, if_false]
    refine ⟨_, rfl, ?_, rfl, ?_⟩
    · rw [State.syncGo_eq]; rfl
    · rw [State.syncGo_eq]; rfl
  · simp [exec, execSyncRx, hf, ht, hu]
  · intro offset
    simp only [exec, execSyncRx, hf, ht, hu, Bool.not_false, beq_self_eq_true, Bool.and_self, if_true]
    refine ⟨_, rfl, rfl, rfl, fun ho => ?_, fun h1 h2 => ?_, fun ho => ?_, fun h1 h2 => ?_⟩
    · rw [State.modFabric, State.timeOffset, State.modFabric, FabricSt.steered_far ho]
      exact ⟨rfl, rfl⟩
    · rw [State.modFabric, State.timeOffset, State.modFabric, FabricSt.steered_near h1 h2]
      exact ⟨rfl, rfl⟩
    · have hn : (decide (-50 ≤ offset) && decide (offset ≤ 50)) = false := by simp; omega
      simp only [State.timeOffset, State.modFabric]
      rw [hn]
      exact ⟨rfl, rfl⟩
    · have hn : (decide (-50 ≤ offset) && decide (offset ≤ 50)) = true := by simp [h1, h2]
      simp only [State.timeOffset, State.modFabric]
      rw [hn]
      exact ⟨rfl, rfl⟩
  · have hst : s.fabric.started = true := by
      simp only [State.fabOn, Bool.and_eq_true] at hf
      exact hf.1.2
    simp only [exec, execPeerDelayExchange, hl, hst, hr, hu, decide_true, Bool.and_self, if_true]
    exact ⟨_, rfl, rfl, State.fabLink_put ..⟩
  · have hx : exec (.mkaFrameRx root ckn true k) s = .next (s.mkaTake root k) := by
      simp [exec, execMkaFrameRx, hf, hu, hm, hk, hckn]
    obtain ⟨hserve, hheld, hnone, htake⟩ := s.mkaTake_cases root k
    refine ⟨_, hx, ?_⟩
    by_cases hs : s.sciNum root < k.sci
    · by_cases hn : (s.fabLink root).sak = none
      · rw [hserve hs hn, if_pos hs, if_pos hn, if_pos ⟨hs, hn⟩, State.newKey_fabLink, State.mkaHeard_fabLink]
        exact ⟨rfl, rfl, rfl⟩
      · rw [hheld hs hn, if_pos hs, if_neg hn, if_neg (fun h => hn h.2), State.mkaHeard_fabLink]
        exact ⟨rfl, rfl, rfl⟩
    · rw [if_neg hs, if_neg (fun h => hs h.1)]
      cases hsak : k.sak with
      | none =>
        rw [hnone hs hsak, State.mkaHeard_fabLink]
        exact ⟨rfl, rfl, rfl⟩
      | some x =>
        rw [htake x hs hsak, State.fabLink_put, State.mkaHeard_fabLink]
        exact ⟨rfl, rfl, rfl⟩
  · simp [exec, execMkaFrameRx, hf, hu, hm, hk, hckn]
end Sys2Proof
end

section
/-! SUPPORT. The power and clock commands; proof of O22. -/
namespace Sys2Proof
open Machine

/-- Settles O22 (R482, R484, R487, R492, R495, R501, R502, R512, R516, R522, R529; a domain that is so already answers
the next edge: log 43; the currents of EMBER rounded: log 44). -/
theorem powerMessagesAreAnswered : Obligations.PowerMessagesAreAnswered := by
  intro m s d
  refine ⟨fun h h1 h4 h11 hj he hi hl => ?_, fun h hst h1 hem hsp hw hb hr => ?_, fun h h1 ht => ?_, fun h h1 => ?_,
    fun h hr h1 hrun href hf hs => ?_, fun h h1 => ?_, fun h hw hw' h1 hg => ?_⟩
  all_goals refine congrArg _ ((State.mailbox_selects h).trans ?_)
  · have hlast : (!m.flag 1 8 && d.lastLinks (m.get 1 0 4)) = false := by rcases hl with hl | hl <;> simp [hl]
    rw [cmdPowerDomainSet, Reply.unless_of_false _ _ (by simp [h1, h4, h11]), Reply.unless_of_false _ _ (by simp [hj, he]),
      Reply.unless_of_false _ _ hi, Reply.unless_of_false _ _ hlast]
    split <;> rfl
  · have hbad : (m.get 1 16 2 == 0 || m.get 1 16 2 == 3 || m.stray 1 0x80030F0F ||
        (m.get 1 16 2 == 2 && !(m.get 1 0 12 == 0 && m.word 2 == 0 && m.word 3 == 0))) = false := by
      rcases hst with hst | hst
      · simp [hst, h1]
      · obtain ⟨ha, hb2, hb3, -⟩ := hem hst
        simp [hst, h1, ha, hb2, hb3]
    have hkeep : (!m.flag 1 31 && d.cellar.unacked &&
        (m.get 1 16 2 == 2 || banksLost (ofLohi (w32 (m.word 2)) (w32 (m.word 3))) 60 63)) = false := by
      rcases hsp with hk | hk | ⟨h1', hk⟩
      · simp [hk]
      · simp [hk]
      · simp [h1', hk]
    have hcur : (m.get 1 16 2 == 2 && decide (3000 < d.iWorst d.wakeSet)) = false := by
      rcases hst with hst | hst
      · simp [hst]
      · obtain ⟨-, -, -, hc⟩ := hem hst
        simp [hst, hc]
    rw [cmdPowerEnter, Reply.unless_of_false _ _ hbad, Reply.unless_of_false _ _ hkeep, Reply.unless_of_false _ _ hcur,
      Reply.unless_of_false _ _ (by simp [hw]), Reply.unless_of_false _ _ hb, Reply.unless_of_false _ _ (by simp [hr])]
    rfl
  · rw [cmdWakeConfig, Reply.unless_of_false _ _ (by simp [h1, ht])]
    rfl
  · rw [cmdPowerStatus, Reply.unless_of_false _ _ h1]
    rfl
  · have href' : (!d.clock.runs d.clock.ref || !d.clock.runs (if m.get 1 0 2 = 0 then .xa else .xb) ||
        ((if m.get 1 0 2 = 0 then Ref.xa else .xb) == .xb && d.clock.xbFreq == 3)) = false := by
      rw [hrun, href]
      rcases (by omega : m.get 1 0 2 = 0 ∨ m.get 1 0 2 = 1) with h0 | h0
      · rw [h0]; rfl
      · simp [h0, hf h0]
    rw [cmdClockPlan, Reply.unless_of_false _ _ (by simp [h1, hr]), Reply.unless_of_false _ _ href',
      Reply.unless_of_false _ _ (by simp [hs])]
    rfl
  · rw [cmdClockGate, Reply.unless_of_false _ _ h1]
    rfl
  · have hgate : ((m.flag 1 0 || m.flag 1 1) && !bit d.gateSet 1) = false := by
      rcases hg with ⟨h0, h1'⟩ | hg
      · simp [h0, h1']
      · simp [hg]
    have hw0 : m.get 1 16 16 ≠ 0 := by omega
    rw [cmdPpsConfig, Reply.unless_of_false _ _ (by simp [h1, hw0]; omega), Reply.unless_of_false _ _ hgate]
    rfl
end Sys2Proof
end

section
/-! SUPPORT. Domains, entries, resumes and wakes; proof of O23. -/
namespace Sys2Proof
open Machine
namespace Machine

/-- Waking from BANKED puts the device into RUN, with the counter at what it would have been (R503; log 40). -/
theorem State.restart_run (s : State) (sleep : Nat) :
    (s.restart sleep).boot.power = .run ∧ (s.restart sleep).time.tick = (s.now + sleep) % 2 ^ 64 := ⟨rfl, rfl⟩

/-- A wake that fires first in BANKED or EMBER is the one that has fired, with doorbell 21 (R501, R502). -/
theorem State.fireWake_asleep {s : State} (w : Wake) (privileged : Bool)
    (hb : s.boot.power = .banked ∨ s.boot.power = .ember)
    (hn : s.power.fired = none) :
    (s.fireWake w privileged).power.fired = some w ∧
      (s.fireWake w privileged).mbx.dbStatus = s.mbx.dbStatus ||| w32 (2 ^ 21) := by
  unfold State.fireWake State.firedAsleep
  rcases hb with hb | hb <;> simp [State.pwrenHigh, hb, hn]

theorem dbStatus_raised {t s : State} {b : Nat} (h : t.mbx.dbStatus = s.mbx.dbStatus ||| w32 (2 ^ b))
    (hb : w32 (2 ^ b) ≠ 0) :
    t.mbx.dbStatus &&& w32 (2 ^ b) ≠ 0 := by
  rw [h]
  exact (s.doorbell_bit b).trans_ne hb

end Machine

/-- Settles O23 (R482, R484, R495, R501 to R504; the tick after a resume and its records: log 40). -/
theorem domainsAndEntriesGoOn : Obligations.DomainsAndEntriesGoOn := by
  intro s
  refine ⟨fun dom j hl hj hs => ?_, fun e hq hh hr hj he => ?_, fun hq hh hr he => ?_,
    fun sleep w e hb hf he => ⟨?_, s.restart_run sleep⟩,
    fun hb hw => ?_, fun hb ht hf => ?_, fun g hg hb hw hf => ?_, fun g hg hr hw he hd => ?_⟩
  · simp only [exec, execDomainPowered, hj, hl, hs, decide_true, Bool.and_self, if_true]
    rfl
  · simp [exec, execPowerEntryStep, hq, hh, hr, hj, he]
  · simp [exec, execPowerEntryStep, hq, hh, hr, he]
  · simp [exec, execBankedResume, hb, hf, he]
  · simp only [exec, execEmberRailFail, hb, hw, beq_self_eq_true, Bool.and_self, if_true]
    exact ⟨_, rfl, rfl, rfl, rfl, rfl, rfl⟩
  · obtain ⟨hfired, hdb⟩ := State.fireWake_asleep ⟨0x07, 0⟩ false hb hf
    have hx : exec .sioTimerWake s = .next (s.fireWake ⟨0x07, 0⟩ false) := by
      rcases hb with hb | hb <;> simp [exec, execSioTimerWake, hb, ht]
    exact ⟨_, hx, hfired, dbStatus_raised hdb (by decide)⟩
  · obtain ⟨hfired, hdb⟩ := State.fireWake_asleep ⟨0x03, 132 + g⟩ false (.inl hb) hf
    have hx : exec (.hostLaneWakeDetect g) s = .next (s.fireWake ⟨0x03, 132 + g⟩ false) := by
      simp [exec, execHostLaneWakeDetect, hb, hg, hw]
    exact ⟨_, hx, hfired, dbStatus_raised hdb (by decide)⟩
  · simp [exec, execHostLaneWakeDetect, hr, hg, hw, hd, State.fireWake, he, State.firedInRun]
    rfl
end Sys2Proof
end

section
/-! SUPPORT. PLL notices, stops and fail-over of the reference; proof of O25. -/
namespace Sys2Proof
open Machine
namespace Machine

/-! ## The clock state through notices, FATAL faults and CLKOUT -/

/-- Where the source of CLKOUT runs again, its low hold changes and nothing else. -/
theorem State.clkoutBack_frame (s t : State) :
    s.clkoutBack t = { t with clock := { t.clock with clkWait := (s.clkoutBack t).clock.clkWait } } := by
  unfold State.clkoutBack
  split <;> rfl

@[simp] theorem State.clkoutBack_faults (s t : State) : (s.clkoutBack t).faults = t.faults := by
  rw [State.clkoutBack_frame]

@[simp] theorem State.fatal_clock (s : State) (code unit : Nat) (detail : Word) :
    (s.fatal code unit detail).clock = s.clock := by
  unfold State.fatal
  dsimp only
  split
  · rfl
  · rw [apply_ite State.clock, State.enterDamped_frame, State.kill_frame]
    exact ite_self _

/-- A loop that loses its lock leaves the oscillators as they are. -/
theorem State.unlock_runFio (s : State) (loop : Nat) : (s.unlock loop).clock.runFio = s.clock.runFio := by
  simp [State.unlock]

theorem State.unlockAll_runFio (s : State) : s.unlockAll.clock.runFio = s.clock.runFio := by
  unfold State.unlockAll
  generalize bitsOf 9 _ = loops
  induction loops generalizing s with
  | nil => rfl
  | cons loop loops ih => rw [List.foldl_cons, ih, State.unlock_runFio]

theorem FaultSt.raise_conds (f : FaultSt) (code : Nat) : (f.raise code).conds = f.conds := by
  unfold FaultSt.raise
  split <;> rfl

/-- A notice that is raised is latched and recorded; which conditions hold stays. -/
@[simp] theorem State.notice_conds (s : State) (code unit : Nat) : (s.notice code unit).faults.conds = s.faults.conds := by
  have hraise : ((s.recordFault code unit).modFaults (fun f => f.raise code)).faults.conds = s.faults.conds :=
    FaultSt.raise_conds ..
  unfold State.notice
  dsimp only
  split
  · exact hraise
  · split
    · exact hraise
    · rw [State.recordLater_faults]
      exact hraise

/-- A condition is listed exactly when it holds. -/
@[simp] theorem State.condition_contains (s : State) (code unit : Nat) (present : Bool) :
    (s.condition code unit present).faults.conds.contains (code, unit) = present := by
  cases present <;> simp [State.condition]

@[simp] theorem State.watch_clock (s : State) (code : Nat) (present : Bool) : (s.watch code present).clock = s.clock := by
  unfold State.watch
  split
  · rfl
  · cases present <;> simp

/-- What is watched is listed as it was seen last (R515, R521). -/
@[simp] theorem State.watch_contains (s : State) (code : Nat) (present : Bool) :
    (s.watch code present).faults.conds.contains (code, 0xFF) = present := by
  unfold State.watch
  split
  · next h => exact eq_of_beq h
  · cases present
    · exact State.condition_contains ..
    · simp only [if_true, State.notice_conds]
      exact State.condition_contains ..

theorem State.crystal_clock (s : State) (running xb : Bool) (count : Nat) :
    (s.crystal running xb count).clock.runXa = (if xb then s.clock.runXa else running) ∧
    (s.crystal running xb count).clock.runXb = (if xb then running else s.clock.runXb) := by
  unfold State.crystal
  dsimp only
  split <;> simp

/-- What the monitor reports of FIO is kept, and its notice follows it while FIO is not the reference. -/
theorem State.fio_cases (s : State) (running : Bool) :
    (s.fio running).clock.runFio = running ∧
    (s.clock.ref ≠ .fio → (s.fio running).faults.conds.contains (0x2B02, 0xFF) = !running) := by
  cases running with
  | true => exact ⟨by simp [State.fio], fun _ => State.watch_contains ..⟩
  | false =>
    by_cases hr : s.clock.ref = .fio
    · refine ⟨?_, fun h => absurd hr h⟩
      simp [State.fio, hr, State.unlockAll_runFio]
    · have hx : s.fio false = (s.modClock (fun c => { c with runFio := false })).watch 0x2B02 true := by
        simp [State.fio, hr]
      exact ⟨by simp [hx], fun _ => hx ▸ State.watch_contains ..⟩

end Machine

/-- Settles O25 (R511, R515, R517 to R521). -/
theorem clockEventsComplete : Obligations.ClockEventsComplete := by
  intro s
  refine ⟨fun loop hl hp hh hfw ho hr => ?_, fun loop hl hk hf => ?_, fun running n hc => ⟨?_, ?_, ?_, ?_⟩,
    fun ppm hc ha hb hu h1 h2 => ?_, fun hc hr hd hf => ?_, fun l hn hfw => ?_, fun r hsw hc hr hs => ?_⟩
  · refine ⟨s.clkoutBack (s.modClock (fun c =>
      { c with locked := setBit c.locked loop true, first := setBit c.first loop true })),
      ?_, State.clkoutBack_frame ..⟩
    simp [exec, execPllLock, hl, hp, hh, hfw, ho, hr]
  · simp [exec, execPllUnlock, State.unlock, hl, hk, hf]
  · refine ⟨_, if_pos hc, ?_⟩
    rw [State.clkoutBack_frame]
    exact (s.crystal_clock running false 0).1
  · refine ⟨_, if_pos hc, ?_⟩
    rw [State.clkoutBack_frame]
    exact (s.crystal_clock running true n).2
  · refine ⟨_, if_pos hc, ?_, ?_⟩
    · rw [State.clkoutBack_frame]
      exact (s.fio_cases running).1
    · rw [State.clkoutBack_faults]
      exact (s.fio_cases running).2
  · refine ⟨_, if_pos hc, ?_, ?_⟩
    · rw [State.clkoutBack_frame, State.watch_clock]
      rfl
    · rw [State.clkoutBack_faults]
      exact State.watch_contains ..
  · have hx : (if 32767 < ppm then 32767 else if ppm < -32767 then -32767 else ppm) = ppm := by
      rw [if_neg (by omega), if_neg (by omega)]
    refine ⟨_, if_pos (by simp [hc, ha, hb, hu]), ?_, State.watch_contains ..⟩
    rw [State.watch_clock, hx]
    rfl
  · have hx : exec .forcedFailover s = .next ((s.modClock (fun k =>
        { k with ref := .fio, switch := none, switchLost := none, failovers := sat16 (k.failovers + 1)
                 nmi := if s.fwRuns || s.romRuns then some s.clock.ref.num else none })).doorbell 19) := by
      simp [exec, execForcedFailover, hc, hr, hd, hf]
    exact ⟨_, hx, rfl, rfl, rfl, (State.doorbell_bit _ 19).trans_ne (by decide), rfl⟩
  · simp only [exec, execNmiHandler, hn, hfw, if_true, State.stewardNmi]
    rfl
  · cases hl : s.clock.switchLost with
    | none =>
      refine ⟨s.modClock (fun c => { c with ref := r, switch := none, switchLost := none }), ?_, rfl, rfl⟩
      simp [exec, execRefSwitchComplete, hsw, hc, hr, hs, hl]
    | some l =>
      refine ⟨(s.modClock (fun c => { c with ref := r, switch := none, switchLost := none })).record 0x13 0
        (l + 4 * r.num),
        ?_, ?_, ?_⟩
      · simp [exec, execRefSwitchComplete, hsw, hc, hr, hs, hl]
      · rw [State.record_clock]
        rfl
      · rw [State.record_clock]
        rfl
end Sys2Proof
end

section
/-! SUPPORT. PPS and CLKOUT; proof of O26. -/
namespace Sys2Proof
open Machine
namespace Machine

/-! ## PPS and CLKOUT (R526 to R530) -/

/-- The end of a pulse takes PPS_OUT low where it is high, and no pulse is left. -/
theorem State.ppsLow_out (s : State) : s.ppsLow.pins.ppsOut ≠ .high ∧ s.ppsLow.clock.ppsEnd = none := by
  refine ⟨?_, rfl⟩
  unfold State.ppsLow
  split
  · exact nofun
  · next h => exact fun hp => h (beq_iff_eq.2 hp)

/-- Steering, where it is on, leaves the clock settings and the capture. -/
theorem State.clock_ite_steerBy (s : State) (p : Prop) [Decidable p] (offset : Int) :
    (if p then s.steerBy offset else s).clock = s.clock := by
  split <;> rfl

/-- A change or a low hold ends while the source of CLKOUT runs or the output is off. -/
theorem State.clkout_ends {s : State} (hw : s.clock.changing = true ∨ s.clock.clkWait = true) (hl : s.clkoutLive = true)
    (hr : s.clock.clkNow.enable = false ∨ s.srcStopped s.clock.clkNow.src = false) :
    ((s.clock.changing || s.clock.clkWait) && s.clkoutEnds) = true := by
  simp [State.clkoutEnds, hw, hl, hr]

/-- A CLKOUT change begins where the held write asks for something else. -/
theorem State.clkoutGo_of_ne {s : State} {c : ClkoutSet} (h : s.clock.clkNow ≠ c) :
    s.clkoutGo c = s.modClock (fun k => { k with clkNow := c, changing := true }) := by
  simp [State.clkoutGo, State.modClock, h]

end Machine

/-- Settles O26 (R526, R527, R529, R530; the 100 us after the two seconds: log 35; the low hold of a source that runs
again: log 36). -/
theorem ppsAndClkoutComplete : Obligations.PpsAndClkoutComplete := by
  intro s
  refine ⟨fun ho hn he => ?_, fun e he hn => ⟨_, ?_, s.ppsLow_out⟩, fun cycle offset hl hi hg => ?_,
    fun c hs hc hn => ?_, fun hw hl hr => ⟨fun hh => ?_, fun c hh hc => ?_⟩, fun he hs => ?_⟩
  · simp [exec, execPpsPulse, ho, hn, he, State.modPins, State.modClock]
  · simp [exec, execPpsPulseEnd, he, hn]
  · refine ⟨_, if_pos (by simp [hl, hi, hg]), ?_⟩
    exact congrArg ClockSt.capture (State.clock_ite_steerBy ..)
  · simp [exec, execSteeringStop, hs, hc, hn, State.modFabric]
  · refine ⟨s.modClock (fun k => { k with changing := false, clkHeld := none, clkWait := false }), ?_, rfl, rfl, rfl, rfl⟩
    simp only [exec, execClkoutChangeEnd, State.clkout_ends hw hl hr, hh, if_true]
  · refine ⟨s.modClock (fun k => { k with changing := true, clkHeld := none, clkWait := false, clkNow := c }), ?_,
      rfl, rfl, rfl⟩
    simp only [exec, execClkoutChangeEnd, State.clkout_ends hw hl hr, hh, if_true]
    exact congrArg Host.Outcome.next (State.clkoutGo_of_ne fun h => hc h.symm)
  · have hend : s.clkoutEnds = false := by simp [State.clkoutEnds, he, hs]
    simp [exec, execClkoutChangeEnd, hend]
end Sys2Proof
end

section
/-! SUPPORT. FATAL faults, their status and their injection; proof of O55. -/
namespace Sys2Proof
open Machine

/-- Settles O55 (R535, R538 to R541, R545, R546, R599; a UNIT or F_DETAIL that no source of the code can give is no fault:
R547, log 77). -/
theorem faultMessagesAreAnswered : Obligations.FaultMessagesAreAnswered := by
  refine ⟨fun code unit detail s ha hf => ⟨fun hc => ?_, fun hc => ?_⟩, fun m s d => ⟨fun h h1 => ?_,
    fun h h0 h1 hl hp hn => ?_, fun h h0 h1 hz => ?_, fun h h3 hl hd ht hg hdin => ?_, fun h h2 hi hu h1 ho => ?_⟩⟩
  · simp [exec, execFatalFault, hc]
  · have hx : exec (.fatalFault code unit detail) s = .next (
        if code = 0x0D01 then s.collectorParity unit
        else if code = 0x0D02 then s.collectorDup
        else if code = 0x0D03 then s.tokenBad unit
        else s.fatal code (fatalUnit code unit) (fatalDetail code detail)) := by
      simp only [exec, execFatalFault, ha, hf, hc, Bool.and_self, if_true, apply_ite Host.Outcome.next]
    refine ⟨fun h1 h2 h3 => ?_, fun h1 => ?_, fun h2 hpa hpb => ?_, fun h3 => ?_⟩
    · rw [hx, if_neg h1, if_neg h2, if_neg h3]
      rfl
    · subst h1
      refine hx.trans (congrArg Host.Outcome.next (State.collectorCheck_of_compare ?_))
      rw [State.modFaults_faults]
      split <;> simp [FaultSt.compare]
    · subst h2
      exact hx.trans (congrArg Host.Outcome.next (State.collectorDup_eq ⟨hpa, hpb⟩))
    · subst h3
      exact hx.trans (by simp [State.tokenBad, State.tokenCheck, State.modBoot])
  · refine congrArg _ ((State.mailbox_selects h).trans ?_)
    rw [cmdFaultStatus, Reply.unless_of_false _ _ h1]
    rfl
  · refine congrArg _ ((State.mailbox_selects h).trans ?_)
    rw [cmdFaultClear, h0, if_neg Bool.false_ne_true, Reply.unless_of_false _ _ (by simp [hl, h1]),
      Reply.unless_of_false _ _ (by simpa [hp] using hn)]
    rfl
  · refine congrArg _ ((State.mailbox_selects h).trans ?_)
    rw [cmdFaultClear, h0, if_pos rfl, Reply.unless_of_false _ _ (by simp [hz, h1])]
    rfl
  · refine congrArg _ ((State.mailbox_selects h).trans ?_)
    rw [cmdFaultConfig, Reply.unless_of_false _ _ (by simp [quietOf, h3, hl, hd, ht, hg, hdin])]
    rfl
  · have hr : s.mailbox faultInjectCmd m cmdFaultInject = d.settle m.rt (
        if isFatal (m.get 1 0 16) then
          .silent (d.fatal (if levelOf (m.get 1 0 16) = 3 ∧ subsysOf (m.get 1 0 16) = 0xD then 0x3DFE else m.get 1 0 16)
            (m.get 1 16 8))
        else if isChannel (m.get 1 0 16) then .ok [] (d.channelFault (m.get 1 0 16) (m.get 1 16 8))
        else .ok [] (d.notice (m.get 1 0 16) (m.get 1 16 8))) := by
      rw [State.mailbox_selects h, cmdFaultInject, Reply.unless_of_false _ _ (by simp [h2, hi, hu, h1]),
        Reply.unless_of_false _ _ (by simp [ho])]
    refine ⟨fun hf hc => ?_, fun hf hc => ?_, fun hf => ?_⟩
    · rw [hf, hc] at hr
      exact congrArg _ hr
    · rw [hf, hc] at hr
      exact congrArg _ hr
    · rw [hf] at hr
      exact congrArg _ hr
end Sys2Proof
end

section
/-! SUPPORT. Temperature supervision; proof of O56. -/
namespace Sys2Proof
open Machine
namespace Machine

/-! ## Readings and their counts (R548, R549, R553) -/

theorem streak_true {n : Nat} (h : n < 255) : streak n true = n + 1 := by
  rw [streak, if_pos rfl, satTo_eq_min, Nat.min_eq_right h]

theorem streak_false (n : Nat) : streak n false = 0 := rfl

/-- A valid reading is kept with its offset and counts (R549). -/
theorem Sensor.take_some {x : Sensor} {v warn damp : Int} (h : x.lost = false) :
    x.take (some v) warn damp =
      ({ x with invalid := 0, validRun := satTo 255 (x.validRun + 1) } : Sensor).counts (v + x.offset / 16) warn damp := by
  simp [Sensor.take, h]

/-- A sensor without a valid reading counts it (R553). -/
theorem Sensor.take_none {x : Sensor} {warn damp : Int} (h : x.lost = false) :
    x.take none warn damp = { x with invalid := satTo 255 (x.invalid + 1), validRun := 0 } := by
  simp [Sensor.take, h]

theorem State.foldl_record_frame {α : Type} (f : State → α → State) (hf : ∀ s a, f s a = { s with mbx := (f s a).mbx })
    (l : List α) (s : State) : l.foldl f s = { s with mbx := (l.foldl f s).mbx } := by
  induction l generalizing s with
  | nil => rfl
  | cons a l ih => rw [List.foldl_cons, ih, hf]

/-- The records that a resume owes change the mailboxes, and none is owed any more (R554). -/
theorem State.clearPending_frame (s : State) :
    s.clearPending = { s with thermal := { s.thermal with pendClear := [] }, mbx := s.clearPending.mbx } := by
  unfold State.clearPending
  rw [State.foldl_record_frame _ fun s k => State.record_frame ..]
  rfl

theorem getD_map_zip_range {α : Type} {n k : Nat} (f : Nat × α → α) (l : List α) (d : α) (hl : l.length = n) (hk : k < n) :
    ((List.zip (List.range n) l).map f).getD k d = f (k, l.getD k d) := by
  subst hl
  simp [List.getD_eq_getElem?_getD, hk]

end Machine

/-- Settles O56 (R547 to R551, R553, R554; the offset is divided by 16 and rounded down before it is added: log 78). -/
theorem sensorCommandsComplete : Obligations.SensorCommandsComplete := by
  refine ⟨fun m s d => ⟨fun h h1 hw hd h50 hm => ?_, fun h h1 => ?_⟩, fun readings s hs => ?_, fun x v warn damp hl => ?_,
    fun k s hs hk => ?_⟩
  · refine congrArg _ ((State.mailbox_selects h).trans ?_)
    have hm : m.get 1 8 8 ≤ d.dampMax := hm
    rw [cmdThermalSet, Reply.unless_of_false _ _ (by simp [h1]; omega)]
    rfl
  · refine congrArg _ ((State.mailbox_selects h).trans ?_)
    rw [cmdThermalStatus, Reply.unless_of_false _ _ h1]
    rfl
  · refine ⟨_, if_pos hs, ?_, ?_, fun hlen k hk => ?_⟩ <;> rw [State.clearPending_frame]
    · rfl
    · exact getD_map_zip_range _ _ _ hlen hk
  · rw [Sensor.take_some hl, Sensor.take_none hl]
    refine ⟨rfl, fun hw hv hn => ?_, fun hw hv => ?_, fun hd hv hn => ?_, fun hd hv => ?_, fun hw hv hn => ?_,
      fun hd hv hn => ?_, rfl, rfl, fun hn => ?_⟩
    · simp [Sensor.counts, hw, hv, streak_true hn]
    · simp [Sensor.counts, hw, Int.not_le.2 hv, streak_false]
    · simp [Sensor.counts, hd, hv, streak_true hn]
    · simp [Sensor.counts, hd, Int.not_le.2 hv, streak_false]
    · simp [Sensor.counts, hw, hv, streak_true hn]
    · simp [Sensor.counts, hd, hv, streak_true hn]
    · rw [satTo_eq_min, Nat.min_eq_right hn]
  · refine ⟨fun hw hn => ?_, fun hw hn => ?_, fun hd hn => ?_, fun hlen hd => ?_, fun hl hn => ?_, fun hl hn => ?_⟩
    · simp [exec, execThermalWarnConfirm, hs, hk, hw, hn, Sensor.warnData, b2n]
    · simp [exec, execThermalWarnClear, hs, hk, hw, hn, Sensor.warnData, b2n]
    · simp [exec, execThermalDamp, hs, hk, hd, hn]
    · have hx : s.dampEdge.sensor k =
          if (s.sensor k).damp && decide (40 ≤ (s.sensor k).dampDn) then { s.sensor k with damp := false, dampDn := 0 }
          else s.sensor k := by
        simp [State.dampEdge, hs, State.sensor, State.modThermal, List.getD_eq_getElem?_getD, hlen]
      rw [hx]
      by_cases hn : 40 ≤ (s.sensor k).dampDn
      · simp [hd, hn, Nat.not_lt.2 hn]
      · simp [hd, hn, Nat.lt_of_not_le hn]
    · simp [exec, execSensorLost, hs, hk, hl, hn]
    · simp [exec, execSensorRecover, hs, hk, hl, hn]
end Sys2Proof
end

section
/-! SUPPORT. Discrete inputs; proof of O57. -/
namespace Sys2Proof
open Machine
namespace Machine

/-! ## Steps that leave the discrete inputs alone and clear no doorbell (R131, R317, R501, R556) -/

/-- From `s` to `t` the discrete inputs stay, and every doorbell that was set is set. -/
def State.leavesInputs (s t : State) : Prop :=
  t.din = s.din ∧ ∀ w, s.mbx.dbStatus &&& w = w → t.mbx.dbStatus &&& w = w

theorem State.leavesInputs.refl (s : State) : s.leavesInputs s := ⟨rfl, fun _ h => h⟩

theorem State.leavesInputs.trans {s t u : State} (h : s.leavesInputs t) (h' : t.leavesInputs u) : s.leavesInputs u :=
  ⟨h'.1.trans h.1, fun w hw => h'.2 w (h.2 w hw)⟩

/-- A change of neither the inputs nor the mailboxes. -/
theorem State.leavesInputs.of_eq {s t : State} (hd : t.din = s.din) (hm : t.mbx = s.mbx) : s.leavesInputs t :=
  ⟨hd, fun _ h => hm ▸ h⟩

theorem State.leavesInputs.ite {s t u : State} {c : Prop} [Decidable c] (ht : s.leavesInputs t) (hu : s.leavesInputs u) :
    s.leavesInputs (if c then t else u) := by
  split
  · exact ht
  · exact hu

theorem State.leavesInputs.foldl {α : Type} {f : State → α → State} (hf : ∀ s a, State.leavesInputs s (f s a)) (l : List α)
    (s : State) : s.leavesInputs (l.foldl f s) := by
  induction l generalizing s with
  | nil => exact .refl s
  | cons a l ih => exact (hf s a).trans (ih _)

section
variable (s : State)

theorem State.doorbell_leavesInputs (b : Nat) : s.leavesInputs (s.doorbell b) := ⟨rfl, fun _ h => or_and_of_and_eq _ h⟩

theorem State.event_leavesInputs (type source data : Nat) : s.leavesInputs (s.event type source data) :=
  ⟨State.event_din .., fun _ h => State.record_keeps_doorbell (or_and_of_and_eq _ h) ..⟩

theorem State.modTrunk_leavesInputs (tr : Nat) (f : Trunk → Trunk) : s.leavesInputs (s.modTrunk tr f) := .of_eq rfl rfl

theorem State.trunkSt_leavesInputs (tr : Nat) (st : TrunkState) : s.leavesInputs (s.trunkSt tr st) :=
  (s.modTrunk_leavesInputs tr _).trans (.ite (.refl _) (State.event_leavesInputs ..))

theorem State.handOver_leavesInputs (tr : Nat) : s.leavesInputs (s.handOver tr) :=
  .ite (s.modTrunk_leavesInputs ..) (.refl s)

theorem State.trunkDown_leavesInputs (tr : Nat) (st : TrunkState) : s.leavesInputs (s.trunkDown tr st) :=
  ((s.handOver_leavesInputs tr).trans ((State.modTrunk_leavesInputs ..).trans (State.trunkSt_leavesInputs ..))).trans
    (.ite (.of_eq rfl rfl) (.refl _))

theorem State.trunkStart_leavesInputs (tr start : Nat) : s.leavesInputs (s.trunkStart tr start) :=
  .ite (s.trunkDown_leavesInputs ..) <| .ite (s.trunkDown_leavesInputs ..) <| .ite (s.trunkDown_leavesInputs ..) <|
    .ite (s.trunkDown_leavesInputs ..) ((s.trunkDown_leavesInputs ..).trans (State.modTrunk_leavesInputs ..))

/-- The bypass follows its policy at the trunks only. -/
theorem State.updateBypass_leavesInputs (start : Nat) : s.leavesInputs (s.updateBypass start) := by
  refine .ite (.refl s) (.ite ?_ ?_)
  · exact (State.leavesInputs.of_eq (s := s) rfl rfl).trans (State.leavesInputs.foldl (fun s tr =>
      (s.modTrunk_leavesInputs tr _).trans (State.trunkStart_leavesInputs ..)) _ _)
  · exact (State.leavesInputs.of_eq (s := s) rfl rfl).trans (State.leavesInputs.foldl (fun s tr =>
      (s.modTrunk_leavesInputs tr _).trans (State.trunkStart_leavesInputs ..)) _ _)

theorem State.firedInEntry_leavesInputs (e : Entry) (w : Wake) (privileged : Bool) :
    s.leavesInputs (s.firedInEntry e w privileged) := by
  have hdb (f : PowerSt → PowerSt) : s.leavesInputs ((s.doorbell 21).modPower f) :=
    (s.doorbell_leavesInputs 21).trans (.of_eq rfl rfl)
  exact .ite (.ite (.refl s) (hdb _)) (.ite (.refl s) (hdb _))

theorem State.firedAsleep_leavesInputs (w : Wake) : s.leavesInputs (s.firedAsleep w) :=
  have hdb (f : PowerSt → PowerSt) : s.leavesInputs ((s.modPower f).doorbell 21) :=
    (State.leavesInputs.of_eq (s := s) rfl rfl).trans (State.doorbell_leavesInputs ..)
  .ite (.refl s) (.ite ((hdb _).trans (.of_eq rfl rfl)) (hdb _))

/-- A wake that fires leaves the inputs, and rings its own doorbell only (R501). -/
theorem State.fireWake_leavesInputs (w : Wake) (privileged : Bool) : s.leavesInputs (s.fireWake w privileged) := by
  unfold State.fireWake
  split
  · split
    · exact .ite (s.firedInEntry_leavesInputs ..) (s.event_leavesInputs ..)
    · exact s.event_leavesInputs ..
  · exact s.firedAsleep_leavesInputs w
  · exact s.firedAsleep_leavesInputs w
  all_goals exact .refl s

end

theorem getLsbD_of_and_eq {a w : Word} {b : Nat} (h : a &&& w = w) (hb : w.getLsbD b = true) : a.getLsbD b = true := by
  rw [← h, BitVec.getLsbD_and, Bool.and_eq_true] at hb
  exact hb.1

theorem State.input_modInput {s : State} {k : Nat} (f : Din → Din) (hk : k < s.din.inputs.length) :
    (s.modInput k f).input k = f (s.input k) :=
  lmod_getD_self _ _ _ _ hk

/-- An agreed value that changes is kept, with doorbell 22 (R556); one that stays changes nothing. -/
theorem State.dinAgree_cases {s : State} {k : Nat} (v : Bool) (start : Nat) (hk : k < s.din.inputs.length) :
    (s.dinAgree k v start).input k = { s.input k with value := v } ∧
    ((s.input k).value ≠ v → (s.dinAgree k v start).mbx.dbStatus &&& w32 (2 ^ 22) = w32 (2 ^ 22)) := by
  by_cases hv : (s.input k).value = v
  · subst hv
    exact ⟨by simp [State.dinAgree], fun h => absurd rfl h⟩
  · have hx : ((s.modInput k (fun d => { d with value := v })).event 22 k (b2n v)).leavesInputs (s.dinAgree k v start) := by
      rw [State.dinAgree, if_neg (by simpa using hv)]
      exact (State.updateBypass_leavesInputs ..).trans (.ite (State.fireWake_leavesInputs ..) (.refl _))
    refine ⟨?_, fun _ => hx.2 _ (State.event_bit ..)⟩
    rw [State.input, hx.1, State.event_din]
    exact State.input_modInput _ hk

/-- One sample of an input keeps its levels; of an input of two channels without a discrepancy it counts a disagreement and
ends the count with an agreement (R555 to R557). -/
theorem Din.sample_cases (x : Din) (c : DinCfg) (k : Nat) (a b : Bool) (quiet : Nat) :
    (x.sample c k a b quiet).a = a ∧ (x.sample c k a b quiet).b = b ∧ (x.sample c k a b quiet).value = x.value ∧
    (c.dual k = true → x.fault = false → c.agree k a b = false → x.run < 65535 →
      (x.sample c k a b quiet).run = x.run + 1 ∧ (x.sample c k a b quiet).filt = 0) ∧
    (c.dual k = true → x.fault = false → c.agree k a b = true → (x.sample c k a b quiet).run = 0) := by
  have hcount (y : Din) (v : Bool) : (y.count v).a = y.a ∧ (y.count v).b = y.b ∧ (y.count v).value = y.value ∧
      (y.count v).run = y.run := by
    unfold Din.count
    split <;> exact ⟨rfl, rfl, rfl, rfl⟩
  have hany (h : c.dual k = true) : c.any k = true := by
    simp only [DinCfg.dual, Bool.and_eq_true] at h
    simp [DinCfg.any, h.1]
  refine ⟨?_, ?_, ?_, fun hd hf ha hr => ?_, fun hd hf ha => ?_⟩
  iterate 3
    unfold Din.sample
    dsimp only
    split_ifs <;> simp [hcount]
  · simp [Din.sample, hany hd, hf, ha, sat16, satTo_eq_min, Nat.min_eq_right hr]
  · simp [Din.sample, hany hd, hf, ha, hcount]

/-- With both channels enabled the levels are those at the balls (R555). -/
theorem DinCfg.levels_of_dual {c : DinCfg} {k : Nat} (h : c.dual k = true) (x y : Bool) :
    (bit c.enA k && x) = x ∧ (bit c.enB k && y) = y := by
  simp only [DinCfg.dual, Bool.and_eq_true] at h
  simp [h.1, h.2]

end Machine

/-- Settles O57 (R535, R537, R555 to R560). -/
theorem discreteInputCommandsComplete : Obligations.DiscreteInputCommandsComplete := by
  refine ⟨fun m s d => ⟨fun h h1 hfi h0 hp => ?_, fun h h1 => ?_⟩, fun a b s hs hlen => ?_, fun k s hs hk hlen =>
    ⟨fun hf hc hn => ?_, fun hd hf hn => ?_, fun hf hq hn => ?_⟩, fun a b s hb hlen => ?_⟩
  · refine congrArg _ ((State.mailbox_selects h).trans ?_)
    rw [cmdDinConfig, Reply.unless_of_false _ _ (by simp [dinOf, h1, hfi] at h0 ⊢; exact h0), Reply.unless_of_false _ _ hp]
    rfl
  · refine congrArg _ ((State.mailbox_selects h).trans ?_)
    rw [cmdDinStatus, Reply.unless_of_false _ _ h1]
    rfl
  · refine ⟨_, if_pos hs, rfl, fun k hk => ?_⟩
    rw [State.input, State.modDin_din, getD_map_zip_range _ _ _ hlen hk]
    obtain ⟨ha, hb, hv, hdis, hagr⟩ := Din.sample_cases (s.input k) s.din.cfg k (bit s.din.cfg.enA k && bit a k)
      (bit s.din.cfg.enB k && bit b k) s.faults.quiet.din
    refine ⟨ha, hb, hv, fun hd hf hx => hdis hd hf ?_, fun hd hf hx => hagr hd hf ?_⟩
    all_goals
      obtain ⟨hla, hlb⟩ := DinCfg.levels_of_dual hd (bit a k) (bit b k)
      rw [hla, hlb]
      exact hx
  · have hx : exec (.dinChange k) s =
        .next ((s.modInput k (fun d => { d with filt := 0 })).dinAgree k (s.input k).cand s.now) := by
      simp [exec, execDinChange, hs, hk, hf, hc, hn]
    have hk' : k < (s.modInput k (fun d => { d with filt := 0 })).din.inputs.length := by
      simpa [State.modInput, hlen] using hk
    obtain ⟨hin, hdb⟩ := State.dinAgree_cases (s.input k).cand s.now hk'
    rw [State.input_modInput _ (hlen ▸ hk)] at hin hdb
    refine ⟨_, hx, by rw [hin], ?_⟩
    exact getLsbD_of_and_eq (hdb hc.symm) (by decide)
  · simp only [exec, execDinDiscrepancy, hs, hk, hd, hf, hn, decide_true, Bool.and_self, Bool.not_false, if_true]
    rfl
  · have hx : exec (.dinDiscrepancyClear k) s = .next ((s.modInput k (fun d =>
        { d with fault := false, quiet := 0, quietNeed := 0, run := 0, filt := 0
                 recoveries := sat16 (d.recoveries + 1) })).dinAgree k (s.input k).cand s.now) := by
      simp [exec, execDinDiscrepancyClear, hs, hk, hf, hq, hn]
    have hk' (f : Din → Din) : k < (s.modInput k f).din.inputs.length := by
      simpa [State.modInput, hlen] using hk
    obtain ⟨hin, -⟩ := State.dinAgree_cases (s.input k).cand s.now (hk' _)
    rw [State.input_modInput _ (hlen ▸ hk)] at hin
    refine ⟨_, hx, ?_⟩
    rw [hin]
    exact ⟨rfl, rfl, satTo_eq_min ..⟩
  · refine ⟨s.modDin (fun d => { d with inputs := (List.zip (List.range 4) d.inputs).map (fun x =>
      x.2.hearthSample s.din.cfg x.1 (bit s.din.cfg.enA x.1 && bit a x.1) (bit s.din.cfg.enB x.1 && bit b x.1)) }),
      rfl, fun k hk => ?_, if_pos (by simpa using hb)⟩
    rw [State.input, State.modDin_din, getD_map_zip_range _ _ _ hlen hk]
    rfl
end Sys2Proof
end

section
/-! SUPPORT. Calibration slices and commands; proof of O58. -/
namespace Sys2Proof
open Machine
namespace Machine

/-! ## The reference slice (R563, R564) -/

theorem State.condition_any_self (s : State) (code unit : Nat) : (s.condition code unit true).present code = true := by
  simp [State.condition, State.present]

theorem State.condition_any_ne (s : State) {c code : Nat} (unit : Nat) (present : Bool) (h : c ≠ code) :
    (s.condition code unit present).present c = s.present c := by
  have hfilter (l : List (Nat × Nat)) : ((l.filter (fun x => x != (code, unit))).any fun x => x.1 == c) =
      l.any fun x => x.1 == c := by
    rw [List.any_filter]
    refine congrArg (fun f => l.any f) (funext fun x => ?_)
    by_cases hx : x.1 = c
    · have hne : x ≠ (code, unit) := fun he => h (hx ▸ congrArg Prod.fst he)
      simp [hx, hne]
    · simp [hx]
  cases present <;> simp [State.condition, State.present, hfilter, Ne.symm h]

theorem State.notice_present (s : State) (c code unit : Nat) : (s.notice code unit).present c = s.present c := by
  simp [State.present]

/-- What a measurement makes of a reference: the notice starts with the first slice out of limits and ends with the second
good one. -/
theorem State.refMeasured_out (s : State) (code : Nat) (ok bad : Bool) (good : Nat) :
    (s.refMeasured code ok bad good).2 =
      (!ok || (bad && decide (good = 0)), if ok ∧ bad = true ∧ good = 0 then 1 else 0) := by
  cases ok <;> cases bad <;> simp [State.refMeasured]
  cases good <;> simp

/-- A measurement changes the conditions, the notices and their doorbell only. -/
theorem State.refMeasured_frame (s : State) (code : Nat) (ok bad : Bool) (good : Nat) :
    (s.refMeasured code ok bad good).1 = { s with
      faults := (s.refMeasured code ok bad good).1.faults, mbx := (s.refMeasured code ok bad good).1.mbx } := by
  unfold State.refMeasured
  split
  · split
    · rfl
    · exact State.notice_frame ..
  · split <;> rfl

/-- A reference newly out of limits has its condition. -/
theorem State.refMeasured_present (s : State) (code good : Nat) :
    (s.refMeasured code false false good).1.present code = true :=
  (State.notice_present ..).trans (State.condition_any_self ..)

/-- A measurement leaves the conditions of other codes. -/
theorem State.refMeasured_present_ne (s : State) {c code : Nat} (ok bad : Bool) (good : Nat) (h : c ≠ code) :
    (s.refMeasured code ok bad good).1.present c = s.present c := by
  unfold State.refMeasured
  split
  · split
    · rfl
    · exact (State.notice_present ..).trans (State.condition_any_ne _ _ _ h)
  · split
    · exact State.condition_any_ne _ _ _ h
    · rfl

end Machine

/-- Settles O58 (R563 to R567, R569, R593; a reference is judged by the mean of its readings: log 87; the transmit side of a
trunk is sliced first: log 73). -/
theorem calibrationCommandsComplete : Obligations.CalibrationCommandsComplete := by
  refine ⟨fun m s d => ⟨fun h h1 hl => ?_, fun h h1 hu hd => ?_, fun h h1 h0 hne hu hs hl hw hj => ?_⟩,
    fun vref rset s hw hn hc => ?_, fun unit trims temp s hw hu hr hk hs hsv hnx => ?_, fun unit s hl hu hd hst hn => ?_⟩
  · refine congrArg _ ((State.mailbox_selects h).trans ?_)
    rw [cmdCalConfig, Reply.unless_of_false _ _ h1, Reply.unless_of_false _ _ (by exact decide_eq_false (Nat.not_lt.2 hl))]
    rfl
  · refine congrArg _ ((State.mailbox_selects h).trans ?_)
    rw [cmdCalStatus, Reply.unless_of_false _ _ (by simp [h1, hu]), Reply.unless_of_false _ _ (by simp [hd])]
    rfl
  · refine congrArg _ ((State.mailbox_selects h).trans ?_)
    have harg : ((d.commitWords m).isEmpty || (m.get 1 16 8 != 0 && !m.flag 1 31) || m.stray 1 0xC0FFFF0F) = false := by
      cases hf : m.flag 1 31 <;> simp [h1, hne, hf, h0]
    have hready : ((commitUnits m).any (fun u => (d.calUnit u).stale || !(d.calUnit u).ever || !d.domOn (domOfRoot u)) ||
        d.calSuspended || (m.flag 1 31 && d.thermal.sensors.any Sensor.lost)) = false := by
      have hunits : (commitUnits m).any (fun u => (d.calUnit u).stale || !(d.calUnit u).ever || !d.domOn (domOfRoot u)) =
          false := by
        refine List.any_eq_false.2 fun u hm => ?_
        obtain ⟨hst, hev, hd⟩ := hu u hm
        simp [hst, hev, hd]
      cases hf : m.flag 1 31
      · simp [hunits, hs]
      · simp [hunits, hs, (hl hf).1]
    have hstate : (m.flag 1 31 && !(d.life.state == .maker || d.life.state == .ret)) = false := by
      cases hf : m.flag 1 31
      · rfl
      · rcases (hl hf).2 with hmaker | hret
        · simp [hmaker]
        · simp [hret]
    rw [cmdCalCommit, Reply.unless_of_false _ _ harg, Reply.unless_of_false _ _ hready, Reply.unless_of_false _ _ hstate,
      Reply.unless_of_false _ _ hw, Reply.unless_of_false _ _ (State.keepBusy_of_idle hj)]
    rfl
  · have hx : (s.working && decide (s.now % 400 = 0) && !s.cal.served.contains 255) = true := by simp [hw, hn, hc]
    refine ⟨_, if_pos hx, ?_, ?_, fun hv hb => ?_, fun hv hb => ?_⟩
    · rw [State.refMeasured_frame, State.refMeasured_frame]
      rfl
    · rw [State.modCal_cal, State.refMeasured_out, State.refMeasured_out, State.refMeasured_frame, State.refMeasured_frame]
    · refine (State.refMeasured_present_ne _ _ _ _ (by decide)).trans ?_
      rw [hv, hb]
      exact State.refMeasured_present ..
    · rw [hv, hb]
      exact State.refMeasured_present ..
  · have hx (aborted : Bool) : exec (.calSlice unit aborted trims temp) s =
        if aborted then .next (s.modCal (fun c =>
          { c with served := unit :: c.served, last := c.last.set (calClass unit) unit }))
        else .next ((s.modCal (fun c =>
          { c with served := unit :: c.served, last := c.last.set (calClass unit) unit })).modCalUnit unit (fun c =>
          { c with next := some (trims, ofInt 8 (temp + 64))
                   txSide := c.txSide + b2n (calClass unit == 2 && s.txSlice unit) })) :=
      if_pos (by simp [hw, hu, hr, hk, hs, hsv, hnx])
    exact ⟨⟨_, hx false, rfl, State.calUnit_modCalUnit_self .., rfl, rfl⟩, hx true⟩
  · exact if_pos (by simp only [hl, hu, hd, hst, hn, decide_true, Bool.and_self, Bool.not_false])
end Sys2Proof
end

section
/-! SUPPORT. Self-test and skim; proof of O59. -/
namespace Sys2Proof
open Machine
namespace Machine

/-! ## The self-test through the work that a unit's rejoining leaves (R572, R573) -/

@[simp] theorem State.test_ite (c : Prop) [Decidable c] (s t : State) :
    (if c then s else t).test = if c then s.test else t.test := apply_ite ..

theorem State.foldl_test {α : Type} {f : State → α → State} (h : ∀ s a, (f s a).test = s.test) (l : List α)
    (s : State) : (l.foldl f s).test = s.test := by
  induction l generalizing s with
  | nil => rfl
  | cons a l ih => rw [List.foldl_cons, ih, h]

section
variable (s : State)

@[simp] theorem State.decideGroup_test (bg) : (s.decideGroup bg).test = s.test :=
  State.foldl_test (fun s c => s.modLine_test c _) _ _
@[simp] theorem State.decideStarts_test : s.decideStarts.test = s.test := State.foldl_test State.decideGroup_test _ _
@[simp] theorem State.tapsInvalid_test (ch) : (s.tapsInvalid ch).test = s.test := rfl
@[simp] theorem State.lineMode_test (ch mode slave) : (s.lineMode ch mode slave).test = s.test := by simp [State.lineMode]
@[simp] theorem State.lineSt_test (ch st) : (s.lineSt ch st).test = s.test := by simp [State.lineSt]
@[simp] theorem State.leaveSurvey_test (ch) : (s.leaveSurvey ch).test = s.test := by simp [State.leaveSurvey]
@[simp] theorem State.lineDown_test (ch st) : (s.lineDown ch st).test = s.test := by simp [State.lineDown]
@[simp] theorem State.lineTrain_test (ch mode slave start) (resume count) :
    (s.lineTrain ch mode slave start resume count).test = s.test := by
  simp [State.lineTrain]
@[simp] theorem State.lineStart_test (ch start resume) : (s.lineStart ch start resume).test = s.test := by
  simp [State.lineStart]
@[simp] theorem State.trunkEvent_test (tr) : (s.trunkEvent tr).test = s.test := by simp [State.trunkEvent]
@[simp] theorem State.trunkSt_test (tr st) : (s.trunkSt tr st).test = s.test := by simp [State.trunkSt]
@[simp] theorem State.handOver_test (tr) : (s.handOver tr).test = s.test := by simp [State.handOver]
@[simp] theorem State.trunkDown_test (tr st) : (s.trunkDown tr st).test = s.test := by simp [State.trunkDown]
@[simp] theorem State.trunkStart_test (tr start) : (s.trunkStart tr start).test = s.test := by simp [State.trunkStart]
@[simp] theorem State.modCalUnit_test (u f) : (s.modCalUnit u f).test = s.test := rfl
@[simp] theorem State.calFresh_test (u) : (s.calFresh u).test = s.test := by simp [State.calFresh]
@[simp] theorem State.calibrate_test (u) : (s.calibrate u).test = s.test := by simp [State.calibrate]
@[simp] theorem State.dropEvent_test (ds id cause) : (s.dropEvent ds id cause).test = s.test := by simp [State.dropEvent]
@[simp] theorem State.dropSt_test (ds st) : (s.dropSt ds st).test = s.test := by simp [State.dropSt]
@[simp] theorem State.dropUp_test (ds t) : (s.dropUp ds t).test = s.test := by simp [State.dropUp]
@[simp] theorem State.dropDown_test (ds st) : (s.dropDown ds st).test = s.test := by simp [State.dropDown]
@[simp] theorem State.dropStart_test (ds t) : (s.dropStart ds t).test = s.test := by simp [State.dropStart]
@[simp] theorem State.spoolAdvance_test : s.spoolAdvance.test = s.test := rfl
@[simp] theorem State.freeIf_test (id) : (s.freeIf id).test = s.test := by unfold State.freeIf; split <;> simp
@[simp] theorem State.unref_test (id) : (s.unref id).test = s.test := by unfold State.unref; split <;> simp
@[simp] theorem State.modRoot_test (r f) : (s.modRoot r f).test = s.test := rfl
@[simp] theorem State.dropSending_test (root) : (s.dropSending root).test = s.test :=
  State.foldl_test (fun s _ => s.unref_test _) _ _
@[simp] theorem State.hostSt_test (g st) : (s.hostSt g st).test = s.test := by simp [State.hostSt]
@[simp] theorem State.hostDown_test (g st) : (s.hostDown g st).test = s.test := by simp [State.hostDown]
@[simp] theorem State.hostStart_test (g start) : (s.hostStart g start).test = s.test := by simp [State.hostStart]
@[simp] theorem State.rejoinUnit_test (u) : (s.rejoinUnit u).test = s.test := by simp [State.rejoinUnit]

end

/-- The end of a unit's test keeps its result and takes it out of its group (R573). -/
theorem State.testEnd_test (s : State) (u check : Nat) :
    (s.testEnd u check).test.results = tset s.test.results u ⟨if check = 0 then 1 else 2, check, s.now⟩ ∧
    (s.testEnd u check).test.active = s.test.active.filter (fun x => x != u) := by
  obtain ⟨t, ht, hx⟩ : ∃ t : State, t.test = { s.test with
      active := s.test.active.filter (fun x => x != u)
      results := tset s.test.results u ⟨if check = 0 then 1 else 2, check, s.now⟩ } ∧
      s.testEnd u check = if t.test.active.isEmpty then t.modTest (fun x =>
        { x with done := x.done + 1, start := t.now + b2n (check != 0), state := if x.groups.isEmpty then 2 else 1 })
      else t := by
    refine ⟨_, ?_, rfl⟩
    rw [State.test_ite, State.notice_test, ite_self, State.rejoinUnit_test]
    rfl
  rw [hx]
  split <;> simp [ht]

/-! ## The end of a skim (R578, R579) -/

/-- A notice clears no doorbell. -/
theorem State.notice_keeps_doorbell {s : State} {w : Word} (h : s.mbx.dbStatus &&& w = w) (code unit : Nat) :
    (s.notice code unit).mbx.dbStatus &&& w = w := by
  have hlater (t : State) (ht : t.mbx.dbStatus &&& w = w) (type source data : Nat) :
      (t.recordLater type source data).mbx.dbStatus &&& w = w := by
    unfold State.recordLater
    split
    · exact State.record_keeps_doorbell ht ..
    · exact ht
  unfold State.notice
  dsimp only
  split
  · exact h
  · split
    · exact h
    · exact hlater _ (or_and_of_and_eq _ h) ..

/-- A skim that ends sets doorbell 17. -/
theorem State.skimEnd_bit (s : State) (u result check : Nat) :
    (s.skimEnd u result check).mbx.dbStatus &&& w32 (2 ^ 17) = w32 (2 ^ 17) := by
  unfold State.skimEnd
  dsimp only
  split
  · exact State.notice_keeps_doorbell (State.event_bit ..) ..
  · exact State.event_bit ..

/-- The skim of a unit once it has ended (R579). -/
def SkimUnit.ended (k : SkimUnit) (now period result check : Nat) : SkimUnit :=
  { k with slices := none, ran := none, bad := 0, result := result, check := check, tick := now
           due := k.next, next := k.next + 4000 * period
           tkPasses := k.tkPasses + (if result = 1 then 1 else 0)
           tkFails := k.tkFails + (if result = 2 then 1 else 0)
           tkOverdues := k.tkOverdues + (if result = 3 then 1 else 0) }

/-- A skim that ends changes its own unit's skim. -/
theorem State.skimEnd_skim (s : State) (u result check : Nat) : (s.skimEnd u result check).skim =
    (s.modSkimUnit u (fun k => k.ended s.now s.skim.period result check)).skim := by
  unfold State.skimEnd
  rw [apply_ite State.skim, State.notice_skim, ite_self, State.event_skim]
  rfl

theorem State.skimEnd_unit (s : State) (u result check : Nat) :
    (s.skimEnd u result check).skimUnit u = (s.skimUnit u).ended s.now s.skim.period result check := by
  rw [State.skimUnit, State.skimEnd_skim]
  exact State.skimUnit_modSkimUnit_self ..

theorem dbStatus_seventeen {t : State} (h : t.mbx.dbStatus &&& w32 (2 ^ 17) = w32 (2 ^ 17)) :
    t.mbx.dbStatus.getLsbD 17 = true :=
  getLsbD_of_and_eq h (by decide)

end Machine

/-- Settles O59 (R571 to R580; a failed check may end a unit's test before its time: log 74; the first failed check of a skim
is kept: log 75; a slice counts at the edge after its tick: log 26). -/
theorem selfTestAndSkimComplete : Obligations.SelfTestAndSkimComplete := by
  refine ⟨fun m s d => ⟨fun h h1 h0 ho ht hp => ?_, fun h h1 hu => ?_, fun h h1 h0 hn hn4 hk => ?_, fun h h1 hu => ?_⟩,
    fun g rest s hl hst ha hg hn => ?_, fun unit check s hl hst ha => ⟨fun h0 hn => ?_, fun hf h0 => ?_⟩,
    fun unit check s ha hd hg hc hr hk ht hn => ⟨?_, ?_⟩, fun unit check n s hr hsl => ⟨fun hn => ?_, fun hn => ?_⟩,
    fun unit s ha hd hn => ?_⟩
  · refine congrArg _ ((State.mailbox_selects h).trans ?_)
    rw [cmdSelftestRun, Reply.unless_of_false _ _ (by simp [h0, h1]), Reply.unless_of_false _ _ (by simp [ho]),
      Reply.unless_of_false _ _ (by simp [ht, hp])]
    rfl
  · refine congrArg _ ((State.mailbox_selects h).trans ?_)
    rw [cmdSelftestResult, Reply.unless_of_false _ _ (by rcases hu with hu | hu <;> simp [hu, h1])]
    rfl
  · refine congrArg _ ((State.mailbox_selects h).trans ?_)
    rw [cmdSkimConfig, Reply.unless_of_false _ _ (by simp [h0, h1, Nat.ne_of_gt hn]),
      Reply.unless_of_false _ _ (by simp [hn4]), Reply.unless_of_false _ _ (and_not_eq_false hk)]
    rfl
  · refine congrArg _ ((State.mailbox_selects h).trans ?_)
    rw [cmdSkimStatus, Reply.unless_of_false _ _ (by simp [h1, hu])]
    rfl
  · simp [exec, execSelftestGroupStart, hg, hl, hst, ha, hn]
  · subst h0
    obtain ⟨hres, hact⟩ := s.testEnd_test unit 0
    refine ⟨by simp [exec, execSelftestUnitEnd, hl, hst, ha, hn], ?_, ?_⟩
    · rw [hres]
      exact tfind_tset_self ..
    · simp [hact]
  · refine ⟨by simp [exec, execSelftestUnitEnd, hl, hst, ha, hf, h0], ?_⟩
    rw [(s.testEnd_test unit check).1, if_neg h0]
    exact tfind_tset_self ..
  · exact if_pos (by simp [ha, hd, hg, hc, hr, hk, ht, hn])
  · exact if_pos (by simp [ha, hd, hg, hc, hr, hk, ht, hn])
  · simp [State.skimEdgeUnit, hr, hsl, hn, SkimUnit.worst]
  · have hx : s.skimEdgeUnit unit = s.skimEnd unit (if (s.skimUnit unit).worst check = 0 then 1 else 2)
        ((s.skimUnit unit).worst check) := by
      simp [State.skimEdgeUnit, hr, hsl, Nat.not_lt.2 hn]
    exact ⟨hx, by rw [State.skimEnd_unit]; rfl, dbStatus_seventeen (State.skimEnd_bit ..)⟩
  · rw [State.skimEnd_unit]
    exact ⟨if_pos (by simp [ha, hd, hn]), rfl, rfl, dbStatus_seventeen (State.skimEnd_bit ..)⟩
end Sys2Proof
end
